-- ==== Sys2Proof/Word.lean ====
section
/-!
DEFINITION. Word.lean: the plainest types of the model (bytes, 64-bit words, 48-bit beats, sparse tables) and
nothing that a later repair could need to mend.
-/

namespace Sys2Proof

/-- A byte, as messages, records and granules carry it (R8). -/
abbrev Byte := BitVec 8

/-- A 64-bit register or Waggle word (R23, R8). -/
abbrev Word := BitVec 64

/-- A sparse table by unit number: strictly rising keys, no entry equal to what an unlisted key reads as
(the unit's reset record). The operations stand in Machine/Ops.lean. -/
abbrev Tbl (α : Type) := List (Nat × α)

/-- Beats of one TU multiframe, VCAT multiframe, flight, radio frame and second (R40). -/
def tuBeats : Nat := 4
def vcatBeats : Nat := 16
def flightBeats : Nat := 8
def radioBeats : Nat := 80
def secondBeats : Nat := 8000

end Sys2Proof
end

