-- ==== Sys2Proof/Syntax.lean ====
section
/-!
DEFINITION. Syntax.lean: the commands of the block. One constructor of `Instr` per row of spec/opcode_table.json.
A Waggle command carries its header (`Hdr`) and its parameters by the names of its table in spec/; every other
step carries the unit it happens in and what the unit observed.
Numbers are the unsigned values of the fields as sent, signed fields are Int; WellFormed.lean holds the widths.
-/

namespace Sys2Proof

/-- The header of a Waggle command as the Keeper takes it (R403): host port (0 = A, 1 = B), command queue,
sequence, tag, whether it was stored during an outage (R408), and the time of its last word in the beat, in µs (R61). -/
structure Hdr where
  port : Nat
  queue : Nat
  seq : Nat
  tag : Nat
  late : Bool := false
  us : Nat := 0
  deriving DecidableEq, Repr

/-! ### Parameters of the sys service (13 R422, 02 Batch commands, 15 Status command) -/

structure HelloArgs where
  major : Nat
  minor : Nat
  deriving DecidableEq, Repr

structure SessionArgs where
  op : Nat
  domains : Nat
  deriving DecidableEq, Repr

structure BatchCloseArgs where
  batchId : Nat
  mode : Nat
  target : Nat
  deriving DecidableEq, Repr

/-! ### lane service (03) -/

structure LaneArgs where
  lane : Nat
  enable : Nat
  mode : Nat
  align : Nat
  polarity : Nat
  scramble : Nat
  loopback : Nat
  losThr : Nat
  dfeAdapt : Nat
  deriving DecidableEq, Repr

structure LaneCalArgs where
  lane : Nat
  op : Nat
  group : Nat
  swing : Int
  pre : Int
  post : Int
  ctle : Int
  deriving DecidableEq, Repr

structure LanePrbsArgs where
  lane : Nat
  gen : Nat
  chk : Nat
  invert : Nat
  action : Nat
  deriving DecidableEq, Repr

/-! ### sdh service (04) -/

structure SdhPortArgs where
  lane : Nat
  enable : Nat
  oofCount : Nat
  txPhase : Nat
  j0Mode : Nat
  flags : Nat
  s1Mode : Nat
  s1Value : Nat
  degM : Nat
  excK : Nat
  degThr : Nat
  sdK : Nat
  txJ0 : List Byte
  expJ0 : List Byte
  deriving DecidableEq, Repr

structure SdhPathArgs where
  lane : Nat
  g : Nat
  type : Nat
  mode : Nat
  j1Mode : Nat
  expC2 : Nat
  txC2 : Nat
  degM : Nat
  excK : Nat
  degThr : Nat
  sdK : Nat
  flags : Nat
  expJ1 : List Byte
  txJ1 : List Byte
  deriving DecidableEq, Repr

structure SdhOhArgs where
  lane : Nat
  capture : Nat
  insert : Nat
  idleDcc : Nat
  idleOw : Nat
  port : Nat
  deriving DecidableEq, Repr

/-! ### cpri service (05) -/

structure CpriPortArgs where
  lane : Nat
  enable : Nat
  role : Nat
  transport : Nat
  sdiMode : Nat
  flags : Nat
  cmRate : Nat
  txOffset : Nat
  ethPtr : Nat
  txSeed : Nat
  deriving DecidableEq, Repr

structure CpriAxcArgs where
  lane : Nat
  axc : Nat
  dir : Nat
  op : Nat
  enable : Nat
  startBit : Nat
  nBits : Nat
  cellBase : Nat
  deriving DecidableEq, Repr

structure CpriCmArgs where
  lane : Nat
  capture : Nat
  insert : Nat
  idleSlow : Nat
  idleFast : Nat
  port : Nat
  deriving DecidableEq, Repr

/-! ### comb service (06) -/

structure ConnEntry where
  dstPort : Nat
  dstG : Nat
  width : Nat
  srcPort : Nat
  srcG : Nat
  check : Nat
  deriving DecidableEq, Repr

structure BroodEntry where
  dstB : Nat
  srcB : Nat
  dstX : Nat
  srcX : Nat
  cells : Nat
  deriving DecidableEq, Repr

structure TuEntry where
  dstB : Nat
  dstG : Nat
  dstTu : Nat
  srcB : Nat
  srcG : Nat
  srcTu : Nat
  type : Nat
  struct : Nat
  deriving DecidableEq, Repr

structure CombReadArgs where
  tier : Nat
  port : Nat
  start : Nat
  count : Nat
  deriving DecidableEq, Repr

structure CombTestArgs where
  port : Nat
  stream : Nat
  op : Nat
  firstG : Nat
  width : Nat
  mode : Nat
  pattern : Nat
  deriving DecidableEq, Repr

structure CombTapArgs where
  op : Nat
  mask : Nat
  beats : Nat
  bar2 : Nat
  startBeat : Nat
  deriving DecidableEq, Repr

/-! ### nurse service (07) -/

structure NurseVcArgs where
  b : Nat
  g : Nat
  enable : Nat
  struct : Nat
  mode : Nat
  width : Nat
  tug3 : Nat
  txC2 : Nat
  tug2 : Nat
  deriving DecidableEq, Repr

structure NurseTuArgs where
  b : Nat
  g : Nat
  tu : Nat
  mode : Nat
  j2Mode : Nat
  expLabel : Nat
  txLabel : Nat
  flags : Nat
  degM : Nat
  excK : Nat
  degThr : Nat
  sdK : Nat
  expExt : Nat
  txExt : Nat
  expJ2 : List Byte
  txJ2 : List Byte
  deriving DecidableEq, Repr

structure AxvEntry where
  nBits : Nat
  x : Nat
  deriving DecidableEq, Repr

structure NurseAxvArgs where
  b : Nat
  dir : Nat
  g0 : Nat
  members : Nat
  type : Nat
  nAxc : Nat
  enable : Nat
  txC2 : Nat
  playOut : Nat
  axcs : List AxvEntry
  deriving DecidableEq, Repr

structure NurseStatusArgs where
  b : Nat
  g : Nat
  tu : Nat
  axc : Nat
  clear : Nat
  deriving DecidableEq, Repr

/-! ### pool service (08) -/

structure PoolDelayArgs where
  s0 : Nat
  width : Nat
  enable : Nat
  channel : Nat
  op : Nat
  delay : Nat
  deriving DecidableEq, Repr

structure PoolGroupArgs where
  s0 : Nat
  x : Nat
  type : Nat
  enable : Nat
  channel : Nat
  op : Nat
  maxDiff : Nat
  sqCheck : Nat
  deriving DecidableEq, Repr

structure PoolTwinArgs where
  sA : Nat
  sB : Nat
  width : Nat
  enable : Nat
  channel : Nat
  op : Nat
  maxDiff : Nat
  preferred : Nat
  flags : Nat
  deriving DecidableEq, Repr

/-! ### prot service (09) -/

/-- The 24 member bytes of prot.group, kind by kind. -/
inductive Members where
  | lines (work prot : Nat)
  | sncpHo (dstPort dstG width wPort wG pPort pG : Nat)
  | sncpLo (dstB dstG dstTu type wB wG wTu pB pG pTu struct : Nat)
  | cpri (work prot skewHold : Nat)
  deriving DecidableEq, Repr

structure ProtGroupArgs where
  group : Nat
  kind : Nat
  enable : Nat
  flags : Nat
  holdoff : Nat
  wtr : Nat
  members : Members
  deriving DecidableEq, Repr

/-! ### pm service (10) -/

/-- A monitored entity: type, g, unit, tu (R299). -/
structure Entity where
  type : Nat
  g : Nat
  unit : Nat
  tu : Nat
  deriving DecidableEq, Repr

structure PmConfigArgs where
  dayStart : Nat
  port : Nat
  auto : Nat
  deriving DecidableEq, Repr

structure PmMonitorArgs where
  ent : Entity
  enable : Nat
  bidir : Nat
  profile : Nat
  deriving DecidableEq, Repr

structure PmBulkArgs where
  types : Nat
  bins : Nat
  depth : Nat
  port : Nat
  deriving DecidableEq, Repr

/-! ### scout service (11) -/

structure ScoutInputArgs where
  input : Nat
  enable : Nat
  priority : Nat
  qlSource : Nat
  ql : Nat
  wtr : Nat
  qualTime : Nat
  flags : Nat
  nominal : Nat
  softLimit : Nat
  hardLimit : Nat
  driftLimit : Nat
  ppsWindow : Nat
  ppsComp : Int
  deriving DecidableEq, Repr

structure ScoutSelectArgs where
  mode : Nat
  input : Nat
  qlOption : Nat
  flags : Nat
  holdoverQl : Nat
  freerunQl : Nat
  phaseMode : Nat
  deriving DecidableEq, Repr

structure ScoutDpllArgs where
  bwFinal : Nat
  slew : Nat
  learn : Nat
  leadBack : Nat
  steerTimeout : Nat
  xoFreq : Nat
  agingErr : Nat
  tempRes : Nat
  baseErr : Nat
  boundLimit : Nat
  deriving DecidableEq, Repr

structure ScoutTodArgs where
  op : Nat
  bfnMode : Nat
  bfnOffset : Nat
  atBeat : Nat
  todSec : Nat
  deriving DecidableEq, Repr

structure ScoutSteerArgs where
  op : Nat
  count : Nat
  word : Int
  deriving DecidableEq, Repr

structure ScoutOutputArgs where
  output : Nat
  enable : Nat
  freq : Nat
  domain : Nat
  squelch : Nat
  squelchQl : Nat
  offset : Int
  width : Nat
  deriving DecidableEq, Repr

structure ScoutModelArgs where
  op : Nat
  firstBin : Nat
  count : Nat
  deriving DecidableEq, Repr

/-! ### hive (12), power (18), test and tally (16), sec (17) services -/

structure HiveConfigArgs where
  bbWindow : Nat
  flags : Nat
  bbLanes : Nat
  deriving DecidableEq, Repr

structure PowerConfigArgs where
  leanMax : Nat
  exitHold : Nat
  wakeHold : Nat
  flags : Nat
  powerLimit : Nat
  deriving DecidableEq, Repr

/-- One user power table entry (R549). -/
structure PowerEntry where
  addr : Nat
  rail : Nat
  page : Nat
  role : Nat
  delay : Nat
  uvRaise : Nat
  ovLower : Nat
  deriving DecidableEq, Repr

structure PowerTableArgs where
  op : Nat
  slot : Nat
  entry : PowerEntry
  deriving DecidableEq, Repr

structure TestBistArgs where
  op : Nat
  kind : Nat
  index : Nat
  cycleHours : Nat
  sramInterval : Nat
  deriving DecidableEq, Repr

structure TestStingArgs where
  point : Nat
  mode : Nat
  unit : Nat
  g : Nat
  tu : Nat
  sub : Nat
  count : Nat
  deriving DecidableEq, Repr

structure SecWorldArgs where
  op : Nat
  kind : Nat
  index : Nat
  world : Nat
  clearOnWake : Nat
  channel : Nat
  base : Nat
  size : Nat
  deriving DecidableEq, Repr

/-- A life-cycle token (R527). -/
structure Token where
  magic : Nat
  target : Nat
  toggle : Nat
  deviceId : Nat
  signature : Nat
  deriving DecidableEq, Repr

/-! ### What units observe -/

/-- What an error-rate detector belongs to: a multiplex section, a high-order path, a tributary (R130, R131, R212). -/
inductive DetUnit where
  | ms (lane : Nat)
  | hp (lane g : Nat)
  | lp (b g tu : Nat)
  deriving DecidableEq, Repr

/-- A PRBS checker: of a lane (R91) or of a Comb service stream (R194). -/
inductive PrbsUnit where
  | lane (n : Nat)
  | comb (port stream : Nat)
  deriving DecidableEq, Repr

/-- Half of a 64-bit access (R12, R390): all of it, the lower or the upper 32 bits. -/
inductive Half where
  | whole | lo | hi
  deriving DecidableEq, Repr

/-- What a pool entry is set to (R229), its channel resolved. -/
inductive PoolCfg where
  | delay (a : PoolDelayArgs)
  | group (a : PoolGroupArgs)
  | twin (a : PoolTwinArgs)
  deriving DecidableEq, Repr

/-- One class C write of a ticket (R13, R58): the field group it sets. A Super slot is 192·p + g, a Brood cell
16,704·b + x (R170, R177). -/
inductive Change where
  | lane (n enable loopback : Nat)
  | laneCal (n group : Nat) (swing pre post ctle : Int)
  | sdhPort (a : SdhPortArgs)
  | sdhPath (a : SdhPathArgs)
  | cpriPort (a : CpriPortArgs)
  | axc (a : CpriAxcArgs)
  | super (dst : Nat) (src : Option Nat)
  | brood (dst : Nat) (src : Option Nat) (axcKind : Bool)
  | nurseVc (a : NurseVcArgs)
  | nurseC2 (b g c2 : Nat)
  | nurseTu (a : NurseTuArgs)
  | axv (a : NurseAxvArgs)
  | pool (c : PoolCfg)
  | prot (a : ProtGroupArgs)
  | pmDay (dayStart : Nat)
  | pmMonitor (a : PmMonitorArgs)
  | pmProfile (i : Nat) (thr : List Nat)
  | bfn (offset : Nat)
  deriving DecidableEq, Repr

/-- One write that takes effect at once and that the mirror carries (R363, type 3): class L fields, the class F fields of a
disabled lane, and class C fields of a disabled block (R56). -/
inductive Live where
  | now (c : Change)
  | laneF (n mode align polarity scramble : Nat)
  | lane (n losThr dfeAdapt : Nat)
  | prbs (a : LanePrbsArgs)
  | trim (n : Nat) (t : Int)
  | sdhOh (a : SdhOhArgs)
  | cpriFlags (n flags : Nat)
  | cpriCm (a : CpriCmArgs)
  | scoutInput (a : ScoutInputArgs)
  | scoutSelect (a : ScoutSelectArgs)
  | scoutDpll (a : ScoutDpllArgs)
  | scoutOutput (a : ScoutOutputArgs)
  | hiveConfig (a : HiveConfigArgs)
  | powerConfig (a : PowerConfigArgs)
  | pmPort (port auto : Nat)
  | stream (a : CombTestArgs)
  deriving DecidableEq, Repr

/-- One mirror record (R363). -/
inductive MirrorRec where
  | fill
  | shadow (ticket : Nat) (cs : List Change)
  | close (ticket bclass target : Nat)
  | live (ls : List Live)
  | prot (group request : Nat) (selected : Bool) (holdW holdP wtr : Nat)
  | scout (word phi : Int) (base : Option (Int × Int × Nat)) (aging : Int) (agingOk : Bool) (onsets : List (Nat × Nat))
  | bins (first : Nat) (values : List (Int × Nat))
  | fault (code unit cls beat : Nat)
  | chunk (cs : List Change) (ls : List Live)
  | snapEnd
  deriving DecidableEq, Repr

/-- What the device finds at a ring's current descriptor (R417-R420): its address and length, whether a PCIe error
met it, and, on a ring the device reads, the records that the host's buffer holds. -/
structure DescView where
  addr : Nat
  bufLen : Nat
  pcieError : Bool := false
  recs : List (List Byte) := []
  deriving DecidableEq, Repr

/-- What one run of a logic and memory test shows: the signature in the 64-bit MISR, and whether every march test passed (R499). -/
structure TestRun where
  signature : Nat
  march : Bool
  deriving DecidableEq, Repr

/-- The commands of the block: one constructor per row of spec/opcode_table.json, in its order. -/
inductive Instr where
  /-- SYS_HELLO (R422). -/
  | sysHello (h : Hdr) (a : HelloArgs)
  /-- SYS_SESSION (R410). -/
  | sysSession (h : Hdr) (a : SessionArgs)
  /-- SYS_MODE (R542). -/
  | sysMode (h : Hdr) (mode : Nat)
  /-- SYS_BATCH_OPEN (R58). -/
  | sysBatchOpen (h : Hdr)
  /-- SYS_BATCH_CLOSE (R63). -/
  | sysBatchClose (h : Hdr) (a : BatchCloseArgs)
  /-- SYS_BEAT_STATUS (R53). -/
  | sysBeatStatus (h : Hdr)
  /-- SYS_BUS_STATUS (R474). -/
  | sysBusStatus (h : Hdr) (clear : Nat)
  /-- LANE_CONFIG (R69). -/
  | laneConfig (h : Hdr) (a : LaneArgs)
  /-- LANE_STATUS (R88). -/
  | laneStatus (h : Hdr) (lane clear : Nat)
  /-- LANE_CAL (R82). -/
  | laneCal (h : Hdr) (a : LaneCalArgs)
  /-- LANE_PRBS (R91). -/
  | lanePrbs (h : Hdr) (a : LanePrbsArgs)
  /-- LANE_SLIP (R77). -/
  | laneSlip (h : Hdr) (lane : Nat)
  /-- LANE_TRIM (R94). -/
  | laneTrim (h : Hdr) (lane : Nat) (trim : Int)
  /-- SDH_PORT (R136). -/
  | sdhPort (h : Hdr) (a : SdhPortArgs)
  /-- SDH_PATH (R136). -/
  | sdhPath (h : Hdr) (a : SdhPathArgs)
  /-- SDH_OH (R124). -/
  | sdhOh (h : Hdr) (a : SdhOhArgs)
  /-- SDH_STATUS (R128). -/
  | sdhStatus (h : Hdr) (lane g clear : Nat)
  /-- SDH_TRACE (R111). -/
  | sdhTrace (h : Hdr) (lane g : Nat)
  /-- CPRI_PORT (R138). -/
  | cpriPort (h : Hdr) (a : CpriPortArgs)
  /-- CPRI_AXC (R160). -/
  | cpriAxc (h : Hdr) (a : CpriAxcArgs)
  /-- CPRI_CM (R150). -/
  | cpriCm (h : Hdr) (a : CpriCmArgs)
  /-- CPRI_L1 (R144). -/
  | cpriL1 (h : Hdr) (lane action : Nat)
  /-- CPRI_STATUS (R146). -/
  | cpriStatus (h : Hdr) (lane clear : Nat)
  /-- COMB_CONNECT (R185). -/
  | combConnect (h : Hdr) (op : Nat) (es : List ConnEntry)
  /-- COMB_BROOD (R183). -/
  | combBrood (h : Hdr) (op kind : Nat) (es : List BroodEntry)
  /-- COMB_TU (R180). -/
  | combTu (h : Hdr) (op : Nat) (es : List TuEntry)
  /-- COMB_READ (R181). -/
  | combRead (h : Hdr) (a : CombReadArgs)
  /-- COMB_TEST (R194). -/
  | combTest (h : Hdr) (a : CombTestArgs)
  /-- COMB_TAP (R195). -/
  | combTap (h : Hdr) (a : CombTapArgs)
  /-- COMB_STATUS (R174). -/
  | combStatus (h : Hdr) (port clear : Nat)
  /-- NURSE_VC (R197). -/
  | nurseVc (h : Hdr) (a : NurseVcArgs)
  /-- NURSE_TU (R208). -/
  | nurseTu (h : Hdr) (a : NurseTuArgs)
  /-- NURSE_AXCVCAT (R215). -/
  | nurseAxcvcat (h : Hdr) (a : NurseAxvArgs)
  /-- NURSE_STATUS (R211). -/
  | nurseStatus (h : Hdr) (a : NurseStatusArgs)
  /-- POOL_DELAY (R251). -/
  | poolDelay (h : Hdr) (a : PoolDelayArgs)
  /-- POOL_GROUP (R243). -/
  | poolGroup (h : Hdr) (a : PoolGroupArgs)
  /-- POOL_TWIN (R247). -/
  | poolTwin (h : Hdr) (a : PoolTwinArgs)
  /-- POOL_CHANNEL (R254). -/
  | poolChannel (h : Hdr) (channel op : Nat)
  /-- POOL_STATUS (R249). -/
  | poolStatus (h : Hdr) (slot member clear : Nat)
  /-- PROT_GROUP (R258). -/
  | protGroup (h : Hdr) (a : ProtGroupArgs)
  /-- PROT_COMMAND (R265). -/
  | protCommand (h : Hdr) (group command : Nat)
  /-- PROT_STATUS (R262). -/
  | protStatus (h : Hdr) (group clear : Nat)
  /-- PM_CONFIG (R297). -/
  | pmConfig (h : Hdr) (a : PmConfigArgs)
  /-- PM_MONITOR (R286). -/
  | pmMonitor (h : Hdr) (a : PmMonitorArgs)
  /-- PM_PROFILE (R300). -/
  | pmProfile (h : Hdr) (profile : Nat) (thr : List Nat)
  /-- PM_READ (R299). -/
  | pmRead (h : Hdr) (ent : Entity) (bin : Nat)
  /-- PM_BULK (R302). -/
  | pmBulk (h : Hdr) (a : PmBulkArgs)
  /-- SCOUT_INPUT (R315). -/
  | scoutInput (h : Hdr) (a : ScoutInputArgs)
  /-- SCOUT_SELECT (R320). -/
  | scoutSelect (h : Hdr) (a : ScoutSelectArgs)
  /-- SCOUT_DPLL (R323). -/
  | scoutDpll (h : Hdr) (a : ScoutDpllArgs)
  /-- SCOUT_START (R339). -/
  | scoutStart (h : Hdr)
  /-- SCOUT_TOD (R340). -/
  | scoutTod (h : Hdr) (a : ScoutTodArgs)
  /-- SCOUT_STEER (R330). -/
  | scoutSteer (h : Hdr) (a : ScoutSteerArgs)
  /-- SCOUT_OUTPUT (R342). -/
  | scoutOutput (h : Hdr) (a : ScoutOutputArgs)
  /-- SCOUT_MODEL (R338). -/
  | scoutModel (h : Hdr) (a : ScoutModelArgs)
  /-- SCOUT_STATUS (R322). -/
  | scoutStatus (h : Hdr)
  /-- SCOUT_INPUT_STATUS (R315). -/
  | scoutInputStatus (h : Hdr) (input clear : Nat)
  /-- HIVE_CONFIG (R358). -/
  | hiveConfig (h : Hdr) (a : HiveConfigArgs)
  /-- HIVE_JOIN (R375). -/
  | hiveJoin (h : Hdr) (op : Nat)
  /-- HIVE_SWITCH (R372). -/
  | hiveSwitch (h : Hdr) (op atBeat : Nat)
  /-- HIVE_STATUS (R366). -/
  | hiveStatus (h : Hdr)
  /-- POWER_CONFIG (R550). -/
  | powerConfig (h : Hdr) (a : PowerConfigArgs)
  /-- POWER_TABLE (R549). -/
  | powerTable (h : Hdr) (a : PowerTableArgs)
  /-- POWER_STATUS (R560). -/
  | powerStatus (h : Hdr) (rail clear : Nat)
  /-- TEST_BIST (R491). -/
  | testBist (h : Hdr) (a : TestBistArgs)
  /-- TEST_STING (R505). -/
  | testSting (h : Hdr) (a : TestStingArgs)
  /-- TEST_TRACER (R513). -/
  | testTracer (h : Hdr) (k port : Nat)
  /-- TALLY_READ (R508). -/
  | tallyRead (h : Hdr) (first count snap : Nat)
  /-- SEC_STATUS (R525). -/
  | secStatus (h : Hdr)
  /-- SEC_CHALLENGE (R522). -/
  | secChallenge (h : Hdr)
  /-- SEC_PROVE (R524). -/
  | secProve (h : Hdr) (op key signature : Nat)
  /-- SEC_WORLD (R520). -/
  | secWorld (h : Hdr) (a : SecWorldArgs)
  /-- SEC_LIFECYCLE (R526). -/
  | secLifecycle (h : Hdr) (op : Nat) (token : Token)
  /-- SEC_UPDATE (R536). -/
  | secUpdate (h : Hdr) (op offset : Nat)
  /-- WG_CMD_START (R590). -/
  | wgCmdStart (port q : Nat) (half : Half) (data : Word)
  /-- WG_CMD_PUSH (R390). -/
  | wgCmdPush (port q : Nat) (half : Half) (data : Word)
  /-- WG_RSP_POP (R399). -/
  | wgRspPop (port r : Nat) (half : Half)
  /-- WG_NTF_POP (R399). -/
  | wgNtfPop (port : Nat) (half : Half)
  /-- CMD_QUEUE_FLUSH (R400). -/
  | cmdQueueFlush (port q : Nat)
  /-- RSP_QUEUE_FLUSH (R400). -/
  | rspQueueFlush (port r : Nat)
  /-- NTF_QUEUE_FLUSH (R400). -/
  | ntfQueueFlush (port : Nat)
  /-- FLUSH_DONE (R400). -/
  | flushDone (port queue : Nat)
  /-- COMMAND_SERVE (R402). -/
  | commandServe (us : Nat)
  /-- QUEUE_READ_STALL_TIMEOUT (R398). -/
  | queueReadStallTimeout (port q : Nat)
  /-- SEM_ACQUIRE (R412). -/
  | semAcquire (port n : Nat) (half : Half) (tie : Bool)
  /-- SEM_RELEASE (R412). -/
  | semRelease (port n : Nat)
  /-- SEM_RENEW (R413). -/
  | semRenew (port : Nat) (half : Half)
  /-- LEASE_EXPIRY (R413). -/
  | leaseExpiry (n : Nat)
  /-- EV_CLAIM (R453). -/
  | evClaim (port : Nat) (half : Half)
  /-- EV_COMPLETE (R454). -/
  | evComplete (port source : Nat)
  /-- EV_RESET (R455). -/
  | evReset (port key : Nat)
  /-- EV_SRC_WRITE (R459). -/
  | evSrcWrite (port n : Nat) (value : Word)
  /-- EV_GRP_WRITE (R463). -/
  | evGrpWrite (port g : Nat) (value : Word)
  /-- GD_CLEAR_STORM (R438). -/
  | gdClearStorm (key : Nat)
  /-- GD_RESTART (R443). -/
  | gdRestart (key : Nat)
  /-- GD_RESOLVE (R436). -/
  | gdResolve (entry key : Nat)
  /-- HV_CTRL_RELEASE (R379). -/
  | hvCtrlRelease (half : Half) (value : Word)
  /-- TL_FREEZE (R508). -/
  | tlFreeze (on : Bool)
  /-- TL_SNAP (R508). -/
  | tlSnap
  /-- TL_CLEAR (R509). -/
  | tlClear (mask : Word)
  /-- TL_PRESET (R509). -/
  | tlPreset (mask : Word)
  /-- DMA_TAIL_WRITE (R418). -/
  | dmaTailWrite (port ring value : Nat)
  /-- DMA_RING_ENABLE (R416). -/
  | dmaRingEnable (port ring : Nat) (on : Bool)
  /-- DESCRIPTOR_CLOSE (R418). -/
  | descriptorClose (port ring : Nat) (d : DescView)
  /-- REGISTER_WRITE (R10). -/
  | registerWrite (port off : Nat) (half : Half) (value : Word)
  /-- BAR0_BAD_ACCESS (R384). -/
  | bar0BadAccess (port off size : Nat) (write : Bool)
  /-- BAR2_ACCESS (R386). -/
  | bar2Access (port off : Nat) (write : Option (List Byte)) (len : Nat) (uncorrectable : Bool)
  /-- PCIE_FLR (R383). -/
  | pcieFlr (port : Nat)
  /-- PCIE_LINK_DOWN (R383). -/
  | pcieLinkDown (port : Nat)
  /-- PCIE_LINK_UP (R383). -/
  | pcieLinkUp (port : Nat)
  /-- PERST_ASSERT (R570). -/
  | perstAssert (port : Nat)
  /-- BEAT (R47). -/
  | beat
  /-- BEAT_START (R44). -/
  | beatStart
  /-- TICKET_ARM (R66). -/
  | ticketArm (id : Nat)
  /-- TICKET_APPLY (R24). -/
  | ticketApply (id : Nat)
  /-- SNAPSHOT_RELEASE (R27). -/
  | snapshotRelease (buf : Nat)
  /-- PER_BEAT_HANDLER (R48). -/
  | perBeatHandler
  /-- PER_BEAT_HANDLER_OVERRUN (R52). -/
  | perBeatHandlerOverrun
  /-- KEEPER_HANDLER_LOST (R54). -/
  | keeperHandlerLost
  /-- PER_SECOND_WORK (R50). -/
  | perSecondWork
  /-- PER_SECOND_OVERRUN (R52). -/
  | perSecondOverrun
  /-- UNIT_PIPELINE_OVERRUN (R52). -/
  | unitPipelineOverrun (kind index : Nat)
  /-- PM_AUTO_WRITE (R302). -/
  | pmAutoWrite (ent : Entity) (day : Bool)
  /-- LOS_DECLARE (R85). -/
  | losDeclare (lane : Nat)
  /-- LOS_CLEAR (R85). -/
  | losClear (lane : Nat)
  /-- LOL_DECLARE (R85). -/
  | lolDeclare (lane : Nat)
  /-- LOL_CLEAR (R85). -/
  | lolClear (lane : Nat)
  /-- COMMA_ALIGN (R76). -/
  | commaAlign (lane pos : Nat)
  /-- ALIGNMENT_LOST (R76). -/
  | alignmentLost (lane : Nat)
  /-- PRBS_LOCK (R91). -/
  | prbsLock (u : PrbsUnit) (rx : List Bool) (left : Nat)
  /-- PRBS_UNLOCK (R91). -/
  | prbsUnlock (u : PrbsUnit) (bits errs : Nat)
  /-- LOOPBACK_SLIP (R89). -/
  | loopbackSlip (lane : Nat) (drop : Bool)
  /-- TRIM_SERVO_UPDATE (R157). -/
  | trimServoUpdate (lane : Nat)
  /-- SDH_FRAME_RX (R103). -/
  | sdhFrameRx (lane : Nat) (bits : List Byte)
  /-- LOF_DECLARE (R104). -/
  | lofDeclare (lane : Nat)
  /-- LOF_CLEAR (R104). -/
  | lofClear (lane : Nat)
  /-- INTERNAL_JUSTIFICATION (R116). -/
  | internalJustification (lane g : Nat) (inc : Bool)
  /-- SDH_EGRESS_FRAME (R117). -/
  | sdhEgressFrame (lane : Nat)
  /-- DEG_SECOND_END (R130). -/
  | degSecondEnd (u : DetUnit)
  /-- BER_SUBWINDOW_END (R131). -/
  | berSubwindowEnd (u : DetUnit) (exc : Bool)
  /-- OH_CAPTURE_RECORD (R125). -/
  | ohCaptureRecord (lane channel : Nat)
  /-- OH_INSERT_FLIGHT (R127). -/
  | ohInsertFlight (lane channel : Nat)
  /-- HYPERFRAME_RX (R140). -/
  | hyperframeRx (lane : Nat) (codes : List Nat) (t : Int)
  /-- CPRI_LOF_CHANGE (R146). -/
  | cpriLofChange (lane : Nat)
  /-- RX_OFFSET_UPDATE (R153). -/
  | rxOffsetUpdate (lane : Nat)
  /-- CM_CAPTURE_RECORD (R150). -/
  | cmCaptureRecord (lane group : Nat)
  /-- CM_INSERT_FLIGHT (R151). -/
  | cmInsertFlight (lane group : Nat)
  /-- L1_RESET_END (R144). -/
  | l1ResetEnd (lane : Nat)
  /-- AXC_SLIP (R164). -/
  | axcSlip (lane axc : Nat)
  /-- AXC_REALIGN (R165). -/
  | axcRealign (lane axc : Nat)
  /-- ROTATION_STEP (R191). -/
  | rotationStep (region : Nat) (marchOk : Bool)
  /-- COMB_ECC_ERROR (R190). -/
  | combEccError (region unit : Nat) (corrected : Bool)
  /-- TAP_RECORD (R195). -/
  | tapRecord
  /-- TU_POINTER_INTERPRET (R204). -/
  | tuPointerInterpret (b g tu : Nat)
  /-- TU_EGRESS_BUILD (R206). -/
  | tuEgressBuild (b g tu : Nat)
  /-- MAP_RATE_UPDATE (R219). -/
  | mapRateUpdate (b g0 axc : Nat)
  /-- PLAY_SLIP (R225). -/
  | playSlip (b g0 axc : Nat) (late : Bool)
  /-- PLAY_DEFECT_CHANGE (R225). -/
  | playDefectChange (b g0 axc : Nat)
  /-- MEMBER_MFI_CHANGE (R240). -/
  | memberMfiChange (s0 member : Nat)
  /-- LOA_CHANGE (R242). -/
  | loaChange (s0 : Nat)
  /-- GROUP_REALIGN (R245). -/
  | groupRealign (s0 : Nat)
  /-- OUTPUT_LAG_ADJUST (R244). -/
  | outputLagAdjust (s0 : Nat)
  /-- TWIN_SELECT (R249). -/
  | twinSelect (s0 : Nat)
  /-- REFRESH_PLACE (R237). -/
  | refreshPlace (channel rank : Nat) (inMargin retrain : Bool)
  /-- POOL_ECC_ERROR (R239). -/
  | poolEccError (slot : Nat)
  /-- DDR_REQUEST_TIMEOUT (R252). -/
  | ddrRequestTimeout (channel : Nat)
  /-- CHANNEL_FAIL (R252). -/
  | channelFail (channel cause : Nat)
  /-- CHANNEL_TRAINING_DONE (R254). -/
  | channelTrainingDone (channel size ranks rate outcome : Nat)
  /-- CHANNEL_RETURN_DONE (R254). -/
  | channelReturnDone (channel : Nat)
  /-- BYPASS_REVERT (R253). -/
  | bypassRevert (s0 : Nat)
  /-- TWIN_BYPASS_RETURN (R255). -/
  | twinBypassReturn (s0 : Nat)
  /-- PROT_EVALUATE (R262). -/
  | protEvaluate
  /-- HOLDOFF_EXPIRY (R263). -/
  | holdoffExpiry (group : Nat) (prot : Bool)
  /-- WTR_EXPIRY (R264). -/
  | wtrExpiry (group : Nat)
  /-- FOP_CM_EXPIRY (R270). -/
  | fopCmExpiry (group : Nat)
  /-- CPRI_HITLESS_SWITCH (R277). -/
  | cpriHitlessSwitch (group : Nat)
  /-- OSCILLATOR_FAULT (R308). -/
  | oscillatorFault
  /-- XOTEMP_READ (R309). -/
  | xotempRead (reading : Option Int)
  /-- INPUT_OFFSET_UPDATE (R313). -/
  | inputOffsetUpdate (input : Nat) (raw : Int)
  /-- INPUT_FAIL (R314). -/
  | inputFail (input cause : Nat)
  /-- PPS_EDGE (R328). -/
  | ppsEdge (input : Nat) (edge : Int)
  /-- INPUT_QUALIFY (R315). -/
  | inputQualify (input : Nat)
  /-- INPUT_WTR_EXPIRY (R315). -/
  | inputWtrExpiry (input : Nat)
  /-- SUSPECT_CHANGE (R316). -/
  | suspectChange (input : Nat)
  /-- DRIFT_UPDATE (R317). -/
  | driftUpdate (input : Nat)
  /-- FREQ_SELECT (R320). -/
  | freqSelect
  /-- SWITCH_MEASURE_DONE (R324). -/
  | switchMeasureDone (delta freqDiff : Int)
  /-- SWITCH_CLOSE (R324). -/
  | switchClose
  /-- PHASE_CHANGE_CLOSE (R329). -/
  | phaseChangeClose
  /-- DPLL_STEP (R323). -/
  | dpllStep
  /-- DPLL_LOCK_LOSS (R323). -/
  | dpllLockLoss
  /-- STEER_WORD_APPLY (R330). -/
  | steerWordApply
  /-- STEER_TIMEOUT (R331). -/
  | steerTimeout
  /-- MODEL_UPDATE (R332). -/
  | modelUpdate
  /-- AGING_RECOMPUTE (R333). -/
  | agingRecompute
  /-- HOLDOVER_BOUND_UPDATE (R335). -/
  | holdoverBoundUpdate
  /-- MODEL_SAVE (R338). -/
  | modelSave
  /-- TOD_APPLY (R340). -/
  | todApply
  /-- SQUELCH_CHANGE (R344). -/
  | squelchChange (output : Nat)
  /-- TOKEN_CLAIM (R355). -/
  | tokenClaim
  /-- TOKEN_RECLAIM (R357). -/
  | tokenReclaim
  /-- TOKEN_RELEASE (R368). -/
  | tokenRelease (cause : Nat)
  /-- HELD_TOKEN_CLAIM (R356). -/
  | heldTokenClaim
  /-- MATE_OK_CHANGE (R356). -/
  | mateOkChange (level : Bool)
  /-- HIVE_FRAME_RX (R360). -/
  | hiveFrameRx (lane : Nat) (skew : Int) (codes : List Nat)
  /-- HEARTBEAT_MISS (R362). -/
  | heartbeatMiss
  /-- MIRROR_RECORD_RX (R364). -/
  | mirrorRecordRx (seq : Nat) (crcOk : Bool) (rec : MirrorRec)
  /-- HALF_STATE_CHANGE (R360). -/
  | halfStateChange (b : Bool) (up : Bool)
  /-- HIVE_SWITCH_EXECUTE (R372). -/
  | hiveSwitchExecute
  /-- EGRESS_FAULT_DECLARE (R373). -/
  | egressFaultDeclare (far : Bool)
  /-- BB_WINDOW_CLOSE (R373). -/
  | bbWindowClose
  /-- SNAPSHOT_LOADED (R375). -/
  | snapshotLoaded
  /-- CORE_WATCHDOG_PRE_EXPIRY (R430). -/
  | coreWatchdogPreExpiry (core : Option Nat)
  /-- CORE_WATCHDOG_EXPIRY (R431). -/
  | coreWatchdogExpiry (core : Nat)
  /-- CLUSTER_WATCHDOG_EXPIRY (R431). -/
  | clusterWatchdogExpiry
  /-- GUARD_STEP_TIMEOUT (R431). -/
  | guardStepTimeout
  /-- CORE_RETIRE (R427). -/
  | coreRetire (core : Nat)
  /-- FAULT_RECORD (R432). -/
  | faultRecord (code kind index : Nat) (detail : Nat)
  /-- AUTOPILOT_ENTRY (R439). -/
  | autopilotEntry (storm : Bool)
  /-- KEEPER_LOST_IN_PLACE (R440). -/
  | keeperLostInPlace (storm : Bool)
  /-- HALT_ENTRY (R445). -/
  | haltEntry (storm : Bool)
  /-- RESTART_ATTEMPT (R443). -/
  | restartAttempt
  /-- RESTART_TIMEOUT (R431). -/
  | restartTimeout
  /-- KEEPER_RESUME (R444). -/
  | keeperResume
  /-- SOURCE_ASSERT (R450). -/
  | sourceAssert (source : Nat) (level : Bool)
  /-- EVENT_ARBITRATE (R451). -/
  | eventArbitrate
  /-- COALESCE_RELEASE (R452). -/
  | coalesceRelease (port g : Nat)
  /-- REDIRECT_TIMEOUT (R458). -/
  | redirectTimeout (source : Nat)
  /-- BUS_TRANSACTION_TIMEOUT (R475). -/
  | busTransactionTimeout (master addr : Nat)
  /-- DEFAULT_TARGET_RESPONSE (R474). -/
  | defaultTargetResponse (master addr : Nat)
  /-- REMAP_APPLY (R473). -/
  | remapApply (value : Bool)
  /-- SRAM_ECC_ERROR (R477). -/
  | sramEccError (master addr : Nat) (double : Bool) (write : List Byte)
  /-- SRAM_BACKGROUND_STEP (R480). -/
  | sramBackgroundStep (corrected passed : Bool)
  /-- PATROL_SCRUB_LINE (R488). -/
  | patrolScrubLine (channel line outcome : Nat) (last : Bool)
  /-- DDR_THERMAL_READ (R489). -/
  | ddrThermalRead (channel : Nat) (temp : Int)
  /-- SLICE_SLOT (R491). -/
  | sliceSlot
  /-- MIGRATION_SHADOW (R494). -/
  | migrationShadow
  /-- MIGRATION_HANDOVER (R494). -/
  | migrationHandover
  /-- MIGRATION_ABORT (R496). -/
  | migrationAbort
  /-- SLICE_TEST_DONE (R497). -/
  | sliceTestDone (first second : TestRun)
  /-- STING_OCCURRENCE (R505). -/
  | stingOccurrence (index : Nat)
  /-- TRACER_TAG (R513). -/
  | tracerTag (lane g : Nat)
  /-- TRACER_RECORD (R515). -/
  | tracerRecord (id txLane mask flags : Nat) (dts : List Nat)
  /-- TALLY_OVERFLOW (R509). -/
  | tallyOverflow (n : Nat)
  /-- NONCE_EXPIRY (R522). -/
  | nonceExpiry (port : Nat)
  /-- CHALLENGE_LOCK_EXPIRY (R524). -/
  | challengeLockExpiry (port : Nat)
  /-- VDDAO_POWER_ON (R582). -/
  | vddaoPowerOn (pfwHigh : Bool)
  /-- SEQUENCING_STEP (R545). -/
  | sequencingStep
  /-- RAMP_LIMIT_EXPIRY (R545). -/
  | rampLimitExpiry
  /-- POWER_DOWN (R546). -/
  | powerDown (cause : Nat)
  /-- WAKE_N_FALL (R542). -/
  | wakeNFall
  /-- RESET_N_ASSERT (R542). -/
  | resetNAssert
  /-- WAKE_CLEAR_DONE (R543). -/
  | wakeClearDone
  /-- BOOT_ROM_START (R534). -/
  | bootRomStart (guardOk : Bool)
  /-- DDR_BOOT_TRAINING_DONE (R484). -/
  | ddrBootTrainingDone (channel size ranks rate outcome : Nat)
  /-- DDR_REGION_CLEAR_DONE (R543). -/
  | ddrRegionClearDone (region : Nat)
  /-- PROVISION_ENTRY (R535). -/
  | provisionEntry
  /-- UPDATE_DATA_DONE (R537). -/
  | updateDataDone (port offset : Nat) (bytes : List Byte)
  /-- QUIESCE_TIMEOUT (R442). -/
  | quiesceTimeout
  /-- PFW_ASSERT (R550). -/
  | pfwAssert
  /-- PFW_RELEASE (R552). -/
  | pfwRelease
  /-- LEAN_EXIT (R552). -/
  | leanExit
  /-- LEAN_MAX_EXPIRY (R553). -/
  | leanMaxExpiry
  /-- AUTO_WAKE (R553). -/
  | autoWake
  /-- RAIL_EXCURSION (R547). -/
  | railExcursion (rail : Nat) (isOv : Bool) (long held : Bool)
  /-- RAIL_CLEAR (R547). -/
  | railClear (rail : Nat)
  /-- PMB_ALERT (R549). -/
  | pmbAlert (status : List Nat)
  /-- PMBUS_FAILURE (R549). -/
  | pmbusFailure
  /-- AVS_SAMPLE (R556). -/
  | avsSample (m : Int)
  /-- ENERGY_READ (R557). -/
  | energyRead (readings : List (Nat × Nat × Nat)) (tj : Int)
  /-- RESET_N_RELEASE (R582). -/
  | resetNRelease (side flashSlow testEn : Bool)
  /-- INPUT_FAIL_CLEAR (R315). -/
  | inputFailClear (input : Nat)
  /-- HIVE_JOIN_TIMEOUT (R375). -/
  | hiveJoinTimeout
  /-- ACTIVATE_WAIT_EXPIRY (R538). -/
  | activateWaitExpiry
  /-- FLASH_WRITE_DONE (R83). -/
  | flashWriteDone (ok : Bool)
  /-- OTP_PROGRAM_DONE (R528). -/
  | otpProgramDone (ok : Bool)
  /-- WORLD_CLEAR_DONE (R520). -/
  | worldClearDone
  /-- HOST_PORT_POWER_STATE (R458). -/
  | hostPortPowerState (port : Nat) (d3hot msixEnable : Bool)
  deriving DecidableEq, Repr

end Sys2Proof
end

