-- ==== Sys2Proof/Decode.lean ====
section
/-!
DEFINITION. Decode.lean: the command that a word spells by the bits of spec/opcode_table.json. No row of the table
gives bits ("fields" is empty in every row), so no word spells a command. Waggle messages are parsed by the command
that serves them (Machine/Waggle.lean).
-/

namespace Sys2Proof

/-- No row of the table gives bits, so no word spells a command. -/
def decodeTableWord (_nbits _w : Nat) : Option Instr := none

end Sys2Proof
end

