-- ==== Sys2Proof/Config.lean ====
section
/-!
DEFINITION. Config.lean: what the spec leaves open or to another part: free values and unit constants, each an
opaque constant with no body, so that no proof can see one. Every statement holds for all of them.
-/

namespace Sys2Proof.Config

open Sys2Proof

/-- A free value: the k-th draw of the run (log 4). Its first argument says what it stands for. -/
opaque free : Nat → Nat → Nat

/-- Attributes that Grengon gives an event source at boot where R447 states none: kind, priority, core (log 7). -/
opaque bootEdge : Nat → Bool
opaque bootPrio : Nat → Nat
opaque bootCore : Nat → Nat

/-- Factory calibration in OTP: lane, rate group, setting (0 swing, 1 pre, 2 post, 3 CTLE) (R82). -/
opaque factoryCal : Nat → Nat → Nat → Nat

/-- VC start offset with which a tile's elastic store takes up a VC: lane, granule, received pointer (R116, log 10). -/
opaque ingressOffset : Nat → Nat → Nat → Nat

/-- Units between a granule's bytes and the H row of an egress frame, by its frame phase (R117, log 10). -/
opaque egressShift : Nat → Nat

/-- Payload positions that pass between a tributary's V5 at its ingress and in its egress multiframe: source key (R206, log 10). -/
opaque tuDelay : Nat → Nat

/-- Stage latencies of an AxC's path and lane terms as they enter the fill of its store: ingress and egress lane, 1 through the Brood,
0.01 ns (R163, log 11). -/
opaque axcPath : Nat → Nat → Nat → Nat

/-- Half the depth, in words, of the egress store of a broad port without a servo, by option (R157 gives none, log 96). -/
opaque broadStoreHalf : Nat → Nat

/-- Offset in a hyperframe of a byte of the scrambling seed, by word size: the CPRI specification's (R145, R156, log 96). -/
opaque seedPos : Nat → Nat → Nat

/-- The CPRI specification's scrambling sequence: seed, word size, offset in the hyperframe (03 R75, log 96). -/
opaque cpriKey : Nat → Nat → Nat → Byte

/-- Factory presets of the five DFE taps: lane, rate group, tap (03 R79). -/
opaque dfePreset : Nat → Nat → Nat → Nat

/-- Where in its sequence a pattern generator starts: a lane, or 1000 and a service port stream's key (03 R90, R194 give no phase, log 5). -/
opaque patternSeed : Nat → Nat

/-- Thermal value M while no bin of the model is valid (R332 states none, log 13). -/
opaque thermalNone : Int

/-- Which register block lies at a Keeper address behind a bridge or the Comb configuration port, and at a row of the BAR0 table, by its
place among the blocks of bridge 0 or of the others (R385, R468, R517 number none, log 149). -/
opaque blockAt : Nat → Nat
opaque barBlock : Nat → Nat

/-- Whether a DDR5 region is one of the Keeper's own (R469, R486 name none, log 149). -/
opaque keeperRegion : Nat → Bool

/-- What OTP holds for the logic test of a kind of unit: seed, number of patterns, expected signature (16 R499, log 151). -/
opaque testSeed : Nat → Nat
opaque testPatterns : Nat → Nat
opaque testSignature : Nat → Nat

/-- Which of the 64 register blocks are the blocks of bridge 0 (R517, R520 do not number them, log 19). -/
opaque bridge0 : Nat → Bool

/-- Whether a unit fails its boot test (R501): kind 1 tile, 2 nurse unit, 5 keeper core, 12 lane, 13 PLL or Scout (log 21). -/
opaque bootFails : Nat → Nat → Bool

/-- Whether an ECDSA P-384 signature of a hash verifies: public key, hash, signature (R522, R527, R532, log 23). -/
opaque ecdsa : List Byte → List Byte → List Byte → Bool

/-- The root key hash in OTP (R533, log 23). -/
opaque rootHash : List Byte

/-- SHA-384 of n bytes, of which those that are not 0 are listed by place (R532, log 23). -/
opaque sha384 : Nat → List (Nat × Byte) → List Byte

/-- The device identifier, 128 bits (R522). -/
opaque deviceId : Nat

end Sys2Proof.Config
end

