-- ==== Sys2Proof/Machine/State.lean ====
section
/-!
DEFINITION. Machine/State.lean: everything the spec gives the device, as plain data, and the state after reset.
A field's comment gives its width, the file and rule of spec/ that names it, and its reset value after the last bar;
`DC` there says that the spec gives none and log entry 2 names the default shown, `model` that the field is the model's own.
The default of a field IS its reset value: `State.reset` is `{}`. A table lists only the units that differ from
their reset record. The address fields (lane, g, s0 …) of a stored parameter record are those of the command that
set it, and nothing reads them in a reset record.
-/

namespace Sys2Proof.Machine

open Sys2Proof

/-! ### Shared small records -/

/-- The twelve operating modes (R541), in the order of their numbers. -/
inductive Mode where
  | off | wake | boot | provision | carry | shadow | lean | autopilot | quiesce | maintenance | isolate | halt
  deriving DecidableEq, Repr

/-- The role of a device of a pair (R359). -/
inductive Role where
  | solo | active | standby
  deriving DecidableEq, Repr

/-- A candidate value and how often in a row it was received (acceptance counts of R105, R120, R143, R208). -/
structure Run where
  cand : Nat := 0
  count : Nat := 0
  deriving DecidableEq, Repr

/-- How often in a row a condition held, and how often in a row it did not (R128, R146, R211). -/
structure Hold where
  yes : Nat := 0
  no : Nat := 0
  deriving DecidableEq, Repr

/-- A trace receiver (R109, R110): the bytes of the period being received, whether the period boundary is known,
the last good message and its run, and the accepted message. -/
structure TraceRx where
  buf : List Byte := []
  aligned : Bool := false
  last : List Byte := []
  run : Nat := 0
  accepted : Option (List Byte) := none
  deriving DecidableEq, Repr

/-- The degraded-signal detector's second (R130); `closed` is one more than the beat at which the last second ended. -/
structure Deg where
  errored : Nat := 0
  masked : Bool := false
  badRun : Nat := 0
  goodRun : Nat := 0
  closed : Nat := 0
  deriving DecidableEq, Repr

/-- A BER detector (R131): the open sub-window and the closed ones of the window, newest first; `closed` is one more than the beat at
which the last one ended. -/
structure Ber where
  cur : Nat := 0
  subs : List Nat := []
  closed : Nat := 0
  deriving DecidableEq, Repr

/-- States of the pointer interpreter (R114, R204). -/
inductive PtrMode where
  | norm | ais | lop
  deriving DecidableEq, Repr

/-- A pointer interpreter (R113, R114): its state, current pointer, runs of indications, and the three-frame guard. -/
structure Ptr where
  mode : PtrMode := .lop
  ptr : Nat := 0
  aisRun : Nat := 0
  invRun : Nat := 0
  ndfRun : Nat := 0
  newRun : Nat := 0
  newVal : Nat := 0
  guard : Nat := 0
  conc : List Nat := []
  deriving DecidableEq, Repr

/-- A multiframe process on H4 bits 7-8 (R122, R201). -/
structure Lom where
  expect : Nat := 0
  inSync : Bool := true
  badRun : Nat := 0
  goodRun : Nat := 0
  outFrames : Nat := 0
  inFrames : Nat := 0
  dLom : Bool := false
  deriving DecidableEq, Repr

/-- Primitives of one entity (R287); `off` counts beats in which its unit was disabled (R299). -/
structure Prim where
  neEb : Nat := 0
  feEb : Nat := 0
  neDef : Nat := 0
  feDef : Nat := 0
  cv : Nat := 0
  los : Nat := 0
  lof : Nat := 0
  slips : Nat := 0
  off : Nat := 0
  deriving DecidableEq, Repr

/-! ### Clock, snapshots, capping (02, 01) -/

/-- A snapshot buffer (R27, R28). -/
structure Snapshot where
  unreleased : Bool := false       -- 1; 01 R27 | 0
  first : Nat := 0                 -- 48; 01 R27 first beat covered | DC
  last : Nat := 0                  -- 48; 01 R27 last beat covered | DC
  merges : Nat := 0                -- count; 01 R28 merge count | 0
  consumed : Bool := false         -- the Keeper has read it since it was written; 01 R27 | 0
  prims : Tbl Prim := []           -- per entity; 01 R27, 10 R286 | empty
  defects : Tbl Nat := []          -- per entity, defect word; 01 R27 | empty
  selectors : Tbl Bool := []       -- per group; 01 R27 | empty
  scoutState : Nat := 0            -- 3; 01 R27 | 0
  deriving DecidableEq, Repr

/-- What a deferred response will carry (R407 and the response tables). -/
inductive ReplyKind where
  | status                                   -- status and 6 reserved bytes
  | batchClose (bclass superN broodN : Nat)  -- 02 sys.batch_close
  | comb (changes : Nat)                     -- 06 shared response
  | pool (s0 : Nat)                          -- 08 shared response
  | axc (lane axc dir : Nat)                 -- 05 cpri.axc
  | laneCal (a : LaneCalArgs)                -- 03 lane.cal
  | tod                                      -- 11 scout.tod
  | mode                                     -- 13 sys.mode
  | start (epoch : Nat)                      -- 11 scout.start
  | join                                     -- 12 hive.join
  | hiveSwitch                               -- 12 hive.switch
  | bulk (written dropped : Nat)             -- 10 pm.bulk
  | channel (ch : Nat)                       -- 08 pool.channel
  | model (op first count : Nat)             -- 11 scout.model
  | powerTable (slot : Nat) (entry : PowerEntry) -- 18 power.table
  | lifecycle                                -- 17 sec.lifecycle
  | world (a : SecWorldArgs)                 -- 17 sec.world
  | update                                   -- 17 sec.update
  deriving DecidableEq, Repr

/-- A command that is answered later: where the response goes, its IDs and its kind (R402, R408). -/
structure Waiter where
  hdr : Hdr
  service : Nat
  command : Nat
  kind : ReplyKind
  deriving DecidableEq, Repr

/-- A cap ticket (R58-R66). -/
structure Ticket where
  id : Nat
  bclass : Nat
  target : Nat
  changes : List Change
  waiters : List Waiter := []
  superN : Nat := 0
  broodN : Nat := 0
  armed : Bool := false
  moved : Bool := false
  mirrored : Bool := false
  deriving DecidableEq, Repr

/-- An open batch of a session (R58, R63, R67). -/
structure Batch where
  id : Nat
  ticket : Nat := 0
  changes : List Change := []
  services : Nat := 0
  failed : Option Nat := none
  deriving DecidableEq, Repr

/-- The beat counter and the capping state. -/
structure Clock where
  started : Bool := false          -- 1; 02 R44 | 0
  beat : Nat := 0                  -- 48; 02 R44, 13 R387 ID_BEAT | 0
  startPend : Option Waiter := none -- scout.start waiting for its epoch; 11 R339 | none
  snapA : Snapshot := {}           -- snapshot buffer 0; 01 R27 | empty
  snapB : Snapshot := {}           -- snapshot buffer 1; 01 R27 | empty
  lastB : Bool := false            -- which buffer was written last; 01 R28 | DC
  ovSnap : Nat := 0                -- 32 saturating; 02 R53 | 0
  ovHandler : Nat := 0             -- 32 saturating; 02 R53 | 0
  ovSecond : Nat := 0              -- 32 saturating; 02 R53 | 0
  ovPipe : Nat := 0                -- 32 saturating; 02 R53 | 0
  ovPool : Nat := 0                -- 32 saturating; 02 R53 | 0
  ovHive : Nat := 0                -- 32 saturating; 02 R53 | 0
  handlerRun : Nat := 0            -- consecutive handler overruns; 02 R54 | 0
  handlerLate : Bool := false      -- this beat's handler overran; 02 R54 | 0
  pipeLate : List (Nat × Nat) := [] -- units (kind, index) late in this beat; 02 R52 | empty
  nextTicket : Nat := 1            -- next ticket number; 12 R363 | DC
  tickets : List Ticket := []      -- complete, not yet applied, in order of completion; 02 R67 | empty
  batchA : Option Batch := none    -- open batch of port A's session; 02 R67 | none
  batchB : Option Batch := none    -- open batch of port B's session; 02 R67 | none
  nextBatch : Nat := 1             -- next batch_id; 02 sys.batch_open | DC
  lost : List Waiter := []         -- commands to answer TIMEOUT when service resumes; 02 R66, 14 R429 | empty
  deriving DecidableEq, Repr

/-! ### Lanes (03) -/

/-- What the decoder hands on of one code group (R74): the byte, whether it is a K character and K28.5, and the two kinds of error. -/
structure Group where
  byte : Byte := 0
  k : Bool := false
  k285 : Bool := false
  invalid : Bool := false
  disparity : Bool := false
  deriving DecidableEq, Repr

/-- A line or hive lane. -/
structure Lane where
  enable : Nat := 0                -- 1; 03 R69 lane.config | DC
  mode : Nat := 0                  -- 4; 03 R69 | DC
  align : Nat := 0                 -- 1; 03 R70 | DC
  polarity : Nat := 0              -- 2; 03 R81 | DC
  scramble : Nat := 0              -- 1; 03 R73 | 0 (1 on SDH lanes; a lane resets to mode 0)
  loopback : Nat := 0              -- 2; 03 R89 | DC
  losThr : Nat := 7                -- 5; 03 R85 | 7
  dfeAdapt : Nat := 0              -- 1; 03 R79 | DC
  bootFailed : Bool := false       -- 1; 16 R501 | DC
  los : Bool := true               -- 1; 03 R85 detected LOS | 1 (a disabled lane holds LOS)
  lol : Bool := true               -- 1; 03 R85 detected LOL | 1
  losForced : Bool := false        -- 1; 03 R88 | 0
  lolForced : Bool := false        -- 1; 03 R88 | 0
  aligned : Bool := false          -- 1; 03 R76 | 0
  position : Nat := 0              -- 4, 0-9; 03 R77 | DC
  commaSeen : Bool := false        -- 1; 03 R77 | DC
  freqOffset : Int := 0            -- 32 signed, 0.1 ppm; 03 lane.status | DC
  cvInvalid : Nat := 0             -- 32 saturating; 03 R74 | DC
  cvDisparity : Nat := 0           -- 32 saturating; 03 R74 | DC
  slipCount : Nat := 0             -- 32; 03 R89 | DC
  losEvents : Nat := 0             -- 32; 03 lane.status | DC
  loopFill : Nat := 32             -- UI in the loopback buffer; 03 R89 | 32
  loopFrames : Nat := 1            -- frames in the SDH loopback store; 03 R89 | 1
  prbsGen : Nat := 0               -- 3; 03 R90 | DC
  prbsChk : Nat := 0               -- 3; 03 R90 | DC
  prbsInv : Nat := 0               -- 2; 03 R90 | DC
  prbsLocked : Bool := false       -- 1; 03 R91 | 0
  prbsLeft : Option Nat := none    -- bits of the beat in hand after a lock in it; 03 R91 | none
  genPos : Nat := 0                -- pattern bits generated so far; 03 R90 | 0
  dfe : List Nat := [0, 0, 0, 0, 0] -- the five DFE taps; 03 R79 | DC
  skipGroups : Nat := 0            -- code groups still to discard after a slip; 03 R77 | 0
  rxRd : Bool := false             -- running disparity of the receiver, 1 positive; 03 R74 | DC
  txRd : Bool := false             -- running disparity of the transmitter; 03 R74 | DC
  errAges : List Nat := []         -- code groups since each error of the last 255; 03 R76 | empty
  errFull : Bool := false          -- 16 errors fell within 256 code groups; 03 R76 | 0
  search : Option (Nat × Nat) := none -- the firmware's slip search: positions tried, beats waited; 03 R78 | none
  loopStore : List (List Byte) := [] -- frames in the far-end loopback store; 03 R89 | empty
  loopCodes : List Nat := []       -- recovered code groups that far-end loopback sends; 03 R89 | empty
  prbsBits : Nat := 0              -- 48; 03 R91 | DC
  prbsErrors : Nat := 0            -- 32 saturating; 03 R91 | DC
  prbsInject : Nat := 0            -- injected errors not yet sent; 03 R93 | 0
  trimTarget : Int := 0            -- 0.001 ppm; 03 R94 | DC
  trim : Int := 0                  -- 0.001 ppm, in force; 03 R94 | DC
  deriving DecidableEq, Repr

/-- User calibration offsets of one lane and rate group (R82, R83). -/
structure UserCal where
  swing : Int := 0                 -- 8 signed; 03 R83 | 0 when the block is missing
  pre : Int := 0                   -- 8 signed; 03 R83 | 0
  post : Int := 0                  -- 8 signed; 03 R83 | 0
  ctle : Int := 0                  -- 8 signed; 03 R83 | 0
  deriving DecidableEq, Repr

/-! ### SDH ports and paths (04) -/

/-- The frame alignment states (R103). -/
inductive FrameState where
  | hunt | presync | inFrame
  deriving DecidableEq, Repr

/-- One generated AU pointer and path (R117, R118, R120): what the egress frame carries for it; `conc` is the word in AUs 2 to X
of an AU-4-Xc (R115), 0 where there is none; `h3` are its H3 bytes. The overhead fields are those of terminate mode; `vc` are the
bytes of the pointer's period, from the H row on, as they are sent. -/
structure TxAu where
  g : Nat
  h1h2 : Nat
  conc : Nat
  h3 : List Byte
  j1 : Byte
  b3 : Byte
  c2 : Nat
  g1 : Nat
  h4 : Nat
  vc : List Byte
  deriving DecidableEq, Repr

/-- The last egress frame of a line port (R105): the bytes set in it, and the whole frame as it leaves on the line. -/
structure TxFrame where
  j0 : Byte := 0
  k1 : Nat := 0
  k2 : Nat := 0
  s1 : Nat := 0
  m1 : Nat := 0
  aus : List TxAu := []
  b1 : Byte := 0
  b2 : List Byte := []
  line : List Byte := []
  deriving DecidableEq, Repr

/-- A line port in SDH use. -/
structure SdhPort where
  cfg : SdhPortArgs := ⟨0, 0, 5, 0, 0, 8, 0, 0, 7, 3, 800, 6, List.replicate 15 0, List.replicate 15 0⟩ -- 04 sdh.port | defaults of the table; s1_value and exp_j0 DC
  everEnabled : Bool := false      -- 1; 04 R135 | 0
  align : FrameState := .hunt      -- 2; 04 R103 | hunt
  miss : Nat := 0                  -- failed tests in a row; 04 R103 | 0
  held : List Byte := []           -- line bits from the candidate or frame position on, not yet taken; 04 R103 | empty
  skip : Nat := 0                  -- 3, bits of the first held byte before that position; 04 R103 | 0
  b1Last : Option Byte := none     -- BIP-8 of the previous frame as received; 04 R105 | none
  b1Head : Byte := 0               -- parity of the A1 bytes of the next frame already taken; 04 R105 | 0
  b2Last : List Byte := []         -- BIP-24N of the previous frame; 04 R105 | none
  oofFrames : Nat := 0             -- frames of dOOF in a row; 04 R104 | 0
  inFrames : Nat := 0              -- frames In-frame in a row; 04 R104 | 0
  dLof : Bool := false             -- 1; 04 R104 | 0
  j0 : TraceRx := {}               -- section trace; 04 R109 | empty
  kRun : Run := {}                 -- K1K2 acceptance; 04 R105 | 0
  k1 : Nat := 0                    -- 8 accepted K1; 04 R105 | DC
  k2 : Nat := 0                    -- 8 accepted K2; 04 R105 | DC
  kAccepted : Bool := false        -- 1; 04 R136 | 0
  noK : Nat := 0                   -- frames without an accepted K1; 09 R270 | 0
  k2Ais : Hold := {}               -- K2 bits 6-8 = 111; 04 R128 | 0
  k2Rdi : Hold := {}               -- K2 bits 6-8 = 110; 04 R128 | 0
  s1Run : Run := {}                -- S1 acceptance; 04 R105 | 0
  s1 : Option Nat := none          -- 4 accepted S1; 04 R107 | none
  dTim : Bool := false             -- 1; 04 R111 | 0
  dAis : Bool := false             -- 1; 04 R128 | 0
  dRdi : Bool := false             -- 1; 04 R128 | 0
  dDeg : Bool := false             -- 1; 04 R130 | 0
  dExc : Bool := false             -- 1; 04 R131 | 0
  dSd : Bool := false              -- 1; 04 R131 | 0
  deg : Deg := {}                  -- 04 R130 | empty
  exc : Ber := {}                  -- 04 R131 | empty
  sd : Ber := {}                   -- 04 R131 | empty
  b1 : Nat := 0                    -- 32 saturating; 04 sdh.status | DC
  b2 : Nat := 0                    -- 32 saturating; 04 sdh.status | DC
  msRei : Nat := 0                 -- 32; 04 R106 | DC
  j0Crc : Nat := 0                 -- 32; 04 R109 | DC
  m1Next : Nat := 0                -- B2 violations to send in M1; 04 R105 | 0
  j0Pos : Nat := 0                 -- byte of the transmit trace; 04 R112 | DC
  oh : SdhOhArgs := ⟨0, 0, 0, 0x7E, 0xFF, 0⟩ -- 04 sdh.oh | idle bytes 0x7E and 0xFF; masks and port DC
  capDropped : Nat := 0            -- 32; 04 R126 | 0
  insUnderrun : Nat := 0           -- 32; 04 R127 | 0
  ohQueue : Tbl (List (List Byte)) := [] -- up to 2 records per channel; 04 R127 | empty
  ohSent : Tbl (List Byte) := []   -- bytes of the last egress flight, per channel; 04 R127 | empty
  ohNow : List Byte := []          -- channel bytes of the frame received in this beat; 04 R124 | none
  ohBuf : List (List (Bool × List Byte)) := [] -- of the last 16 beats, newest first: per channel, invalid and bytes; 04 R125 | empty
  ohMark : Tbl Nat := []           -- per channel, one more than the first beat of the flight recorded last; 04 R125 | none
  txB1 : Byte := 0                 -- BIP-8 of the last frame sent; 04 R105 | 0
  txB2 : List Byte := []           -- BIP-24N of the last frame sent; 04 R105 | 0
  tx : TxFrame := {}               -- last egress frame; 04 R105 | zero
  deriving DecidableEq, Repr

/-- A high-order path (R120). -/
structure SdhPath where
  cfg : SdhPathArgs := ⟨0, 0, 0, 0, 0, 1, 2, 7, 3, 800, 6, 4, List.replicate 64 0, List.replicate 64 0⟩ -- 04 sdh.path; type 0 = no path set | R135 defaults
  ptr : Ptr := {}                  -- interpreter; 04 R114 | LOP, pointer 0
  c2Run : Run := {}                -- 04 R120 | 0
  c2 : Option Nat := none          -- 8 accepted C2; 04 R121 | none
  erdiRun : Run := {}              -- 04 R120 | 0
  erdi : Nat := 0                  -- 3 accepted G1 bits 5-7; 04 R120 | DC
  rdi : Hold := {}                 -- G1 bit 5; 04 R128 | 0
  j1 : TraceRx := {}               -- 04 R109, R110 | empty
  lom : Lom := {}                  -- 04 R122 | in multiframe
  n1 : Nat := 0                    -- 8 last N1; 04 R120 | DC
  dTim : Bool := false             -- 1; 04 R111 | 0
  dUneq : Bool := false            -- 1; 04 R121 | 0
  dPlm : Bool := false             -- 1; 04 R121 | 0
  dRdi : Bool := false             -- 1; 04 R128 | 0
  dDeg : Bool := false             -- 1; 04 R130 | 0
  dExc : Bool := false             -- 1; 04 R131 | 0
  dSd : Bool := false              -- 1; 04 R131 | 0
  deg : Deg := {}                  -- 04 R130 | empty
  exc : Ber := {}                  -- 04 R131 | empty
  sd : Ber := {}                   -- 04 R131 | empty
  b3 : Nat := 0                    -- 32 saturating; 04 sdh.status | DC
  hpRei : Nat := 0                 -- 32; 04 R120 | DC
  pjInInc : Nat := 0               -- 32; 04 R114 | DC
  pjInDec : Nat := 0               -- 32; 04 R114 | DC
  pjOutInc : Nat := 0              -- 32; 04 R116 | DC
  pjOutDec : Nat := 0              -- 32; 04 R116 | DC
  offset : Nat := 0                -- VC start offset sent to the Super, 0-782; 04 R116, 06 R171 | 0
  action : Nat := 0                -- pointer action of the beat's granules; 06 R173 | 0
  sinceAdj : Nat := 4              -- beats since the last internal adjustment; 04 R116 | DC (4, so none is barred)
  clean : List Bool := []          -- clean marks of the last VC frames, newest first; 04 R123 | empty
  good : Bool := false             -- no defect since the VC frame in hand began; 04 R123 | 0
  lastB3 : Nat := 0                -- B3 violations of the last frame, for HP-REI; 04 R120 | 0
  vcPart : Option (List Byte) := none -- bytes since the last J1, while its place is known; 04 R120 | none
  vcSkip : Nat := 0                -- bytes still to come before that J1; 04 R114 | 0
  b3Last : Option Byte := none     -- BIP-8 of the previous VC frame; 04 R120 | none
  store : List Byte := []          -- ingress elastic store; 04 R116 | empty
  jumpIn : Nat := 0                -- beats until the granules take a new position; 04 R116 | 0
  jumpTo : Nat := 0                -- that position; 04 R116 | 0
  jumpAis : Bool := false          -- AIS is sent until then; 04 R134 | 0
  txPtr : Option Nat := none       -- last pointer sent, while a VC is sent; 04 R117 | none
  txSince : Nat := 4               -- frames since the last justification sent; 04 R117 | DC (4)
  txPend : List Bool := []         -- justifications held back, in order, true an increment; 04 R117 | empty
  txStore : List Byte := []        -- egress elastic store; 04 R117 | empty
  txPos : Nat := 0                 -- position in its VC of the next byte to store; 04 R120 | 0
  txBip : Byte := 0                -- parity of the VC being stored; 04 R120 | 0
  txB3 : Byte := 0                 -- BIP-8 of the previous VC as sent; 04 R120 | 0
  txTail : List Byte := []         -- bytes of the last pointer's period for rows 1 to 3 of the next frame; 04 R117 | empty
  j1Pos : Nat := 0                 -- byte of the transmit trace; 04 R112 | DC
  deriving DecidableEq, Repr

/-! ### CPRI ports (05) -/

/-- L1 synchronisation states (R140). -/
inductive L1State where
  | hunt | verify | hfnSync | bfnSync
  deriving DecidableEq, Repr

/-- What a CPRI port sends in a beat (R139, R143, R144, R156, R158): frame labels at its start, control words, the bytes of each egress
AxC, and the stream of a broad port with the places of its K28.5. -/
structure CpriTx where
  active : Bool := false
  idle : Bool := false
  bfn : Nat := 0
  hfn : Nat := 0
  bf : Nat := 0
  version : Nat := 0
  z66 : Nat := 0
  ptr : Nat := 0
  l1 : Nat := 0
  seed : Nat := 0
  iq : Tbl (List Byte) := []
  stream : List Byte := []
  marks : List Nat := []
  deriving DecidableEq, Repr

/-- A line port in CPRI use. -/
structure CpriPort where
  cfg : CpriPortArgs := ⟨0, 0, 0, 0, 2, 2, 0, 0, 0, 1⟩ -- 05 cpri.port | defaults of the table
  everEnabled : Bool := false      -- 1; 06 R178 | 0
  state : L1State := .hunt         -- 2; 05 R140 | hunt
  hfn : Nat := 0                   -- last HFN; 05 R140 | DC
  bfn : Nat := 0                   -- last BFN; 05 R140 | DC
  hfnNext : Nat := 0               -- expected HFN; 05 R141 | DC
  bfnNext : Nat := 0               -- expected BFN; 05 R140 | DC
  bfnRun : Nat := 0                -- HFN-0 hyperframes with b, b+1; 05 R140 | 0
  bfnBad : Nat := 0                -- radio frames with a wrong BFN in a row; 05 R140 | 0
  missK : Nat := 0                 -- hyperframes without K28.5 in a row; 05 R140 | 0
  outBeats : Nat := 0              -- beats outside sync in a row; 05 R146 | 0
  inBeats : Nat := 0               -- beats in sync in a row; 05 R146 | 0
  dLof : Bool := false             -- 1; 05 R146 | 0
  l1 : Nat := 0                    -- 8 accepted Z.130.0; 05 cpri.status | DC
  l1Run : Run := {}                -- 05 cpri.status | 0
  rai : Hold := {}                 -- bit 1; 05 R146 | 0
  sdi : Hold := {}                 -- bit 2; 05 R146 | 0
  rlos : Hold := {}                -- bit 3; 05 R146 | 0
  rlof : Hold := {}                -- bit 4; 05 R146 | 0
  rst : Hold := {}                 -- bit 0; 05 R146 | 0
  dRai : Bool := false             -- 1; 05 R146 | 0
  dSdi : Bool := false             -- 1; 05 R146 | 0
  dRlos : Bool := false            -- 1; 05 R146 | 0
  dRlof : Bool := false            -- 1; 05 R146 | 0
  dRst : Bool := false             -- 1; 05 R146 | 0
  verRun : Run := {}               -- 05 R143 | 0
  version : Nat := 0               -- 8 accepted Z.2.0; 05 R143 | DC
  z66Run : Run := {}               -- 05 R143 | 0
  z66 : Nat := 0                   -- 8 accepted Z.66.0; 05 R143 | DC
  ptrRun : Run := {}               -- 05 R143 | 0
  rxPtr : Nat := 0                 -- 8 accepted Z.194.0; 05 R143 | DC
  dVer : Bool := false             -- 1; 05 R146 | 0
  hfnOnly : Nat := 0               -- hyperframes in HFNSYNC since it was entered, to 300; 05 R146 | 0
  dLbf : Bool := false             -- 1; 05 R146 | 0
  dFrq : Bool := false             -- 1; 05 R146 | 0
  dAxf : Bool := false             -- 1; 05 R146 | 0
  axfGood : Nat := 0               -- beats within 1 ppm in a row; 05 R146 | 0
  rxOffset : Int := 0              -- 0.1 ns; 05 R153 | DC
  rxValid : Bool := false          -- 1; 05 R153 | 0
  bfnValid : Bool := false         -- 1; 05 R153 | 0
  offsetSec : Option (Int × Bool) := none -- offset at the last second boundary, and its bfn_valid; 05 R146, R153 | none
  drift : Int := 0                 -- 0.1 ns per second; 05 cpri.status | DC
  seed : Nat := 0                  -- received scrambler seed; 05 R145 | DC
  hfSlips : Nat := 0               -- 32 saturating; 05 R141 | DC
  kMisplaced : Nat := 0            -- 32 saturating; 05 R142 | DC
  broadMismatch : Nat := 0         -- 32 saturating; 05 R159 | DC
  storeSlips : Nat := 0            -- 32 saturating; 05 R157 | DC
  primed : Bool := false           -- broad egress store primed; 05 R157 | 0
  primeBeats : Nat := 0            -- beats received while it is primed; 05 R157 | 0
  primeWords : Nat := 0            -- words received in them; 05 R157 | 0
  storeFill : Int := 0             -- fill less centre, 1e-9 words; 05 R157 | 0
  sumNow : Nat × Nat := (0, 0)     -- words and beats of the radio frame in hand; 05 R157 | 0
  sums : List (Nat × Nat) := []    -- words and beats of the last 100 radio frames; 05 R157 | empty
  idle : Bool := false             -- idle hyperframes are sent; 05 R158 | 0
  hfPos : Option Nat := none       -- bytes since the last hyperframe start of the stream; 05 R156 | none
  hfFrac : Int := 0                -- part of a word, 1e-9 words; 05 R158 | 0
  lastHfn : Nat := 0               -- HFN carried last; 05 R158 | DC
  lastBfn : Nat := 0               -- BFN carried last; 05 R158 | DC
  tx : CpriTx := {}                -- what the port sends in the beat in hand; 05 R139, R143, R156 | nothing
  resetLeft : Nat := 0             -- hyperframes of reset request or acknowledge to send; 05 R144 | 0
  resetRun : Nat := 0              -- basic frames sent since they began; 05 R144 | 0
  held : List Group := []          -- code groups from the candidate or hyperframe position on, not yet taken; 05 R140 | empty
  rxStore : List Byte := []        -- ingress store; 05 R154, R161 | empty
  rxMarks : List Nat := []         -- places in it of hyperframe starts; 05 R155 | empty
  rxLabel : Nat := 0               -- label of its first basic frame, 0-38,399; 05 R163 | DC
  rxReady : Bool := false          -- it gives a beat's bytes; 05 R154 | 0
  rxMeas : List Int := []          -- measurements of the radio frame in hand, 0.1 ns; 05 R152 | empty
  rxAt : Nat := 0                  -- one more than the beat of the last mean; 05 R153 | 0
  cmBuf : List (Nat × Bool × List Byte) := [] -- flight, received under dLOF, control words of the last hyperframes; 05 R150 | empty
  cmMark : Tbl Nat := []           -- per group, one more than the first beat of the flight recorded last; 05 R150 | none
  loopQ : List (Bool × Byte) := [] -- what was sent and not yet received in near-end loopback; 03 R89 | empty
  cm : CpriCmArgs := ⟨0, 0, 0, 0x7E, 0x00, 0⟩ -- 05 cpri.cm | idle bytes of the table; masks and port DC
  cmDropped : Nat := 0             -- 32; 05 R151 | 0
  cmUnderrun : Nat := 0            -- 32; 05 R151 | 0
  cmQueue : Tbl (List (List Byte)) := [] -- up to 2 records per group; 05 R151 | empty
  cmSent : Tbl (List Byte) := []   -- bytes of the last egress flight, per group; 05 R151 | empty
  deriving DecidableEq, Repr

/-- An AxC of a port in one direction (R160-R168). -/
structure Axc where
  cfg : CpriAxcArgs := ⟨0, 0, 0, 1, 0, 0, 0, 0⟩ -- 05 cpri.axc | disabled; positions DC
  fill : Int := 0                  -- a, 0.01 ns; 05 R163 | DC
  ref : Int := 0                   -- receive offset of the ingress port that it stands for, 0.1 ns; 05 R164 | DC
  armed : Bool := false            -- a slip is armed; 05 R164 | 0
  bfShift : Nat := 0               -- 0-38,399; 05 R163 | DC
  failed : Bool := false           -- cells carry SSF or AIS; 05 R165 | 0
  realign : Bool := false          -- realignment due; 05 R165 | 0
  slipsRepeat : Nat := 0           -- 32 saturating; 05 R164 | DC
  slipsDrop : Nat := 0             -- 32 saturating; 05 R164 | DC
  realigns : Nat := 0              -- 32 saturating; 05 R165 | DC
  deriving DecidableEq, Repr

/-! ### Comb (06) -/

/-- A granule (R169, R171): its header fields and its 783 payload bytes (fewer are followed by 0x00). -/
structure Granule where
  offset : Nat := 0
  ndf : Bool := false
  action : Nat := 0
  ais : Bool := false
  uneq : Bool := false
  ssf : Bool := false
  ssd : Bool := false
  twinClean : Bool := false
  fillerOnly : Bool := false
  ptype : Nat := 0
  combBip : Byte := 0
  originPort : Nat := 511
  originG : Nat := 0
  tag : Nat := 0
  filler : Nat := 0
  jbyte : Byte := 0
  failMap : List Nat := []
  payload : List Byte := []
  deriving DecidableEq, Repr

/-- A Brood cell as it leaves the Brood: its 9 bytes and its failed mark (R170, R175). -/
structure Cell where
  bytes : List Byte := []
  failed : Bool := true
  deriving DecidableEq, Repr

/-- A Brood connection (R181): source cell, or none, and the kind given. -/
structure BroodConn where
  src : Option Nat := none
  axcKind : Bool := false
  deriving DecidableEq, Repr

/-- Counters of one Super port (R174, R176). -/
structure PortCount where
  bip : Nat := 0                   -- 32 saturating; 06 R174 | DC
  late : Nat := 0                  -- 32 saturating; 06 R176 | DC
  bipRun : Nat := 0                -- beats with a mismatch in a row; 12 R373 | 0
  bipNow : Bool := false           -- mismatch in this beat; 12 R373 | 0
  deriving DecidableEq, Repr

/-- A Comb memory region (R189-R192). -/
structure Region where
  state : Nat := 0                 -- 0 normal, 1 rotating, 2 spare in permanent service, 3 failed; 06 comb.status | 0
  step : Nat := 0                  -- 5 times the bank in hand, 0-35; 06 R191 | 0
  start : Nat := 0                 -- 48 beat t of the bank in hand; 06 R191, 01 R30 | DC
  badBank : Option Nat := none     -- bank that failed its march test; 06 R192 | none
  eccCorrected : Nat := 0          -- 32 saturating; 06 R190 | DC
  eccUncorrected : Nat := 0        -- 32 saturating; 06 R190 | DC
  deriving DecidableEq, Repr

/-- A PRBS stream of a service port (R194). -/
structure Stream where
  firstG : Nat := 0                -- 8; 06 comb.test | DC
  width : Nat := 1                 -- 8; 06 comb.test | DC
  mode : Nat := 0                  -- 2; 06 comb.test | DC
  pattern : Nat := 0               -- 6; 06 comb.test | DC
  locked : Bool := false           -- 1; 06 R194 | 0
  bits : Nat := 0                  -- 48; 06 R194 | DC
  errors : Nat := 0                -- 32; 06 R194 | DC
  unavailable : Nat := 0           -- 32; 06 R194 | DC
  inject : Nat := 0                -- pattern bits to invert; 06 R194 | 0
  gen : Nat := 0                   -- generator register, 0 before its first beat; 06 R194, 03 R90 | 0
  out : List Byte := []            -- pattern bytes of the beat; 06 R194 | empty
  ref : Nat := 0                   -- analyser register; 03 R91 | DC (0)
  rx : List Byte := []             -- pattern bytes received in the last beat; 06 R194, 03 R91 | empty
  errs : List Nat := []            -- how many bits ago each of the last 63 errors came; 03 R91 | empty
  broken : Bool := false           -- 64 errors fell within 1,024 bits; 03 R91 | 0
  deriving DecidableEq, Repr

/-- The monitor tap (R195). -/
structure Tap where
  state : Nat := 0                 -- 0 idle, 1 armed, 2 running, 3 done; 06 comb.tap | 0
  mask : Nat := 0                  -- 8; 06 comb.tap | DC
  beats : Nat := 0                 -- 13; 06 comb.tap | DC
  bar2 : Nat := 0                  -- 28; 06 comb.tap | DC
  startBeat : Nat := 0             -- 48; 06 comb.tap | DC
  first : Nat := 0                 -- 48 first_beat; 06 comb.tap | DC
  done : Nat := 0                  -- beats captured; 06 R195 | 0
  written : Nat := 0               -- 32 records; 06 comb.tap | 0
  deriving DecidableEq, Repr

structure Comb where
  superConn : Tbl (Option Nat) := []    -- per Super output slot; 06 R181 | no connection (DC)
  broodConn : Tbl BroodConn := []       -- per Brood output cell; 06 R181 | no connection (DC)
  superIn : Tbl Granule := []           -- granules that the units deliver this beat; 06 R172 | empty
  superOut : Tbl Granule := []          -- granules delivered to connected outputs in the last beat; 06 R185 | empty
  broodOut : Tbl Cell := []             -- cells delivered to connected outputs in the last beat; 06 R183 | empty
  changed : List (Nat × Option Nat) := [] -- output slots written at this boundary, with their source before it; 06 R186 | empty
  eccSlots : List Nat := []             -- outputs in uncorrectable error this beat; 06 R190 | empty
  eccCells : List Nat := []             -- cells in uncorrectable error this beat; 06 R190 | empty
  eccConns : List Nat := []             -- connection entries in error this beat; 06 R190 | empty
  ports : Tbl PortCount := []           -- per Super port; 06 comb.status | 0
  regions : Tbl Region := []            -- per region of R189; 06 R189 | normal
  streams : Tbl Stream := []            -- key 64 (port - 416) + stream; 06 R194 | off
  tap : Tap := {}                       -- 06 R195 | idle
  deriving DecidableEq, Repr

/-! ### Nurse units (07) -/

/-- A Brood port granule's use (R197), keyed 192 b + g of its first granule. -/
structure NurseVc where
  cfg : NurseVcArgs := ⟨0, 0, 0, 0, 0, 0, 0, 2, 0⟩ -- 07 nurse.vc | disabled, tx_c2 0x02; others DC
  lom : Lom := {}                  -- 07 R201 | in multiframe
  inAis : Bool := false            -- 1; 07 nurse.status | 0
  inSsf : Bool := false            -- 1; 07 nurse.status | 0
  fresh : Bool := false            -- first beat after the enable: ndf 1; 07 R202 | 0
  part : Option (List Byte) := none -- bytes of the VC frame in hand, since its J1; 07 R200 | none
  partAt : Nat := 0                -- when that J1 arrived, payload positions since beat 0; 07 R205 | 0
  deriving DecidableEq, Repr

/-- The bytes of a tributary in one VC frame, its place in the TU multiframe, and when the VC's J1 arrived (R180, R203). -/
structure TuFrame where
  phase : Nat
  start : Nat
  bytes : List Byte
  deriving DecidableEq, Repr

/-- What the state entry of a tributary publishes for a period (R205): when V5 or J1 stands, whether it jumped, and the VC bytes of the
period with the place of a V5 or J1 among them. -/
structure TuPub where
  seq : Nat
  place : Nat
  jump : Bool
  v5 : Nat
  bytes : List Byte
  deriving DecidableEq, Repr

/-- A low-order tributary (R203-R214), keyed (192 b + g)·256 + tu. -/
structure NurseTu where
  cfg : NurseTuArgs := ⟨0, 0, 0, 0, 0, 2, 2, 4, 7, 3, 200, 6, 0, 0, List.replicate 15 0, List.replicate 15 0⟩ -- 07 nurse.tu | defaults of the text; others DC
  ptr : Ptr := {}                  -- 07 R204, 04 R114 | LOP, pointer 0
  labelRun : Run := {}             -- 07 R208 | 0
  label : Option Nat := none       -- V5 label or C2 accepted; 07 R208 | none
  extBits : List Bool := []        -- K4 bit 1 history, oldest first; 07 R210 | empty
  extRun : Run := {}               -- 07 R210 | 0
  ext : Option Nat := none         -- accepted extended label; 07 R210 | none
  erdiRun : Run := {}              -- 07 R208 | 0
  erdi : Nat := 0                  -- accepted K4 bits 5-7; 07 R208 | DC
  rdi : Hold := {}                 -- 07 R211 | 0
  rfi : Hold := {}                 -- 07 R211 | 0
  j2 : TraceRx := {}               -- 07 R208 | empty
  n2 : Nat := 0                    -- 8; 07 R208 | DC
  dUneq : Bool := false            -- 1; 07 R209 | 0
  dPlm : Bool := false             -- 1; 07 R209 | 0
  dTim : Bool := false             -- 1; 07 R211 | 0
  dRdi : Bool := false             -- 1; 07 R211 | 0
  dRfi : Bool := false             -- 1; 07 R211 | 0
  dDeg : Bool := false             -- 1; 07 R212 | 0
  dExc : Bool := false             -- 1; 07 R212 | 0
  dSd : Bool := false              -- 1; 07 R212 | 0
  deg : Deg := {}                  -- 07 R212 | empty
  exc : Ber := {}                  -- 07 R212 | empty
  sd : Ber := {}                   -- 07 R212 | empty
  bip : Nat := 0                   -- 32 saturating; 07 nurse.status | DC
  lpRei : Nat := 0                 -- 32 saturating; 07 nurse.status | DC
  pjInInc : Nat := 0               -- 16 saturating; 07 nurse.status | DC
  pjInDec : Nat := 0               -- 16 saturating; 07 nurse.status | DC
  pjOutInc : Nat := 0              -- 16 saturating; 07 nurse.status | DC
  pjOutDec : Nat := 0              -- 16 saturating; 07 nurse.status | DC
  viol : Nat := 0                  -- BIP violations of the last period, for REI; 07 R208 | 0
  justify : Int := 0               -- justification of the period, in the state entry; 07 R205 | 0
  txPtr : Nat := 0                 -- last pointer sent; 07 R206 | 0
  txNdf : Bool := false            -- NDF due after a change of source; 07 R206 | 0
  txSince : Nat := 4               -- periods since the last justification sent; 07 R206 | DC (4)
  txWord : Nat := 0                -- pointer word of the last period sent; 07 R206, R207 | 0
  txV5 : Nat := 0                  -- V5 of the last period sent; 07 R208 | 0
  txAis : Bool := false            -- 1; 07 R207 | 0
  txUneq : Bool := false           -- 1; 07 R207 | 0
  txK4 : Nat := 0                  -- K4, or G1 of a TU-3, of the last period sent; 07 R208 | 0
  txOn : Bool := false             -- the store follows a source; 07 R206 | 0
  txRaw : Bool := false            -- the cells have no state entry and pass as they come; 07 R205 | 0
  txSeen : Nat := 0                -- the last state entry taken; 07 R205 | 0
  txStore : List Byte := []        -- egress elastic store; 07 R206 | empty
  txPos : Nat := 0                 -- place in the VC of the next byte stored; 07 R206 | 0
  txPar : Byte := 0                -- parity of the VC being stored; 07 R208 | 0
  txPrev : Byte := 0               -- parity of the VC before; 07 R208 | 0
  txTail : List Byte := []         -- bytes of the period that follow its last pointer byte; 07 R203 | empty
  txFrames : List (List Byte) := [] -- bytes of the TU in the beats of its period; 07 R206 | empty
  rx : List TuFrame := []          -- frames not yet interpreted, oldest first; 07 R204 | empty
  vcPart : Option (List Byte) := none -- bytes since V5 or J1; 07 R208 | none
  vcSkip : Nat := 0                -- bytes before an awaited V5 or J1; 07 R204 | 0
  bipLast : Option Byte := none    -- parity of the VC before; 07 R208 | none
  pubs : List TuPub := []          -- state entries of the last 4 periods, newest first; 07 R205 | empty
  j2Pos : Nat := 0                 -- byte of the transmit trace; 07 R208 | DC
  deriving DecidableEq, Repr

/-- One AxC of an AxC-over-VCAT group (R217-R225). -/
structure AxvAxc where
  rate : Nat := 0                  -- 1/65,536 byte per beat; 07 R219 | DC
  acc : Nat := 0                   -- 07 R219 | 0
  count : Nat := 0                 -- bytes of the beat; 07 R219 | 0
  playSlips : Nat := 0             -- 32 saturating; 07 R225 | DC
  ctrlErrors : Nat := 0            -- 32 saturating; 07 R223 | DC
  slipNow : Bool := false          -- late or early container in this beat; 07 R225 | 0
  slipBeats : Nat := 0             -- beats with one in a row; 07 R225 | 0
  cleanBeats : Nat := 0            -- beats without one in a row; 07 R225 | 0
  dPlay : Bool := false            -- 1; 07 R225 | 0
  buf : List Byte := []            -- map buffer; 07 R219 | empty
  asm : Option (Nat × List Bool) := none -- label and bits of the container in hand; 07 R224 | none
  store : List (Nat × List Bool) := [] -- containers in the play-out buffer by label; 07 R224 | empty
  last : List Bool := []           -- the container released last; 07 R225 | empty
  out : List Byte := []            -- bytes released in the beat; 07 R224 | empty
  slips : Nat := 0                 -- late containers not yet counted; 07 R225 | 0
  earlies : Nat := 0               -- early containers not yet counted; 07 R225 | 0
  margin : Int := 0                -- least margin of the last radio frame, 0.1 ns; 07 R225 | DC (0)
  marginNow : Option Int := none   -- least margin of the radio frame in hand; 07 R225 | none
  lost : Bool := true              -- no valid, clean record in the beat: its cells are failed; 07 R223, R226 | 1
  deriving DecidableEq, Repr

/-- The VC frame in hand of a demap group's member: its bytes since J1, and whether a granule of it had ais or ssf (R223). -/
structure VcPart where
  bytes : Option (List Byte) := none
  bad : Bool := false
  deriving DecidableEq, Repr

/-- An AxC-over-VCAT group (R215), keyed (2 b + dir)·192 + g0. -/
structure Axv where
  cfg : NurseAxvArgs := ⟨0, 0, 0, 0, 0, 0, 0, 0, 0, []⟩ -- 07 nurse.axcvcat | disabled; others DC
  axcs : Tbl AxvAxc := []          -- per AxC; 07 R217 | empty
  parts : Tbl VcPart := []         -- per member of a demap group; 07 R223 | empty
  deriving DecidableEq, Repr

structure Nurse where
  vcs : Tbl NurseVc := []          -- 07 R197 | no use
  tus : Tbl NurseTu := []          -- 07 R208 | defaults
  axvs : Tbl Axv := []             -- 07 R215 | none
  deriving DecidableEq, Repr

/-! ### Delay pools (08, 15) -/

/-- A member or copy of a pool entry (R240-R250). -/
structure Member where
  isIn : Bool := false             -- multiframe process; 08 R240 | OUT
  next : Nat := 0                  -- number of the frame that starts next, 0-4,095, by its count; 08 R240 | DC (0)
  start : Nat := 0                 -- when the newest J1 arrived, payload positions since beat 0; 08 R242 | DC (0)
  arrival : Nat := 0               -- the same of its frame 0, modulo 4,096 frames, while IN; 08 R242 | DC (0)
  mfi1 : Option Nat := none        -- MFI1 received last; 08 R240 | none
  mfi2 : Option Nat := none        -- MFI2 received last; 08 R240 | none
  hi : Nat := 0                    -- MFI2 bits 7:4 of the multiframe; 08 R240 | DC (0)
  delta : Nat := 0                 -- what its count lacks to the frame number received, while OUT; 08 R240 | 0
  follow1 : Nat := 0               -- frames in a row in which MFI1 followed; 08 R240 | 0
  follow2 : Nat := 0               -- multiframes in a row in which MFI2 incremented; 08 R240 | 0
  break1 : Nat := 0                -- frames in a row in which MFI1 broke its count; 08 R240 | 0
  break2 : Nat := 0                -- multiframes in a row in which MFI2 broke its count; 08 R240 | 0
  dead : Nat := 0                  -- beats in a row with ais, ssf or uneq, up to 8; 08 R240 | 0
  outFrames : Nat := 0             -- frames in OUT, up to 8; 08 R241 | 0
  dLom : Bool := false             -- 1; 08 R241 | 0
  sqRun : Run := {}                -- 08 R241 | 0
  sq : Option Nat := none          -- accepted SQ; 08 R241 | none
  dSqm : Bool := false             -- 1; 08 R241 | 0
  late : Bool := false             -- copy's late flag; 08 R250 | 0
  sqHi : Nat := 0                  -- SQ bits 7:4 of the multiframe; 08 R241 | DC (0)
  deriving DecidableEq, Repr

/-- A record of one write-side granule (R232): the granule with its header (the clean mark among it), the beat it arrived in, the
number of the first VC frame that starts in it or after it, and whether its write was dropped (R238). -/
structure PoolRec where
  g : Granule := {}
  beat : Nat := 0
  num : Nat := 0
  drop : Bool := false
  deriving DecidableEq, Repr

/-- A pool entry (R229), keyed by its first slot. -/
structure PoolEntry where
  cfg : PoolCfg := .delay ⟨0, 1, 0, 0, 1, 1⟩ -- 08 pool.delay, pool.group, pool.twin | disabled; others DC
  used : Bool := false             -- an entry stands at this slot; 08 R229 | 0
  state : Nat := 0                 -- 0 disabled, 1 acquiring, 2 aligned, 3 bypass, 4 channel down; 08 pool.status | 0
  members : Tbl Member := []       -- 08 R240 | OUT
  dLoa : Bool := false             -- 1; 08 R242 | 0
  farMf : Nat := 0                 -- VCAT multiframes in a row beyond max_diff, up to 2; 08 R242 | 0
  nearMf : Nat := 0                -- VCAT multiframes in a row within max_diff, up to 2; 08 R242 | 0
  selB : Bool := false             -- copy B selected; 08 pool.status | 0
  outAis : Bool := false           -- output AIS in the beat; 08 pool.status | 0
  sinceAdj : Nat := 4              -- beats since the last adjustment; 08 R244 | DC (4)
  adjusts : Nat := 0               -- adjustments sent; 08 R244 | DC
  clean : Nat := 0                 -- beats the preferred copy was free in bypass; 08 R253 | 0
  returning : Bool := false        -- re-acquiring in the pool while in bypass; 08 R255 | 0
  framesA : Nat := 0               -- 32 saturating; 08 R249 | DC
  framesB : Nat := 0               -- 32 saturating; 08 R249 | DC
  neither : Nat := 0               -- 32 saturating; 08 R249 | DC
  realigns : Nat := 0              -- 32 saturating; 08 R245 | DC
  lateFrames : Nat := 0            -- 32 saturating; 08 R250 | DC
  singleFrames : Nat := 0          -- 32 saturating; 08 R238 | DC
  ptypeReject : Nat := 0           -- 32 saturating; 08 R233 | DC
  ring : List (List PoolRec) := [] -- records held per beat and write slot, newest first; 08 R232 | empty
  left : Nat := 0                  -- beats of a plain delay's start left; 08 R251 | 0
  ref : Nat := 0                   -- reference member or copy at acquisition; 08 R244 | DC (0)
  follow : Nat := 0                -- the copy whose justifications the output follows; 08 R250 | DC (0)
  base : Int := 0                  -- positions from its frame to the output's at a lag of 0; 08 R244, R250 | DC (0)
  hit : Nat := 0                   -- 2: this beat is AIS; 1: new position, NDF; 08 R245, R252 | 0
  outOffset : Nat := 0             -- output offset; 08 R243 | DC
  outAction : Nat := 0             -- pointer action of the next output beat; 08 R244 | 0
  outFrame : Nat := 0              -- frame in progress at the start of the output beat; 08 R243 | DC
  picks : List (Nat × Bool × Bool) := [] -- frames decided and not yet sent: number, copy B, neither clean; 08 R249 | empty
  ssdNow : Bool := false           -- the frame in progress is one of neither clean copy; 08 R249 | 0
  aisLeft : Nat := 0               -- beats of AIS left on leaving bypass; 08 R255 | 0
  deriving DecidableEq, Repr

/-- A DDR5 channel (R252-R254, R483-R489). -/
structure Channel where
  state : Nat := 3                 -- 0 in service … 5 ready; 08 R254 | 3 off (empty channel, R483)
  cause : Nat := 0                 -- 08 pool.channel | 0
  size : Nat := 0                  -- GB; 08 pool.channel | 0
  maxRate : Nat := 0               -- highest rate of the module, MT/s; 08 R234 | DC
  everOff : Bool := false          -- the module was powered off; 08 R254 | 0
  deferred : Nat := 0              -- 32 saturating refresh_deferred; 08 R237 | DC
  ranks : Nat := 0                 -- ranks of the module, 1 or 2; 15 R483 | 0 (empty channel)
  postponed : Tbl Nat := []        -- refresh commands postponed now, 0-4, by rank; 08 R237 | 0
  retrainSince : Option Nat := none -- beat in which the retraining step in hand was first deferred; 08 R237 | none
  singleCopy : Nat := 0            -- 32 saturating; 08 R238 | DC
  eccCorrected : Nat := 0          -- 32 saturating; 08 pool.channel | DC
  eccUncorrected : Nat := 0        -- 32 saturating; 08 R239 | DC
  uncSecond : Nat := 0             -- uncorrectable errors of this second; 08 R252 | 0
  temp : Option Int := none        -- 0.25 C; 15 sys.bus_status | none (no module)
  doubleRefresh : Bool := false    -- 1; 15 R489 | 0
  scrubUnc : Nat := 0              -- 32 saturating; 15 R488 | DC
  scrubbing : Bool := false        -- 1; 15 sys.bus_status | 0
  poison : List Nat := []          -- 64-byte lines of its addresses that hold the poison pattern, rising; 15 R488 | empty
  deriving DecidableEq, Repr

structure Pool where
  entries : Tbl PoolEntry := []    -- 08 R229 | none
  channels : Tbl Channel := []     -- D0-D3; 08 R254, 15 R483 | empty channels
  rate : Nat := 0                  -- data rate of all channels, MT/s; 08 R234 | 0 before boot training (DC)
  window : Option Nat := none      -- channel that holds the BAR2 window; 13 R386 | none
  waiters : List (Nat × Waiter) := [] -- pool.channel answers to come, with their channel; 08 R254 | empty
  eccNow : List Nat := []          -- read slots in uncorrectable error this beat; 08 R239 | empty
  deriving DecidableEq, Repr

/-! ### Protection (09) -/

/-- A protection group (R258-R278). -/
structure ProtGroup where
  cfg : ProtGroupArgs := ⟨0, 0, 0, 1, 0, 5, .lines 0 0⟩ -- 09 prot.group | disabled, revertive 1, holdoff 0, wtr 5; others DC
  request : Nat := 12              -- rank in force; 09 R262 | 12 (NR)
  command : Nat := 0               -- held command, 0 none; 09 R265 | 0
  sel : Bool := false              -- 0 working, 1 protection; 09 prot.status | 0
  sfW : Bool := false              -- SF-W shown; 09 R261 | 0
  sdW : Bool := false              -- SD-W shown; 09 R261 | 0
  sfP : Bool := false              -- SF-P shown; 09 R261 | 0
  sdP : Bool := false              -- SD-P shown; 09 R261 | 0
  holdW : Option Nat := none       -- hold-off beats left, working; 09 R263 | none
  holdP : Option Nat := none       -- hold-off beats left, protection; 09 R263 | none
  reqW : Nat := 0                  -- 0 none, 1 SD, 2 SF that became a request; 09 R263 | 0
  reqP : Nat := 0                  -- as reqW; 09 R263 | 0
  wtrLeft : Nat := 0               -- beats of WTR left; 09 R264 | 0
  txK1 : Nat := 0                  -- 8; 09 R268 | 0
  txK2 : Nat := 0                  -- 8; 09 R268 | 0
  bridged : Bool := false          -- 1:1 bridge in place; 09 R267 | 0
  fopIv : Bool := false            -- 1; 09 R270 | 0
  fopPm : Bool := false            -- 1; 09 R270 | 0
  fopArch : Bool := false          -- 1; 09 R270 | 0
  fopCm : Bool := false            -- 1; 09 R270 | 0
  cmBeats : Nat := 0               -- beats of channel disagreement in a row; 09 R270 | 0
  moved : Bool := false            -- selector moved at the last boundary: mark new data; 09 R266 | 0
  move : Option Bool := none       -- selector movement taken at the next boundary; 09 R266, R280 | none
  packAt : Option Nat := none      -- label of the container that a kind 5 group packs next, 0-38,399; 09 R276 | none
  waitHitless : Bool := false      -- kind 5 switch waiting for a radio frame; 09 R277 | 0
  switches : Nat := 0              -- 32 saturating; 09 prot.status | DC
  lastSwitch : Nat := 0            -- 48; 09 prot.status | DC
  deriving DecidableEq, Repr

/-! ### Performance monitoring (10) -/

/-- A bin record (R299). -/
structure Bin where
  start : Nat := 0
  tod : Nat := 0
  elapsed : Nat := 0
  flags : Nat := 0
  cnt : List Nat := [0, 0, 0, 0, 0, 0, 0, 0]
  cv : Nat := 0
  deriving DecidableEq, Repr

/-- One classified second kept for the adjustments of R295: its primitives and, per direction, whether it counts as
unavailable. -/
structure SecRec where
  sec : Nat
  prim : Prim
  neU : Bool
  feU : Bool
  deriving DecidableEq, Repr

/-- A monitored entity (R286-R303). -/
structure Mon where
  cfg : PmMonitorArgs := ⟨⟨0, 0, 0, 0⟩, 0, 0, 0xFF⟩ -- 10 pm.monitor | not monitored (DC)
  acc : Prim := {}                 -- primitives of the second in hand; 10 R287 | 0
  done : Tbl Prim := []            -- primitives of the seconds to classify, by second; 10 R290, 02 R49 | empty
  span : Prim := {}                -- primitives of a span of seconds not yet classified; 10 R296 | 0
  unavailNe : Bool := false        -- 10 R293 | 0
  unavailFe : Bool := false        -- 10 R293 | 0
  runNe : Nat := 0                 -- SESs, or non-SESs in unavailable time, in a row; 10 R293 | 0
  runFe : Nat := 0                 -- as runNe; 10 R293 | 0
  recent : List SecRec := []       -- last seconds, newest first, at most 9; 10 R295 | empty
  bin15 : Bin := {}                -- 64 bytes; 10 R297 | zero
  hist15 : List Bin := []          -- 96 of 64 bytes, newest first; 10 R297 | empty
  binDay : Bin := {}               -- 64 bytes; 10 R297 | zero
  histDay : List Bin := []         -- 7 of 64 bytes, newest first; 10 R297 | empty
  sent15 : Nat := 0                -- beat at which the last 15-minute bin that auto wrote ended; 10 R302 | 0
  sentDay : Nat := 0               -- as sent15, of the 24-hour bins; 10 R302 | 0
  alerted : List Nat := []         -- counters 0-15 that raised in their current bin; 10 R300 | empty
  deriving DecidableEq, Repr

structure Pm where
  dayStart : Nat := 0              -- 7; 10 pm.config | 0
  port : Nat := 0                  -- 1; 10 pm.config | DC
  auto : Nat := 0                  -- 2; 10 pm.config | DC
  copies : List Nat := []          -- channels that hold a copy of the bins; 15 R486 | none
  mons : Tbl Mon := []             -- at most 32,768 entities; 10 R299 | none
  profiles : Tbl (List Nat) := []  -- 64 of 16 thresholds; 10 R300 | all 0, off (DC)
  timeStep : Bool := false         -- a ToD step closes the bins at the next second; 10 R298 | 0
  acc : Tbl Prim := []             -- primitives of the beat in hand, per entity; 10 R287 | 0
  accSec : Nat := 0                -- second that the accumulated primitives belong to; 10 R290 | 0
  doneSecs : List Nat := []        -- seconds waiting for their per-second work, oldest first; 02 R49, R50, R52 | empty
  span : Option (Nat × Nat × Nat) := none -- outage span waiting: first second, seconds, beats; 10 R296 | none
  lastSpan : Option (Nat × Nat) := none -- span last classified: its first second, and the beat of the work; 10 R296 | none
  bulk : List (Waiter × PmBulkArgs) := [] -- bulk read-outs running; 10 pm.bulk | none
  deriving DecidableEq, Repr

/-! ### Scout (11) -/

/-- Qualification states of an input (R315), in the order of their codes. -/
inductive InState where
  | disabled | qualifying | wtr | qualified | failed
  deriving DecidableEq, Repr

/-- States of the system DPLL (R322), in the order of their codes. -/
inductive Dpll where
  | freerun | acquiring | locked | holdover | hand
  deriving DecidableEq, Repr

/-- A Scout input (R310-R317). -/
structure ScoutIn where
  cfg : ScoutInputArgs := ⟨0, 0, 8, 0, 0, 5, 10, 4, 0, 200, 920, 100, 1000, 0⟩ -- 11 scout.input | defaults of the table; others DC
  state : InState := .disabled     -- 3; 11 R315 | disabled
  wasFailed : Bool := false        -- failed since it was enabled; 11 R315 | 0
  failing : Bool := false          -- a fail condition holds; 11 R315 | 0
  wtrLeft : Nat := 0               -- beats; 11 R315 | 0
  suspect : Bool := false          -- 1; 11 R316 | 0
  onset : Nat := 0                 -- 48, 0 = none; 11 R317 | 0
  driftRun : Nat := 0              -- updates beyond drift_limit in a row; 11 R317 | 0
  driftOk : Nat := 0               -- updates below half of it in a row; 11 R317 | 0
  firstOver : Nat := 0             -- 48 beat of the first of those updates; 11 R317 | DC
  hardRun : Nat := 0               -- updates beyond hard_limit in a row; 11 R314 | 0
  offset : Int := 0                -- 10^-12; 11 R313 | DC
  mean10 : Int := 0                -- 10^-12; 11 R313 | DC
  drift : Int := 0                 -- 0.01 ppb/h; 11 R317 | DC
  phase : Int := 0                 -- 0.1 ns; 11 R328 | DC
  es : List Int := []              -- last 8 values of e; 11 R328 | empty
  raws : List Int := []            -- last 100 offsets measured, newest first, 10^-12; 11 R313 | empty
  means : List Int := []           -- last 36 means of 100 s, newest first, 10^-12; 11 R317 | empty
  sumOff : Int := 0                -- sum of the offsets of the 100 s in hand, 10^-12; 11 R317 | 0
  nOff : Nat := 0                  -- how many; 11 R317 | 0
  okBeats : Nat := 0               -- beats in Qualifying without a fail condition, the 10 s mean within soft_limit; 11 R315 | 0
  calmBeats : Nat := 0             -- beats with the mean within 0.9 of soft_limit, at most 480,000; 11 R316 | 0
  silent : Nat := 0                -- beats since the last edge or sample of SI0, SI1, SI18, SI19; 11 R314 | 0
  missed : Nat := 0                -- seconds in a row with the edge missing or outside pps_window; 11 R314 | 0
  lastQl : Nat := 0                -- QL of the last beat; 11 R348 source 101 | DC
  cause : Nat := 0                 -- last failure; 11 scout.input_status | 0
  failures : Nat := 0              -- 32 saturating; 11 scout.input_status | DC
  deriving DecidableEq, Repr

/-- A clock or pulse output (R342-R344). -/
structure ScoutOut where
  cfg : ScoutOutputArgs := ⟨0, 0, 0, 0, 0, 0, 0, 100⟩ -- 11 scout.output | width 100 µs; others DC
  squelched : Bool := false        -- 1; 11 R344 | 0
  held : Bool := false             -- 1, held low in the beat in hand; 11 R344 | 0
  high : Option Nat := none        -- ns that a pulse stays high from the end of the beat in hand; 11 R343 | none
  edges : List (Nat × Bool) := []  -- edges of a pulse output in the beat in hand, ns after its strobe; 11 R343 | empty
  deriving DecidableEq, Repr

/-- A bin of the thermal model (R332). -/
structure ModelBin where
  acc : Int := 0                   -- sum of the samples, from the 600th on 600 times the mean, 10^-15; 11 R332 | 0
  samples : Nat := 0               -- 11 R332 | 0
  deriving DecidableEq, Repr

/-- The stage of a reference switch (R324). -/
inductive SwStage where
  | idle | measure | buildOut
  deriving DecidableEq, Repr

structure Scout where
  sel : ScoutSelectArgs := ⟨0, 0, 1, 3, 0xB, 0xB, 0⟩ -- 11 scout.select | defaults of the table; mode, input, phase_mode DC
  dpllCfg : ScoutDpllArgs := ⟨100, 20, 30, 10, 8000, 0, 100, 200, 30, 1100⟩ -- 11 scout.dpll | defaults of the table, xo_freq 0
  inputs : Tbl ScoutIn := []       -- SI0-SI19; 11 R310 | disabled
  outputs : Tbl ScoutOut := []     -- 0-10; 11 R342 | off
  state : Dpll := .freerun         -- 3; 11 R322 | FREERUN
  freq : Option Nat := none        -- selected frequency input; 11 R320 | none
  phase : Option Nat := none       -- selected phase input; 11 R321 | none
  standing : Option Nat := none    -- standing candidate; 11 R320 | none
  stage : SwStage := .idle         -- 11 R324 | idle
  target : Option Nat := none      -- input a switch goes to; 11 R324 | none
  oldOk : Bool := false            -- the switch keeps the old reference; 11 R324 | 0
  stageBeats : Nat := 0            -- beats in the stage; 11 R324, R314 | 0
  standBeats : Nat := 0            -- beats that the standing candidate has been it; 11 R324 | 0
  tracked : Option Nat := none     -- input that was the standing candidate for 1 s when it stopped being it; 11 R324 | none
  lockBeats : Nat := 0             -- beats in a row that the lock test has held; 11 R323 | 0
  strayBeats : Nat := 0            -- beats in a row with a phase error beyond 1 us; 11 R323 | 0
  buildOut : Int := 0              -- 0.25 ns; 11 R325 | DC
  freqDiff : Int := 0              -- 0.001 ppm measured at the switch; 11 R323 | DC
  phTarget : Option Nat := none    -- input a phase change goes to; 11 R329 | none
  phEdges : Nat := 0               -- edges measured of it; 11 R329 | 0
  bw : Nat := 0                    -- mHz in force; 11 R323 | DC
  word : Int := 0                  -- 10^-15, ±200e9; 11 R307, R322 | 0 (FREERUN)
  wordNext : Option Int := none    -- hand-steered word to apply; 11 R330 | none
  samples : List (Int × Nat × Bool) := [] -- 64 phase samples; 11 R330 | empty
  handBeats : Nat := 0             -- beats since a word was written; 11 R331 | 0
  phi : Int := 0                   -- 1/8000 of 0.1 ns; 11 R304 | DC
  phiRate : Int := 0               -- 0.1 ns/s; 11 R328 | 0
  eBar : Int := 0                  -- 0.1 ns; 11 R328 | DC
  aligned : Bool := false          -- source 104 given since the change; 11 R348 | 0
  sysQl : Nat := 0xB               -- 4; 11 R319 | 0xB (freerun_ql)
  xotemp : Int := 0                -- 0.0625 C; 11 R309 | DC
  xoFault : Bool := false          -- open or shorted diode; 11 R309 | 0
  oscFault : Bool := false         -- 1; 11 R308 | 0
  model : Tbl ModelBin := []       -- 540 bins; 11 R332 | empty
  modelLoaded : Bool := false      -- 1; 11 scout.model | 0
  aging : Int := 0                 -- 10^-18 per second; 11 R333 | 0
  agingOk : Bool := false          -- 1; 11 R333 | 0
  modelAt : Option Nat := none     -- beat of the last sample of the model; 11 R332 | none
  agingLast : Option Nat := none   -- beat of the last estimate of the slope, valid or not; 11 R333 | none
  agingAt : Nat := 0               -- beat at which the slope was estimated, t_a; 11 R332 | 0
  hist : List (Int × Int × Bool) := [] -- (word, M(T), LOCKED) per second of the last 24 h, newest first; 11 R333, R334 | empty
  base : Option (Int × Int × Nat) := none -- B, mean M, t_mid in beats; 11 R334 | none
  baseSource : Nat := 0            -- 2; 11 R334 | 0
  lossBeat : Nat := 0              -- 48; 11 R334 | DC
  holdSec : Nat := 0               -- seconds in HOLDOVER; 11 scout.status | 0
  e0 : Nat := 0                    -- 0.1 ns; 11 R335 | 0
  bound : Nat := 0                 -- ns; 11 R335 | 0
  boundOver : Bool := false        -- 1; 11 R335 | 0
  tod : Nat := 0                   -- 48 seconds; 11 R340 | 0
  todValid : Bool := false         -- 1; 11 R339 | 0
  todPend : Option (Nat × Nat × Nat) := none -- at_beat, tod_sec, bfn_mode; 11 R340 | none
  bfnOffset : Nat := 0             -- 12; 02 R41, 11 R341 | DC
  deriving DecidableEq, Repr

/-! ### Hive (12) -/

structure Hive where
  cfg : HiveConfigArgs := ⟨20, 3, 4⟩ -- 12 hive.config | defaults of the table
  side : Bool := false             -- strap HV_SIDE; 12 R350, 19 R571 | strap (DC)
  lineFree : Bool := true          -- HV_TOKEN line high as driven by the mate; 12 R354 | pull-up
  token : Bool := false            -- this device drives HV_TOKEN low; 12 R354 | 0
  hvSel : Bool := false            -- HV_SEL output; 12 R354 | 0
  hvOk : Bool := false             -- HV_OK output; 12 R352 | 0
  mateOk : Bool := false           -- HV_MATE_OK input; 12 R350 | 0
  halfA : Bool := false            -- 12 R360 | 0
  halfB : Bool := false            -- 12 R360 | 0
  hdrFails : Tbl (List Bool) := [] -- last 8 headers per lane, passed?; 12 R360 | empty
  ready : Bool := false            -- this device ready; 12 R366 | 0
  mateFlags : Nat := 0             -- 32 flag bits of the mate's last header; 12 R360 | 0
  mateBeat : Nat := 0              -- beat of the mate's last header; 12 R360 | 0
  mateLanes : List Nat := []       -- lane summary of the mate; 12 R360 | empty
  differ : Tbl Nat := []           -- beats that a lane has differed; 12 R366 | 0
  heartbeat : List Nat := []       -- 32 bytes, last record received; 12 R361 | zero
  hbSeen : Bool := false           -- a record received since Wake; 12 R362 | 0
  hbMissed : Nat := 0              -- 16; 12 R379 | 0
  hbLost : Bool := false           -- heartbeat-loss decision taken; 12 R362 | 0
  hbFlight : Nat := 0              -- 32, flight of the last record; 12 R361 | zero
  hbMissAt : Nat := 0              -- one more than the beat of the last miss; 12 R362 | 0
  skews : Tbl Int := []            -- skew of each hive lane, code groups; 03 R98 | 0
  withheld : Bool := false         -- heartbeat records withheld by sting 0x22; 16 R503 | 0
  generation : Nat := 0            -- 32 mirror tickets applied since resync; 12 R361 | 0
  rxSeq : Nat := 0                 -- 32 last record in order; 12 R360 | 0
  txSeq : Nat := 0                 -- 32 last record sent; 12 R363 | 0
  sent : List (Nat × Nat × MirrorRec) := [] -- (sequence, beat, record) of the last 8 beats, newest first; 12 R365 | empty
  gap : Bool := false              -- 1; 12 R365 | 0
  resync : Bool := false           -- full resynchronisation running; 12 R376 | 0
  chunks : List MirrorRec := []    -- snapshot records received; 12 R375 | empty
  loaded : Bool := false           -- snapshot loaded; 12 R366 | 0
  buffered : List MirrorRec := []  -- records held until the snapshot is loaded; 12 R375 | empty
  incoming : List (Nat × List Change) := [] -- shadow writes of tickets not closed; 12 R364 | empty
  pendLive : List Live := []       -- class L writes for the next beat; 12 R364 | empty
  snapSeen : Bool := false         -- type 9 record received; 12 R375 | 0
  onTime : Nat := 0                -- beats with every mirrored ticket on time; 12 R366 | 0
  alignedBeats : Nat := 0          -- beats within ±2 ns of the mate; 12 R366 | 0
  joining : Option Waiter := none  -- hive.join op 1 waiting; 12 R375 | none
  joinMode : Bool := false         -- the join came from sys.mode 4; 12 hive.config | 0
  joinSnap : Nat := 0              -- 48 b_s; 12 R375 | 0
  switchPend : Option (Nat × Nat × Option Waiter) := none -- op, at_beat, command; 12 R371 | none
  released : Nat := 0              -- cause of the last release, 0 none; 12 R357 | 0
  wasActive : Bool := false        -- this device is the old active of a takeover; 12 R374 | 0
  txIdled : Bool := false          -- line transmitters idled by the Guard on releasing the token; 03 R92, 12 R354 | 0
  mateLow : Nat := 0               -- beats in a row with HV_MATE_OK low; 12 R356 | 0
  claimAt : Nat := 0               -- 48, beat of this device's last claim; 12 R355 | 0
  strobe : Int := 0                -- time of the beat strobe against HVREF, 0.25 ns; 11 R312 | 0
  txHead : List (List Byte) := []  -- code groups 0-91 sent on HL0-HL3 in this beat; 12 R360 | empty
  farRun : Tbl Nat := []           -- beats in a row that a lane showed a far-end indication; 12 R373 | 0
  farLast : Tbl Nat := []          -- one more than the last such beat of a lane; 12 R373 | 0
  farBarred : List Nat := []       -- lanes that showed one in the second before t0; 12 R373 | empty
  egressFault : Bool := false      -- 1; 12 R374 | 0
  egressOk : Bool := true          -- egress healthy; 12 R374 | 1
  bbOpen : Bool := false           -- 1; 12 R373 | 0
  bbLeft : Nat := 0                -- beats of the window left; 12 R373 | 0
  role : Role := .solo             -- 2; 12 R359 | 0
  toBeat : Nat := 0                -- 48 HV_TAKEOVER beat; 12 R379 | 0
  toCause : Nat := 0               -- 4 HV_TAKEOVER cause; 12 R379 | 0
  takeovers : Nat := 0             -- 16 saturating; 12 R379 | 0
  bounces : Nat := 0               -- 16 saturating; 12 R379 | 0
  hbLosses : Nat := 0              -- 16 saturating; 12 R379 | 0
  gaps : Nat := 0                  -- 16 saturating; 12 R379 | 0
  collisions : Nat := 0            -- 32 saturating; 12 hive.status | 0
  discarded : Nat := 0             -- 32; 12 R370 | 0
  events : Nat := 0                -- 16 sticky HV_EVENTS; 12 R378 | 0
  deriving DecidableEq, Repr

/-! ### Host ports, queues, semaphores, rings (13) -/

/-- A stored word of a queue: its data, start mark, and break mark (13 Waggle queues, R397). -/
structure QWord where
  data : Word
  start : Bool := false
  brk : Bool := false
  deriving DecidableEq, Repr

/-- The message a command queue is receiving (R590): none, one with so many words to come, or one with a bad length. -/
inductive OpenMsg where
  | closed | counted (left : Nat) | endless
  deriving DecidableEq, Repr

structure CmdQueue where
  words : List QWord := []         -- 8,192 words; 13 R389 | empty
  msg : OpenMsg := .closed         -- 13 R590 | none
  startLo : Option Word := none    -- held lower half of START; 13 R390 | none
  pushLo : Option Word := none     -- held lower half of PUSH; 13 R390 | none
  dropped : Nat := 0               -- 32 saturating; 13 R391 | 0
  flush : Bool := false            -- flush_busy and CTRL flush; 13 R391, R393 | 0
  cutThrough : Nat := 0            -- 8; 13 R393 | 0
  overflow : Bool := false         -- 1; 13 R394 | 0
  broken : Bool := false           -- 1; 13 R394 | 0
  wasFull : Bool := false          -- for source k = 7; 13 R421 | 0
  late : Nat := 0                  -- words stored when service last resumed; 13 R408 | 0 (model)
  deriving DecidableEq, Repr

structure RspQueue where
  words : List QWord := []         -- 8,192 or 32,768 words; 13 R389 | empty
  upper : Nat := 0                 -- latched upper half; 13 R390 | 0
  flush : Bool := false            -- 1; 13 R392, R393 | 0
  dropped : Nat := 0               -- 32 saturating; 13 R392 | 0
  deriving DecidableEq, Repr

/-- What the device wrote back into a descriptor (R417, R418). -/
structure DescBack where
  index : Nat
  used : Nat
  flags : Nat                      -- own 0; [3] error
  records : Nat
  beat : Nat
  deriving DecidableEq, Repr

/-- A DMA ring of a port (R415-R420). -/
structure Ring where
  base : Nat := 0                  -- 64; 13 R416 DMA_n_BASE | 0
  enable : Bool := false           -- 1; 13 R416 DMA_n_CFG [0] | 0
  pendEnable : Option Bool := none -- enable written for the next beat; 13 R416 | none
  log2 : Nat := 0                  -- 4; 13 R416 DMA_n_CFG [11:8] | 0
  tail : Nat := 0                  -- 12; 13 R416 | 0
  head : Nat := 0                  -- 12; 13 R416 | 0
  dropped : Nat := 0               -- 32 saturating; 13 R416 | 0
  halted : Bool := false           -- 1; 13 R416 | 0
  err : Nat := 0                   -- 3 RW1C; 13 R416 | 0
  cur : List (List Byte) := []     -- records packed into the current buffer; 13 R419 | empty
  wroteNow : Bool := false         -- wrote a record this beat; 13 R419 | 0
  out : List (List (List Byte)) := [] -- buffers written to the host, newest first; 13 R418 | empty
  backs : List DescBack := []      -- descriptors written back, newest first; 13 R417, R418 | empty
  deriving DecidableEq, Repr

structure WgPort where
  cmd : Tbl CmdQueue := []         -- command queues 0-3; 13 R389 | empty
  rsp : Tbl RspQueue := []         -- response queues 0-3; 13 R389 | empty
  ntf : RspQueue := {}             -- notification queue; 13 R389 | empty
  ntfSeq : Nat := 0                -- 16 sequence of the next notification; 13 R409 | DC
  version : Option (Nat × Nat) := none -- agreed version; 13 R422 | none
  linkUp : Bool := false           -- 13 R383 | DC (down until the link trains)
  perst : Bool := false            -- PEx_PERST_N held low; 19 R570 | DC
  d3hot : Bool := false            -- 14 R458 | 0
  msix : Bool := false             -- MSI-X enabled; 14 R458 | 0
  msixTable : Tbl Nat := []        -- MSI-X table, dwords; 13 R385 | 0, vector control 1 (masked): PRESUMED, PCI Express Base 4.0 (log 71)
  msixPba : List Nat := []         -- vectors held while masked; 13 R385 | empty
  sentMsix : List Nat := []        -- vectors sent, newest first; 13 R421 | empty
  session : Nat := 0               -- session_id, 0 none; 13 sys.session | 0
  lease : Nat := 1000              -- 16 ms SEM_LEASE; 13 R412 | 0x03E8
  scratch : Word := 0              -- 64 ID_SCRATCH; 13 R387 | 0
  beatHi : Nat := 0                -- latched upper half of ID_BEAT; 13 R387 | 0
  rings : Tbl Ring := []           -- rings 0-7; 13 R415 | disabled
  readData : Word := 0             -- what the last read of this port returned | model
  deriving DecidableEq, Repr

/-- Owner of a semaphore (R412). -/
inductive Owner where
  | portA | portB | keeper
  deriving DecidableEq, Repr

structure Sem where
  owner : Option Owner := none     -- 2; 13 R412 | free
  left : Nat := 0                  -- ms of lease left; 13 R413 | 0
  lastLoser : Option Owner := none -- tie record; 13 R412 | none (port A wins)
  deriving DecidableEq, Repr

/-! ### Events, Guard, Keeper (14) -/

/-- An event source (R446, R450, R461). -/
structure Src where
  prio : Nat := 0                  -- 4; 14 R461 | 0
  edge : Bool := false             -- 1; 14 R461 | 0
  target : Nat := 7                -- 3; 14 R461 | 7
  asserted : Bool := false         -- 1; 14 R461 | 0
  latch : Bool := false            -- pending latch of an edge source; 14 R450 | 0
  inService : Bool := false        -- 1; 14 R461 | 0
  signalled : Bool := false        -- signalled and not yet claimed; 14 R451 | 0
  held : Bool := false             -- held by coalescing; 14 R452 | 0
  fallen : Bool := false           -- delivered to its group's fallback; 14 R458 | 0
  deriving DecidableEq, Repr

/-- Coalescing settings and window of one port and group (R452, R463). -/
structure Coal where
  count : Nat := 1                 -- 8; 14 R463 | 1
  time : Nat := 1                  -- 14 µs; 14 R463 | 1
  isOpen : Bool := false           -- window open; 14 R452 | 0
  got : Nat := 0                   -- new pendings in the window; 14 R452 | 0
  deriving DecidableEq, Repr

structure Events where
  srcs : Tbl Src := []             -- 320 sources; 14 R446 | per R461
  evStack : Tbl (List (Nat × Nat)) := [] -- (source, priority) per target, top first, at most 16; 14 R453 | empty
  coal : Tbl Coal := []            -- key 14 port + group; 14 R463 | count 1, time 1
  fallback : Tbl Nat := []         -- per group; 14 R463 | 7
  redirect : Nat := 50             -- 10 µs; 14 R460 | 0x32
  errA : Nat := 0                  -- 2 RW1C EV_ERR of port A; 14 R460 | 0
  errB : Nat := 0                  -- 2 RW1C EV_ERR of port B; 14 R460 | 0
  deriving DecidableEq, Repr

/-- States of a keeper core (R425), in the order of their codes. -/
inductive Core where
  | working | relief | retired | failed | held
  deriving DecidableEq, Repr

/-- A fault queue entry (R432, R466). -/
structure FqEntry where
  valid : Bool := false
  code : Nat := 0
  unit : Nat := 0
  cls : Nat := 0
  isSealed : Bool := false
  first : Nat := 0
  last : Nat := 0
  repeats : Nat := 0
  deriving DecidableEq, Repr

structure Guard where
  cores : List Core := [.held, .held, .held, .held] -- GD_CORES; 14 R464 | 0x4444
  fq : Tbl FqEntry := []           -- 16 entries; 14 R432 | free
  overflow : Nat := 0              -- 32 saturating; 14 R464 | 0
  lastBeat : Nat := 0              -- 48 GD_LAST; 14 R464 | 0
  lastCode : Nat := 0              -- 8 GD_LAST; 14 R464 | 0
  lastCls : Nat := 0               -- 3 GD_LAST; 14 R464 | 0
  storm : Bool := false            -- 1; 14 R437 | 0
  keeperLost : Bool := false       -- 1; 14 R465 | 0
  autopilot : Bool := false        -- 1; 14 R465 | 0
  isHalt : Bool := false           -- 1; 14 R465 | 0
  haltCause : Nat := 0             -- 2; 14 R465 | 0
  apCause : Nat := 0               -- 2; 14 R465 | 0
  attempts : Nat := 0              -- 4; 14 R465 | 0
  attempting : Bool := false       -- a restart attempt runs; 14 R443 | 0
  stormPolicy : Nat := 0           -- 1; 14 R464 GD_POLICY | 0
  restartLimit : Nat := 3          -- 3; 14 R464 GD_POLICY | 3 (0x6)
  wdogCore : Nat := 10             -- 8 ms; 14 R464 GD_WDOG | 0x0A
  wdogCluster : Nat := 100         -- 10 ms; 14 R464 GD_WDOG | 0x64
  clusterRun : Bool := false       -- the cluster watchdog runs; 14 R430 | 0
  events : Nat := 0                -- 32 sticky GD_EVENTS; 14 R464 | 0
  apBeat : Nat := 0                -- 48 GD_AP_BEAT; 14 R464 | 0
  pipeOk : Tbl Nat := []           -- beats without overrun per unit with fault 0x06; 14 R434 | empty
  deriving DecidableEq, Repr

structure Keeper where
  present : Bool := false          -- 1 ID_STATUS keeper; 13 R388 | 0
  serving : Bool := false          -- 1 ID_STATUS serving; 13 R388 | 0
  started : Bool := false          -- Grengon runs but does not serve yet; 17 R534, R535 | 0
  fwSlot : Nat := 0                -- 1 ID_STATUS slot; 13 R388 | 0
  fwVersion : Nat := 0             -- 32 fw_version of the running image; 13 R387 | 0
  fwBuild : Nat := 0               -- 32; 13 R387 | 0
  ifVer : Nat := 0                 -- 32 ID_IFVER; 13 R387 | 0
  modeWait : Option (Nat × Waiter) := none -- sys.mode waiting for its mode; 13 sys.mode | none
  deferred : List Waiter := []     -- answers due when a save, clear or training ends | empty
  serveTurn : Nat := 0             -- port turn at equal priority; 13 R402 | model
  deriving DecidableEq, Repr

/-! ### Bus and memory (15) -/

structure Bus where
  remap : Bool := false            -- 1; 15 R473 | 0
  defaultHits : Nat := 0           -- 32 saturating; 15 R474 | DC
  timeouts : Nat := 0              -- 32 saturating; 15 R475 | DC
  sramCorrected : Nat := 0         -- 32 saturating; 15 R477 | DC
  sramUncorrected : Nat := 0       -- 32 saturating; 15 R477 | DC
  bgPasses : Nat := 0              -- 32 saturating; 15 R480 | DC
  bgLine : Nat := 0                -- 16 next line of the background test; 15 R480 | DC
  fenced : List Nat := []          -- fenced SRAM regions, rising; 15 R481 | empty
  sram : List Host.Cell := []      -- data bytes of the keeper SRAM by offset, 4 MiB; 15 R477, R478 | unlisted byte reads 0 (R482)
  sramWrong : Tbl Nat := []        -- wrong bits, 1 or 2, in a word's 72 by its number, 0 unlisted; 15 R477 | 0 (R482)
  lastMaster : Nat := 0xFF         -- 8; 15 sys.bus_status | 0xFF none
  lastKind : Nat := 0              -- 8; 15 sys.bus_status | 0 none
  lastAddr : Nat := 0              -- 40; 15 sys.bus_status | DC
  lastSealed : Bool := false       -- the target was sealed; 15 sys.bus_status | 0
  bar2 : List Host.Cell := []      -- bytes of the BAR2 window; 13 R386 | unlisted byte reads 0 (DC, log 3)
  idErr : Nat := 0                 -- 4 RW1C ID_ERR, the same for both ports; 13 R382, R387 | 0
  sramOpen : Bool := false         -- SRAM clears complete; 15 R482 | 0
  deriving DecidableEq, Repr

/-! ### Test, tally, tracers (16) -/

/-- An applied sting (R503-R505). -/
structure Sting where
  args : TestStingArgs
  left : Nat := 0                  -- occurrences to come; a held sting has 0
  waits : Bool := false            -- waits for the unit's slice to end
  due : Bool := false              -- an occurrence is on the next frame
  deriving DecidableEq, Repr

/-- The slice or hold in progress (R491-R498). -/
structure Slice where
  kind : Nat                       -- 1 forager, 2 nurse, 3 Comb region, 5 core
  index : Nat
  spare : Option Nat               -- spare unit taken; none: tested in place
  stage : Nat                      -- 1 shadow, 2 testing, 3 returning
  handover : Nat                   -- 48 beat s
  hold : Bool := false             -- op 5, no test
  toSpare : Bool := true           -- direction of the migration
  shadow : Bool := false           -- the shadow has begun
  deriving DecidableEq, Repr

structure Test where
  cycleHours : Nat := 6            -- 6; 16 test.bist | 6
  sramInterval : Nat := 40         -- 13; 16 test.bist | 40
  suspended : Bool := false        -- 16 test.bist | 0
  position : Nat := 0              -- 7; 16 test.bist | 0
  slice : Option Slice := none     -- 16 R491 | none
  f32 : Option Nat := none         -- tile F32 carries; 16 test.bist | free
  f33 : Option Nat := none         -- tile F33 carries; 16 test.bist | free
  n24 : Option Nat := none         -- unit N24 serves; 16 test.bist | free
  failedUnits : List (Nat × Nat) := [] -- (kind, index) marked failed; 16 R497 | empty
  held : List (Nat × Nat) := []    -- units kept on their spare by op 5; 16 test.bist | empty
  forSuspended : Bool := false     -- forager BIST suspended; 01 R38 | 0
  slices : Nat := 0                -- 32 saturating; 16 test.bist | 0
  failures : Nat := 0              -- 32 saturating; 16 test.bist | 0
  skips : Nat := 0                 -- 32 saturating; 16 test.bist | 0
  aborts : Nat := 0                -- 32 saturating; 16 test.bist | 0
  retries : Nat := 0               -- 32 saturating; 16 test.bist | 0
  stings : List Sting := []        -- at most 64; 16 R505 | empty
  tracerK : Nat := 0               -- 5; 16 R513 | 0 off (DC)
  tracerPort : Nat := 0            -- 1; 16 test.tracer | DC
  lfsr : Nat := 1                  -- 31; 16 R513 | DC (1)
  inFlight : List (Nat × Nat × Nat × Nat × Nat) := [] -- (id, rx lane, granule, position, beat), at most 4,096; 16 R513 | empty
  tagged : Nat := 0                -- 32; 16 test.tracer | 0
  written : Nat := 0               -- 32; 16 test.tracer | 0
  dropped : Nat := 0               -- 32; 16 test.tracer | 0
  skipped : Nat := 0               -- 32; 16 test.tracer | 0
  nextTracer : Nat := 0            -- 32; 16 R515 | DC
  deriving DecidableEq, Repr

/-- A tally counter (R506-R511). -/
structure Counter where
  count : Nat := 0                 -- 48; 16 R510 | 0
  cfg : Word := 0                  -- 64 TL_CFGn; 16 R511 | 0
  reload : Nat := 0                -- 48; 16 R510 | 0
  snap : Nat := 0                  -- 48; 16 R510 | 0
  upper : Nat := 0                 -- latched upper half; 16 R508 | 0
  deriving DecidableEq, Repr

structure Tally where
  counters : Tbl Counter := []     -- 64; 16 R510 | 0
  freeze : Bool := false           -- 1; 16 R512 | 0
  snapBeat : Nat := 0              -- 48; 16 R510 | 0
  freezeBeat : Nat := 0            -- 48; 16 R510 | 0
  ovf : List Nat := []             -- overflowed counters, rising; 16 R510 TL_OVF | empty
  ticks : Tbl Nat := []            -- events that no other count of State shows, 4096 code + unit; 16 R506 | 0
  deriving DecidableEq, Repr

/-! ### Worlds, life cycle, flash (17) -/

/-- A boot control block copy (R531). -/
structure BootBlock where
  seq : Nat := 0
  preferred : Nat := 0
  trial : Nat := 0
  tries : Nat := 0
  crcOk : Bool := false
  deriving DecidableEq, Repr

/-- A firmware slot as the boot ROM judges it (R532, R533). -/
structure Slot where
  headerOk : Bool := false         -- magic, root key and signature verify; 17 R533 | DC
  bodyOk : Bool := false           -- body hash; 17 R533 | DC
  dataOk : Bool := false           -- data hash; 17 R533 | DC
  fwVersion : Nat := 0             -- 32; 17 R532 | DC
  build : Nat := 0                 -- 32; 17 R532 | DC
  rollback : Nat := 0              -- 7; 17 R532 | DC
  nKeys : Nat := 0                 -- 3; 17 R532 | DC
  sealBlocks : List Nat := []      -- sealed register blocks of the map; 17 R532 | DC
  sealSram : List Nat := []        -- sealed SRAM regions of the map; 17 R532 | DC
  sealDdr : List Nat := []         -- sealed DDR5 regions of the map; 17 R532 | DC
  written : Nat := 0               -- bytes written by the update in hand; 17 sec.update | 0
  image : List Host.Cell := []     -- bytes of the slot; 17 R532, R537 | unlisted byte reads 0 (DC)
  deriving DecidableEq, Repr

/-- A DDR5 region (R485). -/
structure DdrRegion where
  channel : Nat := 0               -- 2; 15 R485 | DC
  base : Nat := 0                  -- units of 32 MiB; 15 R485 | DC
  size : Nat := 0                  -- units; 15 R485 | 0 (table empty after first power-up)
  isSealed : Bool := false         -- 17 R517 | open
  clearOnWake : Bool := false      -- 1; 15 R485 | DC
  clearing : Bool := false         -- clear not finished; 18 R543, 17 R520 | 0
  deriving DecidableEq, Repr

/-- A port's challenge (R522-R524). -/
structure Chal where
  isSealed : Bool := false         -- 17 R523 | open
  nonce : Option Nat := none       -- 384; 17 R522 | none
  fails : Nat := 0                 -- consecutive failures; 17 R524 | 0
  locked : Bool := false           -- 60 s lockout; 17 R524 | 0
  deriving DecidableEq, Repr

structure Sec where
  life : Nat := 0                  -- life-cycle state, OTP; 17 R525 | DC (MANUFACTURE, a blank part)
  lifePend : Option Nat := none    -- 17 R528 | none
  toggles : Nat := 0               -- entries into FIELD_DEBUG, OTP; 17 R526 | DC
  rootKey : Bool := false          -- root key hash programmed, OTP; 17 R526 | DC
  rollback : Nat := 0              -- blown rollback fuses, OTP; 17 R533 | DC
  chals : Tbl Chal := []           -- per port; 17 R522 | open
  blocks : List Nat := []          -- sealed register blocks, rising; 17 R517 | empty before Wake (DC)
  sram : List Nat := []            -- sealed SRAM regions, rising; 17 R517 | empty before Wake (DC)
  ddr : Tbl DdrRegion := []        -- 32 regions; 15 R485 | empty
  boot0 : BootBlock := {}          -- boot control block, copy 0; 17 R531 | no valid copy (DC)
  boot1 : BootBlock := {}          -- boot control block, copy 1; 17 R531 | no valid copy (DC)
  slots : Tbl Slot := []           -- firmware slots 0, 1; 17 R532 | not valid (DC)
  updState : Nat := 0              -- 0 idle, 1 writing, 2 verified, 3 trial; 17 sec.update | 0
  updPort : Nat := 0               -- port that began; 17 R536 | DC
  updBeat : Nat := 0               -- 48 beat of the last step; 17 sec.update | DC
  updDirty : Bool := false         -- data since the last verify; 17 R538 | 0
  activating : Option Waiter := none -- activate waiting for open batches; 17 R538 | none
  dataWait : Option Waiter := none -- data op in hand; 17 R537 | none
  lifeWait : Option Waiter := none -- sec.lifecycle waiting for OTP; 17 R528 | none
  worldWait : Option (Waiter × Nat × Nat) := none -- sec.world clearing: command, kind, index; 17 R520 | none
  worldQueue : List (Waiter × SecWorldArgs) := [] -- sec.world behind it, oldest first; 17 R520 | empty
  noSlot : Bool := false           -- neither slot valid, xSPI high impedance; 17 R534 | 0
  calOk : Bool := false            -- user calibration block passes; 03 R83 | DC (missing)
  calFlash : Tbl UserCal := []     -- user calibration block; 17 R530 | empty
  modelFlash : Option (Nat × Int × Tbl ModelBin) := none -- saved xo_freq, aging, bins; 17 R530 | none
  ptableFlash : Tbl PowerEntry := [] -- user power tables; 17 R530 | missing
  ptableOk : Bool := false         -- 18 R549 | DC (missing)
  saving : List (Nat × Nat × Waiter) := [] -- flash saves running: 1 cal, 2 model, 3 power, with the status due; 03 R83, 11, 18 | empty
  deriving DecidableEq, Repr

/-! ### Power (18, 19) -/

/-- A supply rail (R545-R548, R561). -/
structure Rail where
  mv : Nat := 0                    -- 16; 18 R561 | 0
  current : Nat := 0               -- 16, 10 mA; 18 R561 | 0
  uv : Bool := false               -- 1; 18 R561 | 0
  ov : Bool := false               -- 1; 18 R561 | 0
  enabled : Bool := false          -- 1; 18 R561 | 0
  good : Bool := false             -- 1; 18 R561 | 0
  uvGlitch : Nat := 0              -- filtered; 18 R547 | 0
  ovGlitch : Nat := 0              -- filtered; 18 R547 | 0
  okBeats : Nat := 0               -- beats within limits while fault 0x0F stands; 14 R434 | 0
  deriving DecidableEq, Repr

/-- Instructions of the test access port (R572): `boundary drives` is boundary scan that drives the balls, or only samples them. -/
inductive TapInstr where
  | bypass | idcode | boundary (drives : Bool)
  deriving DecidableEq, Repr

structure Power where
  cfg : PowerConfigArgs := ⟨50, 100, 2000, 7, 0⟩ -- 18 power.config | defaults of the table; power_limit DC
  seq : Nat := 0                   -- 3; 18 R560 | 0
  seqStep : Nat := 0               -- step in hand, 1-7; 18 R545 | 0
  powered : Bool := false          -- VDDAO up; 19 R582 | 0
  resetLow : Bool := true          -- RESET_N low; 19 R583 | DC (low until RESET_N_RELEASE)
  tapInstr : TapInstr := .idcode   -- test access port; 19 R572 | IDCODE (PRESUMED, log 118)
  tapShift : List Bool := []       -- its data register, first bit out first; 19 R572 | empty (log 118)
  startDue : Bool := false         -- a start that a power fail ended before power good; 19 R583 | 0
  wakeLatch : Bool := false        -- WAKE_N latched in a power-down; 19 R583 | 0
  pfw : Bool := false              -- 1 PFW_N asserted; 18 R560 | 0
  isLean : Bool := false           -- 1; 18 R560 | 0
  leanFrom : Mode := .off          -- mode Lean left; 18 R552 | DC
  leanBeats : Nat := 0             -- beats in Lean; 18 R559 | 0
  leanEntries : Nat := 0           -- 16; 18 R559 | 0
  leanOffs : Nat := 0              -- 16; 18 R559 | 0
  leanMs : Nat := 0                -- 32; 18 R559 | 0
  coresBefore : List Core := []    -- core states Lean left; 18 R552 | empty
  offCause : Nat := 0              -- 4; 18 R560 | 0 cold
  userTable : Bool := false        -- 1; 18 R560 | 0
  table : Tbl PowerEntry := []     -- entries in force; 18 R549 | factory map
  pmbusErr : Bool := false         -- 1; 18 R560 | 0
  railBad : List Nat := []         -- rails with UV or OV, rising; 18 R560 | empty
  rails : Tbl Rail := []           -- 16; 18 R561 | 0
  setpoint : Nat := 800            -- 16 mV; 18 R559 PW_AVS | 0x320
  avsM : Int := 0                  -- 16 signed ps; 18 R559 | 0
  avsHigh : Nat := 0               -- samples above 60 ps in a row; 18 R556 | 0
  avsNeg : Nat := 0                -- samples below 0 at 0.80 V in a row; 18 R556 | 0
  energy : Nat := 0                -- 64 mJ; 18 R559 | 0
  energyUj : Nat := 0              -- fraction of a mJ, µJ; 18 R557 | 0
  energyHi : Nat := 0              -- latched upper half; 18 R559 | 0
  mw : Nat := 0                    -- 32; 18 R559 PW_POWER | 0
  tj : Int := 0                    -- 16 signed 0.25 C; 18 R559 | 0
  overLimit : Bool := false        -- PW_POWER above power_limit; 18 R558 | 0
  events : Nat := 0                -- 16 sticky PW_EVENTS; 18 R559 | 0
  flashSlow : Bool := false        -- strap STRAP_FLASH; 19 R571 | strap (DC)
  testEn : Bool := false           -- strap TEST_EN; 19 R571 | strap (DC)
  deriving DecidableEq, Repr

/-! ### The state -/

structure State where
  pending : List Instr := []       -- waiting commands, first in first out | empty (model)
  fresh : Nat := 0                 -- counter of free values drawn | 0 (model, log 4)
  mode : Mode := .off              -- 4; 18 R541 | 0
  apFrom : Mode := .off            -- mode Autopilot was entered from; 14 R444 | DC
  quiesceFrom : Mode := .off       -- mode Quiesce was entered from; 17 R538 | DC
  clk : Clock := {}                -- 02, 01
  lanes : Tbl Lane := []           -- L0-L255, HL0-HL3 as 256-259; 03
  userCal : Tbl UserCal := []      -- key 4 lane + group, in force; 03 R83
  sdh : Tbl SdhPort := []          -- per lane; 04
  paths : Tbl SdhPath := []        -- key 192 lane + g; 04
  cpri : Tbl CpriPort := []        -- per lane; 05
  axcs : Tbl Axc := []             -- key 96 lane + 48 dir + axc; 05
  comb : Comb := {}                -- 06
  nurse : Nurse := {}              -- 07
  pool : Pool := {}                -- 08, 15
  prot : Tbl ProtGroup := []       -- per group; 09
  pm : Pm := {}                    -- 10
  scout : Scout := {}              -- 11
  hive : Hive := {}                -- 12
  ports : Tbl WgPort := []         -- host ports A, B; 13
  sems : Tbl Sem := []             -- SEM_0-SEM_31; 13 R412
  nextSession : Nat := 1           -- next session_id; 13 sys.session | DC
  ev : Events := {}                -- 14
  guard : Guard := {}              -- 14
  keeper : Keeper := {}            -- 13, 14
  bus : Bus := {}                  -- 15
  test : Test := {}                -- 16
  tally : Tally := {}              -- 16
  sec : Sec := {}                  -- 17
  power : Power := {}              -- 18, 19
  deriving DecidableEq, Repr

/-- The device right after the power-on reset of its always-on domain (18 R548, 19 R582): mode Off, off_cause cold,
every register at the reset value its table gives. The steps from here to Provision are commands (log 1). -/
def State.reset : State := {}

/-- No step of this block faults: the spec gives every one an effect. The type holds the one name a fault would need. -/
inductive Fault where
  /-- Raised by no meaning. Safe: it stops nothing. -/
  | none
  deriving DecidableEq, Repr

/-- Why a command has no meaning in the model. -/
inductive Refusal where
  /-- Raised by a dispatch arm only: the command has no meaning yet. Safe. -/
  | notModelled (mnemonic : String)
  /-- Raised by REGISTER_WRITE and BAR0_BAD_ACCESS on an access to the DBG_ window that FIELD_DEBUG opens to a sealed port:
  its layout "depends on the firmware build and is not part of the interface" (17 R529). Safe. -/
  | debugWindow
  deriving DecidableEq, Repr

end Sys2Proof.Machine
end

