-- ==== Sys2Proof/Machine/Ops.lean ====
section
/-!
DEFINITION. Machine/Ops.lean: the named operations that the meanings share: sparse tables and the parts of State,
saturating counts, event sources (14 R446-R458), the Guard's fault queue (14 R432-R437), messages (13 R399-R409),
DMA records (13 R419) and mode changes (18 R541).
-/

namespace Sys2Proof.Machine

open Sys2Proof

abbrev Out := Host.Outcome State Fault Refusal

/-! ### Sparse tables -/

/-- The record of unit `n`; an unlisted unit has the reset record `d`. -/
def tget {α : Type} (d : α) : Tbl α → Nat → α
  | [], _ => d
  | (k, v) :: t, n => if n = k then v else tget d t n

/-- Places the record of unit `n` so that the keys rise. -/
def tins {α : Type} (n : Nat) (v : α) : Tbl α → Tbl α
  | [] => [(n, v)]
  | (k, w) :: t => if n < k then (n, v) :: (k, w) :: t else if n = k then (n, v) :: t else (k, w) :: tins n v t

/-- Sets the record of unit `n`; a record equal to the reset record `d` is not listed. -/
def tput {α : Type} [DecidableEq α] (d : α) (t : Tbl α) (n : Nat) (v : α) : Tbl α :=
  if v = d then t.filter fun e => e.1 != n else tins n v t

/-- Every key of the table is at least `lo` and they rise; no entry equals `d`. -/
def tableFrom {α : Type} [DecidableEq α] (d : α) : Nat → Tbl α → Bool
  | _, [] => true
  | lo, (k, v) :: t => decide (lo ≤ k) && decide (v ≠ d) && tableFrom d (k + 1) t

/-- The canonical form of a table. -/
def tableWf {α : Type} [DecidableEq α] (d : α) (t : Tbl α) : Bool := tableFrom d 0 t

/-- Applies `f` to every listed record. -/
def tmap {α : Type} [DecidableEq α] (d : α) (f : Nat → α → α) (t : Tbl α) : Tbl α :=
  t.foldr (fun e acc => tput d acc e.1 (f e.1 e.2)) []

/-! ### Numbers -/

/-- Adds to a count that saturates at `w` bits. -/
def satAdd (w x n : Nat) : Nat := min (x + n) (2 ^ w - 1)

/-- Bit `i` of `x`. -/
def bit (x i : Nat) : Bool := x.testBit i

/-- `x` with bit `i` set. -/
def withBit (x i : Nat) : Nat := x ||| (2 ^ i)

/-- `x` with the bits of `m` cleared (RW1C, R10). -/
def clearBits (x m : Nat) : Nat := x - (x &&& m)

/-- Field [hi:lo] of `x`, `w` bits wide. -/
def field (x lo w : Nat) : Nat := x / 2 ^ lo % 2 ^ w

def boolNat (b : Bool) : Nat := if b then 1 else 0

/-- A number as a field of `w` bits at `lo`. -/
def at' (lo v : Nat) : Nat := v * 2 ^ lo

/-- The signed value of a field of `w` bits. -/
def signedOf (w x : Nat) : Int := if x < 2 ^ (w - 1) then x else (x : Int) - 2 ^ w

/-- A signed value kept within ±`m`. -/
def clampInt (m x : Int) : Int := max (-m) (min m x)

/-- `x` without repeats of `n`, with `n` inserted so that the list rises. -/
def insertNat (n : Nat) : List Nat → List Nat
  | [] => [n]
  | k :: t => if n < k then n :: k :: t else if n = k then k :: t else k :: insertNat n t

def natSqrt (n : Nat) : Nat := Nat.sqrt n

/-! ### Parts of State -/

def State.onClk (s : State) (f : Clock → Clock) : State := { s with clk := f s.clk }
def State.onComb (s : State) (f : Comb → Comb) : State := { s with comb := f s.comb }
def State.onNurse (s : State) (f : Nurse → Nurse) : State := { s with nurse := f s.nurse }
def State.onPool (s : State) (f : Pool → Pool) : State := { s with pool := f s.pool }
def State.onPm (s : State) (f : Pm → Pm) : State := { s with pm := f s.pm }
def State.onScout (s : State) (f : Scout → Scout) : State := { s with scout := f s.scout }
def State.onHive (s : State) (f : Hive → Hive) : State := { s with hive := f s.hive }
def State.onEv (s : State) (f : Events → Events) : State := { s with ev := f s.ev }
def State.onGuard (s : State) (f : Guard → Guard) : State := { s with guard := f s.guard }
def State.onKeeper (s : State) (f : Keeper → Keeper) : State := { s with keeper := f s.keeper }
def State.onBus (s : State) (f : Bus → Bus) : State := { s with bus := f s.bus }
def State.onTest (s : State) (f : Test → Test) : State := { s with test := f s.test }
def State.onTally (s : State) (f : Tally → Tally) : State := { s with tally := f s.tally }
def State.onSec (s : State) (f : Sec → Sec) : State := { s with sec := f s.sec }
def State.onPower (s : State) (f : Power → Power) : State := { s with power := f s.power }

def State.lane (s : State) (n : Nat) : Lane := tget {} s.lanes n
def State.onLane (s : State) (n : Nat) (f : Lane → Lane) : State := { s with lanes := tput {} s.lanes n (f (s.lane n)) }

def State.calOf (s : State) (n group : Nat) : UserCal := tget {} s.userCal (4 * n + group)
def State.setCal (s : State) (n group : Nat) (c : UserCal) : State :=
  { s with userCal := tput {} s.userCal (4 * n + group) c }

def State.sdhOf (s : State) (n : Nat) : SdhPort := tget {} s.sdh n
def State.onSdh (s : State) (n : Nat) (f : SdhPort → SdhPort) : State := { s with sdh := tput {} s.sdh n (f (s.sdhOf n)) }

def State.path (s : State) (n g : Nat) : SdhPath := tget {} s.paths (192 * n + g)
def State.onPath (s : State) (n g : Nat) (f : SdhPath → SdhPath) : State :=
  { s with paths := tput {} s.paths (192 * n + g) (f (s.path n g)) }

def State.cpriOf (s : State) (n : Nat) : CpriPort := tget {} s.cpri n
def State.onCpri (s : State) (n : Nat) (f : CpriPort → CpriPort) : State :=
  { s with cpri := tput {} s.cpri n (f (s.cpriOf n)) }

/-- Key of an AxC: lane, direction (0 ingress, 1 egress), number. -/
def axcKey (n dir axc : Nat) : Nat := 96 * n + 48 * dir + axc
def State.axc (s : State) (n dir axc : Nat) : Axc := tget {} s.axcs (axcKey n dir axc)
def State.onAxc (s : State) (n dir axc : Nat) (f : Axc → Axc) : State :=
  { s with axcs := tput {} s.axcs (axcKey n dir axc) (f (s.axc n dir axc)) }

def State.port (s : State) (p : Nat) : WgPort := tget {} s.ports p
def State.onPort (s : State) (p : Nat) (f : WgPort → WgPort) : State := { s with ports := tput {} s.ports p (f (s.port p)) }

def WgPort.cmdOf (w : WgPort) (q : Nat) : CmdQueue := tget {} w.cmd q
def WgPort.rspOf (w : WgPort) (q : Nat) : RspQueue := tget {} w.rsp q
def WgPort.ringOf (w : WgPort) (n : Nat) : Ring := tget {} w.rings n
def State.onCmdQ (s : State) (p q : Nat) (f : CmdQueue → CmdQueue) : State :=
  s.onPort p fun w => { w with cmd := tput {} w.cmd q (f (w.cmdOf q)) }
def State.onRspQ (s : State) (p q : Nat) (f : RspQueue → RspQueue) : State :=
  s.onPort p fun w => { w with rsp := tput {} w.rsp q (f (w.rspOf q)) }
def State.onRing (s : State) (p n : Nat) (f : Ring → Ring) : State :=
  s.onPort p fun w => { w with rings := tput {} w.rings n (f (w.ringOf n)) }

def State.sem (s : State) (n : Nat) : Sem := tget {} s.sems n
def State.onSem (s : State) (n : Nat) (f : Sem → Sem) : State := { s with sems := tput {} s.sems n (f (s.sem n)) }

def State.src (s : State) (n : Nat) : Src := tget {} s.ev.srcs n
def State.coalOf (s : State) (port g : Nat) : Coal := tget {} s.ev.coal (14 * port + g)
def State.onCoal (s : State) (port g : Nat) (f : Coal → Coal) : State :=
  s.onEv fun e => { e with coal := tput {} e.coal (14 * port + g) (f (s.coalOf port g)) }

def State.vcOf (s : State) (b g : Nat) : NurseVc := tget {} s.nurse.vcs (192 * b + g)
def State.onVc (s : State) (b g : Nat) (f : NurseVc → NurseVc) : State :=
  s.onNurse fun x => { x with vcs := tput {} x.vcs (192 * b + g) (f (s.vcOf b g)) }

def tuKey (b g tu : Nat) : Nat := (192 * b + g) * 256 + tu
def State.tuOf (s : State) (b g tu : Nat) : NurseTu := tget {} s.nurse.tus (tuKey b g tu)
def State.onTu (s : State) (b g tu : Nat) (f : NurseTu → NurseTu) : State :=
  s.onNurse fun x => { x with tus := tput {} x.tus (tuKey b g tu) (f (s.tuOf b g tu)) }

def axvKey (b dir g0 : Nat) : Nat := (2 * b + dir) * 192 + g0
def State.axvOf (s : State) (b dir g0 : Nat) : Axv := tget {} s.nurse.axvs (axvKey b dir g0)
def State.onAxv (s : State) (b dir g0 : Nat) (f : Axv → Axv) : State :=
  s.onNurse fun x => { x with axvs := tput {} x.axvs (axvKey b dir g0) (f (s.axvOf b dir g0)) }
def Axv.axcOf (v : Axv) (i : Nat) : AxvAxc := tget {} v.axcs i
def State.onAxvAxc (s : State) (b dir g0 i : Nat) (f : AxvAxc → AxvAxc) : State :=
  s.onAxv b dir g0 fun v => { v with axcs := tput {} v.axcs i (f (v.axcOf i)) }

def State.entry (s : State) (s0 : Nat) : PoolEntry := tget {} s.pool.entries s0
def State.onEntry (s : State) (s0 : Nat) (f : PoolEntry → PoolEntry) : State :=
  s.onPool fun x => { x with entries := tput {} x.entries s0 (f (s.entry s0)) }
def PoolEntry.memberOf (e : PoolEntry) (i : Nat) : Member := tget {} e.members i
def State.onMember (s : State) (s0 i : Nat) (f : Member → Member) : State :=
  s.onEntry s0 fun e => { e with members := tput {} e.members i (f (e.memberOf i)) }
def State.chan (s : State) (n : Nat) : Channel := tget {} s.pool.channels n
def State.onChan (s : State) (n : Nat) (f : Channel → Channel) : State :=
  s.onPool fun x => { x with channels := tput {} x.channels n (f (s.chan n)) }

def State.group (s : State) (n : Nat) : ProtGroup := tget {} s.prot n
def State.onGroup (s : State) (n : Nat) (f : ProtGroup → ProtGroup) : State :=
  { s with prot := tput {} s.prot n (f (s.group n)) }

/-- Key of a monitored entity (R299): type, unit, granule, tributary. -/
def entKey (e : Entity) : Nat := ((e.type * 65536 + e.unit) * 256 + e.g) * 256 + e.tu
def State.mon (s : State) (e : Entity) : Mon := tget {} s.pm.mons (entKey e)
def State.onMon (s : State) (e : Entity) (f : Mon → Mon) : State :=
  s.onPm fun x => { x with mons := tput {} x.mons (entKey e) (f (s.mon e)) }

def State.inp (s : State) (n : Nat) : ScoutIn := tget {} s.scout.inputs n
def State.onInp (s : State) (n : Nat) (f : ScoutIn → ScoutIn) : State :=
  s.onScout fun x => { x with inputs := tput {} x.inputs n (f (s.inp n)) }

def State.region (s : State) (n : Nat) : Region := tget {} s.comb.regions n
def State.onRegion (s : State) (n : Nat) (f : Region → Region) : State :=
  s.onComb fun x => { x with regions := tput {} x.regions n (f (s.region n)) }

def State.counter (s : State) (n : Nat) : Counter := tget {} s.tally.counters n
def State.onCounter (s : State) (n : Nat) (f : Counter → Counter) : State :=
  s.onTally fun x => { x with counters := tput {} x.counters n (f (s.counter n)) }

def State.chal (s : State) (p : Nat) : Chal := tget {} s.sec.chals p
def State.onChal (s : State) (p : Nat) (f : Chal → Chal) : State :=
  s.onSec fun x => { x with chals := tput {} x.chals p (f (s.chal p)) }

def State.rail (s : State) (n : Nat) : Rail := tget {} s.power.rails n
def State.onRail (s : State) (n : Nat) (f : Rail → Rail) : State :=
  s.onPower fun x => { x with rails := tput {} x.rails n (f (s.rail n)) }

/-- Two ranges [x, x + n) and [y, y + m) share a number. -/
def meets (x n y m : Nat) : Bool := x < y + m && y < x + n

/-- The unit of a tally event that belongs to no instance, or to one that the spec leaves open. -/
def noUnit : Nat := 4095

/-- An event of 16 R506 happens n times at a unit. -/
def tick (code unit n : Nat) (s : State) : State :=
  if n = 0 then s
  else s.onTally fun x => { x with ticks := tput 0 x.ticks (4096 * code + unit) (tget 0 x.ticks (4096 * code + unit) + n) }

def tickIf (b : Bool) (code unit : Nat) (s : State) : State := if b then tick code unit 1 s else s

/-- The beat in hand; 0 before the beat starts (R44). -/
def State.now (s : State) : Nat := s.clk.beat

def isCpriMode (m : Nat) : Bool := 5 ≤ m && m ≤ 11
def is8b10bMode (m : Nat) : Bool := 5 ≤ m && m ≤ 12

/-- CPRI option 1-7 of a lane mode (R69), 0 otherwise. -/
def cpriOption (m : Nat) : Nat := if isCpriMode m then m - 4 else 0

/-- Bytes of a word, W of R137, by CPRI option. -/
def cpriW (option : Nat) : Nat :=
  match option with
  | 1 => 1 | 2 => 2 | 3 => 4 | 4 => 5 | 5 => 8 | 6 => 10 | 7 => 16 | _ => 0

/-- Draws the number of the next free value (log 4). -/
def State.draw (s : State) : State := { s with fresh := s.fresh + 1 }

/-- The number of a free value that a unit takes in one draw: units below 2^20 take different ones. -/
def drawAt (fresh unit : Nat) : Nat := fresh * 2 ^ 20 + unit

/-! ### Event sources (14) -/

/-- The group of a source (R447). -/
def groupOf (n : Nat) : Nat :=
  if n ≤ 33 then 0 else if n ≤ 58 then 1 else if n ≤ 74 then 2 else if n ≤ 90 then 3 else if n ≤ 114 then 4
  else if n ≤ 130 then 5 else if n ≤ 162 then 6 else if n ≤ 178 then 7 else if n ≤ 210 then 8 else if n ≤ 242 then 9
  else if n ≤ 274 then 10 else if n ≤ 290 then 11 else if n ≤ 306 then 12 else if n ≤ 318 then 13 else 14

/-- Whether a source pends (R450): not in service, and its line asserted or its latch set. -/
def Src.pends (x : Src) : Bool := !x.inService && (if x.edge then x.latch else x.asserted)

/-- Releases the held sources of a group for a port together (R452). -/
def releaseHeld (port g : Nat) (s : State) : State :=
  s.onEv fun e => { e with
    srcs := tmap {} (fun n x => if x.target == 4 + port && groupOf n == g then { x with held := false } else x) e.srcs
    coal := tput {} e.coal (14 * port + g) { s.coalOf port g with isOpen := false, got := 0 } }

/-- Stores a source; one that starts to pend counts in its coalescing window, one that stops is forgotten as signalled
(R451, R452, R456). -/
def setSrc (n : Nat) (x : Src) (s : State) : State :=
  let old := s.src n
  let store (y : Src) (t : State) : State := t.onEv fun e => { e with srcs := tput {} e.srcs n y }
  if x.pends && !old.pends then
    let port := x.target - 4
    let c := s.coalOf port (groupOf n)
    if (x.target == 4 || x.target == 5) && groupOf n < 14 && x.prio < 15 && 1 < c.count then
      let got := if c.isOpen then c.got + 1 else 1
      let t := store { x with held := true, signalled := false, fallen := false } s
      if c.count ≤ got then releaseHeld port (groupOf n) t
      else t.onCoal port (groupOf n) fun c => { c with isOpen := true, got := got }
    else store { x with held := false, signalled := false, fallen := false } s
  else if !x.pends then store { x with held := false, signalled := false, fallen := false } s
  else store x s

/-- Sticky copies of the Guard, hive and power groups (R449, R378, R559). -/
def sticky (n : Nat) (s : State) : State :=
  if 211 ≤ n ∧ n ≤ 242 then s.onGuard fun g => { g with events := withBit g.events (n - 211) }
  else if 115 ≤ n ∧ n ≤ 130 then s.onHive fun h => { h with events := withBit h.events (n - 115) }
  else if 275 ≤ n ∧ n ≤ 290 then s.onPower fun p => { p with events := withBit p.events (n - 275) }
  else s

/-- A source's line goes to a level (R450). -/
def driveSrc (n : Nat) (level : Bool) (s : State) : State :=
  let x := s.src n
  let t := setSrc n { x with asserted := level, latch := x.latch || (x.edge && level && !x.asserted) } s
  if level && !x.asserted then sticky n t else t

/-- An event happens on a source: an edge source takes one edge; the line of a level source is asserted and stays so
until its unit drives it low (SOURCE_ASSERT, log 6). -/
def raise (n : Nat) (s : State) : State :=
  let x := s.src n
  sticky n (setSrc n (if x.edge then { x with latch := true } else { x with asserted := true }) s)

def raiseIf (b : Bool) (n : Nat) (s : State) : State := if b then raise n s else s

/-- The priority stack of a target (R453), top first. -/
def State.stackOf (s : State) (t : Nat) : List (Nat × Nat) := tget [] s.ev.evStack t
def State.setStack (s : State) (t : Nat) (l : List (Nat × Nat)) : State :=
  s.onEv fun e => { e with evStack := tput [] e.evStack t l }

/-- Takes a source out of service (R454). -/
def outOfService (n : Nat) (s : State) : State := setSrc n { s.src n with inService := false } s

/-- Pops every entry of a target's stack as a completion, without a fault (R427, R455). -/
def clearStack (t : Nat) (s : State) : State :=
  (s.stackOf t).foldl (fun s e => outOfService e.1 s) (s.setStack t [])

/-- As `clearStack` for a core, whose interrupted edge event is dropped but a latch set again pends (R427). -/
def clearCoreStacks (s : State) : State := [0, 1, 2, 3].foldl (fun s c => clearStack c s) s

/-! ### Messages (13) -/

/-- Body fields: size in bytes and value, little-endian, in order (R8, R9). A negative value is two's complement. -/
abbrev Fields := List (Nat × Int)

def fieldsSize (fs : Fields) : Nat := (fs.map Prod.fst).foldl (· + ·) 0

/-- The number that the fields' bytes spell, least significant first. -/
def fieldsNat : Fields → Nat
  | [] => 0
  | (k, v) :: t => (v % (256 ^ k : Int)).toNat + 256 ^ k * fieldsNat t

def wordsOf (n : Nat) : Nat → List Word
  | 0 => []
  | k + 1 => BitVec.ofNat 64 n :: wordsOf (n / 2 ^ 64) k

def bytesFields (l : List Byte) : Fields := l.map fun b => (1, (b.toNat : Int))

/-- A message's words with the start mark on the first (R403, R404). -/
def message (seq svc cmd flags tag : Nat) (fs : Fields) : List QWord :=
  let n := (fieldsSize fs + 7) / 8
  let h0 := (16 + 8 * n) + seq * 2 ^ 16 + svc * 2 ^ 32 + cmd * 2 ^ 40 + flags * 2 ^ 48
  { data := BitVec.ofNat 64 h0, start := true } :: { data := BitVec.ofNat 64 tag } ::
    (wordsOf (fieldsNat fs) n).map fun w => { data := w }

/-- The source of a port's own event k (R421). -/
def portSrc (p k : Nat) : Nat := 131 + 16 * p + k

/-- Publishes a message to a response queue, whole (R399); a queue that is flushing discards it (R400). -/
def publishRsp (p q : Nat) (m : List QWord) (s : State) : State :=
  if ((s.port p).rspOf q).flush then s
  else driveSrc (portSrc p q) true (s.onRspQ p q fun r => { r with words := r.words ++ m })

/-- Sends a notification to one port: its sequence always advances; without room or without a Keeper that serves it is
dropped and counted (R409). -/
def notifyPort (svc cmd : Nat) (fs : Fields) (s : State) (p : Nat) : State :=
  let w := s.port p
  let m := message w.ntfSeq svc cmd 2 0 fs
  let t := s.onPort p fun w => { w with ntfSeq := (w.ntfSeq + 1) % 65536 }
  if s.keeper.present && s.mode != .quiesce then
    if w.ntf.flush then t
    else if w.ntf.words.length + m.length ≤ 32768 then
      driveSrc (portSrc p 4) true (t.onPort p fun w => { w with ntf := { w.ntf with words := w.ntf.words ++ m } })
    else raise (portSrc p 5) (t.onPort p fun w => { w with ntf := { w.ntf with dropped := satAdd 32 w.ntf.dropped 1 } })
  else raise (portSrc p 5) (t.onPort p fun w => { w with ntf := { w.ntf with dropped := satAdd 32 w.ntf.dropped 1 } })

/-- Sends a notification to both ports (R409). -/
def notify (svc cmd : Nat) (fs : Fields) (s : State) : State := [0, 1].foldl (notifyPort svc cmd fs) s

/-! ### DMA records (13 R419, R420) -/

/-- A ring that is enabled, with HEAD 0, or disabled (R416, R420). -/
def ringEnabled (on : Bool) (r : Ring) : Ring :=
  if on then { r with enable := true, pendEnable := none, head := 0, halted := false }
  else { r with enable := false, pendEnable := none, halted := false, cur := [], wroteNow := false }

/-- Packs a record into the current buffer of a capture ring, or drops and counts it. -/
def ringPut (p n : Nat) (rec : List Byte) (s : State) : State :=
  let r := (s.port p).ringOf n
  if r.enable && !r.halted && (s.port p).linkUp && r.head != r.tail then
    s.onRing p n fun r => { r with cur := r.cur ++ [rec], wroteNow := true }
  else raise (portSrc p (8 + n)) (s.onRing p n fun r => { r with dropped := satAdd 32 r.dropped 1 })

/-- Whether a capture ring would take a record now. -/
def ringTakes (p n : Nat) (s : State) : Bool :=
  let r := (s.port p).ringOf n
  r.enable && !r.halted && (s.port p).linkUp && r.head != r.tail

/-- The bytes of a record of fixed size from its fields. -/
def recordBytes (fs : Fields) : List Byte :=
  let n := fieldsSize fs
  let v := fieldsNat fs
  (List.range n).map fun i => BitVec.ofNat 8 (v / 256 ^ i)

/-! ### Mirror records (12 R363) -/

/-- The active sends a mirror record while a half of the link is up; it keeps it for a resend (R363, R365). -/
def mirrorSend (rec : MirrorRec) (s : State) : State :=
  if s.hive.token && (s.hive.halfA || s.hive.halfB) then
    s.onHive fun h => { h with txSeq := (h.txSeq + 1) % 2 ^ 32, sent := ((h.txSeq + 1) % 2 ^ 32, s.now, rec) :: h.sent }
  else s

/-! ### The Guard's fault queue (14) -/

/-- Class of a fault (R434). -/
def faultClass (code index : Nat) : Nat :=
  if code ∈ [0x02, 0x03, 0x04, 0x05] then 4
  else if code ∈ [0x10, 0x11] then 5
  else if code ∈ [0x06, 0x09, 0x12] then 2
  else if code = 0x0D then 1
  else if code = 0x0E then (if 4 ≤ index then 2 else 3)
  else 3

def faultSealed (code : Nat) : Bool := code == 0x13 || code == 0x14

def State.fqe (s : State) (e : Nat) : FqEntry := tget {} s.guard.fq e

/-- Entries in use (R464). -/
def State.faultsUsed (s : State) : Nat := ((List.range 16).filter fun e => (s.fqe e).valid).length

/-- Highest class among the unresolved entries (R433). -/
def State.faultTop (s : State) : Nat :=
  (List.range 16).foldl (fun m e => if (s.fqe e).valid then max m (s.fqe e).cls else m) 0

def State.anySealedFault (s : State) : Bool := (List.range 16).any fun e => (s.fqe e).valid && (s.fqe e).isSealed

/-- The 32-byte fault log record, to ring 6 of a port; a sealed code shows no detail on an open port (R435). -/
def logFault (code cls flags entry unit repeats detail : Nat) (s : State) : State :=
  [0, 1].foldl (fun s p =>
    let d := if faultSealed code && !(s.chal p).isSealed then 0 else detail
    ringPut p 6 (recordBytes [(8, s.now), (1, code), (1, cls), (1, flags + (if faultSealed code then 32 else 0)),
      (1, entry), (2, unit), (2, repeats), (8, d), (8, 0)]) s) s

/-- Records one occurrence of a fault: a repeat of its entry, a new entry, or an overflow that sets the storm flag
(R432, R435, R437). What the Guard does about it is FAULT_RECORD's own, or a step of its own (AUTOPILOT_ENTRY,
KEEPER_LOST_IN_PLACE, HALT_ENTRY). -/
def faultWith (detail code kind index : Nat) (s : State) : State :=
  let unit := kind * 4096 + index % 4096
  let entries := List.range 16
  match entries.find? fun e => (s.fqe e).valid && (s.fqe e).code == code && (s.fqe e).unit == unit with
  | some e =>
    let x := s.fqe e
    let cls := if x.cls < 3 then x.cls + 1 else x.cls
    let y := { x with repeats := satAdd 16 x.repeats 1, last := s.now, cls := cls }
    let t := s.onGuard fun g => { g with fq := tput {} g.fq e y }
    let t := raise 211 t
    let t := raiseIf (cls != x.cls) 212 t
    logFault code cls (2 + (if cls != x.cls then 4 else 0)) e unit y.repeats detail t
  | none =>
    let cls := faultClass code index
    match entries.find? fun e => !(s.fqe e).valid with
    | some e =>
      let y : FqEntry := ⟨true, code, unit, cls, faultSealed code, s.now, s.now, 0⟩
      let t := mirrorSend (.fault code unit cls s.now) (s.onGuard fun g => { g with fq := tput {} g.fq e y })
      logFault code cls 1 e unit 0 detail (raise 211 t)
    | none =>
      let t := s.onGuard fun g =>
        { g with overflow := satAdd 32 g.overflow 1, lastBeat := s.now, lastCode := code, lastCls := cls, storm := true }
      let t := raise 216 t
      let t := raiseIf (!s.guard.storm) 214 t
      logFault code cls 16 255 unit 0 detail t

/-- A fault without a code-specific detail. -/
def fault (code kind index : Nat) (s : State) : State := faultWith 0 code kind index s

/-- An entry leaves the queue resolved; `logged` says that the Keeper or the host resolved it (R436). -/
def resolveEntry (e : Nat) (logged : Bool) (s : State) : State :=
  let x := s.fqe e
  if x.valid then
    let t := raise 213 (s.onGuard fun g => { g with fq := tput {} g.fq e {} })
    if logged then logFault x.code x.cls 8 e x.unit x.repeats 0 t else t
  else s

/-- Resolves the entries that a test picks out by code and unit. -/
def resolveWhere (logged : Bool) (f : FqEntry → Bool) (s : State) : State :=
  (List.range 16).foldl (fun s e => if (s.fqe e).valid && f (s.fqe e) then resolveEntry e logged s else s) s

def resolveCode (code kind index : Nat) (s : State) : State :=
  resolveWhere false (fun x => x.code == code && x.unit == kind * 4096 + index) s

/-! ### Modes (18 R541) -/

def modeNum : Mode → Nat
  | .off => 0 | .wake => 1 | .boot => 2 | .provision => 3 | .carry => 4 | .shadow => 5
  | .lean => 6 | .autopilot => 7 | .quiesce => 8 | .maintenance => 9 | .isolate => 10 | .halt => 11

/-- The mode changes; source 290 says so (18 R542). -/
def setMode (m : Mode) (s : State) : State := if s.mode = m then s else raise 290 { s with mode := m }

def roleNum : Role → Nat
  | .solo => 0 | .active => 1 | .standby => 2

end Sys2Proof.Machine
end

