-- ==== Sys2Proof/Machine/Coding.lean ====
section
/-!
DEFINITION. Machine/Coding.lean: line coding (03 R73-R77, R90): pseudo-random sequences, the frame-synchronous scrambler
of SDH, the 8b/10b code with its running disparity, the search of a bit stream, BIP parity and the CRC-32 of the hive link.
-/

namespace Sys2Proof.Machine

open Sys2Proof

/-! ### Bits and parity -/

/-- The first n elements, filled up with `d`. -/
def padTo {α : Type} (d : α) (n : Nat) (l : List α) : List α := (l ++ List.replicate n d).take n

/-- Even parity over bytes, bit by bit. -/
def bip8 (l : List Byte) : Byte := l.foldl (· ^^^ ·) 0

/-- How many of the low `n` bits of `x` are 1. -/
def popCount (n x : Nat) : Nat := ((List.range n).filter fun i => x.testBit i).length

/-- A byte stream from its bit k on, the most significant bit of a byte first. -/
def bitDrop (k : Nat) (l : List Byte) : List Byte :=
  let l := l.drop (k / 8)
  if k % 8 = 0 then l else List.zipWith (fun a b : Byte => (a <<< (k % 8)) ||| (b >>> (8 - k % 8))) l (l.drop 1 ++ [(0 : Byte)])

/-- First bit position from i on at which `p` holds of the stream that begins there, among those with `need` bytes left. -/
def bitFind (need : Nat) (p : List Byte → Bool) : List Byte → Nat → Option Nat
  | [], _ => none
  | b :: bs, i =>
    if (b :: bs).length < need then none
    else
      match (List.range 8).find? fun k => ((k = 0) || need < (b :: bs).length) && p (bitDrop k ((b :: bs).take (need + 1))) with
      | some k => some (i + k)
      | none => bitFind need p bs (i + 8)

/-! ### Pseudo-random sequences: x^a + x^b + 1, the register holding the last a bits, newest lowest -/

def lfsrNext (a b st : Nat) : Nat := (st * 2 + boolNat (st.testBit (a - 1) != st.testBit (b - 1))) % 2 ^ a

/-- The register after n steps. -/
def lfsrRun (a b : Nat) : Nat → Nat → Nat
  | 0, st => st
  | n + 1, st => lfsrRun a b n (lfsrNext a b st)

/-- The next n bits of the sequence. -/
def lfsrBits (a b : Nat) : Nat → Nat → List Bool
  | 0, _ => []
  | n + 1, st => let t := lfsrNext a b st; t.testBit 0 :: lfsrBits a b n t

/-- Degree and tap of a PRBS code (R90). -/
def prbsPoly (code : Nat) : Nat × Nat :=
  match code with
  | 1 => (7, 6) | 2 => (15, 14) | 3 => (23, 18) | _ => (31, 28)

/-- Errors of received pattern bits against the register that its first bits seed (R91): one flag for each bit after them. -/
def prbsErrs (code : Nat) (inv : Bool) (bits : List Bool) : List Bool :=
  let d := (prbsPoly code).1
  let rx := bits.map (· != inv)
  let seed := (rx.take d).foldl (fun n b => n * 2 + boolNat b) 0
  let own := lfsrBits d (prbsPoly code).2 (rx.length - d) seed
  List.zipWith (· != ·) (rx.drop d) own

/-! ### The scrambler of SDH (R73): 1 + x^6 + x^7, set to all ones -/

/-- One period of its output, 127 bits, as the 127 bytes in which it repeats. -/
def scrBytes : List Byte :=
  let bits := (List.replicate 7 true ++ lfsrBits 7 6 120 127).toArray
  (List.range 127).map fun k => BitVec.ofNat 8 ((List.range 8).foldl (fun n i => n * 2 + boolNat (bits.getD ((8 * k + i) % 127) false)) 0)

/-- Adds the sequence to bytes; an exhausted period starts again. -/
def scrXor (period : List Byte) : List Byte → List Byte → List Byte
  | [], _ => []
  | b :: bs, k :: ks => (b ^^^ k) :: scrXor period bs ks
  | b :: bs, [] =>
    match period with
    | k :: ks => (b ^^^ k) :: scrXor period bs ks
    | [] => b :: scrXor period bs []

/-- Scrambles or descrambles a frame whose first row of the SOH has `n` bytes: those pass as they are. -/
def scramble (n : Nat) (l : List Byte) : List Byte := l.take n ++ scrXor scrBytes (l.drop n) scrBytes

/-! ### The 8b/10b code (R74) -/

/-- 5b/6b code of D.x.y at negative running disparity, bits abcdei. -/
def code6 : List Nat :=
  [0b100111, 0b011101, 0b101101, 0b110001, 0b110101, 0b101001, 0b011001, 0b111000, 0b111001, 0b100101, 0b010101, 0b110100,
   0b001101, 0b101100, 0b011100, 0b010111, 0b011011, 0b100011, 0b010011, 0b110010, 0b001011, 0b101010, 0b011010, 0b111010,
   0b110011, 0b100110, 0b010110, 0b110110, 0b001110, 0b101110, 0b011110, 0b101011]

/-- 3b/4b codes at negative running disparity: of data, with the alternative A7 last, and of control characters. -/
def code4 : List Nat := [0b1011, 0b1001, 0b0101, 0b1100, 0b1101, 0b1010, 0b0110, 0b1110, 0b0111]
def code4K : List Nat := [0b1011, 0b0110, 0b1010, 0b1100, 0b1101, 0b0101, 0b1001, 0b0111]

/-- One code group and the running disparity after it (true: positive) of byte v sent as data or as a control character. -/
def enc10 (k : Bool) (v : Nat) (rd : Bool) : Nat × Bool :=
  let x := v % 32
  let y := v / 32 % 8
  let s0 := if k && x == 28 then 0b001111 else code6.getD x 0
  let six := if rd && (popCount 6 s0 != 3 || s0 == 0b111000) then 63 - s0 else s0
  let rd1 := if popCount 6 s0 = 3 then rd else !rd
  let alt := (!rd1 && decide (x ∈ [17, 18, 20])) || (rd1 && decide (x ∈ [11, 13, 14]))
  let f0 := if k then code4K.getD y 0 else code4.getD (if y = 7 && alt then 8 else y) 0
  let four := if rd1 && (k || popCount 4 f0 != 2 || f0 == 0b1100) then 15 - f0 else f0
  (six * 16 + four, if popCount 4 f0 = 2 then rd1 else !rd1)

/-- Control characters of the code. -/
def isKChar (v : Nat) : Bool := v % 32 == 28 || (v / 32 == 7 && decide (v % 32 ∈ [23, 27, 29, 30]))

/-- Byte values that a code group can stand for, by its two parts. -/
def dec10Cands (c : Nat) : List (Bool × Nat) :=
  let six := c / 16
  let four := c % 16
  let xs := (List.range 32).filter fun x => code6.getD x 0 == six || 63 - code6.getD x 0 == six
  let ys := (List.range 9).filter fun y => code4.getD y 0 == four || 15 - code4.getD y 0 == four
  let ks := (List.range 8).filter fun y => code4K.getD y 0 == four || 15 - code4K.getD y 0 == four
  let data := xs.flatMap fun x => ys.map fun y => (false, x + 32 * min y 7)
  let k28 := if six = 0b001111 || six = 0b110000 then ks.map fun y => (true, 28 + 32 * y) else []
  let k7 := if 7 ∈ ks then (xs.filter fun x => x ∈ [23, 27, 29, 30]).map fun x => (true, x + 224) else []
  data ++ k28 ++ k7

/-- What a 10-bit code group stands for: character, and whether it is right at negative and at positive disparity. -/
def dec10 (c : Nat) : Option (Bool × Nat × Bool × Bool) :=
  (dec10Cands c).findSome? fun e =>
    let n := (enc10 e.1 e.2 false).1 == c
    let p := (enc10 e.1 e.2 true).1 == c
    if n || p then some (e.1, e.2, n, p) else none

/-- One code group decoded (R74): a group that decodes to nothing counts as invalid, and so does a K character that is not expected;
after a disparity error the running disparity is that of the group received. -/
def decGroup (kOk : Nat → Bool) (rd : Bool) (c : Nat) : Group × Bool :=
  match dec10 c with
  | none => ({ invalid := true }, if popCount 10 c = 5 then rd else 5 < popCount 10 c)
  | some (k, v, n, p) =>
    let right := if rd then p else n
    let as := if right then rd else !rd
    ({ byte := BitVec.ofNat 8 v, k := k, k285 := k && v == 0xBC, invalid := k && !kOk v, disparity := !right }, (enc10 k v as).2)

/-- A run of code groups decoded from a running disparity. -/
def decRun (kOk : Nat → Bool) : Bool → List Nat → List Group × Bool
  | rd, [] => ([], rd)
  | rd, c :: cs =>
    let r := decGroup kOk rd c
    let t := decRun kOk r.2 cs
    (r.1 :: t.1, t.2)

/-- Characters encoded from a running disparity. -/
def encRun : Bool → List (Bool × Byte) → List Nat × Bool
  | rd, [] => ([], rd)
  | rd, e :: es =>
    let r := enc10 e.1 e.2.toNat rd
    let t := encRun r.2 es
    (r.1 :: t.1, t.2)

/-! ### CRC-32 of the hive link header (12 R360) -/

/-- The CRC-32 of bytes, least significant bit first: generator 0x04C11DB7 reflected, preset and complemented (log 101). -/
def crc32 (l : List Byte) : Nat :=
  let r := l.foldl (fun c b => (List.range 8).foldl (fun c _ => if c % 2 = 1 then (c / 2) ^^^ 0xEDB88320 else c / 2) (c ^^^ b.toNat)) 0xFFFFFFFF
  r ^^^ 0xFFFFFFFF

end Sys2Proof.Machine
end

