-- ==== Sys2Proof/Machine/Tally.lean ====
section
/-!
DEFINITION. Machine/Tally.lean: the 64 tally counters (16 R506-R512). A counter adds in each step how often its event happened in it: as
the counts, states and queues before and after the step show it, or as the meaning that knows it ticked it (log 15).
-/

namespace Sys2Proof.Machine

open Sys2Proof

/-! ### Counts that State holds -/

/-- The sum of `f` over the listed records of one unit, or of every unit. -/
def sumOf {α : Type} (unitOf : Nat → Nat) (f : α → Nat) (t : Tbl α) (unit : Option Nat) : Nat :=
  (t.map fun e => if unit.isNone || unit == some (unitOf e.1) then f e.2 else 0).sum

/-- How often an event of R506 has happened so far, where State counts it: codes 0-47, units lane and Brood port. -/
def lineEvents (code : Nat) (u : Option Nat) (s : State) : Nat :=
  let lane (f : Lane → Nat) : Nat := sumOf id f s.lanes u
  let sdh (f : SdhPort → Nat) : Nat := sumOf id f s.sdh u
  let path (f : SdhPath → Nat) : Nat := sumOf (· / 192) f s.paths u
  let cpri (f : CpriPort → Nat) : Nat := sumOf id f s.cpri u
  let axc (f : Axc → Nat) : Nat := sumOf (· / 96) f s.axcs u
  let tu (f : NurseTu → Nat) : Nat := sumOf (· / 49152) f s.nurse.tus u
  let axv (f : AxvAxc → Nat) : Nat := sumOf (· / 384) (fun v : Axv => (v.axcs.map fun e => f e.2).sum) s.nurse.axvs u
  match code with
  | 0 => lane (·.losEvents)
  | 2 => lane (·.cvInvalid)
  | 3 => lane (·.cvDisparity)
  | 4 => lane (·.slipCount)
  | 5 => lane (·.prbsErrors)
  | 8 => sdh (·.b1)
  | 9 => sdh (·.b2)
  | 10 => path (·.b3)
  | 11 => sdh (·.msRei)
  | 12 => path (·.hpRei)
  | 13 => path (·.pjInInc)
  | 14 => path (·.pjInDec)
  | 17 => path (·.pjOutInc)
  | 18 => path (·.pjOutDec)
  | 21 => sdh (·.j0Crc)
  | 22 => sdh (·.capDropped)
  | 23 => sdh (·.insUnderrun)
  | 24 => lane (fun l => l.cvInvalid + l.cvDisparity)
  | 25 => cpri (·.hfSlips)
  | 26 => cpri (·.kMisplaced)
  | 27 => cpri (·.broadMismatch)
  | 28 => cpri (·.storeSlips)
  | 29 => axc (·.slipsRepeat)
  | 30 => axc (·.slipsDrop)
  | 31 => axc (·.realigns)
  | 32 => cpri (·.cmDropped)
  | 33 => cpri (·.cmUnderrun)
  | 36 => tu (·.bip)
  | 37 => tu (·.lpRei)
  | 38 => tu (·.pjInInc)
  | 39 => tu (·.pjInDec)
  | 41 => tu (·.pjOutInc)
  | 42 => tu (·.pjOutDec)
  | 43 => axv (·.playSlips)
  | 44 => axv (·.ctrlErrors)
  | _ => 0

/-- The same for the Comb, the pools, the ports and the device as a whole: codes 48-191. Counts that State keeps for the
device and not per instance count for every instance. -/
def deviceEvents (code : Nat) (u : Option Nat) (s : State) : Nat :=
  let port (f : PortCount → Nat) : Nat := sumOf id f s.comb.ports u
  let chan (f : Channel → Nat) : Nat := sumOf id f s.pool.channels u
  let entry (f : PoolEntry → Nat) : Nat :=
    sumOf (fun k => (match (s.entry k).cfg with | .delay a => a.channel | .group a => a.channel | .twin a => a.channel)) f
      s.pool.entries u
  let wg (f : WgPort → Nat) : Nat := sumOf id f s.ports u
  let rail (f : Rail → Nat) : Nat := sumOf id f s.power.rails u
  match code with
  | 48 => port (·.bip)
  | 49 => port (·.late)
  | 59 => sumOf (416 + · / 64) (·.errors) s.comb.streams u
  | 66 => entry (·.framesA)
  | 67 => entry (·.framesB)
  | 68 => entry (·.neither)
  | 69 => entry (·.lateFrames)
  | 70 => entry (·.realigns)
  | 71 => chan (·.deferred)
  | 72 => chan (·.singleCopy)
  | 73 => chan (·.eccCorrected)
  | 74 => chan (·.eccUncorrected)
  | 75 => entry (·.ptypeReject)
  | 115 => wg fun w => w.ntf.dropped
  | 116 => wg fun w => (w.cmd.map fun e => e.2.dropped).sum
  | 121 => wg fun w => (w.rings.map fun e => e.2.dropped).sum
  | 122 => wg fun w => w.sentMsix.length
  | 129 => s.clk.ovHandler
  | 130 => s.clk.ovSecond
  | 131 => s.clk.ovSnap
  | 146 => sumOf id (·.failures) s.scout.inputs u
  | 153 => s.hive.gaps
  | 156 => s.hive.collisions
  | 159 => s.clk.ovHive
  | 160 => s.test.tagged
  | 161 => s.test.written
  | 162 => s.test.dropped
  | 163 => s.test.skipped
  | 165 => s.test.slices - s.test.failures
  | 166 => s.test.failures
  | 167 => s.test.retries
  | 169 => s.test.aborts
  | 171 => s.comb.tap.written
  | 175 => s.clk.beat
  | 176 => rail (·.uvGlitch)
  | 178 => rail (·.ovGlitch)
  | 185 => s.power.leanEntries
  | 186 => s.power.energy
  | _ => 0

/-- What the meanings ticked: those of the unit, and those of the device as a whole. -/
def ticked (code : Nat) (u : Option Nat) (s : State) : Nat :=
  (s.tally.ticks.map fun e =>
    if e.1 / 4096 = code ∧ (u = none ∨ u = some (e.1 % 4096) ∨ e.1 % 4096 = noUnit) then e.2 else 0).sum

def eventsSoFar (code : Nat) (u : Option Nat) (s : State) : Nat :=
  (if code < 48 then lineEvents code u s else deviceEvents code u s) + ticked code u s

/-! ### What a step shows -/

/-- How many listed records of one unit, or of every unit, a step changed as `p` says. -/
def stepped {α : Type} (unitOf : Nat → Nat) (d : α) (p : α → α → Bool) (old new : Tbl α) (u : Option Nat) : Nat :=
  (new.filter fun e => (u.isNone || u == some (unitOf e.1)) && p (tget d old e.1) e.2).length

/-- How many entries of a table differ, those that the step took out among them. -/
def altered {α : Type} [DecidableEq α] (unitOf : Nat → Nat) (d : α) (old new : Tbl α) (u : Option Nat) : Nat :=
  stepped unitOf d (fun a b => decide (a ≠ b)) old new u + stepped unitOf d (fun a _ => decide (a = d)) new old u

/-- Codes 0-47: the line ports and the nurse units. `beat`: the step is a beat. -/
def lineSteps (code : Nat) (u : Option Nat) (beat : Bool) (s t : State) : Nat :=
  let lane (p : Lane → Lane → Bool) : Nat := stepped id {} p s.lanes t.lanes u
  let sdh (p : SdhPort → SdhPort → Bool) : Nat := stepped id {} p s.sdh t.sdh u
  match code with
  | 1 => lane fun a b => !(a.lol || a.lolForced) && (b.lol || b.lolForced)
  | 6 => lane fun a b => a.aligned && !b.aligned
  | 7 => lane fun a b => a.trim != b.trim
  | 19 => sdh fun a b => a.align == .inFrame && b.align != .inFrame
  | 20 => sdh fun a b => a.align == .presync && b.align == .hunt
  | 35 => stepped id {} (fun a b => a.state == .verify && b.state == .hunt) s.cpri t.cpri u
  | 45 => stepped (· / 192) {} (fun a b => !a.lom.dLom && b.lom.dLom) s.nurse.vcs t.nurse.vcs u
  | 46 => if beat then stepped (· / 49152) {} (fun _ b => b.txAis) s.nurse.tus t.nurse.tus u else 0
  | 47 => if beat then stepped (fun k => k / 192 - 256) {} (fun _ _ => true) [] (t.comb.superIn.filter fun e => 256 * 192 ≤ e.1) u else 0
  | _ => 0

/-- Codes 48-79: the Comb and the pools. -/
def combSteps (code : Nat) (u : Option Nat) (beat : Bool) (s t : State) : Nat :=
  let granule (p : Granule → Bool) : Nat := if beat then stepped (· / 192) {} (fun _ b => p b) [] t.comb.superIn u else 0
  let pool (f : PoolEntry → Nat) : Nat :=
    if beat then (t.pool.entries.map fun e =>
      let d := match e.2.cfg with | .delay a => a.channel | .group a => a.channel | .twin a => a.channel
      if u = none ∨ u = some d then f e.2 else 0).sum
    else 0
  match code with
  | 55 => stepped id {} (fun a b => a.step != b.step) s.comb.regions t.comb.regions u
  | 56 | 137 =>
    if t.guard.keeperLost = s.guard.keeperLost then
      (s.clk.tickets.filter fun k => !(t.clk.tickets.any fun x => x.id == k.id)).length
    else 0
  | 57 => altered (· / 192) none s.comb.superConn t.comb.superConn u
  | 58 => altered (fun k => 256 + k / 16704) {} s.comb.broodConn t.comb.broodConn u
  | 60 => granule (·.uneq)
  | 61 => granule (·.ais)
  | 62 => granule (·.ssf)
  | 63 => if beat then stepped (fun k => 256 + k / 16704) {} (fun _ b => b.failed) [] t.comb.broodOut u else 0
  | 64 => pool fun e => if e.state = 1 ∨ e.state = 2 then (e.ring.headD []).length else 0
  | 65 => pool fun e => if e.state = 2 then (e.ring.headD []).length / (match e.cfg with | .twin _ => 2 | _ => 1) else 0
  | _ => 0

/-- Statuses of the responses that a queue holds (13 R406). -/
def statuses : List QWord → List Nat
  | a :: b :: c :: l => if a.start then c.data.toNat % 65536 :: statuses (b :: c :: l) else statuses (b :: c :: l)
  | _ => []

/-- Codes 112-143: the host ports and the Keeper. -/
def portSteps (code : Nat) (u : Option Nat) (s t : State) : Nat :=
  let here (p : Nat) : Bool := u.isNone || u == some p
  let ports (f : WgPort → WgPort → Nat) : Nat := ([0, 1].map fun p => if here p then f (s.port p) (t.port p) else 0).sum
  let starts (l : List QWord) : Nat := (l.filter (·.start)).length
  let grown (f : WgPort → Nat) : Nat := ports fun a b => f b - f a
  let answers (p : Nat → Bool) : Nat :=
    ([0, 1].map fun q =>
      let n (x : State) : Nat := ((x.port q).rsp.map fun r => ((statuses r.2.words).filter p).length).sum
      n t - n s).sum
  let stack (x : State) (p : Nat) : Nat := (tget [] x.ev.evStack (4 + p)).length
  let both (f : Nat → Nat) : Nat := ([0, 1].map fun p => if here p then f p else 0).sum
  let src (p : Nat → Src → Src → Bool) : Nat := (t.ev.srcs.filter fun e => p e.1 (tget {} s.ev.srcs e.1) e.2).length
  let freed (p : Sem → Sem → Bool) : Nat := (s.sems.filter fun e => p e.2 (tget {} t.sems e.1)).length
  match code with
  | 113 => grown fun w => (w.rsp.map fun r => starts r.2.words).sum
  | 114 => grown fun w => starts w.ntf.words
  | 120 => ports fun a b => stepped id {} (fun x y => y.enable && x.head != y.head) a.rings b.rings none
  | 119 => ports fun a b => stepped id {} (fun x y => y.flush && !x.flush) b.cmd a.cmd none +
      stepped id {} (fun x y => y.flush && !x.flush) b.rsp a.rsp none + (if a.ntf.flush && !b.ntf.flush then 1 else 0)
  | 123 => both fun p => stack t p - stack s p
  | 124 => both fun p => stack s p - stack t p
  | 126 => stepped (· / 14) {} (fun x y => y.isOpen && !x.isOpen) t.ev.coal s.ev.coal u
  | 127 => src fun n x y => !x.fallen && y.fallen && (match u with
      | none => true
      | some p => tget 7 t.ev.fallback (groupOf n) == 4 + p)
  | 134 => src fun n x y => 193 ≤ n && n ≤ 196 && (u.isNone || u == some (n - 193)) && !x.asserted && y.asserted
  | 135 => answers (· == 7)
  | 136 => (t.clk.tickets.filter fun k => k.armed && s.clk.tickets.any fun x => x.id == k.id && !x.armed).length
  | 138 => answers fun x => x == 0 || x == 7
  | 139 => answers fun x => x != 0 && x != 7
  | 140 => freed fun a b => a.owner.isSome && a.owner != some .keeper && a.left == 0 && b.owner.isNone
  | 142 => ((List.range 4).filter fun c => (u.isNone || u == some c) && s.guard.cores.getD c .held == .relief &&
      t.guard.cores.getD c .held == .working).length
  | _ => 0

/-- Codes 144-191: the Scout, the hive, test and power. -/
def systemSteps (code : Nat) (beat : Bool) (s t : State) : Nat :=
  let one (b : Bool) : Nat := if b then 1 else 0
  match code with
  | 111 => one (!s.bus.remap && t.bus.remap)
  | 145 => one (s.scout.word != t.scout.word)
  | 148 => one (beat && (t.scout.word - s.scout.word).natAbs == 1000000000)
  | 149 => one (beat && t.scout.phiRate != 0)
  | 151 => (t.hive.txSeq + 2 ^ 32 - s.hive.txSeq) % 2 ^ 32
  | 152 => one (s.hive.rxSeq != t.hive.rxSeq)
  | 158 => one (beat && !t.hive.halfA) + one (beat && !t.hive.halfB)
  | 172 => if beat then (t.comb.regions.filter fun e => e.2.state == 1).length else 0
  | 180 => one (s.power.setpoint < t.power.setpoint)
  | 181 => one (t.power.setpoint < s.power.setpoint)
  | 187 => if beat && t.power.setpoint == 700 then 125000 else 0
  | _ => 0

/-- How often an event happened in a step from `s` to `t` (R506). -/
def eventsIn (code : Nat) (u : Option Nat) (s t : State) : Nat :=
  let beat := s.clk.beat != t.clk.beat && s.clk.started
  (eventsSoFar code u t - eventsSoFar code u s) + lineSteps code u beat s t + combSteps code u beat s t + portSteps code u s t +
    systemSteps code beat s t

/-! ### Occupancies (R507) -/

/-- The stores of a unit, by the occupancy that they hold (R506 codes 80-95): those that State holds, unit and occupancy. -/
def occupancies (code : Nat) (s : State) : List (Nat × Nat) :=
  let ports (f : WgPort → Nat) : List (Nat × Nat) := s.ports.map fun e => (e.1, f e.2)
  let option (n : Nat) : Nat := cpriOption (s.lane n).mode
  let broad (f : Nat → CpriPort → Nat) : List (Nat × Nat) := (s.cpri.filter fun e => e.2.cfg.transport = 1).map fun e => (e.1, f (option e.1) e.2)
  match code with
  | 80 => s.paths.map fun e => (e.1 / 192, e.2.store.length)
  | 81 => s.nurse.tus.map fun e => (e.1 / 49152, e.2.txStore.length)
  | 82 => s.axcs.map fun e => (e.1 / 96, (e.2.fill * 384 / 1000000).toNat)
  | 83 => broad fun o p => p.rxStore.length / cpriW o
  | 84 => broad fun o p => if p.primed then (Config.broadStoreHalf o + p.storeFill / 1000000000).toNat else p.primeWords
  | 85 => s.nurse.axvs.flatMap fun e => e.2.axcs.map fun a => (e.1 / 384, (a.2.store.map fun c => c.2.length).sum / 8192)
  | 88 => ports fun w => (w.cmd.map fun q => q.2.words.length).sum
  | 89 => ports fun w => (w.rsp.map fun q => q.2.words.length).sum
  | 90 => ports fun w => w.ntf.words.length
  | 91 => s.ports.flatMap fun e => e.2.rings.map fun r => (8 * e.1 + r.1, (r.2.tail + 2 ^ r.2.log2 - r.2.head) % 2 ^ r.2.log2)
  | 95 => [(0, s.hive.sent.length)]
  | _ => []

/-- Clock cycles of a beat in which an occupancy exceeds `n`, as it stands at the end of the beat: 125,000 for each store (R506, R507). -/
def occupied (code n : Nat) (u : Option Nat) (s t : State) : Nat :=
  if s.clk.started && s.clk.beat != t.clk.beat then
    125000 * ((occupancies code t).filter fun e => (u.isNone || u == some e.1 || code == 95) && decide (n < e.2)).length
  else 0

/-! ### The counters -/

def Counter.event (c : Counter) : Nat := c.cfg.toNat % 256
def Counter.enabled (c : Counter) : Bool := c.cfg.toNat.testBit 8
def Counter.threshold (c : Counter) : Bool := c.cfg.toNat.testBit 9
def Counter.sample (c : Counter) : Bool := c.cfg.toNat.testBit 10
def Counter.unit (c : Counter) : Option Nat := if c.cfg.toNat.testBit 11 then none else some (c.cfg.toNat / 4096 % 4096)

/-- TL_OVF changes: the overflow sources follow their pairs of bits (R509). -/
def setOvf (l : List Nat) (s : State) : State :=
  let t := s.onTally fun x => { x with ovf := l }
  (List.range 32).foldl (fun s p =>
    let b := l.contains (2 * p) || l.contains (2 * p + 1)
    if (s.src (243 + p)).asserted = b then s else driveSrc (243 + p) b s) t

/-- Adds to counter `n`; a count that passes 2^48 − 1 goes on from its reload value or from 0 (R509). -/
def addCount (n inc : Nat) (s : State) : State :=
  let c := s.counter n
  let sum := c.count + inc
  if sum < 2 ^ 48 then s.onCounter n fun c => { c with count := sum }
  else
    let base := if c.sample then c.reload else 0
    setOvf (insertNat n s.tally.ovf) (s.onCounter n fun c => { c with count := (base + (sum - 2 ^ 48)) % 2 ^ 48 })

/-- Counters run unless frozen, and not in Lean (R508, R509). -/
def tallyRuns (s : State) : Bool := !s.tally.freeze && s.mode != .lean

/-- What a counter adds in a step: the cycles of an occupancy beyond its threshold (0 without one), or how often its event happened;
with a threshold nothing else counts (R507). -/
def Counter.added (c : Counter) (s t : State) : Nat :=
  if 80 ≤ c.event && c.event ≤ 95 then occupied c.event (if c.threshold then c.cfg.toNat / 2 ^ 32 % 65536 else 0) c.unit s t
  else if c.threshold then 0
  else eventsIn c.event c.unit s t

/-- Adds to every running counter what a step from `s` to `t` added to its event (R506, R507). -/
def counted (s t : State) : State :=
  if tallyRuns s then
    (s.tally.counters.filter fun e => e.2.enabled).foldl (fun u e =>
      let inc := e.2.added s t
      if inc = 0 then u else addCount e.1 inc u) t
  else t

/-- TALLY_OVERFLOW: a running counter passes its last count (R509). -/
def tallyOverflows (n : Nat) (s : State) : State :=
  if n < 64 && (s.counter n).enabled && tallyRuns s then addCount n (2 ^ 48 - (s.counter n).count) s else s

/-- TL_CTRL freeze (R508, R512). -/
def tallyFreeze (on : Bool) (s : State) : State :=
  s.onTally fun x => { x with freeze := on, freezeBeat := if on && !x.freeze then s.now else x.freezeBeat }

/-- TL_CTRL snap (R508). -/
def tallySnap (s : State) : State :=
  raise 302 (s.onTally fun x =>
    { x with
      snapBeat := s.now, counters := tmap {} (fun _ c => { c with snap := c.count }) x.counters })

/-- TL_CLEAR and TL_PRESET: counters whose bit is set (R509, R510). -/
def tallyClear (mask : Nat) (s : State) : State :=
  s.onTally fun x => { x with counters := tmap {} (fun n c => if bit mask n then { c with count := 0 } else c) x.counters }

def tallyPreset (mask : Nat) (s : State) : State :=
  s.onTally fun x => { x with counters := tmap {} (fun n c => if bit mask n then { c with count := c.reload } else c) x.counters }

/-- A step's outcome with its events counted. -/
def done (s t : State) : Out := .next (counted s t)

def execTallyOverflow (n : Nat) (s : State) : Out := .next (tallyOverflows n s)

end Sys2Proof.Machine
end

