-- ==== Sys2Proof/Machine/Detect.lean ====
section
/-!
DEFINITION. Machine/Detect.lean: the detectors that forager tiles and nurse units share: acceptance runs (04 R105),
pointer interpretation (04 R113-R115, 07 R204), traces (04 R109-R111), H4 multiframe (04 R122), the degraded-signal
second (04 R130) and the BER detector (04 R131).
-/

namespace Sys2Proof.Machine

open Sys2Proof

/-- One more reception of `v` (R105). -/
def Run.step (r : Run) (v : Nat) : Run := if 0 < r.count ∧ r.cand = v then ⟨v, r.count + 1⟩ else ⟨v, 1⟩

/-- One more frame in which a condition held or did not (R128). -/
def Hold.step (h : Hold) (b : Bool) : Hold := if b then ⟨h.yes + 1, 0⟩ else ⟨0, h.no + 1⟩

/-- Declared after `n` frames with the condition, cleared after `m` without it. -/
def Hold.decide' (h : Hold) (n m : Nat) (d : Bool) : Bool := if n ≤ h.yes then true else if m ≤ h.no then false else d

/-! ### Pointers -/

/-- Indications of a pointer word (R113). -/
inductive PtrInd where
  | ais | ndf (v : Nat) | same | inc | dec | new (v : Nat) | invalid
  deriving DecidableEq, Repr

/-- At least 3 of the four NDF bits match a pattern. -/
def ndfMatches (w pat : Nat) : Bool := popCount 4 ((w / 4096 % 16) ^^^ pat) ≤ 1

/-- The value of a word with a normal NDF and a valid value (below `range`). -/
def ptrValue (range w : Nat) : Option Nat := if ndfMatches w 6 && w % 1024 < range then some (w % 1024) else none

/-- Bits of the ten value bits inverted relative to the current pointer: I bits are the odd ones, D bits the even
ones, counted from bit 16 of the word as bit 0. -/
def iInverted (w ptr : Nat) : Nat := popCount 10 (((w % 1024) ^^^ ptr) &&& 0x2AA)
def dInverted (w ptr : Nat) : Nat := popCount 10 (((w % 1024) ^^^ ptr) &&& 0x155)

/-- Classification of a pointer word (R113); values run from 0 to `range - 1`. -/
def classify (range w ptr : Nat) : PtrInd :=
  if w % 65536 = 0xFFFF then .ais
  else if ndfMatches w 9 then (if w % 1024 < range then .ndf (w % 1024) else .invalid)
  else if ndfMatches w 6 then
    if w % 1024 = ptr then .same
    else if 3 ≤ iInverted w ptr ∧ dInverted w ptr ≤ 2 then .inc
    else if 3 ≤ dInverted w ptr ∧ iInverted w ptr ≤ 2 then .dec
    else if w % 1024 < range then .new (w % 1024)
    else .invalid
  else .invalid

def PtrInd.isNdf : PtrInd → Bool
  | .ndf _ => true
  | _ => false

/-- What an accepted frame did to the VC: nothing, an increment, a decrement, a new position. -/
inductive PtrMove where
  | stay | inc | dec | jump
  deriving DecidableEq, Repr

/-- The state with every run at 0. -/
def Ptr.calm (p : Ptr) : Ptr := { p with aisRun := 0, invRun := 0, ndfRun := 0, newRun := 0 }

/-- An AIS indication (3 in a row lead to AIS). -/
def Ptr.onAis (p : Ptr) : Ptr :=
  if 3 ≤ p.aisRun + 1 then { p.calm with mode := .ais } else { p.calm with aisRun := p.aisRun + 1 }

/-- An invalid indication (8 in a row lead to LOP). -/
def Ptr.onInvalid (p : Ptr) : Ptr :=
  if 8 ≤ p.invRun + 1 then { p.calm with mode := .lop } else { p.calm with invRun := p.invRun + 1 }

/-- A candidate pointer value (3 identical in a row are taken). -/
def Ptr.onNew (p : Ptr) (v : Nat) : Ptr × PtrMove :=
  let n := if 0 < p.newRun ∧ p.newVal = v then p.newRun + 1 else 1
  if 3 ≤ n then ({ p.calm with mode := .norm, ptr := v }, .jump) else ({ p.calm with newRun := n, newVal := v }, .stay)

/-- One frame of the pointer interpreter (R114). In the three frames after a justification or an NDF a justification is taken as no
change, and neither a new pointer nor an invalid one counts (log 103). -/
def Ptr.step (range w : Nat) (p : Ptr) : Ptr × PtrMove :=
  let q := { p with guard := p.guard - 1 }
  match p.mode, classify range w p.ptr with
  | .norm, .ais => (q.onAis, .stay)
  | .norm, .ndf v =>
    if 8 ≤ p.ndfRun + 1 then ({ q.calm with mode := .lop }, .stay)
    else ({ q.calm with ndfRun := p.ndfRun + 1, ptr := v, guard := 3 }, .jump)
  | .norm, .same => (q.calm, .stay)
  | .norm, .inc =>
    if 0 < p.guard then (q.calm, .stay) else ({ q.calm with ptr := (p.ptr + 1) % range, guard := 3 }, .inc)
  | .norm, .dec =>
    if 0 < p.guard then (q.calm, .stay) else ({ q.calm with ptr := (p.ptr + range - 1) % range, guard := 3 }, .dec)
  | .norm, .new v => if 0 < p.guard then (q.calm, .stay) else q.onNew v
  | .norm, .invalid => (if 0 < p.guard then q.calm else q.onInvalid, .stay)
  | .ais, .ais => (q.calm, .stay)
  | .ais, .ndf v => ({ q.calm with mode := .norm, ptr := v, guard := 3 }, .jump)
  | .lop, .ais => (q.onAis, .stay)
  | .lop, .ndf _ => (q.calm, .stay)
  | m, _ =>
    match ptrValue range w with
    | some v => q.onNew v
    | none => if m = .ais then (q.onInvalid, .stay) else (q.calm, .stay)

/-- The concatenation indication: NDF 1001 with all ten value bits 1, SS not checked (R115). -/
def isConcWord (w : Nat) : Bool := w / 4096 % 16 == 9 && w % 1024 == 0x3FF

/-- The word that a concatenated path's interpreter reads: all ones count as AIS only when every AU carries them. -/
def heardWord (w : Nat) (rest : List Nat) : Nat :=
  if w % 65536 = 0xFFFF && !(rest.all fun x => x % 65536 == 0xFFFF) then 0xFFF else w

/-- Adds the concatenation check of R115 over the words of AUs 2 to X: 8 frames in which one of them fails to carry the indication put
the path in LOP. The path is in AIS only when every AU carries AIS. -/
def Ptr.stepConc (range w : Nat) (rest : List Nat) (p : Ptr) : Ptr × PtrMove :=
  let r := p.step range (heardWord w rest)
  let runs := rest.zipIdx.map fun e => if isConcWord e.1 then 0 else p.conc.getD e.2 0 + 1
  let q := { r.1 with conc := runs }
  if q.mode != .ais && runs.any (8 ≤ ·) then ({ q with mode := .lop }, .stay) else (q, r.2)

/-! ### Traces -/

/-- The CRC-7 of a 16-byte message whose CRC bits are taken as 0: generator x^7 + x^3 + 1 (log 9). -/
def crc7 (msg : List Byte) : Nat :=
  let bits := msg.flatMap fun b => (List.range 8).map fun i => b.toNat.testBit (7 - i)
  bits.foldl (fun c b =>
    let top := (c.testBit 6) != b
    let c := c * 2 % 128
    if top then c ^^^ 0x09 else c) 0

/-- The first byte of a 16-byte message: 1 in bit 1 and the CRC-7 (R109). -/
def traceHead (chars : List Byte) : Byte := BitVec.ofNat 8 (128 + crc7 (0x80#8 :: chars.take 15))

def traceMsg16 (chars : List Byte) : List Byte := traceHead chars :: chars.take 15

/-- A complete good period: 3 identical in a row are accepted (R109, R110). -/
def TraceRx.good (t : TraceRx) (msg : List Byte) : TraceRx :=
  let n := if 0 < t.run ∧ t.last = msg then t.run + 1 else 1
  { t with buf := [], aligned := true, last := msg, run := n, accepted := if 3 ≤ n then some msg else t.accepted }

/-- One byte of a 16-byte trace; the Bool says that a period was discarded (R109). -/
def TraceRx.byte16 (t : TraceRx) (b : Byte) : TraceRx × Bool :=
  let first := b.toNat.testBit 7
  let restart (t : TraceRx) : TraceRx := if first then { t with aligned := true, buf := [b] } else { t with aligned := false, buf := [] }
  if !t.aligned then (restart t, false)
  else if first != t.buf.isEmpty then (restart { t with run := 0 }, true)
  else
    let msg := t.buf ++ [b]
    if msg.length < 16 then ({ t with buf := msg }, false)
    else if msg.head? = some (traceHead (msg.drop 1)) then (t.good msg, false)
    else ({ t with buf := [], run := 0 }, true)

/-- One byte of a 64-byte trace, aligned on the CR LF pair that ends it (R110). -/
def TraceRx.byte64 (t : TraceRx) (b : Byte) : TraceRx :=
  let msg := t.buf ++ [b]
  let ends := msg.drop (msg.length - 2) = [0x0D#8, 0x0A#8]
  if !t.aligned then (if ends then { t with aligned := true, buf := [] } else { t with buf := [b] })
  else if msg.length < 64 then { t with buf := msg }
  else if ends then t.good msg
  else { t with aligned := false, buf := [b], run := 0 }

/-- The trace was accepted with the byte just received (R109, R110). -/
def TraceRx.taken (t : TraceRx) : Bool := t.buf.isEmpty && 3 ≤ t.run

/-- Whether the accepted trace differs from the expected one; the 16-byte comparison leaves the CRC byte out (R111). -/
def TraceRx.differs (t : TraceRx) (long : Bool) (exp : List Byte) : Bool :=
  match t.accepted with
  | none => false
  | some m => if long then m != exp.take 64 else m.drop 1 != exp.take 15

/-! ### H4 multiframe -/

/-- One frame of the H4 check on bits 7-8 (R122). -/
def Lom.step (l : Lom) (h : Nat) : Lom :=
  let hit := h % 4 == l.expect
  let l' : Lom :=
    if l.inSync then
      if hit then { l with expect := (l.expect + 1) % 4, badRun := 0 }
      else if 2 ≤ l.badRun + 1 then { l with expect := (h + 1) % 4, badRun := 0, goodRun := 0, inSync := false }
      else { l with expect := (l.expect + 1) % 4, badRun := l.badRun + 1 }
    else
      let g := if hit then l.goodRun + 1 else 0
      { l with expect := (h + 1) % 4, goodRun := if 2 ≤ g then 0 else g, inSync := 2 ≤ g }
  let outs := if l'.inSync then 0 else l.outFrames + 1
  let ins := if l'.inSync then l.inFrames + 1 else 0
  { l' with outFrames := outs, inFrames := ins, dLom := if 8 ≤ outs then true else if 8 ≤ ins then false else l.dLom }

/-! ### Error-rate detectors -/

/-- One block: `viol` BIP violations (R130). -/
def Deg.block (d : Deg) (viol : Nat) : Deg := if 0 < viol then { d with errored := d.errored + 1 } else d

/-- A masking defect held: the second is neither bad nor good and both runs break (R130). -/
def Deg.mask (d : Deg) : Deg := { masked := true, closed := d.closed }

/-- End of a second, at a beat with n mod 8000 = 0, once: the detector and dDEG (R130). -/
def Deg.second (now : Nat) (d : Deg) (thr m : Nat) (was : Bool) : Deg × Bool :=
  if now % 8000 ≠ 0 || d.closed == now + 1 then (d, was)
  else if d.masked then ({ closed := now + 1 }, was)
  else if thr ≤ d.errored then
    ({ badRun := d.badRun + 1, closed := now + 1 }, was || m ≤ d.badRun + 1)
  else ({ goodRun := d.goodRun + 1, closed := now + 1 }, was && !(m ≤ d.goodRun + 1))

/-- round(E(10^-k)) of R131 for window exponent `kw`: W × b × (1 − (1 − 2x)^m) / 2, where W × b is `wb` × 10^(kw−3)
(80 BIP bits of a frame, R131; a quarter of that for a multiframe's BIP-2, R212). -/
def berCount (kw k wb m : Nat) : Nat :=
  let den := 10 ^ (k * m)
  let num := wb * 10 ^ (kw - 3) * (den - (10 ^ k - 2) ^ m)
  (2 * num + 2 * den) / (4 * den)

/-- Beats of a sub-window at exponent k: W / 10 with W = 80 × 10^(k−3) (R131). -/
def berBeats (k : Nat) : Nat := 8 * 10 ^ (k - 3)

/-- End of a sub-window (R131), at a beat with n mod (W / 10) = 0, once: the last ten sums against the two counts. -/
def Ber.sub (now : Nat) (d : Ber) (k wb m : Nat) (was : Bool) : Ber × Bool :=
  if now % berBeats k ≠ 0 || d.closed == now + 1 then (d, was)
  else
    let subs := (d.cur :: d.subs).take 10
    let sum := subs.foldl (· + ·) 0
    (⟨0, subs, now + 1⟩, if berCount k k wb m ≤ sum then true else if sum < berCount k (k + 1) wb m then false else was)

/-! ### Primitives (10 R287) -/

/-- Adds to the primitives of an entity in the beat in hand, if it is monitored (R286). -/
def pmAdd (e : Entity) (f : Prim → Prim) (s : State) : State :=
  if (s.mon e).cfg.enable = 1 then
    s.onPm fun x => { x with acc := tput {} x.acc (entKey e) (f (tget {} x.acc (entKey e))) }
  else s

/-! ### Sting points (16 R503) -/

/-- What a sting's parameters name: its point, and the unit, granule, tributary and sub that the point has. -/
def stingKey (a : TestStingArgs) : Nat × Nat × Nat × Nat × Nat :=
  let p := a.point
  (p, if p ∈ [0x21, 0x22, 0x2A] then 0 else a.unit, if p ∈ [5, 6, 8, 9] || (p == 7 && a.sub == 2) then a.g else 0,
    if p ∈ [8, 9] then a.tu else 0, if p ∈ [7, 0x10, 0x11, 0x12, 0x18] then a.sub else 0)

/-- Points that force what one frame or hyperframe holds. -/
def onFrames (point : Nat) : Bool := 3 ≤ point && point ≤ 0x0A

/-- A sting forces its frame: it holds, or an occurrence of it is on this frame (R505). -/
def Sting.forces (x : Sting) : Bool := !x.waits && (x.args.mode == 2 || x.due)

/-- Whether a sting at a point forces a frame of this unit. -/
def stung (s : State) (point unit g tu sub : Nat) : Bool :=
  s.test.stings.any fun x => x.forces && stingKey x.args == (point, unit, g, tu, sub)

/-- As `stung`, for points that name a unit alone. -/
def stungUnit (s : State) (point unit : Nat) : Bool := stung s point unit 0 0 0

/-- One sting whose occurrence a frame took: it ends with its last (source 299, R505, R516). -/
def stingSpent (s : State) (x : Sting) : State :=
  if x.left = 0 then
    raise 299 (s.onTest fun t => { t with stings := t.stings.filter fun y => stingKey y.args != stingKey x.args })
  else s.onTest fun t =>
    { t with stings := t.stings.map fun y => if stingKey y.args = stingKey x.args then { y with due := false } else y }

/-- The frame of a unit is over: the occurrences that were on it are spent. -/
def stingsSpent (here : TestStingArgs → Bool) (s : State) : State :=
  (s.test.stings.filter fun x => x.due && here x.args).foldl stingSpent s

/-- Stings on the frames of a lane, and on those of a tributary. -/
def onLaneFrame (n : Nat) (a : TestStingArgs) : Bool := (a.point ≤ 7 || a.point == 0x0A) && a.unit == n
def onTuFrame (b g tu : Nat) (a : TestStingArgs) : Bool := (a.point == 8 || a.point == 9) && a.unit == b && a.g == g && a.tu == tu

end Sys2Proof.Machine
end

