-- ==== Sys2Proof/Machine/Lane.lean ====
section
/-!
DEFINITION. Machine/Lane.lean: what line and hive lanes do (03): rates, effective analogue settings, transmit
precedence, and the events of the lane's detectors, alignment, PRBS and loopback.
-/

namespace Sys2Proof.Machine

open Sys2Proof

/-- L0-L255; HL0-HL3 are lanes 256-259. -/
def isLineLane (n : Nat) : Bool := n < 256
def isHiveLane (n : Nat) : Bool := 256 ≤ n && n < 260

def isSdhMode (m : Nat) : Bool := 1 ≤ m && m ≤ 4
/-- Granules of an SDH lane: 3 per STM-1 (R69, R23). -/
def sdhGranules (m : Nat) : Nat :=
  match m with
  | 1 => 3 | 2 => 12 | 3 => 48 | 4 => 192 | _ => 0

/-- Line bits in one beat (R69). -/
def bitsPerBeat (m : Nat) : Nat :=
  match m with
  | 1 => 19440 | 2 => 77760 | 3 => 311040 | 4 => 1244160
  | 5 => 76800 | 6 => 153600 | 7 => 307200 | 8 => 384000 | 9 => 614400 | 10 => 768000 | 11 => 1228800
  | 12 => 781250 | _ => 0

/-- Rate group of a lane mode (03 Factory and user calibration); none for mode 0. -/
def rateGroup (m : Nat) : Option Nat :=
  if m ∈ [1, 2, 5, 6] then some 0 else if m ∈ [3, 7, 8] then some 1 else if m ∈ [4, 9, 10, 11, 12] then some 2 else none

/-- The summary source of a lane's home tile, or the hive source of a hive lane (R86, R377). -/
def laneSrc (n : Nat) : Nat := if isLineLane n then n / 8 else if n < 258 then 121 else 122

/-- Effective value and clamp flag of one setting with codes 0 to `hi` (R82). -/
def effective (factory : Nat) (user : Int) (hi : Nat) : Nat × Bool :=
  let sum : Int := factory + user
  ((min (max sum 0) hi).toNat, sum < 0 || (hi : Int) < sum)

/-- Factory, user, effective and clamp of swing, pre-cursor, post-cursor and CTLE (R82); a post-cursor that would take
the main cursor below 50 % is reduced and flagged (R80). Pre and post steps are 1.25 %, so 40 steps are 50 %. -/
def calRecords (n group : Nat) (u : UserCal) : List (Nat × Int × Nat × Bool) :=
  let f (i hi : Nat) := min (Config.factoryCal n group i) hi
  let sw := effective (f 0 32) u.swing 32
  let pre := effective (f 1 16) u.pre 16
  let post := effective (f 2 32) u.post 32
  let post' := if 40 < pre.1 + post.1 then (40 - pre.1, true) else post
  let ct := effective (f 3 15) u.ctle 15
  [(f 0 32, u.swing, sw), (f 1 16, u.pre, pre), (f 2 32, u.post, post'), (f 3 15, u.ctle, ct)]

/-- Whether the line transmitters idle in a mode as such (R92 order 1, R541). -/
def idlesLine (m : Mode) : Bool :=
  match m with
  | .off | .wake | .boot | .shadow | .isolate | .halt => true
  | _ => false

/-- The mode whose transmitter state counts: Autopilot, Quiesce and Lean keep that of the mode they left (R541). -/
def txMode (s : State) : Mode :=
  let left (m : Mode) : Mode :=
    match m with
    | .lean => s.power.leanFrom
    | .autopilot => s.apFrom
    | .quiesce => s.quiesceFrom
    | x => x
  left (left (left s.mode))

/-- Lanes of a group: working and protection (09 R258). -/
def ProtGroup.lanes (g : ProtGroup) : Option (Nat × Nat) :=
  match g.cfg.members with
  | .lines w p => some (w, p)
  | .cpri w p _ => some (w, p)
  | _ => none

/-- The enabled group of some kinds whose lanes pick `f`. -/
def laneGroup (s : State) (kinds : List Nat) (f : Nat → Nat → Bool) : Option ProtGroup :=
  (s.prot.find? fun e =>
    e.2.cfg.enable == 1 && decide (e.2.cfg.kind ∈ kinds) && (match e.2.lanes with
      | some (w, p) => f w p
      | none => false)).map Prod.snd

/-- The line whose granules the Super input of port n carries (09 R266, R276). -/
def lineSource (s : State) (n : Nat) : Nat :=
  match laneGroup s [1, 2, 5] fun w _ => w == n with
  | some g => if g.sel then (g.lanes.getD (n, n)).2 else n
  | none => n

/-- The port whose Super output a lane sends (09 R267). -/
def egressHome (s : State) (n : Nat) : Nat :=
  match laneGroup s [1, 2] fun _ p => p == n with
  | some g => if g.cfg.kind = 1 || g.bridged then (g.lanes.getD (n, n)).1 else n
  | none => n

/-- The port whose AxC settings apply to a lane (09 R275). -/
def axcHome (s : State) (n : Nat) : Nat :=
  match laneGroup s [5] fun _ p => p == n with
  | some g => (g.lanes.getD (n, n)).1
  | none => n

/-- A lane and its partner in an enabled MSP group (09 R279). -/
def lineMates (s : State) (n : Nat) : List Nat :=
  match laneGroup s [1, 2] fun w p => w == n || p == n with
  | some g => match g.lanes with
    | some (w, p) => [w, p]
    | none => [n]
  | none => [n]

/-- What drives a lane's TX balls (R92): 0 idle, 1 recovered data, 2 PRBS, 3 tile or mirror engine data. The list of R92 does not name
the lane's enable (log 108). -/
def laneOutput (s : State) (n : Nat) : Nat :=
  let l := s.lane n
  let m := txMode s
  if l.mode = 0 then 0
  else if isLineLane n && (idlesLine m || s.hive.txIdled) then 0
  else if isHiveLane n && m ∈ [Mode.off, .wake, .boot, .isolate, .halt] then 0
  else if l.loopback = 2 then 1
  else if l.prbsGen ≠ 0 then 2
  else if isSdhMode l.mode && (s.sdhOf n).cfg.enable = 0 then 0
  else if isCpriMode l.mode && (s.cpriOf n).cfg.enable = 0 then 0
  else 3

/-- Applies a capped lane change (R56, R81, R85): disabling declares LOS and LOL without an event; enabling leaves them
declared, restarts alignment and, on a hive lane, the firmware's search (R78), and puts the DFE taps at their presets (R79); a loopback
that takes effect starts its buffer at the centre (R89). -/
def applyLane (n enable loopback : Nat) (s : State) : State :=
  s.onLane n fun l =>
    let l' := { l with
      enable := enable, loopback := loopback
      loopFill := if loopback = 2 && l.loopback ≠ 2 then 32 else l.loopFill
      loopFrames := if loopback = 2 && l.loopback ≠ 2 then 1 else l.loopFrames
      loopStore := if loopback = 2 && l.loopback = 2 then l.loopStore else []
      loopCodes := if loopback = 2 && l.loopback = 2 then l.loopCodes else [] }
    let off := { l' with
      los := true, lol := true, aligned := false, prbsLocked := false, prbsLeft := none, errAges := [], errFull := false, search := none }
    if enable = 0 then off
    else if l.enable = 0 then
      { off with
        position := 0, commaSeen := false, skipGroups := 0
        dfe := (List.range 5).map (Config.dfePreset n ((rateGroup l.mode).getD 0))
        search := if isHiveLane n && l.mode == 12 then some (0, 0) else none }
    else l'

/-- Applies a class L lane write. -/
def liveLane (n losThr dfeAdapt : Nat) (s : State) : State :=
  s.onLane n fun l => { l with losThr := losThr, dfeAdapt := dfeAdapt }

/-- Class F fields of a disabled lane (R69, R81). -/
def liveLaneF (n mode align polarity scramble : Nat) (s : State) : State :=
  s.onLane n fun l => { l with mode := mode, align := align, polarity := polarity, scramble := scramble }

def livePrbs (a : LanePrbsArgs) (s : State) : State :=
  s.onLane a.lane fun l => { l with
    prbsGen := a.gen, prbsInv := a.invert, prbsChk := a.chk
    prbsLocked := l.prbsLocked && l.prbsChk == a.chk && l.prbsInv == a.invert
    genPos := if l.prbsGen = a.gen then l.genPos else 0
    prbsInject := if a.action = 1 && a.gen ≠ 0 then l.prbsInject + 1 else l.prbsInject
    prbsBits := if a.action = 2 then 0 else l.prbsBits
    prbsErrors := if a.action = 2 then 0 else l.prbsErrors }

/-- LOS and LOL as the device acts on them: detected, or forced by a sting (R88). -/
def Lane.losNow (l : Lane) : Bool := l.los || l.losForced

def Lane.lolNow (l : Lane) : Bool := l.lol || l.lolForced

/-- Drive levels of the transmitter (R79, R80): swing in mVppd, and pre-, main and post-cursor in steps of 1.25 % of it. -/
def laneDrive (s : State) (n : Nat) : Nat × Nat × Nat × Nat :=
  let g := (rateGroup (s.lane n).mode).getD 0
  let r := calRecords n g (s.calOf n g)
  let code (i : Nat) : Nat := (r.getD i (0, 0, 0, false)).2.2.1
  (200 + 25 * code 0, code 1, 80 - code 1 - code 2, code 2)

/-- Bit `i` on of the pattern that a lane's generator sends next; an injected error inverts its first bit (R90, R93). -/
def Lane.patternBit (n : Nat) (l : Lane) (i : Nat) : Bool :=
  let d := prbsPoly l.prbsGen
  let b := (lfsrRun d.1 d.2 ((l.genPos + i + 1) % (2 ^ d.1 - 1)) (1 + Config.patternSeed n % (2 ^ d.1 - 1))).testBit 0
  (b != bit l.prbsInv 0) != (i == 0 && l.prbsInject % 2 == 1)

/-- A lane in use: enabled, in a mode with a rate. -/
def Lane.works (l : Lane) : Bool := l.enable == 1 && l.mode != 0

/-! ### Lane events -/

/-- A change of what a lane detects or of what a sting forces on it: the source of its home tile on each change of LOS or
LOL as the device acts on them, and a LOS that starts is counted (R85, R86, R88). -/
def detectChange (n : Nat) (f : Lane → Lane) (s : State) : State :=
  let l := s.lane n
  let m := f l
  let t := s.onLane n fun _ => if m.losNow && !l.losNow then { m with losEvents := satAdd 32 m.losEvents 1 } else m
  raiseIf (m.losNow != l.losNow || m.lolNow != l.lolNow) (laneSrc n) t

/-- LOS_DECLARE: the input stayed below the threshold for 2 µs (R85, R86). -/
def losDeclared (n : Nat) (s : State) : State :=
  if (s.lane n).works then detectChange n (fun l => { l with los := true }) s else s

/-- LOS_CLEAR: the input stayed above the threshold + 10 mVppd for 100 µs (R85). -/
def losCleared (n : Nat) (s : State) : State :=
  if (s.lane n).works then detectChange n (fun l => { l with los := false }) s else s

/-- LOL_DECLARE: frequency, lock indicator or LOS (R85). -/
def lolDeclared (n : Nat) (s : State) : State :=
  if (s.lane n).works then detectChange n (fun l => { l with lol := true }) s else s

/-- LOL_CLEAR: in frequency, locked and LOS clear for 125 µs; a forced LOS is not clear (R85, R88). -/
def lolCleared (n : Nat) (s : State) : State :=
  let l := s.lane n
  if l.works && !l.losNow then detectChange n (fun l => { l with lol := false }) s else s

/-- COMMA_ALIGN: a K28.5 comma arrives at UI `pos`. An unaligned lane in automatic alignment takes it as its boundary
(R76); a lane in manual alignment only notes a comma at its own boundary (R77). -/
def commaArrives (n pos : Nat) (s : State) : State :=
  let l := s.lane n
  if l.works && is8b10bMode l.mode then
    if l.align = 0 then
      if l.aligned then s.onLane n fun l => { l with commaSeen := l.commaSeen || l.position == pos % 10 }
      else s.onLane n fun l => { l with aligned := true, position := pos % 10, commaSeen := true, errAges := [], errFull := false }
    else if pos % 10 = l.position then s.onLane n fun l => { l with aligned := l.aligned || isLineLane n, commaSeen := true }
    else s
  else s

/-- ALIGNMENT_LOST: 16 code-group errors fell within 256 code groups (R76). A line lane in manual alignment never moves by itself (R77);
on a hive lane the firmware's search starts again (R78). -/
def alignLost (n : Nat) (s : State) : State :=
  let l := s.lane n
  if l.works && (l.align = 0 || isHiveLane n) && l.aligned && l.errFull then
    s.onLane n fun l => { l with
      aligned := false, errAges := [], errFull := false, commaSeen := l.commaSeen && isLineLane n
      search := if isHiveLane n then some (0, 0) else none }
  else s

/-- The pattern code and inversion that a checker compares with: of a lane, or of a Comb stream (bits 3:0 and 6 of its pattern). -/
def checkerOf (u : PrbsUnit) (s : State) : Nat × Bool :=
  match u with
  | .lane n => ((s.lane n).prbsChk, bit (s.lane n).prbsInv 1)
  | .comb port stream => let st := tget {} s.comb.streams (64 * (port - 416) + stream); (field st.pattern 0 3, bit st.pattern 3)

/-- The last 64 of received bits follow the pattern that their first ones seed (R91). -/
def locksOn (u : PrbsUnit) (bits : List Bool) (s : State) : Bool :=
  let c := checkerOf u s
  let errs := prbsErrs c.1 c.2 bits
  64 ≤ errs.length && !(errs.drop (errs.length - 64)).any id

/-- Bits compared with the analyser's register by a locked stream: bits and errors are counted up to the 64th error within 1,024 bits
(R91, R194). -/
def checkBits (d : Nat × Nat) (inv : Bool) : List Bool → Stream → Stream
  | [], x => x
  | b :: rest, x =>
    if x.broken then x
    else
      let ref := lfsrNext d.1 d.2 x.ref
      let ages := (x.errs.map (· + 1)).filter (· < 1024)
      let err := b != (ref.testBit 0 != inv)
      checkBits d inv rest { x with
        ref := ref, bits := (x.bits + 1) % 2 ^ 48, errors := satAdd 32 x.errors (boolNat err)
        errs := if err then 0 :: ages else ages, broken := err && 63 ≤ ages.length }

/-- The same of received pattern bytes. -/
def Stream.check (x : Stream) (bits : List Bool) : Stream := checkBits (prbsPoly (field x.pattern 0 3)) (bit x.pattern 3) bits x

/-- PRBS_LOCK on a lane or on a Comb stream (R91, R194). Of a lane, `rx` are the bits received up to the lock; of a stream they are those
of the last beat, which the state holds. `left` bits of the beat follow the lock. -/
def prbsLocks (u : PrbsUnit) (rx : List Bool) (left : Nat) (s : State) : State :=
  match u with
  | .lane n =>
    let l := s.lane n
    if locksOn u rx s && l.works && l.prbsChk ≠ 0 && !l.prbsLocked then
      s.onLane n fun l => { l with prbsLocked := true, prbsLeft := some (min left (bitsPerBeat l.mode)) }
    else s
  | .comb port stream =>
    let k := 64 * (port - 416) + stream
    let st := tget {} s.comb.streams k
    let d := (prbsPoly (field st.pattern 0 3)).1
    let all := st.rx.flatMap fun b => (List.range 8).map fun i => b.toNat.testBit (7 - i)
    let seen := all.take (all.length - left)
    if locksOn u (seen.drop (seen.length - (64 + d))) s && bit st.pattern 5 && !st.locked then
      let ref := (seen.drop (seen.length - d)).foldl (fun n b => n * 2 + boolNat (b != bit st.pattern 3)) 0
      let st : Stream := { st with locked := true, ref := ref, errs := [], broken := false }
      raise 70 (s.onComb fun c => { c with streams := tput {} c.streams k (st.check (all.drop seen.length)) })
    else s

/-- PRBS_UNLOCK: 64 or more errors within 1,024 bits (R91). Of a lane, `bits` and `errs` of the beat in hand were counted before it; a
stream counted up to that error. -/
def prbsUnlocks (u : PrbsUnit) (bits errs : Nat) (s : State) : State :=
  match u with
  | .lane n =>
    if (s.lane n).prbsLocked then
      s.onLane n fun l => { l with
        prbsLocked := false, prbsLeft := none
        prbsBits := (l.prbsBits + min bits (l.prbsLeft.getD (bitsPerBeat l.mode))) % 2 ^ 48
        prbsErrors := satAdd 32 l.prbsErrors (min errs bits) }
    else s
  | .comb port stream =>
    let k := 64 * (port - 416) + stream
    let st := tget {} s.comb.streams k
    if st.locked && st.broken then
      raise 70 (s.onComb fun c => { c with streams := tput {} c.streams k { st with locked := false, broken := false, errs := [] } })
    else s

/-! ### Code groups of an 8b/10b lane (R74, R76, R77) -/

/-- K characters that a lane takes as right: K28.5, and on a hive lane the idle K28.0 too (R74; 12 R360, log 109). -/
def kOk (n v : Nat) : Bool := v == 0xBC || (isHiveLane n && v == 0x1C)

/-- Ages of the errors of the last 255 code groups, and whether 16 of them fell within 256. -/
def errorAges (n : Nat) (ages errs : List Nat) : List Nat × Bool :=
  let pos : List Int := (ages.reverse.map fun a => -(a : Int)) ++ errs.map fun e => (e : Int) + 1
  let full := (List.zipWith (fun a b : Int => decide (b - a < 256)) pos (pos.drop 15)).any id
  (((pos.filter fun p => decide ((n : Int) - p < 255)).map fun p => ((n : Int) - p).toNat).reverse, full)

/-- The code groups that a lane receives, decoded and counted; after a slip the first ones are dropped without being counted. `bad`: sting
0x0A replaces one by an invalid one (16 R503). -/
def laneGroups (n : Nat) (bad : Bool) (codes : List Nat) (s : State) : List Group × State :=
  let l := s.lane n
  let r := decRun (kOk n) l.rxRd codes
  let live := r.1.drop l.skipGroups
  let gs := if bad then (match live with
      | a :: _ :: t => a :: { byte := 0, invalid := true } :: t
      | _ => [{}, { byte := 0, invalid := true }])
    else live
  let errs := (gs.zipIdx.filter fun e => e.1.invalid || e.1.disparity).map Prod.snd
  let e := errorAges gs.length l.errAges errs
  (gs, s.onLane n fun l => { l with
    rxRd := r.2, skipGroups := l.skipGroups - codes.length
    cvInvalid := satAdd 32 l.cvInvalid (gs.filter Group.invalid).length
    cvDisparity := satAdd 32 l.cvDisparity (gs.filter Group.disparity).length
    errAges := e.1, errFull := l.errFull || e.2
    loopCodes := if l.loopback = 2 then codes else l.loopCodes })

/-- Frames of an SDH lane in far-end loopback go into its store of two (R89). -/
def loopStores (n : Nat) (bits : List Byte) (s : State) : State :=
  if (s.lane n).works && (s.lane n).loopback = 2 then
    s.onLane n fun l => { l with loopStore := let q := l.loopStore ++ [bits]; q.drop (q.length - 2) }
  else s

/-- LOOPBACK_SLIP: the far-end buffer empties or fills; one code group, or one whole frame on an SDH lane, is repeated
or dropped and counted (R89). -/
def loopSlips (n : Nat) (drop : Bool) (s : State) : State :=
  let l := s.lane n
  if l.works && l.loopback = 2 then
    s.onLane n fun l => { l with
      slipCount := satAdd 32 l.slipCount 1
      loopFill := if is8b10bMode l.mode then (if drop then 54 else 10) else l.loopFill
      loopFrames := if isSdhMode l.mode then 1 else l.loopFrames
      loopStore := if isSdhMode l.mode then l.loopStore.drop (l.loopStore.length - 1) else l.loopStore }
  else s

/-- One step of a value of at most `step` towards its target. -/
def towards (step target cur : Int) : Int :=
  if cur < target then min target (cur + step) else max target (cur - step)

/-- One beat of the firmware's slip search on a hive lane (R78): at each position it clears the counters, waits 2 beats and takes the
boundary where a comma and no error was seen; after ten positions it starts again (log 110). -/
def Lane.searchBeat (l : Lane) : Lane :=
  match l.search with
  | none => l
  | some (k, b) =>
    if b = 0 then { l with search := some (k, 1), cvInvalid := 0, cvDisparity := 0, commaSeen := false }
    else if b < 2 then { l with search := some (k, b + 1) }
    else if l.commaSeen && l.cvInvalid = 0 && l.cvDisparity = 0 then { l with search := none, aligned := true }
    else { l with search := some ((k + 1) % 10, 0), position := (l.position + 1) % 10, skipGroups := 20 }

/-- Receive frequency against nominal, in 0.1 ppm: in near-end loopback the lane's own trim, else the line's, within the 1,000 ppm of
LOL (R72, R85); an adapting DFE moves its taps (R79). Both are free (log 4). -/
def Lane.measure (fresh n : Nat) (l : Lane) : Lane :=
  if !l.works then l
  else { l with
    freqOffset := if l.loopback = 1 then l.trim / 100 else if l.lolNow then l.freqOffset
      else (Config.free 30 (drawAt fresh n) % 20001 : Nat) - 10000
    dfe := if l.dfeAdapt = 1 then (List.range 5).map fun i => Config.free 31 (drawAt fresh (5 * n + i)) else l.dfe }

/-- What a beat does to a lane: one step of the trim ramp (R94: 0.05 ppm), the pattern sent (R90) and the count of a locked checker, from
its lock on (R91; the count of bits wraps at 48 bits, log 48). In near-end loopback of its own pattern the errors are the injected ones; the errors of other received bits are
free. -/
def beatLane (fresh : Nat) (n : Nat) (l : Lane) : Lane :=
  let own := l.loopback = 1 && l.prbsGen = l.prbsChk && l.prbsInv % 2 == l.prbsInv / 2
  let bits := l.prbsLeft.getD (bitsPerBeat l.mode)
  let errs := if own then l.prbsInject else Config.free 2 (drawAt fresh n) % (bits + 1)
  let m := (l.measure fresh n).searchBeat
  { m with
    trim := towards 50 l.trimTarget l.trim
    genPos := if l.prbsGen = 0 then 0 else l.genPos + bitsPerBeat l.mode
    prbsLeft := none
    prbsBits := if l.prbsLocked then (l.prbsBits + bits) % 2 ^ 48 else l.prbsBits
    prbsErrors := if l.prbsLocked then satAdd 32 l.prbsErrors errs else l.prbsErrors
    prbsInject := 0 }

def beatLanes (s : State) : State := { s with lanes := tmap {} (beatLane s.fresh) s.lanes }

def execCommaAlign (n pos : Nat) (s : State) : Out := done s (commaArrives n pos s)
def execPrbsLock (u : PrbsUnit) (rx : List Bool) (left : Nat) (s : State) : Out := done s (prbsLocks u rx left s)
def execPrbsUnlock (u : PrbsUnit) (bits errs : Nat) (s : State) : Out := done s (prbsUnlocks u bits errs s)
def execLoopbackSlip (n : Nat) (drop : Bool) (s : State) : Out := done s (loopSlips n drop s)

end Sys2Proof.Machine
end

