-- ==== Sys2Proof/Machine/Cpri.lean ====
section
/-!
DEFINITION. Machine/Cpri.lean: CPRI line ports (05): synchronisation, control words, defects and their masking,
delay measurement, AxC alignment stores and C&M channels. What a port sends in a beat stands in Machine/Egress.lean.
-/

namespace Sys2Proof.Machine

open Sys2Proof

/-- Granules of a broad group (R137). -/
def broadGroup (option : Nat) : Nat :=
  match option with
  | 1 => 10 | 2 => 20 | 3 => 40 | 4 => 50 | 5 => 79 | 6 => 99 | 7 => 157 | _ => 0

/-- IQ bits of a basic frame (R137, R160). -/
def iqBits (option : Nat) : Nat := 120 * cpriW option

/-- Cells of an AxC: C of R161. -/
def axcCells (nBits : Nat) : Nat := (60 * nBits + 8) / 9

def axcFiller (nBits : Nat) : Nat := 9 * axcCells nBits - 60 * nBits

/-- The port works: enabled, on an enabled lane in a CPRI mode. -/
def cpriUp (s : State) (n : Nat) : Bool :=
  (s.cpriOf n).cfg.enable == 1 && (s.lane n).enable == 1 && isCpriMode (s.lane n).mode

def CpriPort.synced (p : CpriPort) : Bool := p.state == .hfnSync || p.state == .bfnSync

structure CpriDef where
  los : Bool
  lof : Bool
  rai : Bool
  sdi : Bool
  rlos : Bool
  rlof : Bool
  rst : Bool
  ver : Bool
  lbf : Bool
  frq : Bool
  axf : Bool
  deriving DecidableEq, Repr

/-- The port's defects with the masks of R147. -/
def cpriDef (s : State) (n : Nat) : CpriDef :=
  let l := s.lane n
  let p := s.cpriOf n
  let up := cpriUp s n
  let los := up && (l.losNow || l.lolNow)
  let lof := up && p.dLof && !los
  let o := up && !los && !lof
  { los := los, lof := lof, rai := o && p.dRai, sdi := o && p.dSdi, rlos := o && p.dRlos, rlof := o && p.dRlof
    rst := o && p.dRst, ver := o && p.dVer, lbf := o && p.dLbf, frq := o && p.dFrq, axf := o && p.dAxf }

def CpriDef.word (d : CpriDef) : Nat :=
  boolNat d.los + at' 1 (boolNat d.lof) + at' 2 (boolNat d.rai) + at' 3 (boolNat d.sdi) + at' 4 (boolNat d.rlos) +
  at' 5 (boolNat d.rlof) + at' 6 (boolNat d.rst) + at' 7 (boolNat d.ver) + at' 8 (boolNat d.lbf) +
  at' 9 (boolNat d.frq) + at' 10 (boolNat d.axf)

/-- Ingress of the port is failed: SSF on an AxC port, AIS on a broad one (R148). -/
def cpriFails (s : State) (n : Nat) : Bool :=
  let d := cpriDef s n
  d.los || d.lof || d.ver || (d.axf && (s.cpriOf n).cfg.transport == 0)

/-- Runs a step of lane `n`; a change of an unmasked defect raises the tile's source (R147). -/
def withCpriEvents (n : Nat) (f : State → State) (s : State) : State :=
  let t := f s
  raiseIf (cpriDef s n != cpriDef t n) (n / 8) t

/-- AxC indices of a port in one direction that are enabled. -/
def State.axcsOf (s : State) (n dir : Nat) : List Nat :=
  (List.range 48).filter fun i => (s.axc n dir i).cfg.enable == 1

/-- Whether an egress AxC takes cells that carry AIS or SSF, or cells from no connection (R149); `failed` is kept by
the beat from the Super's outputs. -/
def axcStarved (s : State) (n i : Nat) : Bool := (s.axc (axcHome s n) 1 i).failed

/-- SDI asked for by sdi_mode (R149); mode 2 asks for none without an enabled AxC (log 125). -/
def sdiAsked (s : State) (n : Nat) : Bool :=
  let p := s.cpriOf n
  let axcs := s.axcsOf (axcHome s n) 1
  if p.cfg.sdiMode = 0 then false
  else if p.cfg.transport = 1 then p.idle || !p.primed
  else if p.cfg.sdiMode = 1 then axcs.any (axcStarved s n)
  else !axcs.isEmpty && axcs.all (axcStarved s n)

/-- Egress Z.130.0 (R144). -/
def l1Sent (s : State) (n : Nat) : Nat :=
  let p := s.cpriOf n
  let d := cpriDef s n
  boolNat (p.resetLeft != 0 && (p.cfg.role == 0 || (d.rst && bit p.cfg.flags 0))) + at' 1 (boolNat (d.los || d.lof || bit p.cfg.flags 3)) +
  at' 2 (boolNat (sdiAsked s n || bit p.cfg.flags 4)) + at' 3 (boolNat d.los) + at' 4 (boolNat d.lof)

/-! ### Received hyperframes (R140-R146) -/

/-- One whole hyperframe as the port reads it: whether K28.5 stands in place, other K28.5 in it, the control words, the received seed,
and all its bytes descrambled. -/
structure Hyperframe where
  k285 : Bool
  misplaced : Nat
  hfn : Nat
  bfn : Nat
  version : Nat
  z66 : Nat
  l1 : Nat
  ptr : Nat
  seed : Nat
  bytes : List Byte
  deriving DecidableEq, Repr

/-- The seed that stands in the seed positions of a hyperframe (R145). -/
def seedOf (w : Nat) (raw : Array Byte) : Nat :=
  ((List.range 4).map fun i => (raw.getD (Config.seedPos w i) 0).toNat * 256 ^ i).sum

/-- Whether an offset of a hyperframe is a seed position, and of which seed byte. -/
def seedByte (w off : Nat) : Option Nat := if w < 8 then none else (List.range 4).find? fun i => Config.seedPos w i == off

/-- A byte of a hyperframe, scrambled or descrambled with a seed; K28.5 and the seed itself pass as they are (03 R75). -/
def cpriScramble (w seed off : Nat) (b : Byte) : Byte :=
  if off = 0 ∨ (seedByte w off).isSome then b else b ^^^ Config.cpriKey seed w off

/-- Reads the hyperframe at the start of what is held; `bad`: sting 0x03 corrupts its K28.5 (16 R503). -/
def readHyper (w scr : Nat) (bad : Bool) (held : List Group) : Hyperframe :=
  let gs := held.take (4096 * w)
  let raw := (gs.map Group.byte).toArray
  let seed := seedOf w raw
  let bytes := if scr = 1 && 8 ≤ w then raw.toList.zipIdx.map fun e => cpriScramble w seed e.2 e.1 else raw.toList
  let a := bytes.toArray
  let z (x : Nat) : Nat := (a.getD (16 * w * x) 0).toNat
  { k285 := !bad && ((gs.head?.map Group.k285).getD false)
    misplaced := ((gs.drop 1).filter Group.k285).length
    hfn := z 64, bfn := z 192 % 16 * 256 + z 128, version := z 2, z66 := z 66, l1 := z 130, ptr := z 194, seed := seed
    bytes := bytes.map id }

/-- Place of the first word, from word 0 on, whose byte 0 is K28.5. -/
def huntWord (w : Nat) : Nat → List Group → Nat → Option Nat
  | 0, _, _ => none
  | k + 1, l, i =>
    match l with
    | [] => none
    | g :: _ => if g.k285 then some i else huntWord w k (l.drop w) (i + w)

/-- What a hyperframe does to a port in HFNSYNC or BFNSYNC (R140, R141); the Bool says that it was a slip. `hfnOnly` counts the hyperframes
since HFNSYNC was entered. -/
def CpriPort.sync (p : CpriPort) (f : Hyperframe) : CpriPort × Bool :=
  let only := if p.state = .hfnSync then min 300 (p.hfnOnly + 1) else 0
  if !f.k285 then
    if 4 ≤ p.missK + 1 then ({ p with state := .hunt, missK := 0, hfnOnly := 0 }, false)
    else ({ p with missK := p.missK + 1, hfnNext := (p.hfnNext + 1) % 150, hfnOnly := only }, false)
  else
    let slip := f.hfn != p.hfnNext
    let q := { p with missK := 0, hfn := f.hfn, hfnNext := (f.hfn + 1) % 150, hfnOnly := only }
    if f.hfn ≠ 0 then (q, slip)
    else
      let nxt := (f.bfn + 1) % 4096
      if p.state = .hfnSync then
        if 1 ≤ p.bfnRun ∧ f.bfn = p.bfnNext then
          ({ q with state := .bfnSync, bfn := f.bfn, bfnNext := nxt, bfnBad := 0, hfnOnly := 0 }, slip)
        else ({ q with bfn := f.bfn, bfnNext := nxt, bfnRun := 1 }, slip)
      else if f.bfn = p.bfnNext then ({ q with bfn := f.bfn, bfnNext := nxt, bfnBad := 0 }, slip)
      else if 2 ≤ p.bfnBad + 1 then
        ({ q with state := .hfnSync, bfn := f.bfn, bfnNext := nxt, bfnRun := 1, bfnBad := 0, hfnOnly := 0 }, slip)
      else ({ q with bfn := f.bfn, bfnNext := (p.bfnNext + 1) % 4096, bfnBad := p.bfnBad + 1 }, slip)

/-- Control words of a hyperframe in synchronisation (R143, R146). `scr`: the lane's scramble setting. -/
def CpriPort.control (p : CpriPort) (scr : Nat) (f : Hyperframe) : CpriPort :=
  let v := p.verRun.step f.version
  let z := p.z66Run.step f.z66
  let q := p.ptrRun.step f.ptr
  let r := p.l1Run.step f.l1
  let ra := p.rai.step (f.l1.testBit 1)
  let sd := p.sdi.step (f.l1.testBit 2)
  let lo := p.rlos.step (f.l1.testBit 3)
  let lf := p.rlof.step (f.l1.testBit 4)
  let rs := p.rst.step (f.l1.testBit 0)
  let version := if 3 ≤ v.count then f.version else p.version
  let dRst := rs.decide' 5 5 p.dRst
  { p with
    verRun := v, version := version, z66Run := z, z66 := if 3 ≤ z.count then f.z66 else p.z66
    ptrRun := q, rxPtr := if 3 ≤ q.count then f.ptr else p.rxPtr, l1Run := r, l1 := if 3 ≤ r.count then f.l1 else p.l1
    rai := ra, sdi := sd, rlos := lo, rlof := lf, rst := rs
    dRai := ra.decide' 5 5 p.dRai, dSdi := sd.decide' 5 5 p.dSdi, dRlos := lo.decide' 5 5 p.dRlos
    dRlof := lf.decide' 5 5 p.dRlof, dRst := dRst
    dVer := if 3 ≤ v.count then (version == 1 && scr == 1) || (version == 2 && scr == 0) else p.dVer
    dLbf := bit p.cfg.flags 1 && p.state == .hfnSync && 300 ≤ p.hfnOnly
    seed := f.seed
    resetLeft := if dRst && !p.dRst && p.cfg.role == 1 && bit p.cfg.flags 0 then 8 else p.resetLeft
    resetRun := if dRst && !p.dRst && p.cfg.role == 1 && bit p.cfg.flags 0 then 0 else p.resetRun }

/-- What dLOS or dLOF masks restarts clear (R147). -/
def CpriPort.mask (p : CpriPort) : CpriPort :=
  { p with
    rai := {}, sdi := {}, rlos := {}, rlof := {}, rst := {}, verRun := {}, hfnOnly := 0, axfGood := 0
    dRai := false, dSdi := false, dRlos := false, dRlof := false, dRst := false, dVer := false, dLbf := false
    dFrq := false, dAxf := false }

/-- First subchannel and number of subchannels of a group for pointer p (R143); none for an absent fast group, which a pointer outside
17-63 says (log 124). -/
def cmBounds (p group : Nat) : Option (Nat × Nat) :=
  let fast := 17 ≤ p && p ≤ 63
  match group with
  | 0 => some (1, 1)
  | 1 => some (16, if fast then p - 16 else 48)
  | 2 => if fast then some (p, 64 - p) else none
  | _ => none

/-- The receive offset of a hyperframe (R152): its arrival against T(b, h, 0), over the full BFN range in BFNSYNC, else over one radio
frame (R153); all in 0.1 ns, `t` the device's BFN timing at the arrival. -/
def measured (st : L1State) (t : Int) (f : Hyperframe) : Int :=
  let h : Int := (f.hfn * 100000000 / 150 : Nat)
  if st = .bfnSync then
    let d := (t - (f.bfn * 100000000 : Nat) - h) % 409600000000
    if 204800000000 < d then d - 409600000000 else d
  else (t - h) % 100000000

/-- One hyperframe in synchronisation: its labels, control words, offset, bytes to the ingress store and its record for capture
(R140-R143, R150, R152, R154); the counts of R141 and R142 stop under dLOF. -/
def CpriPort.take (w scr now : Nat) (t : Int) (f : Hyperframe) (p : CpriPort) : CpriPort × Bool :=
  let r := p.sync f
  let slip := r.2 && !p.dLof
  let q := { r.1 with
    hfSlips := if slip then satAdd 32 p.hfSlips 1 else p.hfSlips
    kMisplaced := if p.dLof then p.kMisplaced else satAdd 32 p.kMisplaced f.misplaced }
  let live := q.synced && f.k285
  let q := if live then q.control scr f else q
  let q := if p.dLof then q.mask else q
  let a := f.bytes.toArray
  let ctl := (List.range 256).flatMap fun x => (List.range w).map fun y => a.getD (16 * w * x + y) 0
  ({ q with
    rxMeas := if live then (measured q.state t f :: q.rxMeas).take 160 else q.rxMeas
    rxMarks := if f.k285 then q.rxMarks ++ [q.rxStore.length] else q.rxMarks
    rxLabel := if live then (256 * f.hfn + 38400 * 256 - q.rxStore.length / (16 * w) % 38400) % 38400 else q.rxLabel
    rxStore := q.rxStore ++ f.bytes
    cmBuf := ((now / 8, p.dLof, ctl) :: q.cmBuf).take 32 }, slip)

/-- The synchronisation process over what is held (R140), and how many of the hyperframes taken were slips. Bytes that the hunt passes
over go to the ingress store as they come. -/
def CpriPort.run (w scr now : Nat) (bad : Bool) (t : Int) : Nat → CpriPort × Nat → CpriPort × Nat
  | 0, r => r
  | fuel + 1, (p, slips) =>
    let len := p.held.length
    let pass (k : Nat) (q : CpriPort) : CpriPort := { q with rxStore := q.rxStore ++ (q.held.take k).map Group.byte, held := q.held.drop k }
    match p.state with
    | .hunt =>
      match (if bad then none else huntWord w (len / w) p.held 0) with
      | some i => CpriPort.run w scr now bad t fuel ({ pass i p with state := .verify }, slips)
      | none => (pass (len / w * w) p, slips)
    | .verify =>
      if len ≤ 5120 * w then (p, slips)
      else
        let f := readHyper w scr bad p.held
        let g := readHyper w scr bad (p.held.drop (4096 * w))
        let q := { p with hfn := f.hfn, kMisplaced := if p.dLof then p.kMisplaced else satAdd 32 p.kMisplaced f.misplaced }
        if g.k285 && f.hfn ≤ 149 && g.hfn == (f.hfn + 1) % 150 then
          CpriPort.run w scr now bad t fuel ({ pass (4096 * w) q with
            state := .hfnSync, hfnNext := g.hfn, missK := 0, bfnRun := 0, bfnBad := 0, hfnOnly := 0 }, slips)
        else CpriPort.run w scr now bad t fuel ({ pass w q with state := .hunt }, slips)
    | _ =>
      if len < 4096 * w then (p, slips)
      else
        let r := { p with held := p.held.drop (4096 * w) }.take w scr now t (readHyper w scr bad p.held)
        CpriPort.run w scr now bad t fuel (r.1, slips + boolNat r.2)

/-- The lane's data is invalid or not word-aligned (R140, R147): HUNT, nothing is held, and dLOS masks all other defects. -/
def cpriLost (n : Nat) (s : State) : State :=
  if !cpriUp s n then s
  else
    let l := s.lane n
    let t := s.onCpri n fun p => { p with state := .hunt, held := [] }
    if l.losNow || l.lolNow then t.onCpri n CpriPort.mask else t

/-- HYPERFRAME_RX: the code groups of one hyperframe's time on a lane, decoded and counted (03 R74), then the port's process. Code groups
past the listed ones decode to 0x00 without error; `t` is the device's BFN timing at the first bit of the hyperframe that they
complete, in 0.1 ns. In near-end loopback the lane receives what it sends (03 R89). -/
def rxHyperframe (n : Nat) (codes : List Nat) (t : Int) (s : State) : State :=
  let l := s.lane n
  if !(l.works && isCpriMode l.mode) || l.losNow || l.lolNow || !l.aligned then
    if cpriUp s n then withCpriEvents n (cpriLost n) s else s
  else withCpriEvents n (fun s =>
    let w := cpriW (cpriOption l.mode)
    let len := 4096 * w
    let own := (s.cpriOf n).loopQ.take len
    let enc := encRun l.txRd own
    let s := if l.loopback = 1 then (s.onCpri n fun p => { p with loopQ := p.loopQ.drop len }).onLane n fun l => { l with txRd := enc.2 } else s
    let r := laneGroups n (stungUnit s 0x0A n) (if l.loopback = 1 then enc.1 else codes) s
    let gs := padTo {} len r.1
    let errs := (gs.filter fun g => g.invalid || g.disparity).length
    let s := r.2
    if !cpriUp s n then s
    else
      let p := s.cpriOf n
      let q := CpriPort.run w l.scramble s.now (stungUnit s 0x03 n) t (3 * 4096 + 1) ({ p with held := p.held ++ gs }, 0)
      pmAdd ⟨5, 0, n, 0⟩ (fun x => { x with
        cv := x.cv + errs, slips := x.slips + q.2, neEb := x.neEb + boolNat (!p.dLof && (0 < errs || 0 < q.2)) })
        (s.onCpri n fun _ => q.1)) s

/-- CPRI_LOF_CHANGE: 8 consecutive beats outside or inside synchronisation (R146). -/
def lofChange (n : Nat) (s : State) : State :=
  let p := s.cpriOf n
  if !cpriUp s n then s
  else if !p.dLof && 8 ≤ p.outBeats then withCpriEvents n (fun s => s.onCpri n fun p => { p.mask with dLof := true }) s
  else if p.dLof && 8 ≤ p.inBeats then withCpriEvents n (fun s => s.onCpri n fun p => { p.mask with dLof := false }) s
  else s

/-- A value modulo one radio frame, 10 ms in 0.1 ns. -/
def modRadio (x : Int) : Int := x % 100000000

/-- A difference of two such values, taken the short way round. -/
def shortDiff (x y : Int) : Int :=
  let d := (x - y) % 100000000
  if 50000000 < d then d - 100000000 else d

/-- The mean of the measurements of a radio frame (R153): that of their differences from one of them. -/
def offsetMean (bv : Bool) (ms : List Int) : Option Int :=
  match ms with
  | [] => none
  | m :: _ =>
    let d := ((ms.map fun x => if bv then x - m else shortDiff x m).sum) / (ms.length : Int)
    some (if bv then m + d else modRadio (m + d))

/-- RX_OFFSET_UPDATE at a radio frame boundary, once: the mean of the frame's measurements (R152, R153), and dAXF from the move
over the frame: 5 ppm of 10 ms is 50 ns, 1 ppm 10 ns (R146). -/
def rxOffset (n : Nat) (s : State) : State :=
  let p := s.cpriOf n
  if !cpriUp s n || s.now % 80 ≠ 0 || p.rxAt == s.now + 1 then s
  else
    let bv := p.state == .bfnSync
    match (if p.synced then offsetMean bv p.rxMeas else none) with
    | none => s.onCpri n fun p => { p with rxValid := false, bfnValid := false, axfGood := 0, rxMeas := [], rxAt := s.now + 1 }
    | some v => withCpriEvents n (fun s =>
      let move := if bv && p.bfnValid then v - p.rxOffset else shortDiff v p.rxOffset
      let known := p.rxValid
      let good := if known && move.natAbs ≤ 100 then p.axfGood + 80 else 0
      s.onCpri n fun p => { p with
        rxOffset := v, rxValid := true, bfnValid := bv, axfGood := min 8000 good, rxMeas := [], rxAt := s.now + 1
        dAxf := if known && 500 < move.natAbs then true else if 8000 ≤ good then false else p.dAxf }) s

/-- FRQ_CHECK inside BEAT, at a second boundary (R146): the move since the previous one, over the full BFN range where both offsets
are (R153). Without a valid offset at both boundaries there is nothing to judge, and dFRQ stands. -/
def frqCheck (n : Nat) (s : State) : State :=
  let p := s.cpriOf n
  if !cpriUp s n then s
  else if !p.rxValid then s.onCpri n fun p => { p with offsetSec := none }
  else
    let now := (p.rxOffset, p.bfnValid)
    match p.offsetSec with
    | none => s.onCpri n fun p => { p with offsetSec := some now }
    | some (o, bv) =>
      let d := if bv && p.bfnValid then p.rxOffset - o else shortDiff p.rxOffset o
      withCpriEvents n (fun s => s.onCpri n fun p => { p with drift := d, offsetSec := some now, dFrq := 500 < d.natAbs }) s

/-! ### Ingress stores (R154, R160-R162) -/

/-- Bytes that a beat takes from the ingress store: on an AxC port those of 480 basic frames, on a broad one 7,678 to 7,682 words as
the store allows (R154, R161); a store that holds less has nothing to give yet. -/
def CpriPort.beatBytes (p : CpriPort) (w : Nat) : Nat :=
  if !p.rxReady then 0
  else if p.cfg.transport = 0 then 7680 * w
  else
    let off : Int := (p.rxStore.length / w : Nat) - 11776
    (7680 + (if 64 < off then 2 else if 0 < off then 1 else if off < -64 then -2 else if off < 0 then -1 else 0 : Int)).toNat * w

/-- The ingress store after a beat: it starts to give once a beat and a hyperframe are in it (log 106). -/
def CpriPort.drain (w : Nat) (p : CpriPort) : CpriPort :=
  let k := p.beatBytes w
  let rest := p.rxStore.drop k
  { p with
    rxStore := rest, rxMarks := (p.rxMarks.filter (k ≤ ·)).map (· - k), rxLabel := (p.rxLabel + k / (16 * w)) % 38400
    rxReady := 11776 * w ≤ rest.length || (p.rxReady && 7682 * w ≤ rest.length) }

/-- Signed difference of two basic frame labels of a radio frame. -/
def bfDiff (x y : Nat) : Int :=
  let d := (x + 38400 - y % 38400) % 38400
  if d < 19200 then d else (d : Int) - 38400

/-- The enabled CPRI 1+1 group of lane n: its number, lanes and skew_hold (09 R275). -/
def cpriPair (s : State) (n : Nat) : Option (Nat × Nat × Nat × Nat) :=
  s.prot.findSome? fun e => match e.2.cfg.members with
    | .cpri w p skew => if e.2.cfg.enable = 1 && (w == n || p == n) then some (e.1, w, p, skew) else none
    | _ => none

/-- The store's bytes of the 480 basic frames from a label on, 0 where they have not come, and whether any has not (09 R276, R277). -/
def CpriPort.framesFrom (w label : Nat) (p : CpriPort) : List Byte × Bool :=
  let d := bfDiff label p.rxLabel
  let all := List.replicate (16 * w * (-d).toNat) 0 ++ p.rxStore.drop (16 * w * d.toNat)
  (padTo 0 (7680 * w) (all.take (7680 * w)), decide (d < 0) || decide (all.length < 7680 * w))

/-- The bytes of a beat that an AxC port packs, and whether some have not come: those of its line, or from the common store of a CPRI 1+1
group those of the selected lane (R161, 09 R276). -/
def packBytes (s : State) (n : Nat) : List Byte × Bool :=
  let q := s.cpriOf (lineSource s n)
  let w := cpriW (cpriOption (s.lane (lineSource s n)).mode)
  match cpriPair s n with
  | some (k, _, _, _) => match (tget ({} : ProtGroup) s.prot k).packAt with
    | some l => q.framesFrom w l
    | none => (padTo 0 (7680 * w) [], true)
  | none => (padTo 0 (7680 * w) (q.rxStore.take (q.beatBytes w)), false)

/-- The store without the basic frames before a label. -/
def CpriPort.dropTo (w label : Nat) (p : CpriPort) : CpriPort :=
  let k := min (bfDiff label p.rxLabel).toNat (p.rxStore.length / (16 * w))
  { p with
    rxStore := p.rxStore.drop (16 * w * k), rxMarks := (p.rxMarks.filter (16 * w * k ≤ ·)).map (· - 16 * w * k)
    rxLabel := (p.rxLabel + k) % 38400 }

/-- Where a group starts to pack: at the later of its lanes' labels, once each lane that is in synchronisation holds a beat and a hyperframe
and skew_hold more frames from there on (09 R276, log 106). -/
def packStart (a b : CpriPort) (w skew : Nat) : Option Nat :=
  let live := [a, b].filter CpriPort.synced
  let at' := match live with
    | [x] => x.rxLabel
    | _ => if 0 < bfDiff a.rxLabel b.rxLabel then a.rxLabel else b.rxLabel
  if live ≠ [] && live.all (fun x => decide (((736 + skew : Nat) : Int) ≤ bfDiff x.rxLabel at' + (x.rxStore.length / (16 * w) : Nat)))
  then some at' else none

/-- One beat of a CPRI 1+1 group's common store (09 R276). -/
def beatPair (k : Nat) (s : State) : State :=
  let g := tget ({} : ProtGroup) s.prot k
  match g.cfg.members with
  | .cpri n m skew =>
    if g.cfg.enable = 0 then s
    else
      let a := s.cpriOf n
      let b := s.cpriOf m
      let w := cpriW (cpriOption (s.lane n).mode)
      let next := if !(a.synced || b.synced) then none else match g.packAt with
        | some l => some ((l + 480) % 38400)
        | none => packStart a b w skew
      let trim (p : CpriPort) : CpriPort := match next with
        | some l => if p.synced then p.dropTo w l else p.drain w
        | none => if p.synced then p else p.drain w
      { (s.onCpri n trim).onCpri m trim with prot := tput {} s.prot k { g with packAt := next } }
  | _ => s

/-- The label and the receive offset that a port's containers come with: in a CPRI 1+1 group those of the later lane (R163, 09 R276). -/
def packLabel (s : State) (n : Nat) : Nat :=
  match cpriPair s n with
  | some (k, _, _, _) => (tget ({} : ProtGroup) s.prot k).packAt.getD (s.cpriOf (lineSource s n)).rxLabel
  | none => (s.cpriOf n).rxLabel
def packOffset (s : State) (n : Nat) : Int :=
  match cpriPair s n with
  | some (_, w, p, _) =>
    let a := s.cpriOf w
    let b := s.cpriOf p
    if !a.rxValid then b.rxOffset else if !b.rxValid then a.rxOffset
    else if 0 < (a.rxOffset - b.rxOffset + 50000000) % 100000000 - 50000000 then a.rxOffset else b.rxOffset
  | none => (s.cpriOf n).rxOffset

/-- The bits of a byte string, most significant first. -/
def bitsOf (l : List Byte) : List Bool := l.flatMap fun b => (List.range 8).map fun i => b.toNat.testBit (7 - i)

/-- Bytes from bits, most significant first. -/
def bytesOf : Nat → List Bool → List Byte
  | 0, _ => []
  | k + 1, l => BitVec.ofNat 8 ((padTo false 8 l).foldl (fun n b => 2 * n + boolNat b) 0) :: bytesOf k (l.drop 8)

/-- The containers of 480 basic frames at the start of a run of line bytes, bits concatenated in arrival order (R160, R161). -/
def containers (w startBit nBits : Nat) (l : List Byte) : List Byte :=
  let a := l.toArray
  bytesOf (60 * nBits) ((List.range 480).flatMap fun f => (List.range nBits).map fun i =>
    (a.getD (16 * w * f + w + (startBit + i) / 8) 0).toNat.testBit (7 - (startBit + i) % 8))

/-- What a beat does to a port: beats outside and inside synchronisation (R146); a lane that lost its signal or its
alignment is in HUNT (R140), and what dLOS or dLOF masks restarts clear (R147). -/
def beatCpri (n : Nat) (s : State) : State :=
  if !cpriUp s n then s
  else
    let l := s.lane n
    let t := if l.losNow || l.lolNow || !l.aligned then cpriLost n s else s
    let w := cpriW (cpriOption l.mode)
    t.onCpri n fun p =>
      let p := { (if (cpriPair s n).isSome then p else p.drain w) with resetRun := if p.resetLeft = 0 then 0 else p.resetRun + 480 }
      let p := if p.dLof then p.mask else p
      if p.synced then { p with inBeats := min 8 (p.inBeats + 1), outBeats := 0 }
      else { p with outBeats := min 8 (p.outBeats + 1), inBeats := 0 }

/-- L1_RESET_END: the reset request or acknowledge has run its hyperframes of 256 basic frames, 480 of which go in a beat (R144). -/
def resetEnds (n : Nat) (s : State) : State :=
  let p := s.cpriOf n
  if 256 * p.resetLeft < p.resetRun + 480 then s.onCpri n fun p => { p with resetLeft := 0, resetRun := 0 } else s

/-! ### AxC alignment stores (R163-R165), in 0.01 ns -/

/-- The AxC of a demap group that writes Brood input cell x of port b: first granule, AxC, cell number (07 R224). -/
def playCell (s : State) (b x : Nat) : Option (Nat × Nat × Nat) :=
  s.nurse.axvs.findSome? fun e =>
    if e.1 / 192 = 2 * b + 1 ∧ e.2.cfg.enable = 1 then
      e.2.cfg.axcs.zipIdx.findSome? fun a =>
        if a.1.x ≤ x ∧ x < a.1.x + axcCells a.1.nBits then some (e.1 % 192, a.2, x - a.1.x) else none
    else none

/-- The Brood input cell, by port and cell, that feeds the first cell of an egress AxC through the Brood. -/
def axcBrood (s : State) (n i : Nat) : Option (Nat × Nat) :=
  let x := (s.axc n 1 i).cfg
  match tget none s.comb.superConn (192 * n + x.cellBase / 87) with
  | some src =>
    if 256 * 192 ≤ src && src < 352 * 192 then
      ((tget ({} : BroodConn) s.comb.broodConn (16704 * (src / 192 - 256) + 87 * (src % 192) + x.cellBase % 87)).src).map fun y =>
        (y / 16704, y % 16704)
    else none
  | none => none

/-- The line port whose ingress containers an egress AxC takes, from its first cell, and whether they pass the Brood. -/
def axcFrom (s : State) (n i : Nat) : Option (Nat × Bool) :=
  let line (slot : Nat) (brood : Bool) : Option (Nat × Bool) := match tget none s.comb.superConn slot with
    | some src => if src < 256 * 192 then some (src / 192, brood) else none
    | none => none
  match axcBrood s n i with
  | some (b, x) => line (192 * (256 + b) + x / 87) true
  | none => line (192 * n + (s.axc n 1 i).cfg.cellBase / 87) false

/-- play_out of the AxC that plays out into an egress AxC (07 R224). -/
def axcPlay (s : State) (n i : Nat) : Option Nat :=
  match axcBrood s n i with
  | some (b, x) => (playCell s b x).map fun e => (tget ({} : Axv) s.nurse.axvs ((2 * b + 1) * 192 + e.1)).cfg.playOut
  | none => none

/-- Node frame, hyperframe and basic frame that leave at the start of the beat (R41, R139). -/
def txLabel (s : State) (txOffset : Nat) : Nat × Nat × Nat :=
  let i := 480 * (s.now % 80)
  let j := (i + 38400 - txOffset) % 38400
  ((s.now / 80 + s.scout.bfnOffset + (if i < txOffset then 4095 else 0)) % 4096, j / 256, j % 256)

/-- The store fill and shift that make the boundaries coincide (R163): the fill in [130.21, 390.63) ns that the ingress port's receive
offset leaves, with the stage latencies of the path, and the label sent less the label received; containers that passed the Brood were
received a beat earlier. A container that is played out has a fill of 260.42 ns and a shift of play_out (07 R224). Containers that come
from no line port have no phase and no label that the spec gives: both are free then (log 11). -/
def alignStore (s : State) (n i : Nat) (x : Axc) : Axc :=
  match axcPlay s n i, axcFrom s n i with
  | some out, _ => { x with fill := 26042, bfShift := out, armed := false, realign := false }
  | none, some (m, brood) =>
    let off := packOffset s m
    let l := txLabel s (s.cpriOf n).cfg.txOffset
    { x with
      fill := 13021 + ((Config.axcPath m n (boolNat brood) : Int) - 10 * off - 13021) % 26042, ref := off, armed := false, realign := false
      bfShift := (256 * l.2.1 + l.2.2 + 38400 + 480 * boolNat brood - packLabel s m % 38400) % 38400 }
  | none, none => { x with fill := 13021 + Config.free 3 s.fresh % 26042, bfShift := Config.free 4 s.fresh % 38400, armed := false, realign := false }

/-- The fill follows the drift of the ingress port's receive offset: later containers wait less. A slip is armed while the fill is
outside [65.10, 455.73] ns (R164). -/
def driftStore (s : State) (n i : Nat) (x : Axc) : Axc :=
  match (if (axcPlay s n i).isSome then none else axcFrom s n i) with
  | some (m, _) =>
    let off := packOffset s m
    let fill := x.fill - 10 * shortDiff off x.ref
    if (s.cpriOf (lineSource s m)).rxValid then { x with fill := fill, ref := off, armed := fill < 6510 || 45573 < fill } else x
  | none => x

/-- An egress radio frame boundary of the port falls in the beat in hand (R139). -/
def axcBoundary (s : State) (n : Nat) : Bool :=
  let l := txLabel s (s.cpriOf n).cfg.txOffset
  let k := 256 * l.2.1 + l.2.2
  k == 0 || 38400 < k + 480

/-- AXC_SLIP at an egress radio frame boundary (R164). -/
def slipStore (n i : Nat) (s : State) : State :=
  let x := s.axc n 1 i
  if !(cpriUp s n && x.cfg.enable == 1 && !x.failed && axcBoundary s n) then s
  else if x.fill < 6510 then
    raise (n / 8) (s.onAxc n 1 i fun x => { x with
      fill := x.fill + 26042, bfShift := (x.bfShift + 1) % 38400, slipsRepeat := satAdd 32 x.slipsRepeat 1, armed := x.fill + 26042 < 6510 })
  else if 45573 < x.fill then
    raise (n / 8) (s.onAxc n 1 i fun x => { x with
      fill := x.fill - 26042, bfShift := (x.bfShift + 38399) % 38400, slipsDrop := satAdd 32 x.slipsDrop 1, armed := 45573 < x.fill - 26042 })
  else s

/-- AXC_REALIGN at an egress radio frame boundary after the cells' SSF or AIS cleared (R163, R165). -/
def realignStore (n i : Nat) (s : State) : State :=
  let x := s.axc n 1 i
  if cpriUp s n && x.cfg.enable == 1 && x.realign && !x.failed && axcBoundary s n then
    (s.onAxc n 1 i fun x => { alignStore s n i x with realigns := satAdd 32 x.realigns 1 }).draw
  else s

/-- Port cell indices of an AxC: first and count (R162). -/
def axcRange (a : CpriAxcArgs) : Nat × Nat := (a.cellBase, axcCells a.nBits)

/-! ### Configuration in force -/

/-- A port's state at an enable: settings and counters stay, the rest starts empty (05 The cpri service). -/
def CpriPort.restart (p : CpriPort) : CpriPort :=
  { ({} : CpriPort) with
    cfg := p.cfg, everEnabled := true, hfSlips := p.hfSlips, kMisplaced := p.kMisplaced, broadMismatch := p.broadMismatch
    storeSlips := p.storeSlips, cm := p.cm, cmDropped := p.cmDropped, cmUnderrun := p.cmUnderrun, cmQueue := p.cmQueue }

/-- Applies a capped port change (R56). Each egress AxC realigns at an enable. -/
def applyCpriPort (a : CpriPortArgs) (s : State) : State :=
  let n := a.lane
  let p := s.cpriOf n
  let cfg := { a with flags := p.cfg.flags }
  if a.enable = 1 ∧ p.cfg.enable = 0 then
    let t := s.onCpri n fun p => { p with cfg := cfg }.restart
    (t.axcsOf n 1).foldl (fun s i => (s.onAxc n 1 i (alignStore s n i)).draw) t
  else s.onCpri n fun p => { p with cfg := cfg }

/-- Applies a capped AxC change (R168); an egress AxC sets its store at the enable (R163). -/
def applyAxc (a : CpriAxcArgs) (s : State) : State :=
  let x := s.axc a.lane a.dir a.axc
  let t := s.onAxc a.lane a.dir a.axc fun x => { x with cfg := a, failed := x.failed && a.enable == 1 }
  if a.enable = 1 ∧ x.cfg.enable = 0 ∧ a.dir = 1 then (t.onAxc a.lane 1 a.axc (alignStore t a.lane a.axc)).draw else t

def liveCpriFlags (n flags : Nat) (s : State) : State := s.onCpri n fun p => { p with cfg := { p.cfg with flags := flags } }

def liveCpriCm (a : CpriCmArgs) (s : State) : State := s.onCpri a.lane fun p => { p with cm := a, cmDropped := 0, cmUnderrun := 0 }

/-! ### C&M and vendor-specific channels (R150, R151) -/

/-- The bytes of a group's subchannels from the control words of one hyperframe (R150). -/
def groupBytes (w first k : Nat) (ctl : List Byte) : List Byte :=
  let a := ctl.toArray
  (List.range k).flatMap fun j => (List.range 4).flatMap fun q => (List.range w).map fun y => a.getD (w * (first + j + 64 * q) + y) 0

/-- CM_CAPTURE_RECORD to ring 2 (R150, R151), once for each flight that has passed: the hyperframes received in it, in order; those that
are missing were not received. -/
def cmCapture (n group : Nat) (s : State) : State :=
  let p := s.cpriOf n
  let flight := s.now / 8 - 1
  match cmBounds p.rxPtr group with
  | some (first, k) =>
    if cpriUp s n && bit p.cm.capture group && 8 ≤ s.now && tget 0 p.cmMark group ≤ 8 * flight then
      let w := cpriW (cpriOption (s.lane n).mode)
      let got := (p.cmBuf.filter fun e => e.1 == flight).reverse
      let frames := (List.range 15).map fun i => (got[i]?).bind fun e => if e.2.1 then none else some (groupBytes w first k e.2.2)
      let invalid := (frames.zipIdx.map fun e => at' e.2 (boolNat e.1.isNone)).sum
      let data := frames.flatMap fun f => f.getD (List.replicate (4 * w * k) 0)
      let rec' := recordBytes [(8, 8 * flight), (2, n), (1, group), (1, first), (1, k), (1, 0), (2, invalid)] ++ data
      let t := (ringPut p.cm.port 2 rec' s).onCpri n fun p => { p with cmMark := tput 0 p.cmMark group (8 * flight + 1) }
      if ringTakes p.cm.port 2 s then t else t.onCpri n fun p => { p with cmDropped := satAdd 32 p.cmDropped 1 }
    else s
  | none => s

/-- CM_INSERT_FLIGHT (R151): the next queued record if its bounds fit the port's group, else idle bytes and an
underrun; a group whose insert bit is 0 sends idle bytes (log 126). -/
def cmInsert (n group : Nat) (s : State) : State :=
  let p := s.cpriOf n
  match cmBounds p.cfg.ethPtr group with
  | some (first, k) =>
    if !(cpriUp s n && p.cfg.transport == 0) then s else
    let len := 60 * cpriW (cpriOption (s.lane n).mode) * k
    let fill := List.replicate len (BitVec.ofNat 8 (if group = 0 then p.cm.idleSlow else p.cm.idleFast))
    let idle (q : List (List Byte)) (under : Nat) := s.onCpri n fun p => { p with
      cmQueue := tput [] p.cmQueue group q, cmSent := tput [] p.cmSent group fill
      cmUnderrun := satAdd 32 p.cmUnderrun under }
    let q := tget [] p.cmQueue group
    if bit p.cm.insert group then
      match q with
      | r :: rest =>
        if (r.getD 11 0).toNat = first ∧ (r.getD 12 0).toNat = k then
          s.onCpri n fun p => { p with
            cmQueue := tput [] p.cmQueue group rest, cmSent := tput [] p.cmSent group ((r.drop 16).take len) }
        else idle rest 1
      | [] => idle [] 1
    else idle q 0
  | none => s

def execHyperframeRx (n : Nat) (codes : List Nat) (t : Int) (s : State) : Out :=
  done s (stingsSpent (onLaneFrame n) (rxHyperframe n codes t s))
def execCpriLofChange (n : Nat) (s : State) : Out := done s (lofChange n s)
def execRxOffsetUpdate (n : Nat) (s : State) : Out := done s (rxOffset n s)
def execCmCaptureRecord (n group : Nat) (s : State) : Out := done s (cmCapture n group s)
def execCmInsertFlight (n group : Nat) (s : State) : Out := done s (cmInsert n group s)
def execL1ResetEnd (n : Nat) (s : State) : Out := done s (resetEnds n s)
def execAxcSlip (n i : Nat) (s : State) : Out := done s (slipStore n i s)
def execAxcRealign (n i : Nat) (s : State) : Out := done s (realignStore n i s)

end Sys2Proof.Machine
end

