-- ==== Sys2Proof/Machine/Frame.lean ====
section
/-!
DEFINITION. Machine/Frame.lean: the STM-N frame as bytes (04 R101-R105, R115-R120): rows and columns, the framing pattern,
BIP parity, the columns of an AU, VC bytes and their path overhead. The layout of the frame is that of G.707 (log 102).
-/

namespace Sys2Proof.Machine

open Sys2Proof

/-- Bytes of a line frame of 3N granules. -/
def frameBytes (g3 : Nat) : Nat := 810 * g3

/-- The framing pattern: the last three A1 bytes and the first three A2 bytes (R102). -/
def framingPattern : List Byte := [0xF6, 0xF6, 0xF6, 0x28, 0x28, 0x28]

/-- All 48 bits match at the start of a stream (R102). -/
def framingHere (l : List Byte) : Bool := l.take 6 == framingPattern

/-- The frame in nine rows of `w` bytes. -/
def frameRows (w : Nat) : Nat → List Byte → List (List Byte)
  | 0, _ => []
  | r + 1, l => padTo 0 w l :: frameRows w r (l.drop w)

/-- Byte at row r, column c. -/
def rowAt (rows : List (List Byte)) (r c : Nat) : Byte := (rows.getD r []).getD c 0

/-- Column of an STM-N at which column b of its STM-1 number a stands. -/
def lineCol (n b a : Nat) : Nat := n * b + a

/-- Parity of each of the 3N columns' classes: a row cut into groups of 3N bytes. -/
def bipRow (g3 : Nat) : Nat → List Byte → List Byte → List Byte
  | 0, acc, _ => acc
  | k + 1, acc, row => if row.isEmpty then acc else bipRow g3 k (List.zipWith (· ^^^ ·) acc (padTo 0 g3 row)) (row.drop g3)

/-- BIP-24N over a frame except the regenerator section overhead, 3N bytes (R105). -/
def bip24 (g3 : Nat) (rows : List (List Byte)) : List Byte :=
  rows.zipIdx.foldl (fun acc e => bipRow g3 90 acc (if e.2 < 3 then e.1.drop (3 * g3) else e.1)) (List.replicate g3 0)

/-- Bits in which two byte strings differ. -/
def bipDiff (x y : List Byte) : Nat := (List.zipWith (fun a b : Byte => popCount 8 (a ^^^ b).toNat) x y).sum

/-! ### Columns of an AU of width w granules at granule g (R101), in an STM-N -/

/-- Columns of its payload, in the order of the bytes. -/
def auColumns (n g w : Nat) : List Nat :=
  if w = 1 then (List.range 87).map fun i => lineCol n (9 + 3 * i + g % 3) (g / 3)
  else (List.range 261).flatMap fun b => (List.range (w / 3)).map fun x => lineCol n (9 + b) (g / 3 + x)

/-- Columns of H1 of the AU's granules; H2 stands 3N columns on, H3 6N. The first is the AU's own; in an AU-4 the others hold the
concatenation indication (R113, R115). -/
def auHeads (n g w : Nat) : List Nat :=
  if w = 1 then [lineCol n (g % 3) (g / 3)]
  else (List.range 3).flatMap fun k => (List.range (w / 3)).map fun x => lineCol n k (g / 3 + x)

/-- The H1H2 word whose H1 stands at a column. -/
def ptrWordAt (n : Nat) (row : List Byte) (c : Nat) : Nat := (row.getD c 0).toNat * 256 + (row.getD (c + 3 * n) 0).toNat

/-- Position, within a unit of w bytes, of the byte of the AU's i-th granule. -/
def unitPlace (w i : Nat) : Nat := if w = 1 then 0 else i % 3 * (w / 3) + i / 3

/-- The bytes of the AU's i-th granule in a run of units. -/
def deinterleave (w i : Nat) (l : List Byte) : List Byte :=
  let a := l.toArray
  (List.range (l.length / w)).map fun u => a.getD (u * w + unitPlace w i) 0

/-- Units from the bytes of w granules. -/
def interleave (w : Nat) (gs : List (List Byte)) : List Byte :=
  if w = 1 then gs.getD 0 []
  else
    let as := (gs.map List.toArray)
    (List.range ((gs.getD 0 []).length)).flatMap fun u =>
      (List.range w).map fun i => (as.getD (3 * (i % (w / 3)) + i / (w / 3)) #[]).getD u 0

/-! ### VC bytes -/

/-- Parity over VC bytes that begin at position `pos` of the VC; the two fixed-stuff columns of a VC-3 are not covered (R131). -/
def vcBip (w pos : Nat) (l : List Byte) : Byte :=
  if w = 1 then bip8 ((l.zipIdx.filter fun e => !(decide ((pos + e.2) % 87 ∈ [29, 58]))).map Prod.fst) else bip8 l

/-- Byte of row r of the path overhead in a whole VC. -/
def pohAt (w r : Nat) (vc : List Byte) : Byte := vc.getD (87 * w * r) 0

/-- Puts path overhead bytes by row into VC bytes that begin at position `pos`. -/
def putPoh (w pos : Nat) (poh : List Byte) (l : List Byte) : List Byte :=
  poh.zipIdx.foldl (fun l e => if pos ≤ 87 * w * e.2 then l.set (87 * w * e.2 - pos) e.1 else l) l

/-- Cuts whole VCs off a run of bytes that begins with a VC; at most two begin in one frame. -/
def cutVcs (len : Nat) : Nat → List Byte → List (List Byte) × List Byte
  | 0, l => ([], l)
  | k + 1, l =>
    if len ≤ l.length then
      let r := cutVcs len k (l.drop len)
      (l.take len :: r.1, r.2)
    else ([], l)

/-- A row of `w` bytes from bytes at columns; every other byte is 0x00 (R105). -/
def rowOf (w : Nat) (puts : List (Nat × Byte)) : List Byte :=
  (puts.foldl (fun a e => a.setIfInBounds e.1 e.2) (Array.replicate w (0 : Byte))).toList

/-! ### Bytes of a granule (06 R169, R173) -/

/-- Payload byte k (R169); bytes past the listed ones are 0x00. -/
def Granule.at (g : Granule) (k : Nat) : Byte := g.payload.getD k 0

/-- The 783 payload bytes from a function of the position. -/
def fill783 (f : Nat → Byte) : List Byte := (List.range 783).map f

/-- VC bytes of a granule in order: a stuff byte is left out, the byte of a decrement comes first (R173). -/
def Granule.vcBytes (g : Granule) : List Byte :=
  let l := fill783 g.at
  match g.action with
  | 1 => l.drop 1
  | 2 => g.jbyte :: l
  | _ => l

/-- Indices, among a granule's VC bytes, of the J1s it carries (R173). -/
def Granule.starts (g : Granule) : List Nat := [g.offset, g.offset + 783].filter fun i => decide (i < g.vcBytes.length)

/-- Payload position at which VC byte i of a granule stands; the byte of a decrement precedes position 0 (R173). -/
def Granule.placeOf (g : Granule) (i : Nat) : Nat :=
  match g.action with
  | 1 => i + 1 | 2 => i - 1 | _ => i

/-- Whether a granule's mark counts against a path that it carries. -/
def Granule.failedVc (g : Granule) : Bool := g.ais || g.ssf || g.uneq

/-- Cuts a beat's VC bytes of w granules at the J1s `st`: the whole frames, each with the index at which it ended, and the frame in
hand; a frame that a new position cut short is none. -/
def vcCut (w base : Nat) : List Nat → List Byte → Option (List Byte) → List (Nat × List Byte) × Option (List Byte)
  | [], units, part => ([], part.map (· ++ units))
  | i :: rest, units, part =>
    let f := part.map (· ++ units.take ((i - base) * w))
    let r := vcCut w i rest (units.drop ((i - base) * w)) (some [])
    (match f with
      | some l => if l.length = 783 * w then (i, l) :: r.1 else r.1
      | none => r.1, r.2)

/-- VC bytes of a run of granules that carry one VC, in the order of the VC. -/
def vcUnits (gs : List Granule) : List Byte := interleave gs.length (gs.map Granule.vcBytes)

/-- Bytes into a VC of `len` bytes in hand: whole VCs and what is left; bytes before an awaited first byte belong to none. -/
def feedVc (len : Nat) (part : Option (List Byte)) (skip : Nat) (l : List Byte) : List (List Byte) × Option (List Byte) × Nat :=
  match part with
  | none => ([], none, skip)
  | some p =>
    let r := cutVcs len 2 (p ++ l.drop skip)
    (r.1, some r.2, skip - l.length)

/-- Sets bytes at positions of a VC in a run of its bytes that begins at position `pos`. -/
def putAt (pos : Nat) (puts : List (Nat × Byte)) (l : List Byte) : List Byte :=
  puts.foldl (fun l e => if pos ≤ e.1 then l.set (e.1 - pos) e.2 else l) l

end Sys2Proof.Machine
end

