-- ==== Sys2Proof/Machine/Comb.lean ====
section
/-!
DEFINITION. Machine/Comb.lean: granules, cells and tributary addresses (06 R169-R180), connection memories (R181-R186),
bank rotation and ECC (R189-R192), PRBS streams (R194), the monitor tap (R195) and the BAR2 bytes it writes.
-/

namespace Sys2Proof.Machine

open Sys2Proof

/-! ### The BAR2 memory (13 R386) -/

/-- A byte of the BAR2 window; an unlisted byte reads 0x00 (log 3). -/
def memRead (m : List Host.Cell) (a : Nat) : Byte := tget 0 m a

/-- Writes bytes from address `a` on. -/
def memWrite (m : List Host.Cell) (a : Nat) : List Byte → List Host.Cell
  | [] => m
  | b :: t => memWrite (tput 0 m a b) (a + 1) t

/-- The canonical form of the memory. -/
def Memory.wf (m : List Host.Cell) : Bool := tableWf (0 : Byte) m

def State.writeBar2 (s : State) (a : Nat) (l : List Byte) : State := s.onBus fun b => { b with bar2 := memWrite b.bar2 a l }

/-! ### Granules -/

def onesPayload : List Byte := List.replicate 783 0xFF

/-- Bytes of the 27-byte header in row and column order (R171). -/
def Granule.header (g : Granule) : List Byte :=
  let b (n : Nat) : Byte := BitVec.ofNat 8 n
  let origin := g.originPort * 2 ^ 15 + g.originG % 256 * 2 ^ 7
  let fm (i : Nat) : Nat := ((List.range 8).filter fun j => decide (8 * i + j ∈ g.failMap)).foldl (fun x j => x + 2 ^ j) 0
  let tail : List Byte := if g.ptype = 1 then (List.range 12).map fun i => b (fm i)
    else g.jbyte :: List.replicate 11 0
  [b (g.offset / 4), b (g.offset % 4 * 64 + boolNat g.ndf * 32), b g.action,
   b (boolNat g.ais * 128 + boolNat g.uneq * 64 + boolNat g.ssf * 32 + boolNat g.ssd * 16 + boolNat g.twinClean * 8 +
      boolNat g.fillerOnly * 4 + g.ptype % 4), g.combBip, 0,
   b (origin / 65536), b (origin / 256), b origin,
   b (g.tag / 65536), b (g.tag / 256), b g.tag,
   b (g.filler / 4), b (g.filler % 4 * 64), 0] ++ tail

/-- The 810 bytes of a granule in row and column order (R169). -/
def Granule.bytes (g : Granule) : List Byte :=
  (List.range 9).flatMap fun r => (g.header.drop (3 * r)).take 3 ++ (List.range 87).map fun c => g.at (87 * r + c)

/-- What an output without a connection carries (R184); `fresh`: the first beat after it lost its connection (R186). -/
def unconnected (beat : Nat) (fresh : Bool) : Granule :=
  { uneq := true, fillerOnly := true, tag := beat % 2 ^ 24, action := if fresh then 3 else 0, ndf := fresh }

/-- An unequipped granule of an enabled port that carries no traffic (R178). -/
def idleGranule (beat port g : Nat) : Granule :=
  { uneq := true, fillerOnly := true, originPort := port, originG := g, tag := beat % 2 ^ 24 }

/-- A granule of a port whose unit is disabled (R178). -/
def disabledGranule (beat port g : Nat) : Granule :=
  { ssf := true, fillerOnly := true, originPort := port, originG := g, tag := beat % 2 ^ 24 }

/-- Slot number of G(p,g), and Brood cell number of B(b, x). -/
def slotOf (p g : Nat) : Nat := 192 * p + g
def cellOf (b x : Nat) : Nat := 16704 * b + x

/-- Super port of Brood port b and of pool port q (R177). -/
def broodPort (b : Nat) : Nat := 256 + b
def poolPort (q : Nat) : Nat := 352 + q

/-! ### Tributary addresses (R180) -/

/-- Fields of a tributary byte: K, L, M. -/
def tuK (tu : Nat) : Nat := tu / 64 % 4
def tuL (tu : Nat) : Nat := tu / 8 % 8
def tuM (tu : Nat) : Nat := tu % 8

/-- Columns of a tributary type: 1 TU-11, 2 TU-12, 3 TU-2, 4 TU-3. -/
def tuColumns (type : Nat) : Nat :=
  match type with
  | 1 => 3 | 2 => 4 | 3 => 12 | 4 => 86 | _ => 0

/-- Whether a tributary byte is one of its type and structure (06 comb.tu). -/
def tuValid (au3 : Bool) (type tu : Nat) : Bool :=
  let k := tuK tu
  let l := tuL tu
  let m := tuM tu
  (if au3 then k == 0 && type != 4 else 1 ≤ k) &&
  (match type with
    | 1 => 1 ≤ l && 1 ≤ m && m ≤ 4
    | 2 => 1 ≤ l && 1 ≤ m && m ≤ 3
    | 3 => 1 ≤ l && m == 0
    | 4 => l == 0 && m == 0
    | _ => false) && tu < 256

/-- Cells of a tributary within its granule, in column order (R180). -/
def tuCells (au3 : Bool) (type tu : Nat) : List Nat :=
  let l := tuL tu - 1
  let m := tuM tu - 1
  let q (n : Nat) : Nat :=
    match type with
    | 1 => l + 7 * m + 28 * n
    | 2 => l + 7 * m + 21 * n
    | _ => l + 7 * n
  (List.range (tuColumns type)).map fun n =>
    if type = 4 then 1 + n
    else if au3 then 1 + q n + q n / 28
    else 3 + q n

/-- Granule of a tributary of the VC at granule g. -/
def tuGranule (au3 : Bool) (g tu : Nat) : Nat := if au3 then g else g + tuK tu - 1

/-- Port cell indices of a tributary (R170, R180). -/
def tuIndices (au3 : Bool) (type g tu : Nat) : List Nat := (tuCells au3 type tu).map fun c => 87 * tuGranule au3 g tu + c

/-! ### Connection memories (R181, R184-R186) -/

def State.superSrc (s : State) (slot : Nat) : Option Nat := tget none s.comb.superConn slot
def State.broodSrc (s : State) (cell : Nat) : BroodConn := tget {} s.comb.broodConn cell

/-- Applies a Super connection; the source that the output had before the boundary is kept (R186). -/
def applySuper (dst : Nat) (src : Option Nat) (s : State) : State :=
  s.onComb fun c => { c with
    superConn := tput none c.superConn dst src
    changed := if s.comb.changed.any fun e => e.1 == dst then c.changed else c.changed ++ [(dst, s.superSrc dst)] }

/-- An output slot whose source differs from the one before the boundary (R186). -/
def State.moved (s : State) (dst : Nat) : Bool := s.comb.changed.any fun e => e.1 == dst && e.2 != s.superSrc dst

/-- Whether an output slot exists for use (R193). -/
def outputUsed (p g : Nat) : Bool :=
  g < 192 && (p < 418 || p == 421 || (p == 420 && g < 8))

/-- Whether an input exists for use (R193). -/
def inputUsed (p g : Nat) : Bool := g < 192 && (p < 420 || p == 421)

/-! ### Regions (R189-R192) -/

/-- Memory of a region: 0 Super data, 1 Super connection, 2 Brood data, 3 Brood connection (R189). -/
def regionMemory (r : Nat) : Nat := if r < 8 then 0 else if r < 16 then 1 else if r < 40 then 2 else 3

/-- The beats of a rotating bank at whose first byte reads move, to the spare and back (R191). -/
def Region.handovers (x : Region) : List Nat := if x.state = 1 then [x.start + 1, x.start + 5] else []

/-- ROTATION_STEP: a bank of a rotating region has had its 5 beats from t and its march test; the next bank starts (R191,
R192). -/
def rotationStep (r : Nat) (marchOk : Bool) (s : State) : State :=
  let x := s.region r
  if 64 ≤ r ∨ x.state ≠ 1 ∨ s.now < x.start + 5 then s
  else if marchOk then
    if x.step + 5 < 40 then s.onRegion r fun x => { x with step := x.step + 5, start := s.now }
    else raise 66 (s.onRegion r fun x => { x with state := 0, step := 0 })
  else fault 0x09 3 r (raise 67 (s.onRegion r fun x => { x with state := 2, badBank := some (x.step / 5), step := 0 }))

/-- COMB_ECC_ERROR in a region: the slot or cell `unit` it meets is failed or unconnected for the beat when the error
cannot be corrected (R190); in a region without a spare that is a failure of the region (R192). -/
def combEcc (r unit : Nat) (corrected : Bool) (s : State) : State :=
  if 64 ≤ r then s else
  let m := regionMemory r
  let s := tick (if m % 2 = 1 then 54 else if m = 0 then (if corrected then 50 else 51) else if corrected then 52 else 53) r 1 s
  let src := match m with
    | 0 => if corrected then 60 else 61
    | 1 => 62
    | 2 => if corrected then 63 else 64
    | _ => 65
  if corrected then raise src (s.onRegion r fun x => { x with eccCorrected := satAdd 32 x.eccCorrected 1 })
  else
    let t := s.onRegion r fun x => { x with eccUncorrected := satAdd 32 x.eccUncorrected 1 }
    let t := t.onComb fun c =>
      match m with
      | 0 => { c with eccSlots := insertNat unit c.eccSlots }
      | 1 => { c with eccConns := insertNat unit c.eccConns }
      | 2 => { c with eccCells := insertNat unit c.eccCells }
      | _ => { c with eccConns := insertNat (81408 + unit) c.eccConns }
    let t := raise src t
    if (s.region r).state = 2 then
      fault 0x0A 3 r (raise 68 (t.onRegion r fun x => { x with state := 3 }))
    else t

/-! ### Streams and the tap -/

def streamKey (port stream : Nat) : Nat := 64 * (port - 416) + stream
def State.stream (s : State) (port stream : Nat) : Stream := tget {} s.comb.streams (streamKey port stream)
def State.onStream (s : State) (port stream : Nat) (f : Stream → Stream) : State :=
  s.onComb fun c => { c with streams := tput {} c.streams (streamKey port stream) (f (s.stream port stream)) }

/-- comb.test ops 1-3 (R194): a setting, one inverted pattern bit in the next beat, cleared counters. A lock that a setting drops is a
lock change (R196). -/
def liveStream (a : CombTestArgs) (s : State) : State :=
  let was := s.stream a.port a.stream
  let same := was.pattern % 16 == a.pattern % 16
  raiseIf (a.op == 1 && was.locked && !(bit a.pattern 5 && same)) 70 <| s.onStream a.port a.stream fun x =>
    match a.op with
    | 1 => { x with
        firstG := a.firstG, width := a.width, mode := a.mode, pattern := a.pattern % 64
        locked := x.locked && bit a.pattern 5 && same, errs := if x.locked && bit a.pattern 5 && same then x.errs else []
        broken := x.broken && bit a.pattern 5 && same, rx := if bit a.pattern 5 && same then x.rx else []
        gen := if same && bit a.pattern 4 then x.gen else 0, out := if bit a.pattern 4 then x.out else [] }
    | 2 => { x with inject := if bit x.pattern 4 then x.inject + 1 else x.inject }
    | 3 => { x with bits := 0, errors := 0, unavailable := 0 }
    | _ => x

/-- Bytes of a generated VC of width w that are POH or fixed stuff, by the place in its unit and the column (R194): columns 29 and 58 of
a VC-3, and the first X columns of a VC-4-Xc. -/
def vcFixed (w col u : Nat) : Bool := if w = 1 then col == 0 || col == 29 || col == 58 else col == 0 && decide (u < w / 3)

/-- Pattern bits of one beat of a stream (R194): the payload bytes a mode fills. VC-3 has 84 columns left of 87 after
POH and fixed stuff, VC-4 260 of 261, VC-4-Xc 260X of 261X. -/
def streamBits (x : Stream) : Nat :=
  if x.mode = 1 then (if x.width = 1 then 84 * 9 * 8 else x.width / 3 * 260 * 9 * 8) else x.width * 783 * 8

/-- The 1,024-byte tap record of one granule (R195). -/
def tapBytes (beat g : Nat) (x : Granule) : List Byte :=
  recordBytes [(8, beat), (2, g), (6, 0)] ++ x.bytes ++ List.replicate 198 0

/-- TAP_RECORD: the records of one beat, in granule order (R195). -/
def tapRecord (s : State) : State :=
  let t := s.comb.tap
  if t.state ≠ 2 then s
  else
    let gs := (List.range 8).filter fun g => bit t.mask g
    let r := gs.foldl (fun (acc : State × Nat) g =>
      let x := tget (unconnected s.now false) s.comb.superOut (slotOf 420 g)
      (acc.1.writeBar2 (t.bar2 + 1024 * acc.2) (tapBytes s.now g x), acc.2 + 1)) (s, t.written)
    let fin := t.beats ≤ t.done + 1
    let u := r.1.onComb fun c => { c with tap := { t with
      done := t.done + 1, written := r.2, first := if t.done = 0 then s.now else t.first, state := if fin then 3 else 2 } }
    raiseIf fin 72 u

def execCombEccError (r unit : Nat) (corrected : Bool) (s : State) : Out := done s (combEcc r unit corrected s)
def execTapRecord (s : State) : Out := done s (tapRecord s)

end Sys2Proof.Machine
end

