-- ==== Sys2Proof/Machine/Egress.lean ====
section
/-!
DEFINITION. Machine/Egress.lean: what CPRI line ports send in a beat (05 R139, R143, R145, R156-R159, R165, R166): the frame labels
and control words, the bytes of the egress AxCs, and the stream and the store of a broad port.
-/

namespace Sys2Proof.Machine

open Sys2Proof

/-! ### AxC ports -/

/-- Bytes that an egress AxC takes from its cells in the beat (R161, R162), 0 while they fail or come from no connection (R165, R166). -/
def axcSent (s : State) (home i : Nat) : List Byte :=
  let x := s.axc home 1 i
  let c := axcCells x.cfg.nBits
  (List.range (60 * x.cfg.nBits)).map fun k =>
    if x.failed then 0
    else
      let cell := x.cfg.cellBase + k % c
      (tget (unconnected s.now false) s.comb.superOut (slotOf home (cell / 87))).at (87 * (k / c) + cell % 87)

/-- Version and seed follow the lane's scramble setting (R143, R145). -/
def txVersion (s : State) (n : Nat) : Nat := if (s.lane n).scramble = 1 then 2 else 1
def txSeedSent (s : State) (n : Nat) : Nat := if (s.lane n).scramble = 1 then (s.cpriOf n).cfg.txSeed else 0

/-- The C&M group of a subchannel, with its bounds (R143). -/
def cmGroupOf (ptr sub : Nat) : Option (Nat × Nat × Nat) :=
  [0, 1, 2].findSome? fun g => match cmBounds ptr g with
    | some (first, k) => if first ≤ sub ∧ sub < first + k then some (g, first, k) else none
    | none => none

/-- Control byte Z.x.y that an AxC port sends in hyperframe h of node frame b (R143-R145, R151): C&M from the flight's record, else idle
bytes. -/
def ctlByte (s : State) (n w b h x y : Nat) : Byte :=
  let p := s.cpriOf n
  if x = 0 then (if y = 0 then 0xBC else 0x50)
  else match seedByte w (16 * w * x + y) with
  | some i => BitVec.ofNat 8 (txSeedSent s n / 256 ^ i)
  | none =>
    match cmGroupOf p.cfg.ethPtr (x % 64) with
    | some (g, first, k) =>
      (tget [] p.cmSent g).getD (h % 15 * (4 * w * k) + ((x % 64 - first) * 4 + x / 64) * w + y)
        (BitVec.ofNat 8 (if g = 0 then p.cm.idleSlow else p.cm.idleFast))
    | none =>
      if y ≠ 0 then 0
      else match x with
      | 64 => BitVec.ofNat 8 h
      | 128 => BitVec.ofNat 8 b
      | 192 => BitVec.ofNat 8 (b / 256 % 16)
      | 2 => BitVec.ofNat 8 (txVersion s n)
      | 66 => BitVec.ofNat 8 p.cfg.cmRate
      | 130 => BitVec.ofNat 8 (l1Sent s n)
      | 194 => BitVec.ofNat 8 p.cfg.ethPtr
      | _ => 0

/-- The bytes of the 480 basic frames that an AxC port sends in a beat, and the places of K28.5: control words, then containers at their
bits of the IQ block, and 0 in every other IQ bit (R139, R143, R166), scrambled where the lane is (03 R75). -/
def axcStream (s : State) (n : Nat) (iq : Tbl (List Byte)) : List Byte × List Nat :=
  let w := cpriW (cpriOption (s.lane n).mode)
  let home := axcHome s n
  let l := txLabel s (s.cpriOf n).cfg.txOffset
  let k0 := 256 * l.2.1 + l.2.2
  let axcs := iq.map fun e => let c := (s.axc home 1 e.1).cfg; (c.startBit, c.nBits, (bitsOf e.2).toArray)
  let scr := (s.lane n).scramble = 1 && 8 ≤ w
  let frame (f : Nat) : List Byte :=
    let k := (k0 + f) % 38400
    let b := (l.1 + (k0 + f) / 38400) % 4096
    let ctl := (List.range w).map fun y => ctlByte s n w b (k / 256) (k % 256) y
    let bits := (List.range (120 * w)).map fun i =>
      match axcs.find? fun a => decide (a.1 ≤ i) && decide (i < a.1 + a.2.1) with
      | some a => a.2.2.getD (f * a.2.1 + (i - a.1)) false
      | none => false
    let raw := ctl ++ bytesOf (15 * w) bits
    if scr then raw.zipIdx.map fun e => cpriScramble w (txSeedSent s n) (16 * w * (k % 256) + e.2) e.1 else raw
  ((List.range 480).flatMap frame, ((List.range 480).filter fun f => (k0 + f) % 256 == 0).map fun f => 16 * w * f)

/-- What an AxC port sends in the beat (R139, R143-R145, R166). -/
def axcTx (s : State) (n : Nat) : CpriTx :=
  let c := (s.cpriOf n).cfg
  let l := txLabel s c.txOffset
  let home := axcHome s n
  let iq := (s.axcsOf home 1).map fun i => (i, axcSent s home i)
  let st := axcStream s n iq
  { active := true, bfn := l.1, hfn := l.2.1, bf := l.2.2, version := txVersion s n, z66 := c.cmRate, ptr := c.ethPtr, l1 := l1Sent s n
    seed := txSeedSent s n, iq := iq, stream := st.1, marks := st.2 }

/-! ### Broad ports -/

/-- The group of an egress broad port (R137, R156). -/
def broadGranules (s : State) (n : Nat) : List Granule :=
  (List.range (broadGroup (cpriOption (s.lane n).mode))).map fun i => tget (unconnected s.now false) s.comb.superOut (slotOf n i)

/-- The bytes a group carries, and the places of the marked ones (R155). -/
def broadStream (gs : List Granule) : List Byte × List Nat :=
  gs.foldl (fun acc g =>
    (acc.1 ++ (List.range (783 - g.filler)).map g.at, if g.ndf && g.offset < 783 - g.filler then acc.2 ++ [acc.1.length + g.offset] else acc.2))
    ([], [])

/-- Granules counted in broad_mismatch (R159): another payload type, or a byte count that is no multiple of W. R154 puts 783 bytes into
every full granule, which is a multiple of few W: the count judged is that of the whole group, where no granule fails (log 107). -/
def broadWrong (gs : List Granule) (w : Nat) : Nat :=
  let live := gs.filter fun g => !(g.ais || g.ssf)
  let carried := live.foldl (fun c g => c + (783 - g.filler)) 0
  (live.filter fun g => g.ptype != 2).length +
    boolNat (live.length == gs.length && (live.all fun g => g.ptype == 2) && carried % w != 0)

/-- The port sends idle hyperframes because of its group (R158, R159). -/
def broadFails (gs : List Granule) (w : Nat) : Bool := gs.any (fun g => g.ais || g.ssf) || broadWrong gs w != 0

/-- A byte of the stream, `off` bytes into its hyperframe, as the port sends it: its own Z.2.0 and seed, and bits 1, 3 and 4 of Z.130.0
where R144 asks for them (R156). -/
def broadByte (s : State) (n w off : Nat) (b : Byte) : Byte :=
  if off = 32 * w then BitVec.ofNat 8 (txVersion s n)
  else if off = 2080 * w then b ||| BitVec.ofNat 8 (l1Sent s n &&& 26)
  else if 8 ≤ w then
    match seedByte w off with
    | some i => BitVec.ofNat 8 (txSeedSent s n / 256 ^ i)
    | none => b
  else b

/-- The same, scrambled where the lane is (03 R75). -/
def broadSent (s : State) (n w off : Nat) (b : Byte) : Byte :=
  let x := broadByte s n w off b
  if (s.lane n).scramble = 1 && 8 ≤ w then cpriScramble w (txSeedSent s n) off x else x

/-- Hyperframe starts that the stream's bytes belong to: the one in hand at the start of the beat, then the marks. -/
def broadStarts (hfPos : Option Nat) (marks : List Nat) : List Int :=
  (match hfPos with | some h => [-(h : Int)] | none => []) ++ marks.map fun m => (m : Int)

/-- Place in its hyperframe of byte k of the stream. -/
def placeIn (starts : List Int) (k : Nat) : Option Nat :=
  (starts.reverse.find? fun st => decide (st ≤ (k : Int))).map fun st => ((k : Int) - st).toNat

/-- HFN and BFN as the stream carries them (R140): one on at each start, then as Z.64.0, Z.128.0 and Z.192.0 say. -/
def carriedLabel (w : Nat) (stream : List Byte) (marks : List Nat) (starts : List Int) (hfn bfn : Nat) : Nat × Nat :=
  starts.foldl (fun acc (st : Int) =>
    let at? (off : Nat) : Option Nat :=
      if 0 ≤ st + (off : Int) && st + (off : Int) < (stream.length : Int) then some (stream.getD (st + (off : Int)).toNat 0).toNat else none
    let bump := 0 ≤ st && decide (st.toNat ∈ marks)
    let h := if bump then (acc.1 + 1) % 150 else acc.1
    let b := if bump && h = 0 then (acc.2 + 1) % 4096 else acc.2
    let h := (at? (1024 * w)).getD h
    let b := match at? (2048 * w) with | some x => b / 256 * 256 + x | none => b
    let b := match at? (3072 * w) with | some x => x % 16 * 256 + b % 256 | none => b
    (h, b)) (hfn, bfn)

/-- Words that a lane sends in a beat at its trim, in 1e-9 words (R94). -/
def wordsOut (s : State) (n : Nat) : Int := 7680 * (1000000000 + (s.lane n).trim)

/-- Byte `off` of an idle hyperframe: K28.5, HFN, BFN and Z.130.0, and 0x00 elsewhere (R158). -/
def idleByte (w hfn bfn l1 off : Nat) : Byte :=
  if off = 0 then 0xBC
  else if off = 1024 * w then BitVec.ofNat 8 hfn
  else if off = 2048 * w then BitVec.ofNat 8 bfn
  else if off = 3072 * w then BitVec.ofNat 8 (bfn / 256 % 16)
  else if off = 2080 * w then BitVec.ofNat 8 l1
  else 0

/-- The bytes of a beat of idle hyperframes from a place in one on, and the places of K28.5 (R158). -/
def idleStream (w words pos hfn bfn l1 : Nat) : List Byte × List Nat :=
  ((List.range (words * w)).map fun k =>
      let h := hfn + (pos + k) / (4096 * w)
      idleByte w (h % 150) ((bfn + h / 150) % 4096) l1 ((pos + k) % (4096 * w)),
    (List.range (words * w)).filter fun k => (pos + k) % (4096 * w) == 0)

/-- A beat of idle hyperframes: HFN and BFN go on from the last carried values (R158). -/
def idleOn (s : State) (n w : Nat) (p : CpriPort) : CpriPort :=
  let total := wordsOut s n + p.hfFrac
  let pos := p.hfPos.getD 0 / w + (total / 1000000000).toNat
  let h := p.lastHfn + pos / 4096
  { p with
    hfPos := some (pos % 4096 * w), hfFrac := total % 1000000000, lastHfn := h % 150, lastBfn := (p.lastBfn + h / 150) % 4096 }

/-- The store slips one word at a time on overflow and underflow (R157); the spec does not give its depth (log 96). -/
def storeOver (half : Nat) (fill : Int) : Int :=
  let h : Int := half * 1000000000
  if h < fill then (fill - h + 999999999) / 1000000000 else if fill < -h then -((-h - fill + 999999999) / 1000000000) else 0

/-- Received words of the beat in the means of the servo (R157): the radio frame in hand and the last 100 radio frames. -/
def countWords (now words : Nat) (p : CpriPort) : CpriPort :=
  let sum := (p.sumNow.1 + words, p.sumNow.2 + 1)
  if now % 80 = 79 then { p with sumNow := (0, 0), sums := (sum :: p.sums).take 100 } else { p with sumNow := sum }

/-- Frequency of the received words against nominal, in 0.001 ppm: their mean per beat against 7,680 (R137, R157). -/
def wordsBase (words beats : Nat) : Int := (words * 1000000000 : Int) / (7680 * beats : Int) - 1000000000

/-- One beat of the egress store of a broad port with a good group: 80 beats prime it, then the words that come and go (R157). -/
def storeBeat (s : State) (n words : Nat) (p : CpriPort) : CpriPort :=
  let p := countWords s.now words p
  if !p.primed then
    let beats := p.primeBeats + 1
    { p with
      primeBeats := beats, primeWords := p.primeWords + words, primed := 80 ≤ beats, storeFill := 0 }
  else
    let fill := p.storeFill + words * 1000000000 - wordsOut s n
    if bit p.cfg.flags 2 then { p with storeFill := fill }
    else
      let slips := storeOver (Config.broadStoreHalf (cpriOption (s.lane n).mode)) fill
      { p with storeFill := fill - slips * 1000000000, storeSlips := satAdd 32 p.storeSlips slips.natAbs }

/-- One beat of an egress broad port (R156-R159). -/
def broadPortBeat (s : State) (n : Nat) (p0 : CpriPort) : CpriPort :=
  let w := cpriW (cpriOption (s.lane n).mode)
  let gs := broadGranules s n
  let bad := broadFails gs w
  let st := broadStream gs
  let p := { p0 with broadMismatch := satAdd 32 p0.broadMismatch (broadWrong gs w) }
  let p := if bad then p else storeBeat s n (st.1.length / w) p
  let idle := bad || !p0.primed
  if idle then
    let q := { idleOn s n w p with idle := true }
    let l1 := l1Sent (s.onCpri n fun _ => q) n
    let st := idleStream w ((wordsOut s n + p.hfFrac) / 1000000000).toNat (p.hfPos.getD 0) p.lastHfn p.lastBfn l1
    { q with tx := {
        active := true, idle := true, bfn := p.lastBfn, hfn := p.lastHfn, bf := p.hfPos.getD 0 / (16 * w), l1 := l1
        stream := st.1, marks := st.2 } }
  else
    let pos := if p0.idle then none else p.hfPos
    let starts := broadStarts pos st.2
    let sent := st.1.zipIdx.map fun e => match placeIn starts e.2 with
      | some off => broadSent s n w off e.1
      | none => e.1
    let label := carriedLabel w st.1 st.2 starts p.lastHfn p.lastBfn
    { p with
      idle := false, lastHfn := label.1, lastBfn := label.2, hfFrac := 0
      hfPos := match starts.reverse with
        | last :: _ => some ((st.1.length : Int) - last).toNat
        | [] => none
      tx := {
        active := true, bfn := p.lastBfn, hfn := p.lastHfn, bf := pos.getD 0 / (16 * w), version := txVersion s n
        l1 := l1Sent s n &&& 26, seed := txSeedSent s n, stream := sent, marks := st.2 } }

/-- One beat of a CPRI port's egress; nothing of the tile's is sent while the lane sends something else (03 R92). The trim that the
bytes of the first 80 beats set when the store is primed (R157). -/
def cpriEgress (n : Nat) (s : State) : State :=
  let p := s.cpriOf n
  let loop := (s.lane n).loopback = 1
  let keep (p : CpriPort) : CpriPort :=
    if loop then
      let q := p.loopQ ++ p.tx.stream.zipIdx.map fun e => (decide (e.2 ∈ p.tx.marks), e.1)
      { p with loopQ := q.drop (q.length - 2 * p.tx.stream.length) }
    else { p with loopQ := [] }
  if !cpriUp s n then s.onCpri n fun p => { p with tx := {}, loopQ := [] }
  else if p.cfg.transport = 0 then
    let tx := if laneOutput s n = 3 then axcTx s n else {}
    s.onCpri n fun p => keep { p with tx := tx }
  else
    let q := broadPortBeat s n p
    let t := s.onCpri n fun _ => keep { q with tx := if laneOutput s n = 3 then q.tx else {} }
    if q.primed && !p.primed && bit p.cfg.flags 2 then
      t.onLane n fun l => { l with trimTarget := clampInt 200000 (wordsBase q.primeWords 80) }
    else t

/-! ### The broad-transport servo (R157, R158) -/

/-- Words and beats of the servo's base: the last 8,000 beats in whole radio frames, or those of the first one so far. -/
def CpriPort.servoSums (p : CpriPort) : Nat × Nat :=
  if p.sums.isEmpty then p.sumNow else ((p.sums.map Prod.fst).sum, (p.sums.map Prod.snd).sum)

/-- The trim that the servo asks for (R157): its base, and 0.02 ppm for each word that the store stands off its centre. -/
def CpriPort.servoTrim (p : CpriPort) : Int :=
  clampInt 200000 (wordsBase p.servoSums.1 p.servoSums.2 + 20 * p.storeFill / 1000000000)

/-- The servo works: a primed broad port with recover 1 that sends what its group carries. -/
def servoWorks (s : State) (n : Nat) : Bool :=
  let p := s.cpriOf n
  cpriUp s n && p.cfg.transport == 1 && bit p.cfg.flags 2 && p.primed && !p.idle && p.servoSums.2 != 0

/-- TRIM_SERVO_UPDATE at a radio frame boundary; while the port sends idle hyperframes the trim holds its value. -/
def servoUpdate (n : Nat) (s : State) : State :=
  if servoWorks s n then (tick 34 n 1 s).onLane n fun l => { l with trimTarget := (s.cpriOf n).servoTrim } else s

def execTrimServoUpdate (n : Nat) (s : State) : Out := done s (servoUpdate n s)

end Sys2Proof.Machine
end

