-- ==== Sys2Proof/Machine/Sdh.lean ====
section
/-!
DEFINITION. Machine/Sdh.lean: SDH line ports and high-order paths (04): configuration in force, defects and their
masking, consequent actions, frames received and sent, and the overhead byte channels.
-/

namespace Sys2Proof.Machine

open Sys2Proof

/-- Granules of a path type (R101). -/
def pathWidth (type : Nat) : Nat :=
  match type with
  | 1 => 1 | 2 => 3 | 3 => 12 | 4 => 48 | 5 => 192 | _ => 0

/-- Bits covered by each bit of B3 (R131). -/
def vcSize (type : Nat) : Nat :=
  match type with
  | 1 => 765 | 2 => 2349 | 3 => 2349 * 4 | 4 => 2349 * 16 | _ => 2349 * 64

/-- First granules of the paths set on a lane. -/
def State.pathsOf (s : State) (n : Nat) : List Nat :=
  (s.paths.filter fun e => e.1 / 192 == n && e.2.cfg.type != 0).map fun e => e.1 % 192

/-- The port works: enabled, on an enabled lane in an SDH mode (R136). -/
def sdhUp (s : State) (n : Nat) : Bool :=
  (s.sdhOf n).cfg.enable == 1 && (s.lane n).enable == 1 && isSdhMode (s.lane n).mode

/-! ### Defects, reported with their masks (R128, R129), and consequent actions (R133) -/

structure PortDef where
  los : Bool
  oof : Bool
  lof : Bool
  tim : Bool
  ais : Bool
  rdi : Bool
  deg : Bool
  exc : Bool
  sd : Bool
  tsf : Bool
  tsd : Bool
  s1Failed : Bool
  /-- An all-paths aAIS (first two rows of R133). -/
  aais : Bool
  /-- The masking of everything below the multiplex section holds. -/
  masked : Bool
  deriving DecidableEq, Repr

/-- sd_source: 0 takes dDEG, 1 dSD, 2 either (R133). -/
def sdPick (source : Nat) (deg sd : Bool) : Bool :=
  match source with
  | 0 => deg | 1 => sd | _ => deg || sd

def portDef (s : State) (n : Nat) : PortDef :=
  let l := s.lane n
  let p := s.sdhOf n
  let up := sdhUp s n
  let los := up && (l.losNow || l.lolNow)
  let oof := up && p.align != .inFrame && !los
  let lof := up && p.dLof && !los
  let m := los || lof || !up
  let tim := p.dTim && !m
  let ais := p.dAis && !m
  let timAis := tim && bit p.cfg.flags 0
  let m3 := m || ais || timAis
  let exc := p.dExc && !m3
  let deg := p.dDeg && !m3
  let sd := p.dSd && !m3
  { los := los, oof := oof, lof := lof, tim := tim, ais := ais, rdi := p.dRdi && !m3, deg := deg, exc := exc, sd := sd
    tsf := los || lof || ais || timAis || (exc && bit p.cfg.flags 1)
    tsd := sdPick (field p.cfg.flags 2 2) deg sd
    s1Failed := up && (los || lof || ais || p.s1.isNone)
    aais := los || lof || ais || timAis
    masked := m3 }

/-- The port_defects word of sdh.status. -/
def PortDef.word (d : PortDef) : Nat :=
  boolNat d.los + at' 1 (boolNat d.oof) + at' 2 (boolNat d.lof) + at' 3 (boolNat d.tim) + at' 4 (boolNat d.ais) +
  at' 5 (boolNat d.rdi) + at' 6 (boolNat d.deg) + at' 7 (boolNat d.exc) + at' 8 (boolNat d.sd) + at' 9 (boolNat d.tsf) +
  at' 10 (boolNat d.tsd) + at' 11 (boolNat d.s1Failed)

structure PathDef where
  ais : Bool
  lop : Bool
  uneq : Bool
  tim : Bool
  plm : Bool
  rdi : Bool
  deg : Bool
  exc : Bool
  sd : Bool
  lom : Bool
  tsf : Bool
  tsd : Bool
  aais : Bool
  deriving DecidableEq, Repr

def pathDef (s : State) (n g : Nat) : PathDef :=
  let d := portDef s n
  let p := s.path n g
  let up := sdhUp s n && p.cfg.type != 0
  let ais := up && !d.masked && p.ptr.mode == .ais
  let lop := up && !d.masked && p.ptr.mode == .lop
  let open1 := up && !d.masked && !ais && !lop
  let uneq := open1 && p.dUneq
  let open2 := open1 && !uneq
  let tim := open2 && p.dTim
  let plm := open2 && p.dPlm
  let lom := open2 && p.lom.dLom && bit p.cfg.flags 5
  let exc := open1 && p.dExc
  let deg := open1 && p.dDeg
  let sd := open1 && p.dSd
  let term := p.cfg.mode == 1
  { ais := ais, lop := lop, uneq := uneq, tim := tim, plm := plm, rdi := open1 && p.dRdi, deg := deg, exc := exc, sd := sd
    lom := lom
    tsf := up && (d.tsf || ais || lop || uneq || tim || plm || lom || (exc && bit p.cfg.flags 0))
    tsd := up && (d.tsd || sdPick (field p.cfg.flags 1 2) deg sd)
    aais := up && (d.aais || ais || lop || ((uneq || tim) && term && bit p.cfg.flags 3) || (plm && term && bit p.cfg.flags 4)) }

/-- The path_defects word of sdh.status. -/
def PathDef.word (d : PathDef) : Nat :=
  boolNat d.ais + at' 1 (boolNat d.lop) + at' 2 (boolNat d.uneq) + at' 3 (boolNat d.tim) + at' 4 (boolNat d.plm) +
  at' 5 (boolNat d.rdi) + at' 6 (boolNat d.deg) + at' 7 (boolNat d.exc) + at' 8 (boolNat d.sd) + at' 9 (boolNat d.lom) +
  at' 10 (boolNat d.tsf) + at' 11 (boolNat d.tsd) + at' 12 (boolNat d.aais)

/-- What a port and its paths report: raising the tile's source on a change (R29, R129) compares two of these. -/
def sdhReport (s : State) (n : Nat) : Nat × List (Nat × Nat) :=
  ((portDef s n).word % 512, (s.pathsOf n).map fun g => (g, (pathDef s n g).word % 1024))

/-- Runs a step of lane `n`; a change of what its port reports raises the source of its home tile (R29). -/
def withSdhEvents (n : Nat) (f : State → State) (s : State) : State :=
  let t := f s
  raiseIf (sdhReport s n != sdhReport t n) (n / 8) t

/-! ### Configuration in force (R135, R136) -/

/-- A path's state at a start (R114, R136): its settings and counters stay, everything received is cleared. -/
def SdhPath.restart (p : SdhPath) : SdhPath :=
  { ({} : SdhPath) with
    cfg := p.cfg, b3 := p.b3, hpRei := p.hpRei, pjInInc := p.pjInInc, pjInDec := p.pjInDec, pjOutInc := p.pjOutInc
    pjOutDec := p.pjOutDec }

/-- A port's state at an enable (R136). -/
def SdhPort.restart (p : SdhPort) : SdhPort :=
  { ({} : SdhPort) with
    cfg := p.cfg, everEnabled := true, b1 := p.b1, b2 := p.b2, msRei := p.msRei, j0Crc := p.j0Crc, oh := p.oh
    capDropped := p.capDropped, insUnderrun := p.insUnderrun, ohQueue := p.ohQueue, tx := p.tx }

/-- Removes the paths of a lane whose granules overlap [g, g + w) (R136). -/
def dropOverlaps (n g w : Nat) (s : State) : State :=
  (s.pathsOf n).foldl (fun s h =>
    if h < g + w ∧ g < h + pathWidth (s.path n h).cfg.type then s.onPath n h fun _ => {} else s) s

/-- Sets a path anew: overlapping paths go, and the interpreter starts in LOP (R114, R136). -/
def placePath (a : SdhPathArgs) (s : State) : State :=
  (dropOverlaps a.lane a.g (pathWidth a.type) s).onPath a.lane a.g fun _ => { cfg := a }

/-- New settings of a path in use: only a BER detector whose exponent changed restarts (R132), and a J1 receiver whose
message length changed. -/
def SdhPath.reset' (p : SdhPath) (a : SdhPathArgs) : SdhPath :=
  { p with
    cfg := a
    exc := if p.cfg.excK = a.excK then p.exc else {}
    dExc := p.dExc && p.cfg.excK == a.excK
    sd := if p.cfg.sdK = a.sdK then p.sd else {}
    dSd := p.dSd && p.cfg.sdK == a.sdK
    j1 := if p.cfg.j1Mode / 2 = a.j1Mode / 2 then p.j1 else {}
    lom := if bit a.flags 5 then p.lom else {} }

/-- Applies a capped path change: the same path with new settings, or a path set anew. -/
def applySdhPath (a : SdhPathArgs) (s : State) : State :=
  if (s.path a.lane a.g).cfg.type = a.type && a.type != 0 && sdhUp s a.lane then
    withSdhEvents a.lane (fun s => s.onPath a.lane a.g fun p => p.reset' a) s
  else placePath a s

/-- The default AU-4 paths of a first enable (R135): each granule group of three that no path covers. -/
def defaultPaths (a : SdhPortArgs) (s : State) : State :=
  let n := a.lane
  let top := sdhGranules (s.lane n).mode
  (List.range 64).foldl (fun s k =>
    let g := 3 * k
    let covered := (s.pathsOf n).any fun h => h < g + 3 && g < h + pathWidth (s.path n h).cfg.type
    if g < top && !covered then
      let flags := boolNat (bit a.flags 1) + at' 1 (field a.flags 2 2)
      s.onPath n g fun _ => { cfg := ⟨n, g, 2, 0, 0, 1, 2, a.degM, a.excK, a.degThr, a.sdK, flags,
        List.replicate 64 0, List.replicate 64 0⟩ }
    else s) s

/-- Applies a capped port change (R56, R135, R136); the paths of a disabled port stay as they are set (log 52). -/
def applySdhPort (a : SdhPortArgs) (s : State) : State :=
  let n := a.lane
  let p := s.sdhOf n
  if a.enable = 1 ∧ p.cfg.enable = 0 then
    let t := s.onSdh n fun p => { p with cfg := a }.restart
    let t := if p.everEnabled then t else defaultPaths a t
    (t.pathsOf n).foldl (fun s g => s.onPath n g SdhPath.restart) t
  else if a.enable = 0 then s.onSdh n fun p => { p with cfg := a }
  else withSdhEvents n (fun s => s.onSdh n fun p => { p with
    cfg := a
    exc := if p.cfg.excK = a.excK then p.exc else {}
    dExc := p.dExc && p.cfg.excK == a.excK
    sd := if p.cfg.sdK = a.sdK then p.sd else {}
    dSd := p.dSd && p.cfg.sdK == a.sdK }) s

def liveSdhOh (a : SdhOhArgs) (s : State) : State :=
  s.onSdh a.lane fun p => { p with oh := a, capDropped := 0, insUnderrun := 0 }

/-! ### A received frame (R102-R123) -/

/-- The rate's N: granules are 3N. -/
def stmN (s : State) (n : Nat) : Nat := sdhGranules (s.lane n).mode / 3

/-- The bits a lane receives in one frame period: in near-end loopback those it sends (03 R89); bits past the listed ones are 0. -/
def lineIn (s : State) (n : Nat) (bits : List Byte) : List Byte :=
  padTo 0 (frameBytes (3 * stmN s n)) (if (s.lane n).loopback = 1 then (s.sdhOf n).tx.line else bits)

/-- Hunt at every bit position from bit `k` of what is held on (R103); `bad`: sting 0x03 corrupts the pattern (16 R503). -/
def SdhPort.hunt (p : SdhPort) (bad : Bool) (k : Nat) (l : List Byte) : SdhPort :=
  match (if bad then none else bitFind 6 framingHere (bitDrop k l) 0) with
  | some i => { p with align := .presync, held := l.drop ((k + i) / 8), skip := (k + i) % 8 }
  | none => { p with align := .hunt, held := l.drop (max (l.length - 6) (k / 8)), skip := if l.length - 6 ≤ k / 8 then k % 8 else 0 }

/-- One frame period of line bits through the alignment process (R103); the bytes of the frame, from its pattern on, where it is
In-frame. The bits of a period that a failed test used are past: the hunt goes on in the bits that follow the place it resumes at, one
frame period later (log 104). -/
def SdhPort.align' (p : SdhPort) (len : Nat) (bad : Bool) (bits : List Byte) : SdhPort × Option (List Byte) :=
  let avail := p.held ++ bits
  let win := bitDrop p.skip avail
  match p.align with
  | .hunt => (p.hunt bad p.skip avail, none)
  | .presync =>
    if !bad && framingHere (win.drop len) then ({ p with align := .inFrame, miss := 0, held := avail.drop len, b1Last := none, b2Last := [] }, none)
    else (p.hunt bad (p.skip + 8 * len + 8) avail, none)
  | .inFrame =>
    let on (m : Nat) := ({ p with miss := m, held := avail.drop len }, some (win.take len))
    if !bad && framingHere win then on 0
    else if p.cfg.oofCount ≤ p.miss + 1 then ({ p with miss := 0 }.hunt bad (p.skip + 1) avail, none)
    else on (p.miss + 1)

/-- The frames counted for dLOF (R104). -/
def SdhPort.countFrame (p : SdhPort) : SdhPort :=
  if p.align = .inFrame then { p with oofFrames := 0, inFrames := min 24 (p.inFrames + 1) }
  else { p with oofFrames := min 24 (p.oofFrames + 1), inFrames := 0 }

/-- What the tile reads of a received frame: section bytes and the BIP violations found (R105), and the frame descrambled. -/
structure SdhFrame where
  j0 : Byte
  b1viol : Nat
  b2viol : Nat
  k1 : Nat
  k2 : Nat
  s1 : Nat
  m1 : Nat
  rows : List (List Byte)
  deriving DecidableEq, Repr

/-- Places, row and STM-1 column, of the bytes of each overhead channel (R124). -/
def ohPlaces (ch : Nat) : List (Nat × Nat) :=
  match ch with
  | 0 => [(2, 0), (2, 3), (2, 6)]
  | 1 => [(5, 0), (5, 3), (5, 6), (6, 0), (6, 3), (6, 6), (7, 0), (7, 3), (7, 6)]
  | 2 => [(1, 3)]
  | 3 => [(8, 6)]
  | _ => [(1, 6)]

/-- The frame whose bytes from the last three A1 bytes on are `win`: descrambled (03 R73), its BIPs checked against the previous
frame, and the port with this frame's BIPs kept for the next. Stings 0x04 and 0x07 act on the bytes as received (16 R503). -/
def readFrame (s : State) (n : Nat) (win : List Byte) (p : SdhPort) : SdhFrame × SdhPort :=
  let g3 := 3 * stmN s n
  let head := List.replicate (g3 - 3) (0xF6 : Byte)
  let body := win.take (frameBytes g3 - (g3 - 3))
  let raw := head ++ body
  let rows := frameRows (90 * g3) 9 (if (s.lane n).scramble = 1 then scramble (3 * g3) raw else raw)
  let inv (sub : Nat) : Byte := if stung s 0x07 n 0 0 sub then 1 else 0
  let b2 := match (rows.getD 4 []).take g3 with
    | x :: xs => (x ^^^ inv 1) :: xs
    | [] => []
  let k2 := (rowAt rows 4 (2 * g3)).toNat
  ({ j0 := rowAt rows 0 (2 * g3)
     b1viol := match p.b1Last with
       | some b => bipDiff [b] [rowAt rows 1 0 ^^^ inv 0]
       | none => 0
     b2viol := if p.b2Last.isEmpty then 0 else bipDiff p.b2Last b2
     k1 := (rowAt rows 4 g3).toNat
     k2 := if stungUnit s 0x04 n then k2 ||| 7 else k2
     s1 := (rowAt rows 8 0).toNat
     m1 := (rowAt rows 8 (g3 + 2)).toNat
     rows := rows },
   { p with
     b1Last := some (p.b1Head ^^^ bip8 body), b1Head := bip8 (win.drop (frameBytes g3 - (g3 - 3))), b2Last := bip24 g3 rows
     ohNow := (List.range 5).flatMap fun ch => (ohPlaces ch).map fun e => rowAt rows e.1 (lineCol (g3 / 3) e.2 0) })

/-- What a frame holds of one AU: the H1H2 words of the AU and of AUs 2 to X, the H3 bytes, and its payload in rows 1 to 3 and 4 to 9. -/
structure AuRx where
  word : Nat
  conc : List Nat
  h3 : List Byte
  top : List Byte
  rest : List Byte
  deriving DecidableEq, Repr

def auOf (nN g w : Nat) (rows : List (List Byte)) : AuRx :=
  let heads := auHeads nN g w
  let cols := auColumns nN g w
  let row (r : Nat) : List Byte := let a := (rows.getD r []).toArray; cols.map fun c => a.getD c 0
  let hRow := rows.getD 3 []
  { word := ptrWordAt nN hRow (heads.getD 0 0), conc := ((heads.take (w / 3)).drop 1).map (ptrWordAt nN hRow)
    h3 := heads.map fun c => hRow.getD (c + 6 * nN) 0
    top := (List.range 3).flatMap row, rest := (List.range 6).flatMap fun r => row (r + 3) }

/-- The MS-REI value of M1 (R106). -/
def msReiOf (mode m1 : Nat) : Nat :=
  match mode with
  | 1 => if m1 % 128 ≤ 24 then m1 % 128 else 0
  | 2 => if m1 ≤ 96 then m1 else 0
  | _ => m1 % 256

/-- The largest MS-REI of a rate (R105, R106). -/
def msReiMax (mode : Nat) : Nat :=
  match mode with
  | 1 => 24 | 2 => 96 | _ => 255

/-- Regenerator and multiplex section bytes of an in-frame frame, before the masks (R105, R109-R111, R128). `inv`: sting
0x06 inverts a character of the accepted message, which then differs (16 R503). dTIM is judged when a trace is accepted. -/
def SdhPort.section' (p : SdhPort) (inv : Bool) (f : SdhFrame) : SdhPort :=
  let tr := p.j0.byte16 f.j0
  let kr := p.kRun.step (f.k1 * 256 + f.k2)
  let got := 3 ≤ kr.count
  let ka := p.k2Ais.step (f.k2 % 8 == 7)
  let kd := p.k2Rdi.step (f.k2 % 8 == 6)
  let sr := p.s1Run.step (f.s1 % 16)
  { p with
    j0 := tr.1, j0Crc := if tr.2 then satAdd 32 p.j0Crc 1 else p.j0Crc
    dTim := p.cfg.j0Mode == 1 && (if tr.1.taken then tr.1.differs false p.cfg.expJ0 || inv else p.dTim || (inv && tr.1.accepted.isSome))
    b1 := satAdd 32 p.b1 f.b1viol
    kRun := kr, k1 := if got then f.k1 else p.k1, k2 := if got then f.k2 else p.k2
    kAccepted := p.kAccepted || got, noK := if got then 0 else p.noK + 1
    k2Ais := ka, dAis := ka.decide' 3 3 p.dAis, k2Rdi := kd, dRdi := kd.decide' 5 5 p.dRdi
    s1Run := sr, s1 := if 8 ≤ sr.count then some (f.s1 % 16) else p.s1 }

/-- The multiplex-section detectors and counts that R129 suspends (R105, R130, R131). -/
def SdhPort.msBip (mode : Nat) (f : SdhFrame) (p : SdhPort) : SdhPort :=
  { p with
    b2 := satAdd 32 p.b2 f.b2viol, msRei := satAdd 32 p.msRei (msReiOf mode f.m1)
    m1Next := min f.b2viol (msReiMax mode)
    deg := p.deg.block f.b2viol, exc := { p.exc with cur := p.exc.cur + f.b2viol }
    sd := { p.sd with cur := p.sd.cur + f.b2viol } }

/-- What is masked restarts clear (R129). -/
def SdhPort.msMask (p : SdhPort) : SdhPort :=
  { p with k2Rdi := {}, dRdi := false, deg := p.deg.mask, dDeg := false, exc := {}, dExc := false, sd := {}, dSd := false, m1Next := 0 }

/-- Masked by dLOS or dLOF: the section detectors restart clear too. -/
def SdhPort.rsMask (p : SdhPort) : SdhPort :=
  { p.msMask with j0 := { p.j0 with run := 0 }, dTim := false, k2Ais := {}, dAis := false, kRun := {}, s1Run := {} }

/-- What a masked path restarts clear (R129); the frame in hand is not clean (R123). -/
def SdhPath.mask (p : SdhPath) : SdhPath :=
  { p with
    rdi := {}, dRdi := false, deg := p.deg.mask, dDeg := false, exc := {}, dExc := false, sd := {}, dSd := false
    dUneq := false, dPlm := false, dTim := false, lom := {}, c2Run := {}, erdiRun := {}, j1 := { p.j1 with run := 0 }, lastB3 := 0
    good := false }

/-- A frame that cannot be read: runs of consecutive frames are broken (R105, R109, R128); no violation to send in M1. -/
def SdhPort.noFrame (p : SdhPort) : SdhPort :=
  { p with
    j0 := { p.j0 with buf := [], aligned := false, run := 0 }, kRun := {}, noK := p.noK + 1, k2Ais := {}, k2Rdi := {}, s1Run := {}
    m1Next := 0, b1Last := none, b2Last := [], ohNow := [] }

/-- The newest VC frame is not clean; marks of four frames are kept (R123). -/
def SdhPath.unclean (p : SdhPath) : SdhPath := { p with clean := false :: p.clean.take 3, good := false }

/-- A frame of a path that cannot be read. -/
def SdhPath.noFrame (p : SdhPath) : SdhPath :=
  { p with
    ptr := { p.ptr.calm with conc := [] }, c2Run := {}, erdiRun := {}, rdi := {}, j1 := { p.j1 with buf := [], aligned := false, run := 0 }
    vcPart := none, b3Last := none, lastB3 := 0, good := false }

/-- C2 comparison with the wildcard 0x01 (R121). -/
def c2Matches (acc exp : Nat) : Bool := acc == exp || (acc == 1 && exp != 0) || (exp == 1 && acc != 0)

/-- The VC start offset at which the elastic store takes up a VC whose pointer was just taken (R116, log 10). -/
def freshOffset (n g ptr : Nat) : Nat := Config.ingressOffset n g ptr % 783

/-- The POH of one VC frame in an unmasked path (R120-R122, R128): dTIM, dUNEQ and dPLM are judged when a trace or a code is
accepted; dUNEQ masks dTIM, dPLM and dLOM, which restart (R129). -/
def SdhPath.poh (p : SdhPath) (inv invB3 : Bool) (vc : List Byte) : SdhPath :=
  let w := pathWidth p.cfg.type
  let b3 := pohAt w 1 vc ^^^ (if invB3 then 1 else 0)
  let viol := match p.b3Last with
    | some b => bipDiff [b] [b3]
    | none => 0
  let c2v := (pohAt w 2 vc).toNat
  let g1 := (pohAt w 3 vc).toNat
  let long := 2 ≤ p.cfg.j1Mode
  let tr := if long then p.j1.byte64 (pohAt w 0 vc) else (p.j1.byte16 (pohAt w 0 vc)).1
  let cr := p.c2Run.step c2v
  let c2 := if 5 ≤ cr.count then some c2v else p.c2
  let uneq := if 5 ≤ cr.count then c2v == 0 else p.dUneq
  let er := p.erdiRun.step (g1 / 2 % 8)
  let rd := p.rdi.step (g1.testBit 3)
  let rei := if g1 / 16 ≤ 8 then g1 / 16 else 0
  { p with
    j1 := if uneq then { tr with run := 0 } else tr
    dTim := !uneq && p.cfg.j1Mode % 2 == 1 &&
      (if tr.taken then tr.differs long p.cfg.expJ1 || inv else p.dTim || (inv && tr.accepted.isSome))
    b3 := satAdd 32 p.b3 viol, lastB3 := viol, b3Last := some (vcBip w 0 vc)
    c2Run := cr, c2 := c2, dUneq := uneq
    dPlm := !uneq && (if 5 ≤ cr.count then !c2Matches c2v p.cfg.expC2 else p.dPlm)
    erdiRun := er, erdi := if 5 ≤ er.count then g1 / 2 % 8 else p.erdi
    rdi := rd, dRdi := rd.decide' 5 5 p.dRdi, hpRei := satAdd 32 p.hpRei rei
    lom := if uneq then {} else if bit p.cfg.flags 5 then p.lom.step (pohAt w 5 vc).toNat else p.lom, n1 := (pohAt w 8 vc).toNat
    deg := p.deg.block viol, exc := { p.exc with cur := p.exc.cur + viol }
    sd := { p.sd with cur := p.sd.cur + viol } }

/-- One whole VC frame: its POH where nothing masks it, the primitives, and its clean mark; the B3 in it covers the frame before, whose
mark a violation takes back (R123). -/
def rxVc (n g : Nat) (masked : Bool) (s : State) (vc : List Byte) : State :=
  let t := s.onPath n g fun p => if masked then { p.mask with b3Last := some (vcBip (pathWidth p.cfg.type) 0 vc) }
    else p.poh (stung s 0x06 n g 0 0) (stung s 0x07 n g 0 2) vc
  let d := pathDef t n g
  let p := t.path n g
  let t := t.onPath n g fun p => { p with
    clean := (match (p.good && !d.uneq && !d.tim && !d.tsf) :: p.clean with
      | a :: b :: rest => a :: (b && p.lastB3 == 0) :: rest.take 2
      | l => l)
    good := !d.uneq && !d.tim && !d.tsf && !masked }
  let g1 := (pohAt (pathWidth p.cfg.type) 3 vc).toNat / 16
  if masked then t
  else pmAdd ⟨3, g, n, 0⟩ (fun x => { x with
    neEb := x.neEb + boolNat (0 < p.lastB3), feEb := x.feEb + boolNat (1 ≤ g1 && g1 ≤ 8) }) t

/-- VC bytes into the frame in hand: whole VC frames and what is left; bytes before the awaited J1 belong to none. -/
def SdhPath.feed (p : SdhPath) (l : List Byte) : List (List Byte) × SdhPath :=
  let r := feedVc (783 * pathWidth p.cfg.type) p.vcPart p.vcSkip l
  (r.1, { p with vcPart := r.2.1, vcSkip := r.2.2 })

/-- The elastic store takes up a VC whose first J1 stands `at'` units after the bytes `before` (R116): it reaches the granules two beats
later, at a position of the tile's choice; a VC that was not in NORM sends AIS until then (R134). -/
def SdhPath.takeUp (p : SdhPath) (n g : Nat) (before fromJ1 : List Byte) (ptr : Nat) (wasNorm : Bool) : SdhPath :=
  let w := pathWidth p.cfg.type
  let o := freshOffset n g ptr
  { p with
    store := padTo 0 ((o + 2 * 783) * w - (ptr * w - before.length)) (p.store ++ before) ++ fromJ1
    jumpIn := 2, jumpTo := o, jumpAis := !wasNorm || p.jumpAis }

/-- One AU of a received frame (R113-R123): the payload of rows 1 to 3 belongs to the pointer of the frame before. -/
def rxAu (n : Nat) (masked : Bool) (rows : List (List Byte)) (s : State) (g : Nat) : State :=
  let p := s.path n g
  let w := pathWidth p.cfg.type
  let a := auOf (stmN s n) g w rows
  let ais := stung s 0x05 n g 0 0
  let word := if ais then 0xFFFF else a.word
  let conc := if ais then a.conc.map fun _ => 0xFFFF else a.conc
  let r := p.ptr.stepConc 783 word conc
  let ind := classify 783 (heardWord word conc) p.ptr.ptr
  let s := tickIf (!masked && ind.isNdf) 15 n (tickIf (!masked && ind == .invalid) 16 n s)
  let was := p.ptr.mode == .norm
  let normal := r.1.mode == .norm
  let f1 := p.feed a.top
  let p1 := { f1.2 with ptr := r.1, store := if was then p.store ++ a.top else p.store }
  let rest := match r.2 with
    | .inc => a.rest.drop w
    | .dec => a.h3 ++ a.rest
    | _ => a.rest
  let at' := r.1.ptr * w
  let moved := r.2 == .jump && !(was && p1.vcSkip == 0 && ((p1.vcPart.map List.length).getD 1 + at') % (783 * w) == 0)
  let p2 : SdhPath :=
    if !normal then { p1 with vcPart := none, vcSkip := 0, b3Last := none, good := false }
    else if moved then
      { p1.takeUp n g (rest.take at') (rest.drop at') r.1.ptr was with vcPart := some [], vcSkip := at', b3Last := none, good := false }
    else { p1 with store := p1.store ++ rest }
  let p3 := if masked then p2 else { p2 with
    pjInInc := if r.2 = .inc then satAdd 32 p.pjInInc 1 else p.pjInInc
    pjInDec := if r.2 = .dec then satAdd 32 p.pjInDec 1 else p.pjInDec }
  let f2 := p3.feed rest
  let t := s.onPath n g fun _ => f2.2
  if normal then (f1.1 ++ f2.1).foldl (rxVc n g masked) t else t.onPath n g SdhPath.mask

/-- What dLOS and dLOF mask in a port and all its paths (R129). -/
def maskPort (n : Nat) (s : State) : State :=
  ((s.onSdh n SdhPort.rsMask).pathsOf n).foldl (fun s g => s.onPath n g SdhPath.mask) (s.onSdh n SdhPort.rsMask)

/-- The lane's data is invalid (03 R86): the hunt starts anew and nothing is counted towards dLOF; all else of the port is masked. -/
def signalLost (n : Nat) (s : State) : State :=
  maskPort n (s.onSdh n fun p => { p.noFrame with align := .hunt, miss := 0, held := [], skip := 0, oofFrames := 0, inFrames := 0, dLof := false })

/-- SDH_FRAME_RX: the tile processes one frame period of line bits (R102-R123). Out of frame no byte is read: what was accepted or
declared stands, and every run of consecutive frames is broken. -/
def rxSdhFrame (n : Nat) (bits : List Byte) (s : State) : State :=
  if !sdhUp s n then s
  else withSdhEvents n (fun s =>
    let l := s.lane n
    let bits := lineIn s n bits
    let s := loopStores n bits s
    if l.losNow || l.lolNow then signalLost n s
    else
      let r := (s.sdhOf n).align' (frameBytes (3 * stmN s n)) (stungUnit s 0x03 n) bits
      let p := r.1.countFrame
      match r.2 with
      | none =>
        let t := s.onSdh n fun _ => p.noFrame
        let t := (t.pathsOf n).foldl (fun s g => s.onPath n g SdhPath.noFrame) t
        if p.dLof then maskPort n t else t
      | some win =>
        let fr := readFrame s n win p
        if p.dLof then maskPort n (s.onSdh n fun _ => { fr.2 with ohNow := [] })
        else
          let t := s.onSdh n fun _ => fr.2.section' (stung s 0x06 n 0xFF 0 0) fr.1
          let masked := (portDef t n).masked
          let t := t.onSdh n fun p => if masked then p.msMask else p.msBip l.mode fr.1
          let t := pmAdd ⟨1, 0, n, 0⟩ (fun x => { x with neEb := x.neEb + boolNat (0 < fr.1.b1viol) }) t
          let t := if masked then t else pmAdd ⟨2, 0, n, 0⟩ (fun x => { x with
            neEb := x.neEb + boolNat (0 < fr.1.b2viol), feEb := x.feEb + boolNat (1 ≤ msReiOf l.mode fr.1.m1) }) t
          (t.pathsOf n).foldl (rxAu n masked fr.1.rows) t) s

/-- LOF_DECLARE: dOOF has held for 24 consecutive frames (R104). -/
def lofDeclared (n : Nat) (s : State) : State :=
  let p := s.sdhOf n
  if sdhUp s n && p.align != .inFrame && 24 ≤ p.oofFrames then
    withSdhEvents n (fun s => s.onSdh n fun p => { p with dLof := true }) s
  else s

/-- LOF_CLEAR: In-frame has held for 24 consecutive frames (R104). -/
def lofCleared (n : Nat) (s : State) : State :=
  let p := s.sdhOf n
  if sdhUp s n && p.align == .inFrame && 24 ≤ p.inFrames then
    withSdhEvents n (fun s => s.onSdh n fun p => { p with dLof := false }) s
  else s

/-- INTERNAL_JUSTIFICATION: the elastic store reaches a limit; one adjustment in any 4 beats (R116). -/
def internalJust (n g : Nat) (inc : Bool) (s : State) : State :=
  let p := s.path n g
  if sdhUp s n && p.cfg.type != 0 && 4 ≤ p.sinceAdj then
    s.onPath n g fun p => { p with
      offset := if inc then (p.offset + 1) % 783 else (p.offset + 782) % 783
      action := if p.action = 3 then 3 else if inc then 1 else 2
      sinceAdj := 0
      pjOutInc := if inc then satAdd 32 p.pjOutInc 1 else p.pjOutInc
      pjOutDec := if inc then p.pjOutDec else satAdd 32 p.pjOutDec 1 }
  else s

/-! ### Error-rate detectors of sections and paths (R130, R131) -/

def sdhDegSecond (n : Nat) (s : State) : State :=
  let p := s.sdhOf n
  let r := Deg.second s.now p.deg p.cfg.degThr p.cfg.degM p.dDeg
  s.onSdh n fun p => { p with deg := r.1, dDeg := r.2 }

def pathDegSecond (n g : Nat) (s : State) : State :=
  let p := s.path n g
  let r := Deg.second s.now p.deg p.cfg.degThr p.cfg.degM p.dDeg
  s.onPath n g fun p => { p with deg := r.1, dDeg := r.2 }

/-- B2 has 24N bits, 8 per granule. -/
def sdhBerSub (n : Nat) (isExc : Bool) (s : State) : State :=
  let p := s.sdhOf n
  let b := 80 * 8 * sdhGranules (s.lane n).mode
  if isExc then
    let r := Ber.sub s.now p.exc p.cfg.excK b 801 p.dExc
    s.onSdh n fun p => { p with exc := r.1, dExc := r.2 }
  else
    let r := Ber.sub s.now p.sd p.cfg.sdK b 801 p.dSd
    s.onSdh n fun p => { p with sd := r.1, dSd := r.2 }

def pathBerSub (n g : Nat) (isExc : Bool) (s : State) : State :=
  let p := s.path n g
  if isExc then
    let r := Ber.sub s.now p.exc p.cfg.excK 640 (vcSize p.cfg.type) p.dExc
    s.onPath n g fun p => { p with exc := r.1, dExc := r.2 }
  else
    let r := Ber.sub s.now p.sd p.cfg.sdK 640 (vcSize p.cfg.type) p.dSd
    s.onPath n g fun p => { p with sd := r.1, dSd := r.2 }

/-! ### An egress frame (R105, R108, R112, R117-R120, R133) -/

/-- The S1 code sent (R108): the do-not-use code is 0xF. -/
def s1Sent (s : State) (n : Nat) : Nat :=
  let c := (s.sdhOf n).cfg
  let isRef := match s.scout.freq with
    | some i => 6 ≤ i && i ≤ 17 && (s.inp i).cfg.enable == 1 && decide ((s.inp i).cfg.nominal ∈ lineMates s n)
    | none => false
  match c.s1Mode with
  | 0 => if isRef then 0xF else s.scout.sysQl
  | 1 => c.s1Value
  | _ => 0xF

/-- A generated pointer word: NDF pattern, SS bits (R119), value. -/
def ptrWord (ndf : Bool) (sonet : Bool) (v : Nat) : Nat := (if ndf then 9 else 6) * 4096 + (if sonet then 0 else 2) * 1024 + v % 1024

/-- The code in G1 bits 5-7 that a terminated path sends back (R133). The causes are the path's own: for a failed port the table
gives MS-RDI alone, and the path's defects are masked then (R129). -/
def rdiCode (d : PathDef) (erdi : Bool) : Nat :=
  if erdi then
    if d.ais || d.lop then 5 else if d.uneq || d.tim then 6 else if d.plm then 2 else 0
  else if d.ais || d.lop || d.uneq || d.tim then 4 else 0

/-- The concatenation indication in AUs 2 to X of an AU-4-Xc (R115, R119). -/
def concWord (w : Nat) (sonet : Bool) : Nat := if 3 < w then ptrWord true sonet 0x3FF else 0

/-- H4 of a VC that the device sources (R42, R120). -/
def h4Sent (n : Nat) : Nat :=
  let mfi1 := n % 16
  let mfi2 := n / 16 % 256
  (if mfi1 = 0 then mfi2 / 16 else if mfi1 = 1 then mfi2 % 16 else 0) * 16 + mfi1

/-- H4 of a path in terminate mode (R120); bits 1-4 pass as the source carries them in the frames with MFI1 14 and 15 (07 R221). -/
def h4Terminated (now : Nat) (g : Granule) : Nat :=
  if 14 ≤ now % 16 then (g.vcBytes.getD ((g.offset + 435) % 783) 0).toNat / 16 * 16 + now % 16 else h4Sent now

/-- Byte `i` of the transmit trace (R112). -/
def traceByte (long : Bool) (chars : List Byte) (i : Nat) : Byte :=
  if long then (chars.take 64).getD (i % 64) 0 else (traceMsg16 chars).getD (i % 16) 0

/-- Units between a granule's bytes and the H row of an egress frame at a phase: at least the few that justifications held back need
(R117, log 10). -/
def egressShift (txPhase : Nat) : Nat := 4 + Config.egressShift txPhase % 783

/-- VC bytes that begin at the path's position `txPos` into its egress store: up to two VCs end in them. `poh`: the nine overhead bytes
of a terminated path; its B3 is computed over the VC before as sent (R120). -/
def SdhPath.storeTx (w : Nat) (poh : Option (List Byte)) : Nat → SdhPath → List Byte → SdhPath
  | 0, p, _ => p
  | k + 1, p, l =>
    let seg := l.take (783 * w - p.txPos)
    let out := match poh with
      | some b => putPoh w p.txPos (b.set 1 p.txB3) seg
      | none => seg
    let bip := p.txBip ^^^ vcBip w p.txPos out
    let q := { p with txStore := p.txStore ++ out }
    if p.txPos + seg.length = 783 * w then SdhPath.storeTx w poh k { q with txPos := 0, txBip := 0, txB3 := bip } (l.drop seg.length)
    else { q with txPos := p.txPos + seg.length, txBip := bip }

/-- The period of a pointer: what the frame carries of it, and what is left for rows 1 to 3 of the next. -/
def SdhPath.period (w : Nat) (p : SdhPath) (units : Nat) : List Byte × SdhPath :=
  (padTo 0 (units * w) p.txStore, { p with txStore := p.txStore.drop (units * w) })

/-- One AU of the egress frame, from the Super's output granules (R117, R118, R120). -/
def txAu (n g : Nat) (s : State) : TxAu × SdhPath :=
  let p := s.path n g
  let c := (s.sdhOf n).cfg
  let slot := 192 * egressHome s n + g
  let gr := tget {} s.comb.superOut slot
  let conn := (tget none s.comb.superConn slot).isSome
  let sonet := bit c.flags 4
  let d := pathDef s n g
  let w := pathWidth p.cfg.type
  let fixed (b : Byte) (h1h2 conc : Nat) : TxAu × SdhPath :=
    (⟨g, h1h2, conc, List.replicate w b, b, b, b.toNat, b.toNat, b.toNat, List.replicate (783 * w) b⟩,
      { p with txPtr := none, txStore := [], txPend := [], txSince := p.txSince + 1 })
  if gr.ais || gr.ssf then fixed 0xFF 0xFFFF (if 3 < w then 0xFFFF else 0)
  else if !conn || gr.uneq then fixed 0 (ptrWord gr.ndf sonet 0) (concWord w sonet)
  else
    let term := p.cfg.mode == 1
    let long := 2 ≤ p.cfg.j1Mode
    let h4 := h4Terminated s.now gr
    let g1 := min 8 p.lastB3 * 16 + rdiCode d (bit p.cfg.flags 6) * 2
    let poh : List Byte := [traceByte long p.cfg.txJ1 p.j1Pos, 0, BitVec.ofNat 8 p.cfg.txC2, BitVec.ofNat 8 g1, 0, BitVec.ofNat 8 h4, 0, 0, 0]
    let bytes := interleave w ((List.range w).map fun i => (tget {} s.comb.superOut (slot + i)).vcBytes)
    let start := gr.ndf || p.txPtr.isNone
    let shift := egressShift c.txPhase
    let p1 : SdhPath := if start then { p with
        txPtr := some ((gr.offset + shift) % 783), txPend := [], txPos := 0, txBip := 0
        txStore := padTo 0 ((gr.offset + shift) * w) p.txStore }
      else p
    let p2 := p1.storeTx w (if term then some poh else none) 3 (if start then bytes.drop (gr.offset * w) else bytes)
    let pend := p2.txPend ++ (if gr.action = 1 then [true] else if gr.action = 2 then [false] else [])
    let v := p2.txPtr.getD 0
    let au (word : Nat) (h3 vc : List Byte) : TxAu :=
      if term then ⟨g, word, concWord w sonet, h3, poh.getD 0 0, p2.txB3, p.cfg.txC2, g1, h4, vc⟩
      else ⟨g, word, concWord w sonet, h3, 0, 0, 0, 0, 0, vc⟩
    let p2 := { p2 with j1Pos := if term then (p2.j1Pos + 1) % 64 else p2.j1Pos }
    match (if 4 ≤ p.txSince then pend else []) with
    | true :: later =>
      let r := p2.period w 782
      (au (ptrWord false sonet (v ^^^ 0x2AA)) (List.replicate w 0) (List.replicate w 0 ++ r.1),
        { r.2 with txPtr := some ((v + 1) % 783), txPend := later, txSince := 1 })
    | false :: later =>
      let r := p2.period w 784
      (au (ptrWord false sonet (v ^^^ 0x155)) (r.1.take w) (r.1.drop w),
        { r.2 with txPtr := some ((v + 782) % 783), txPend := later, txSince := 1 })
    | [] =>
      let r := p2.period w 783
      (au (ptrWord gr.ndf sonet v) (List.replicate w 0) r.1, { r.2 with txPend := pend, txSince := p.txSince + 1 })

/-- The K bytes an MSP group sends on a lane, if one is configured there (R268, R105). -/
def mspK (s : State) (n : Nat) : Option (Nat × Nat) :=
  (s.prot.find? fun e =>
    e.2.cfg.enable == 1 && (match e.2.cfg.members with
      | .lines _ p => (e.2.cfg.kind == 1 || e.2.cfg.kind == 2) && p == n
      | _ => false)).map fun e => (e.2.txK1, e.2.txK2)

/-- Byte of an overhead channel in this frame of the flight: of its record, or the idle byte (R124, R127). -/
def ohByte (s : State) (p : SdhPort) (ch i : Nat) : Byte :=
  let k := (ohPlaces ch).length
  let idle : Byte := BitVec.ofNat 8 (if ch ≤ 1 then p.oh.idleDcc else p.oh.idleOw)
  (tget [] p.ohSent ch).getD (s.now % 8 * k + i) idle

/-- The section overhead of an egress frame, by row and column (R105): A1, A2, J0, B1, channels, B2, K1, K2, S1 and M1. -/
def sohPuts (s : State) (n : Nat) (p : SdhPort) (f : TxFrame) (r : Nat) : List (Nat × Byte) :=
  let nN := stmN s n
  let g3 := 3 * nN
  let ohs := (List.range 5).flatMap fun ch => ((ohPlaces ch).zipIdx.filter fun e => e.1.1 == r).map fun e =>
    (lineCol nN e.1.2 0, ohByte s p ch e.2)
  let own : List (Nat × Byte) :=
    match r with
    | 0 => (List.range g3).map (fun c => (c, (0xF6 : Byte))) ++ (List.range g3).map (fun c => (g3 + c, (0x28 : Byte))) ++ [(2 * g3, f.j0)]
    | 1 => [(0, f.b1)]
    | 4 => (f.b2.zipIdx.map fun e => (e.2, e.1)) ++ [(g3, BitVec.ofNat 8 f.k1), (2 * g3, BitVec.ofNat 8 f.k2)]
    | 8 => [(0, BitVec.ofNat 8 f.s1), (g3 + 2, BitVec.ofNat 8 f.m1)]
    | _ => []
  own ++ ohs

/-- Pointer bytes and payload of one AU in row r of an egress frame (R115, R117); `tail`: rows 1 to 3 of the period before. -/
def auPuts (nN w : Nat) (sonet : Bool) (a : TxAu) (tail : List Byte) (r : Nat) : List (Nat × Byte) :=
  let cols := auColumns nN a.g w
  let per := cols.length
  let data := if r < 3 then (tail.drop (r * per)).take per else (a.vc.drop ((r - 3) * per)).take per
  let heads := auHeads nN a.g w
  let word (i : Nat) : Nat :=
    if i = 0 then a.h1h2 else if a.h1h2 = 0xFFFF then 0xFFFF else if 0 < i ∧ i < w / 3 then a.conc else ptrWord true sonet 0x3FF
  let ptrs : List (Nat × Byte) := if r = 3 then heads.zipIdx.flatMap fun e =>
      [(e.1, BitVec.ofNat 8 (word e.2 / 256)), (e.1 + 3 * nN, BitVec.ofNat 8 (word e.2)), (e.1 + 6 * nN, a.h3.getD e.2 0)]
    else []
  ptrs ++ cols.zip data

/-- SDH_EGRESS_FRAME: one frame of a lane that sends its tile's data, or in far-end loopback the frame that its store holds first
(R92, R105; 03 R73, R89). -/
def txSdhFrame (n : Nat) (s : State) : State :=
  if !sdhUp s n then s
  else if laneOutput s n = 1 then
    let l := s.lane n
    let t := s.onSdh n fun p => { p with tx := { p.tx with line := l.loopStore.headD [] } }
    t.onLane n fun l => { l with loopStore := if 2 ≤ l.loopStore.length then l.loopStore.drop 1 else l.loopStore }
  else if laneOutput s n ≠ 3 then s else
  let p := s.sdhOf n
  let nN := stmN s n
  let d := portDef s n
  let k := (mspK s n).getD (0, 0)
  let t := (s.pathsOf n).foldl (fun (acc : List (TxAu × List Byte × Nat) × State) g =>
    let r := txAu n g acc.2
    let w := pathWidth r.2.cfg.type
    (acc.1 ++ [(r.1, (acc.2.path n g).txTail, w)], acc.2.onPath n g fun _ => { r.2 with txTail := r.1.vc.drop (522 * w) })) ([], s)
  let f : TxFrame := {
    j0 := traceByte false p.cfg.txJ0 p.j0Pos
    k1 := k.1
    k2 := if d.aais then k.2 / 8 * 8 + 6 else k.2
    s1 := s1Sent s n
    m1 := p.m1Next
    aus := t.1.map Prod.fst
    b1 := p.txB1
    b2 := p.txB2 }
  let rows := (List.range 9).map fun r => rowOf (270 * nN)
    (sohPuts s n p f r ++ t.1.flatMap fun a => auPuts nN a.2.2 (bit p.cfg.flags 4) a.1 a.2.1 r)
  let plain := rows.flatMap id
  let line := if (s.lane n).scramble = 1 then scramble (9 * nN) plain else plain
  t.2.onSdh n fun _ => { p with
    j0Pos := (p.j0Pos + 1) % 16, txB1 := bip8 line, txB2 := bip24 (3 * nN) rows
    tx := { f with line := line } }

/-! ### Overhead byte channels (R124-R127) -/

/-- Bytes per frame of a channel (R124). -/
def ohBytes (ch : Nat) : Nat := (ohPlaces ch).length

/-- Conditions under which a channel's bytes are invalid (R124). -/
def ohInvalid (d : PortDef) (ch : Nat) : Bool := d.los || d.lof || (d.ais && (ch == 1 || ch == 3))

/-- What a port keeps of each channel at the end of a beat: whether it was invalid, and its bytes (R125); a beat in which no frame could
be read left none, and counts as invalid (log 105). -/
def SdhPort.channels (d : PortDef) (p : SdhPort) : List (Bool × List Byte) :=
  (List.range 5).map fun ch =>
    let first := ((List.range ch).map ohBytes).sum
    (ohInvalid d ch || p.ohNow.isEmpty, (p.ohNow.drop first).take (ohBytes ch))

/-- OH_CAPTURE_RECORD: one record per flight and captured channel to ring 0, once the flight's 8 beats have passed (R125, R126). -/
def ohCapture (n ch : Nat) (s : State) : State :=
  let p := s.sdhOf n
  let first := s.now / 8 * 8 - 8
  if sdhUp s n && ch ≤ 4 && bit p.oh.capture ch && 8 ≤ s.now && tget 0 p.ohMark ch ≤ first then
    let frames := ((p.ohBuf.drop (s.now % 8)).take 8).reverse.map fun f => f.getD ch (true, [])
    let invalid := (frames.zipIdx.map fun e => at' e.2 (boolNat e.1.1)).sum
    let data := frames.flatMap fun e => if e.1 then List.replicate (ohBytes ch) (0 : Byte) else padTo 0 (ohBytes ch) e.2
    let rec' := recordBytes [(8, first), (2, n), (1, ch), (1, invalid), (4, 0)] ++ data
    let t := (ringPut p.oh.port 0 rec' s).onSdh n fun p => { p with ohMark := tput 0 p.ohMark ch (first + 1) }
    if ringTakes p.oh.port 0 s then t else t.onSdh n fun p => { p with capDropped := satAdd 32 p.capDropped 1 }
  else s

/-- Bytes of a channel's insert record: those after its 16-byte head (R125, R127). -/
def recordData (r : List Byte) : List Byte := r.drop 16

/-- OH_INSERT_FLIGHT: the egress flight of a channel takes the next queued record, or the idle byte and one underrun
(R127); a channel outside the insert mask sends the idle byte. -/
def ohInsert (n ch : Nat) (s : State) : State :=
  let p := s.sdhOf n
  if !(sdhUp s n && ch ≤ 4) then s else
  let idle := BitVec.ofNat 8 (if ch ≤ 1 then p.oh.idleDcc else p.oh.idleOw)
  let fill := List.replicate (8 * ohBytes ch) idle
  if bit p.oh.insert ch then
    match tget [] p.ohQueue ch with
    | r :: rest => s.onSdh n fun p => { p with
        ohQueue := tput [] p.ohQueue ch rest, ohSent := tput [] p.ohSent ch ((recordData r).take (8 * ohBytes ch)) }
    | [] => s.onSdh n fun p => { p with ohSent := tput [] p.ohSent ch fill, insUnderrun := satAdd 32 p.insUnderrun 1 }
  else s.onSdh n fun p => { p with ohSent := tput [] p.ohSent ch fill }

/-- Bytes that a path's granules take from the elastic store in a beat (R116, 06 R173). -/
def SdhPath.beatUnits (p : SdhPath) : Nat := if p.action = 1 then 782 else if p.action = 2 then 784 else 783

/-- What a beat does to a path: its granules were sent; the pointer action of the next beat is none, or the new position that was taken
up (R116). -/
def beatPath (_k : Nat) (p : SdhPath) : SdhPath :=
  let q := { p with
    sinceAdj := min 4 (p.sinceAdj + 1), action := 0, jumpIn := p.jumpIn - 1
    store := p.store.drop (p.beatUnits * pathWidth p.cfg.type) }
  if p.jumpIn = 1 then { q with offset := p.jumpTo, action := 3, jumpAis := false } else q

/-- What a beat does to a port: the masks of R129 hold for detectors also in a beat without a frame, the VC frame of a failed path is not
clean, and the overhead channels are kept for capture (R123, R125). -/
def beatSdh (n : Nat) (s : State) : State :=
  if !sdhUp s n then s
  else
    let d := portDef s n
    let t := if d.los || d.lof then maskPort n s else s
    let t := (t.pathsOf n).foldl (fun s g =>
      if (pathDef s n g).tsf || d.oof || d.masked then s.onPath n g SdhPath.unclean else s) t
    t.onSdh n fun p => { p with ohBuf := (p.channels d :: p.ohBuf).take 16, ohNow := [] }

def execSdhFrameRx (n : Nat) (bits : List Byte) (s : State) : Out := done s (stingsSpent (onLaneFrame n) (rxSdhFrame n bits s))
def execLofDeclare (n : Nat) (s : State) : Out := done s (lofDeclared n s)
def execLofClear (n : Nat) (s : State) : Out := done s (lofCleared n s)
def execInternalJustification (n g : Nat) (inc : Bool) (s : State) : Out := done s (internalJust n g inc s)
def execSdhEgressFrame (n : Nat) (s : State) : Out := done s (txSdhFrame n s)
def execOhCaptureRecord (n ch : Nat) (s : State) : Out := done s (ohCapture n ch s)
def execOhInsertFlight (n ch : Nat) (s : State) : Out := done s (ohInsert n ch s)

end Sys2Proof.Machine
end

