-- ==== Sys2Proof/Machine/Nurse.lean ====
section
/-!
DEFINITION. Machine/Nurse.lean: nurse units (07): uses of Brood granules, tributaries and their defects, TU pointers
and overhead in both directions, and AxC groups over VCAT.
-/

namespace Sys2Proof.Machine

open Sys2Proof

/-! ### Uses and structure (R197, R203) -/

/-- Granules a nurse.vc entry covers. -/
def vcWidth (a : NurseVcArgs) : Nat := if a.mode = 0 then a.width else if a.struct = 1 then 3 else 1

/-- First granules of the enabled entries of a Brood port. -/
def State.vcsOf (s : State) (b : Nat) : List Nat :=
  (s.nurse.vcs.filter fun e => e.1 / 192 == b && e.2.cfg.enable == 1).map fun e => e.1 % 192

/-- The enabled entry that covers a granule. -/
def vcCovering (s : State) (b g : Nat) : Option Nat :=
  (s.vcsOf b).find? fun h => decide (h ≤ g) && decide (g < h + vcWidth (s.vcOf b h).cfg)

/-- Use of a TUG-2 (07 nurse.vc): 0 TU-12, 1 TU-11, 2 TU-2, 3 not carried. -/
def tug2Use (a : NurseVcArgs) (i : Nat) : Nat := a.tug2 / 4 ^ i % 4

/-- Type of a tributary in a VC's structure: 1 TU-11, 2 TU-12, 3 TU-2, 4 TU-3; none where it has no such tributary. -/
def tuType (a : NurseVcArgs) (tu : Nat) : Option Nat :=
  let au3 := a.struct == 2
  let k := tuK tu
  let isTu3 := !au3 && 1 ≤ k && bit a.tug3 (k - 1)
  let idx := if au3 then tuL tu - 1 else 7 * (k - 1) + tuL tu - 1
  let t := if isTu3 then 4 else match tug2Use a idx with
    | 0 => 2
    | 1 => 1
    | 2 => 3
    | _ => 0
  if a.mode = 1 && tuValid au3 t tu then some t else none

/-- Every tributary byte that a VC's structure has. -/
def tusOf (a : NurseVcArgs) : List Nat := (List.range 256).filter fun tu => (tuType a tu).isSome

/-- Whether a VC carries TU-11, TU-12 or TU-2 (R201). -/
def carriesTug2 (a : NurseVcArgs) : Bool :=
  a.mode == 1 && (tusOf a).any fun tu => tuType a tu != some 4

/-- Pointer values of a tributary type (R203). -/
def tuRange (type : Nat) : Nat :=
  match type with
  | 1 => 104 | 2 => 140 | 3 => 428 | _ => 765

/-- SS bits sent (R203). -/
def tuSs (type : Nat) : Nat :=
  match type with
  | 1 => 3 | 2 => 2 | 3 => 0 | _ => 2

/-- Bits covered by each BIP-2 bit (R212), or by each B3 bit of a TU-3. -/
def lpSize (type : Nat) : Nat :=
  match type with
  | 1 => 416 | 2 => 560 | 3 => 1712 | _ => 765

/-- W × b of R131 and R212 at exponent 3. -/
def lpWb (type : Nat) : Nat := if type = 4 then 640 else 40

def nurseSrc (b : Nat) : Nat := 34 + b / 4

/-! ### Defects and consequent actions (R211-R214) -/

structure TuDef where
  ais : Bool
  lop : Bool
  uneq : Bool
  tim : Bool
  plm : Bool
  rdi : Bool
  rfi : Bool
  deg : Bool
  exc : Bool
  sd : Bool
  tsf : Bool
  tsd : Bool
  aais : Bool
  /-- Incoming ais or ssf, or dLOM. -/
  server : Bool
  deriving DecidableEq, Repr

/-- The VC's server failure for its tributaries (R213): incoming ais or ssf, dLOM. -/
def vcServer (v : NurseVc) : Bool := v.inAis || v.inSsf || (v.lom.dLom && carriesTug2 v.cfg)

def tuDef (s : State) (b g tu : Nat) : TuDef :=
  let v := s.vcOf b g
  let t := s.tuOf b g tu
  let up := v.cfg.enable == 1 && (tuType v.cfg tu).isSome
  let server := up && vcServer v
  let o := up && !server
  let ais := o && t.ptr.mode == .ais
  let lop := o && t.ptr.mode == .lop
  let o1 := o && !ais && !lop
  let uneq := o1 && t.dUneq
  let tim := o1 && !uneq && t.dTim
  let plm := o1 && !uneq && t.dPlm
  let exc := o1 && t.dExc
  let deg := o1 && t.dDeg
  let sd := o1 && t.dSd
  { ais := ais, lop := lop, uneq := uneq, tim := tim, plm := plm, rdi := o1 && t.dRdi, rfi := o1 && t.dRfi, deg := deg
    exc := exc, sd := sd, server := server
    tsf := server || ais || lop || uneq || tim || plm || (exc && bit t.cfg.flags 0)
    tsd := sdPick (field t.cfg.flags 1 2) deg sd
    aais := server || ais || lop || ((uneq || tim) && bit t.cfg.flags 3) || (plm && bit t.cfg.flags 4) }

/-- The tu_defects word of nurse.status, without dPLAY. -/
def TuDef.word (d : TuDef) : Nat :=
  boolNat d.ais + at' 1 (boolNat d.lop) + at' 2 (boolNat d.uneq) + at' 3 (boolNat d.tim) + at' 4 (boolNat d.plm) +
  at' 5 (boolNat d.rdi) + at' 6 (boolNat d.rfi) + at' 7 (boolNat d.deg) + at' 8 (boolNat d.exc) + at' 9 (boolNat d.sd) +
  at' 10 (boolNat d.tsf) + at' 11 (boolNat d.tsd) + at' 12 (boolNat d.aais)

/-- Runs a step on a tributary; a change of its reported defects raises the unit's source (07, R213). -/
def withTuEvents (b g tu : Nat) (f : State → State) (s : State) : State :=
  let t := f s
  raiseIf ((tuDef s b g tu).word % 1024 != (tuDef t b g tu).word % 1024) (nurseSrc b) t

/-! ### Configuration in force -/

/-- A tributary of a VC just enabled: nothing received, nothing sent. -/
def NurseTu.anew (t : NurseTu) : NurseTu :=
  { t with
    ptr := {}, rx := [], vcPart := none, vcSkip := 0, bipLast := none, pubs := [], justify := 0, txOn := false, txRaw := false
    txStore := [], txTail := [], txFrames := [] }

/-- Applies a capped nurse.vc change (R56); the first beat after an enable carries ndf 1 (R202), and the interpreters of
its tributaries start in LOP (R114, R204). -/
def applyNurseVc (a : NurseVcArgs) (s : State) : State :=
  let v := s.vcOf a.b a.g
  if a.enable = 1 ∧ v.cfg.enable = 0 then
    let t := s.onVc a.b a.g fun _ => { cfg := a, fresh := true }
    (tusOf a).foldl (fun s tu => s.onTu a.b a.g tu NurseTu.anew) t
  else s.onVc a.b a.g fun v => { v with cfg := a }

/-- tx_c2 of nurse.vc, which takes the beat boundary (R202). -/
def applyC2 (b g c2 : Nat) (s : State) : State := s.onVc b g fun v => { v with cfg := { v.cfg with txC2 := c2 } }

/-- Applies a capped nurse.tu change; a BER detector whose exponent changed restarts (R132, R212). -/
def applyNurseTu (a : NurseTuArgs) (s : State) : State :=
  withTuEvents a.b a.g a.tu (fun s => s.onTu a.b a.g a.tu fun t => { t with
    cfg := a
    exc := if t.cfg.excK = a.excK then t.exc else {}
    dExc := t.dExc && t.cfg.excK == a.excK
    sd := if t.cfg.sdK = a.sdK then t.sd else {}
    dSd := t.dSd && t.cfg.sdK == a.sdK }) s

/-- Bytes per beat of an AxC at nominal rate. -/
def axcBytes (nBits : Nat) : Nat := 60 * nBits

/-- Applies a capped AxC group change: each AxC starts at its nominal rate, with the map buffer at its centre (R219). -/
def applyAxv (a : NurseAxvArgs) (s : State) : State :=
  let v := s.axvOf a.b a.dir a.g0
  if a.enable = 1 ∧ v.cfg.enable = 0 then
    s.onAxv a.b a.dir a.g0 fun v => { v with
      cfg := a, parts := []
      axcs := a.axcs.zipIdx.foldl (fun t e => tput {} t e.2 { ({} : AxvAxc) with
        rate := axcBytes e.1.nBits * 65536, count := axcBytes e.1.nBits
        playSlips := (v.axcOf e.2).playSlips, ctrlErrors := (v.axcOf e.2).ctrlErrors }) [] }
  else s.onAxv a.b a.dir a.g0 fun v => { v with cfg := a }

/-- The tributary whose output cells hold a Brood output cell: granule of its VC and tributary byte. -/
def tuOfCell (s : State) (b x : Nat) : Option (Nat × Nat) :=
  match vcCovering s b (x / 87) with
  | none => none
  | some g =>
    let c := (s.vcOf b g).cfg
    ((tusOf c).find? fun tu => decide (x ∈ tuIndices (c.struct == 2) ((tuType c tu).getD 0) g tu)).map fun tu => (g, tu)

/-- Applies a Brood connection; an output TU whose source changes sends NDF once (R206). -/
def applyBrood (dst : Nat) (src : Option Nat) (axcKind : Bool) (s : State) : State :=
  let old := s.broodSrc dst
  let t := s.onComb fun c => { c with broodConn := tput {} c.broodConn dst ⟨src, axcKind⟩ }
  if old.src = src then t
  else match tuOfCell s (dst / 16704) (dst % 16704) with
    | some (g, tu) => t.onTu (dst / 16704) g tu fun x => { x with txNdf := true }
    | none => t

/-! ### Where the bytes of a tributary stand (R180, R203) -/

/-- Granule cells of a tributary's columns. -/
def cellsOf (c : NurseVcArgs) (type tu : Nat) : List Nat := tuCells (c.struct == 2) type tu

/-- Bytes of a TU in one frame, and of its period. -/
def tuFrameLen (type : Nat) : Nat := 9 * tuColumns type
def tuFrames (type : Nat) : Nat := if type = 4 then 1 else 4

/-- VC bytes of one frame of a TU-11, TU-12 or TU-2: all but its V byte. -/
def tuPer (type : Nat) : Nat := tuFrameLen type - 1

/-- Payload positions from the J1 of a VC frame to byte i of a TU in it; bytes past the frame stand in the next. -/
def tuSpot (cells : List Nat) (i : Nat) : Nat := 87 * (i / cells.length) + cells.getD (i % cells.length) 0

/-- Frame of the period, the next one's first among them, and byte in it, of pointer value i: pointers count from the byte after V2, or
after H3, where column 1 of a TU-3 below H3 is stuff. -/
def tuIndex (type i : Nat) : Nat × Nat :=
  if type = 4 then (0, 86 * (i / 85 + 2) + i % 85 + 1) else (i / tuPer type + 1, i % tuPer type + 1)

/-- Payload positions of a period. -/
def tuSpan (type : Nat) : Nat := 783 * tuFrames type

/-- Payload position of pointer value i in a period whose VC frames begin at `starts`. -/
def tuPlace (cells : List Nat) (type : Nat) (starts : List Nat) (i : Nat) : Nat :=
  let x := tuIndex type i
  starts.getD x.1 (starts.headD 0 + tuSpan type) + tuSpot cells x.2

/-! ### Ingress of a tributary (R204, R208-R211) -/

/-- One period as received: its pointer word, the VC bytes before the pointer's value 0, those up to the justification, V3 or H3, the VC
bytes after it, and where its VC frames begin. -/
structure TuPeriod where
  word : Nat
  top : List Byte
  a : List Byte
  neg : Byte
  b : List Byte
  starts : List Nat
  deriving DecidableEq, Repr

/-- The period that the frames of a tributary make. -/
def tuPeriod (type : Nat) (fs : List TuFrame) : TuPeriod :=
  let at' (k i : Nat) : Byte := ((fs[k]?).elim [] TuFrame.bytes).getD i 0
  let data (k : Nat) : List Byte := ((fs[k]?).elim [] TuFrame.bytes).drop 1
  let starts := fs.map TuFrame.start
  if type = 4 then
    let f := (fs[0]?).elim [] TuFrame.bytes
    let row (r : Nat) : List Byte := (f.drop (86 * r + 1)).take 85
    ⟨(at' 0 0).toNat * 256 + (at' 0 86).toNat, row 0 ++ row 1, [], at' 0 172, (List.range 7).flatMap fun r => row (r + 2), starts⟩
  else ⟨(at' 0 0).toNat * 256 + (at' 1 0).toNat, data 0, data 1, at' 2 0, data 2 ++ data 3, starts⟩

/-- The oldest whole period among received frames, and the frames after it: one frame of a TU-3, else the four of a multiframe; frames
that belong to no whole multiframe are passed over. -/
def takePeriod (type : Nat) : List TuFrame → Option (List TuFrame) × List TuFrame
  | [] => (none, [])
  | f :: rest =>
    if type = 4 then (some [f], rest)
    else
      let four := f :: rest.take 3
      if (four.map TuFrame.phase) == [0, 1, 2, 3] then (some four, rest.drop 3)
      else if four.length < 4 && f.phase == 0 then (none, f :: rest)
      else takePeriod type rest

/-- What is masked restarts clear (R213). -/
def NurseTu.mask (t : NurseTu) : NurseTu :=
  { t with
    rdi := {}, dRdi := false, rfi := {}, dRfi := false, deg := t.deg.mask, dDeg := false, exc := {}, dExc := false
    sd := {}, dSd := false, dUneq := false, dPlm := false, dTim := false, labelRun := {}, erdiRun := {}, extBits := [], extRun := {}
    j2 := { t.j2 with run := 0 }, viol := 0 }

/-- Label comparison with the wildcard 001 (R209). -/
def labelMatches (acc exp : Nat) : Bool := c2Matches acc exp

/-- The extended label's 32-multiframe sequence, oldest bit first (R210). -/
def extSequence (bits : List Bool) : Option Nat :=
  let head := bits.take 12 == [false, true, true, true, true, true, true, true, true, true, false, false]
  if bits.length = 32 && head && !(bits.getD 20 true) then
    some ((bits.drop 12).take 8 |>.foldl (fun n b => 2 * n + boolNat b) 0)
  else none

/-- One bit of K4 bit 1 (R210): three identical sequences are accepted. -/
def NurseTu.extBit (t : NurseTu) (b : Bool) : NurseTu :=
  let bits := t.extBits ++ [b]
  match extSequence bits with
  | some v =>
    let r := t.extRun.step v
    { t with extBits := [], extRun := r, ext := if 3 ≤ r.count then some v else t.ext }
  | none => if bits.length < 32 then { t with extBits := bits } else { t with extBits := bits.drop 1, extRun := {} }

/-- Folds a parity byte to BIP-2. -/
def bip2 (b : Nat) : Nat :=
  let f (i : Nat) : Nat := boolNat (b.testBit i)
  ((f 7 + f 5 + f 3 + f 1) % 2) * 2 + (f 6 + f 4 + f 2 + f 0) % 2

/-- BIP violations of a VC against the parity of the one before: two bits in V5, eight in B3 (R208); `inv` inverts one of them. -/
def tuViol (type : Nat) (last : Option Byte) (inv : Bool) (vc : List Byte) : Nat :=
  match last with
  | none => 0
  | some b =>
    if type = 4 then popCount 8 (b ^^^ vc.getD 85 0 ^^^ (if inv then 1 else 0)).toNat
    else popCount 2 (bip2 b.toNat ^^^ ((vc.getD 0 0).toNat / 64) ^^^ boolNat inv)

/-- What every VC's overhead has: the accepted label, the trace, enhanced and plain RDI, REI, and its violations (R208-R211). -/
def NurseTu.common (t : NurseTu) (label erdi viol rei : Nat) (j rdi : Byte × Bool) : NurseTu :=
  let lr := t.labelRun.step label
  let uneq := if 5 ≤ lr.count then label == 0 else t.dUneq
  let tr := (t.j2.byte16 j.1).1
  let er := t.erdiRun.step erdi
  let rd := t.rdi.step rdi.2
  { t with
    labelRun := lr, label := if 5 ≤ lr.count then some label else t.label, dUneq := uneq
    j2 := if uneq then { tr with run := 0 } else tr
    dTim := !uneq && t.cfg.j2Mode == 1 && (if tr.taken then tr.differs false t.cfg.expJ2 else t.dTim)
    erdiRun := er, erdi := if 5 ≤ er.count then erdi else t.erdi
    rdi := rd, dRdi := rd.decide' 5 5 t.dRdi, lpRei := satAdd 32 t.lpRei rei
    bip := satAdd 32 t.bip viol, viol := viol
    deg := t.deg.block viol, exc := { t.exc with cur := t.exc.cur + viol }, sd := { t.sd with cur := t.sd.cur + viol } }

/-- The overhead of one VC-11, VC-12 or VC-2 (R208-R211). -/
def NurseTu.poh (t : NurseTu) (type : Nat) (inv : Bool) (vc : List Byte) : NurseTu :=
  let q := tuRange type / 4
  let v5 := vc.getD 0 0
  let k4 := vc.getD (3 * q) 0
  let t0 := t.common (v5.toNat / 2 % 8) (k4.toNat / 2 % 8) (tuViol type t.bipLast inv vc) (boolNat (v5.toNat.testBit 5)) (vc.getD q 0, true)
    (v5, v5.toNat.testBit 0)
  let t1 := if t0.label == some 5 then t0.extBit (k4.toNat.testBit 7) else { t0 with extBits := [], extRun := {} }
  let rf := t.rfi.step (v5.toNat.testBit 4)
  { t1 with
    dPlm := !t1.dUneq && (match t1.label with
      | none => false
      | some l => if t1.labelRun.count < 5 then t.dPlm else match (if l = 5 then t1.ext else none) with
        | some x => x != t.cfg.expExt
        | none => !labelMatches l t.cfg.expLabel)
    rfi := rf, dRfi := rf.decide' 5 5 t.dRfi, n2 := (vc.getD (2 * q) 0).toNat, bipLast := some (bip8 vc) }

/-- The overhead of one VC-3 of a TU-3, as a high-order path has it (R208, R120, R121). -/
def NurseTu.poh3 (t : NurseTu) (inv : Bool) (vc : List Byte) : NurseTu :=
  let g1 := (vc.getD 255 0).toNat
  let c2 := (vc.getD 170 0).toNat
  let t0 := t.common c2 (g1 / 2 % 8) (tuViol 4 t.bipLast inv vc) (if g1 / 16 ≤ 8 then g1 / 16 else 0) (vc.getD 0 0, true) (0, g1.testBit 3)
  { t0 with
    dPlm := !t0.dUneq && (if 5 ≤ t0.labelRun.count then !labelMatches c2 t.cfg.expLabel else t.dPlm), bipLast := some (bip8 vc) }

/-- One whole VC of a tributary: its overhead and its primitives, where nothing masks it. -/
def rxLowVc (b g tu type : Nat) (masked : Bool) (s : State) (vc : List Byte) : State :=
  if masked then s.onTu b g tu fun t => { t.mask with bipLast := some (bip8 vc) }
  else
    let inv := stung s 0x09 b g tu 0
    let t := s.onTu b g tu fun t => if type = 4 then t.poh3 inv vc else t.poh type inv vc
    let g1 := (vc.getD 255 0).toNat / 16
    let fe := if type = 4 then 1 ≤ g1 && g1 ≤ 8 else (vc.getD 0 0).toNat.testBit 5
    pmAdd ⟨4, g, b, tu⟩ (fun x => { x with neEb := x.neEb + boolNat (0 < (t.tuOf b g tu).viol), feEb := x.feEb + boolNat fe }) t

/-- VC bytes into the VC in hand: whole VCs and what is left. -/
def NurseTu.feed (range : Nat) (t : NurseTu) (l : List Byte) : List (List Byte) × NurseTu :=
  let r := feedVc range t.vcPart t.vcSkip l
  (r.1, { t with vcPart := r.2.1, vcSkip := r.2.2 })

/-- The state entry of a period (R205); the last four are kept. `v5`: index of V5 or J1 among the bytes. -/
def NurseTu.publish (t : NurseTu) (place : Nat) (jump : Bool) (v5 : Nat) (bytes : List Byte) : NurseTu :=
  { t with pubs := ⟨((t.pubs.head?).elim 0 TuPub.seq) + 1, place, jump, v5, bytes⟩ :: t.pubs.take 3 }

/-- TU_POINTER_INTERPRET: the oldest whole period of a tributary (R203-R205, R208). The interpreter runs whatever masks its defects
(R213). Sting 0x08 makes the pointer all ones and 0x09 inverts a BIP bit (16 R503). -/
def tuInterpret (b g tu : Nat) (s : State) : State :=
  let v := s.vcOf b g
  match (if v.cfg.enable = 1 then tuType v.cfg tu else none) with
  | none => s
  | some type =>
    let x := takePeriod type (s.tuOf b g tu).rx
    match x.1 with
    | none => s.onTu b g tu fun t => { t with rx := x.2 }
    | some fs =>
      withTuEvents b g tu (fun s =>
        let range := tuRange type
        let server := vcServer v
        let p := tuPeriod type fs
        let t := s.tuOf b g tu
        let word := if stung s 0x08 b g tu 0 then 0xFFFF else p.word
        let r := t.ptr.step range word
        let s := tickIf (!server && (classify range word t.ptr.ptr).isNdf) 40 b s
        let normal := r.1.mode == .norm
        let f1 := t.feed range p.top
        let t1 := f1.2
        let rest := p.a ++ (match r.2 with
          | .inc => p.b.drop 1
          | .dec => p.neg :: p.b
          | _ => p.b)
        let here := if r.2 = .jump then r.1.ptr else t.ptr.ptr
        let due := match t1.vcPart with
          | none => none
          | some l => some (if 0 < t1.vcSkip then t1.vcSkip else (range - l.length) % range)
        let moved := r.2 == .jump && due != some here
        let t2 : NurseTu := { t1 with
          rx := x.2, ptr := r.1
          justify := match r.2 with
            | .inc => 1
            | .dec => -1
            | _ => 0
          pjInInc := if r.2 = .inc && !server then satAdd 16 t.pjInInc 1 else t.pjInInc
          pjInDec := if r.2 = .dec && !server then satAdd 16 t.pjInDec 1 else t.pjInDec }
        let t3 : NurseTu :=
          if !normal then { t2 with vcPart := none, vcSkip := 0, bipLast := none }
          else if moved then { t2 with vcPart := some [], vcSkip := here, bipLast := none }
          else t2
        let f2 := t3.feed range rest
        let t4 := if normal then
            f2.2.publish (tuPlace (cellsOf v.cfg type tu) type p.starts r.1.ptr) moved (p.top.length + here) (p.top ++ rest)
          else { f2.2 with pubs := [] }
        let u := s.onTu b g tu fun _ => t4
        if normal then (f1.1 ++ f2.1).foldl (rxLowVc b g tu type server) (if server then u.onTu b g tu NurseTu.mask else u)
        else u.onTu b g tu NurseTu.mask) s

/-! ### Egress of a tributary (R206-R208, R214) -/

/-- The source tributary of an output tributary: what feeds its first output cell, read through its VC. -/
def tuSource (s : State) (b g tu : Nat) : Option (Nat × Nat × Nat) :=
  let c := (s.vcOf b g).cfg
  match (tuIndices (c.struct == 2) ((tuType c tu).getD 0) g tu).head? with
  | none => none
  | some x =>
    match (s.broodSrc (cellOf b x)).src with
    | none => none
    | some y => (tuOfCell s (y / 16704) (y % 16704)).map fun e => (y / 16704, e.1, e.2)

/-- Whether an output tributary's cells are connected at all, and whether one of them is failed (R207). -/
def tuOutput (s : State) (b g tu : Nat) : Bool × Bool :=
  let c := (s.vcOf b g).cfg
  let xs := tuIndices (c.struct == 2) ((tuType c tu).getD 0) g tu
  (xs.any fun x => (s.broodSrc (cellOf b x)).src.isSome, xs.any fun x => (tget {} s.comb.broodOut (cellOf b x)).failed)

/-- The RDI codes that the reverse tributary's defects ask for (R214): V5 bit 8, K4 bits 5-7. -/
def lpRdi (d : TuDef) : Bool := d.server || d.ais || d.lop || d.uneq || d.tim
def lpErdi (d : TuDef) (erdi : Bool) : Nat :=
  if !erdi then 0 else if d.server || d.ais || d.lop then 5 else if d.uneq || d.tim then 6 else if d.plm then 2 else 0

/-- Bit of the extended label's sequence that K4 bit 1 sends in multiframe m (R210). -/
def extSent (ext m : Nat) : Bool :=
  let i := m % 32
  if i = 0 then false else if i ≤ 9 then true else if i ≤ 11 then false
  else if i ≤ 19 then ext.testBit (19 - i) else false

/-- V5 without its BIP-2, and K4, or G1 of a TU-3, that a terminated tributary sends (R208). -/
def NurseTu.sent (t : NurseTu) (d : TuDef) (type now : Nat) : Nat × Nat :=
  let erdi := bit t.cfg.flags 5
  (boolNat (0 < t.viol) * 32 + t.cfg.txLabel % 8 * 2 + boolNat (lpRdi d),
    if type = 4 then min 8 t.viol * 16 + (if erdi then lpErdi d true else if lpRdi d then 4 else 0) * 2
    else (if t.cfg.txLabel = 5 && extSent t.cfg.txExt (now / 4) then 128 else 0) + lpErdi d erdi * 2)

/-- Overhead of a terminated VC by its place in the VC; V5's BIP-2 and B3 cover the VC before as sent (R208). -/
def NurseTu.overhead (t : NurseTu) (type : Nat) : List (Nat × Byte) :=
  let q := tuRange type / 4
  let j := traceByte false t.cfg.txJ2 t.j2Pos
  if type = 4 then [(0, j), (85, t.txPrev), (170, BitVec.ofNat 8 t.cfg.txLabel), (255, BitVec.ofNat 8 t.txK4)]
  else [(0, BitVec.ofNat 8 (bip2 t.txPrev.toNat * 64 + t.txV5 % 64)), (q, j), (2 * q, 0), (3 * q, BitVec.ofNat 8 t.txK4)]

/-- VC bytes into the egress store, from place `txPos` of a VC on; at most `k` VCs end in them. A terminated tributary's overhead is
regenerated, and in monitor mode all passes (R208). -/
def NurseTu.storeTx (type : Nat) : Nat → NurseTu → List Byte → NurseTu
  | 0, t, _ => t
  | k + 1, t, l =>
    let seg := l.take (tuRange type - t.txPos)
    let out := if t.cfg.mode = 1 then putAt t.txPos (t.overhead type) seg else seg
    let par := t.txPar ^^^ bip8 out
    let u := { t with txStore := t.txStore ++ out }
    if t.txPos + seg.length = tuRange type then
      NurseTu.storeTx type k { u with txPos := 0, txPar := 0, txPrev := par, j2Pos := (t.j2Pos + 1) % 16 } (l.drop seg.length)
    else { u with txPos := t.txPos + seg.length, txPar := par }

/-- The pointer of the egress multiframe: the first value that stands where V5 or J1 does, one latency later (R206, log 10). -/
def egressPtr (cells : List Nat) (type key place : Nat) : Nat :=
  let span := tuSpan type
  let pos (i : Nat) : Nat := tuPlace cells type ((List.range (tuFrames type)).map (783 * ·)) i
  let at' := (place + Config.tuDelay key + span - pos 0 % span) % span
  ((List.range (tuRange type)).find? fun i => decide (at' ≤ pos i - pos 0)).getD 0

/-- The store starts anew on a source: V5 of the newest state entry comes two periods after the next V5 sent (R206, log 10). -/
def NurseTu.restart (t : NurseTu) (type q : Nat) (pubs : List TuPub) : NurseTu :=
  let run := pubs.takeWhile (!TuPub.jump ·)
  let all := (pubs.take (run.length + 1)).reverse
  let bytes := all.flatMap TuPub.bytes
  let newest := (pubs.head?).elim (0, 0, 0) fun p => (p.seq, p.v5, p.bytes.length)
  let v := bytes.length - newest.2.2 + newest.2.1
  let want := q + 2 * tuRange type
  let t0 : NurseTu := { t with
    txOn := true, txSeen := newest.1, txPtr := q, txStore := [], txPos := (tuRange type - q) % tuRange type, txPar := 0 }
  t0.storeTx type 16 (if want ≤ v then bytes.drop (v - want) else List.replicate (want - v) 0 ++ bytes)

/-- The frames of a period: pointer word, V3 or H3, and the VC bytes from the pointer's value 0 on, of which the last follow in the next
period's first frame (R203). -/
def NurseTu.frames (t : NurseTu) (type word : Nat) (x : List Byte) : NurseTu :=
  let h1 : Byte := BitVec.ofNat 8 (word / 256)
  let h2 : Byte := BitVec.ofNat 8 word
  let per := tuPer type
  if type = 4 then
    let tail := padTo 0 170 t.txTail
    { t with
      txFrames := [(h1 :: tail.take 85) ++ (h2 :: tail.drop 85) ++ (x.getD 0 0 :: (x.drop 1).take 85) ++
        (List.range 6).flatMap fun r => 0 :: (x.drop (86 + 85 * r)).take 85]
      txTail := x.drop 596 }
  else
    { t with
      txFrames := [h1 :: padTo 0 per t.txTail, h2 :: x.take per, x.getD per 0 :: (x.drop (per + 1)).take per,
        0 :: (x.drop (2 * per + 1)).take per]
      txTail := x.drop (3 * per + 1) }

/-- A period of `l` VC bytes with its justification: V3 or H3 carries a VC byte on a decrement, and the byte after it is stuff on an
increment (R203). -/
def tuArrange (type : Nat) (move : PtrMove) (l : List Byte) : List Byte :=
  let per := if type = 4 then 0 else tuPer type
  match move with
  | .dec => l
  | .inc => l.take per ++ [0, 0] ++ l.drop per
  | _ => l.take per ++ [0] ++ l.drop per

/-- The pointer word of a tributary (R203). -/
def tuWord (type : Nat) (ndf : Bool) (val : Nat) : Nat := (if ndf then 9 else 6) * 4096 + tuSs type * 1024 + val % 1024

/-- Sends one period out of the store with a pointer word and a justification. -/
def NurseTu.send (t : NurseTu) (type word : Nat) (move : PtrMove) : NurseTu :=
  let len := match move with
    | .inc => tuRange type - 1
    | .dec => tuRange type + 1
    | _ => tuRange type
  { t.frames type word (tuArrange type move (padTo 0 len t.txStore)) with
    txWord := word, txUneq := false, txAis := false, txRaw := false, txStore := t.txStore.drop len }

/-- A period without a source's VC: AIS is all ones, unequipped a pointer of 0 and 0x00 (R207). -/
def NurseTu.fixed (t : NurseTu) (type : Nat) (ais : Bool) : NurseTu :=
  let t := { t with txOn := false, txStore := [], txRaw := false, txAis := ais, txUneq := !ais }
  if ais then
    { t with
      txWord := 0xFFFF, txFrames := List.replicate (tuFrames type) (List.replicate (tuFrameLen type) 0xFF)
      txTail := List.replicate (tuRange type) 0xFF }
  else
    let w := tuWord type t.txNdf 0
    { t.frames type w (List.replicate (tuRange type + 1) 0) with txWord := w, txPtr := 0 }

/-- One period that follows its source: new state entries go into the store; NDF on a new source, a jump of the source, or after a period
without one; else at most one justification in 4 periods towards the place of V5 or J1 (R206). -/
def NurseTu.follow (t : NurseTu) (cells : List Nat) (type key : Nat) (pubs : List TuPub) : NurseTu :=
  let fresh := pubs.filter fun p => decide (t.txSeen < p.seq)
  let q := egressPtr cells type key ((pubs.head?).elim 0 TuPub.place)
  let gap := (pubs.head?).elim false fun p => decide (t.txSeen + fresh.length < p.seq || p.seq < t.txSeen)
  if !t.txOn || t.txNdf || t.txAis || t.txUneq || t.txRaw || gap || fresh.any TuPub.jump then
    (t.restart type q pubs).send type (tuWord type true q) .jump
  else
    let t : NurseTu := fresh.reverse.foldl (fun (t : NurseTu) p => t.storeTx type 3 p.bytes) { t with txSeen := (pubs.head?).elim t.txSeen TuPub.seq }
    let range := tuRange type
    let ahead := (q + range - t.txPtr % range) % range
    if ahead == 0 || decide (t.txSince < 4) then t.send type (tuWord type false t.txPtr) .stay
    else if 2 * ahead ≤ range then
      { t.send type (tuWord type false ((t.txPtr ^^^ 0x2AA) % 1024)) .inc with
        txPtr := (t.txPtr + 1) % range, txSince := 0, pjOutInc := satAdd 16 t.pjOutInc 1 }
    else
      { t.send type (tuWord type false ((t.txPtr ^^^ 0x155) % 1024)) .dec with
        txPtr := (t.txPtr + range - 1) % range, txSince := 0, pjOutDec := satAdd 16 t.pjOutDec 1 }

/-- TU_EGRESS_BUILD: pointer, overhead and bytes of one period of an output tributary (R206-R208). Cells whose source publishes no state
entry pass as they come (log 10). -/
def tuBuild (b g tu : Nat) (s : State) : State :=
  let v := s.vcOf b g
  match (if v.cfg.enable = 1 then tuType v.cfg tu else none) with
  | none => s
  | some type =>
    let out := tuOutput s b g tu
    let d := tuDef s b g tu
    let cells := cellsOf v.cfg type tu
    let src := tuSource s b g tu
    let pubs := match src with
      | some e => (s.tuOf e.1 e.2.1 e.2.2).pubs
      | none => []
    let key := match src with
      | some e => tuKey e.1 e.2.1 e.2.2
      | none => 0
    s.onTu b g tu fun t0 =>
      let x := t0.sent d type s.now
      let t := { t0 with txV5 := x.1, txK4 := x.2 }
      let u := if !out.1 then t.fixed type false
        else if out.2 then t.fixed type true
        else if pubs.isEmpty then { t with txRaw := true, txOn := false, txStore := [], txAis := false, txUneq := false }
        else t.follow cells type key pubs
      { u with txSince := u.txSince + 1, txNdf := out.1 && (out.2 || pubs.isEmpty) && t.txNdf }

/-! ### Error-rate detectors (R212) -/

def tuDegSecond (b g tu : Nat) (s : State) : State :=
  let t := s.tuOf b g tu
  let r := Deg.second s.now t.deg t.cfg.degThr t.cfg.degM t.dDeg
  s.onTu b g tu fun t => { t with deg := r.1, dDeg := r.2 }

def tuBerSub (b g tu : Nat) (isExc : Bool) (s : State) : State :=
  let t := s.tuOf b g tu
  let type := (tuType (s.vcOf b g).cfg tu).getD 2
  if isExc then
    let r := Ber.sub s.now t.exc t.cfg.excK (lpWb type) (lpSize type) t.dExc
    s.onTu b g tu fun t => { t with exc := r.1, dExc := r.2 }
  else
    let r := Ber.sub s.now t.sd t.cfg.sdK (lpWb type) (lpSize type) t.dSd
    s.onTu b g tu fun t => { t with sd := r.1, dSd := r.2 }

/-- Whether the detectors of a unit run: its port or tributary is in use. -/
def detUp (s : State) (u : DetUnit) : Bool :=
  match u with
  | .ms n => sdhUp s n
  | .hp n g => sdhUp s n && (s.path n g).cfg.type != 0
  | .lp b g tu => (s.vcOf b g).cfg.enable == 1 && (tuType (s.vcOf b g).cfg tu).isSome

/-- DEG_SECOND_END (R130, R212). -/
def degSecond (u : DetUnit) (s : State) : State :=
  if !detUp s u then s
  else match u with
    | .ms n => withSdhEvents n (sdhDegSecond n) s
    | .hp n g => withSdhEvents n (pathDegSecond n g) s
    | .lp b g tu => withTuEvents b g tu (tuDegSecond b g tu) s

/-- BER_SUBWINDOW_END of the dEXC or the dSD detector (R131, R212). -/
def berSub (u : DetUnit) (isExc : Bool) (s : State) : State :=
  if !detUp s u then s
  else match u with
    | .ms n => withSdhEvents n (sdhBerSub n isExc) s
    | .hp n g => withSdhEvents n (pathBerSub n g isExc) s
    | .lp b g tu => withTuEvents b g tu (tuBerSub b g tu isExc) s

/-! ### AxC groups over VCAT (R215-R227) -/

/-- Data cells per member (R215). -/
def axvDataCells (type : Nat) : Nat := if type = 1 then 259 else 83

/-- Granules of a member, and first granule of member m (R215). -/
def axvWidth (type : Nat) : Nat := if type = 1 then 3 else 1
def axvGranule (a : NurseAxvArgs) (m : Nat) : Nat := a.g0 + axvWidth a.type * m

/-- Port cell index of the control cell of member m: VC column 1 (R215, R180). -/
def axvControl (a : NurseAxvArgs) (m : Nat) : Nat :=
  if a.type = 1 then 87 * (axvGranule a m + 1) else 87 * axvGranule a m + 1

/-- Port cell index of group data cell y (R215, R180). -/
def axvData (a : NurseAxvArgs) (y : Nat) : Nat :=
  let m := y / axvDataCells a.type
  let u := y % axvDataCells a.type
  if a.type = 1 then
    let j := u + 2
    87 * (axvGranule a m + j % 3) + j / 3
  else
    let j := u + 2
    let j := if 29 ≤ j then j + 1 else j
    let j := if 58 ≤ j then j + 1 else j
    87 * axvGranule a m + j

/-- Most by which a count may differ from nominal: ⌈60 n × 200 × 10⁻⁶⌉ + 1 (R223). -/
def axvSlack (nBits : Nat) : Nat := (axcBytes nBits * 2 + 9999) / 10000 + 1

/-- The rate that a map buffer's fill gives, 1/65,536 byte per beat (R219). -/
def mapRateOf (nBits fill : Nat) : Nat :=
  let nom : Int := axcBytes nBits
  let slack := nom * 65536 * 2 / 10000
  (max (nom * 65536 - slack) (min (nom * 65536 + slack) (nom * 65536 + 819 * ((fill : Int) - nom)))).toNat

/-- MAP_RATE_UPDATE at a radio frame boundary. The fill counts the beat of bytes that the next beat adds before it sends (R219, R220). -/
def mapRate (b g0 i : Nat) (s : State) : State :=
  let v := s.axvOf b 0 g0
  match (if v.cfg.enable = 1 then v.cfg.axcs[i]? else none) with
  | none => s
  | some e =>
    s.onAxvAxc b 0 g0 i fun x => { x with rate := mapRateOf e.nBits (axcBytes e.nBits + x.buf.length) }

/-- Labels of the BFN's cycle. -/
def labelSpan : Nat := 4096 * 38400

/-- Signed difference of two labels. -/
def labelDiff (x y : Nat) : Int :=
  let d := (x + labelSpan - y % labelSpan) % labelSpan
  if d < labelSpan / 2 then d else (d : Int) - labelSpan

/-- The CPRI port that the containers written to Brood input cell x of port b leave from. -/
def playPort (s : State) (b x : Nat) : Option Nat :=
  ((s.comb.broodConn.find? fun e => e.2.src == some (cellOf b x)).bind fun e =>
    s.comb.superConn.find? fun c => c.1 < 256 * 192 && c.2 == some (slotOf (broodPort (e.1 / 16704)) (e.1 % 16704 / 87))).map fun c => c.1 / 192

/-- Label of the basic frame that leaves a played-out AxC's port at the start of beat `beat` (R41, 05 R139). -/
def playLabel (s : State) (b x beat : Nat) : Nat :=
  let off := match playPort s b x with
    | some n => (s.cpriOf n).cfg.txOffset
    | none => 0
  (480 * beat + 38400 * s.scout.bfnOffset + labelSpan - off) % labelSpan

/-- Bits of a beat's bytes into containers of n bits: the label and bits in hand, then each whole container with the bits it took. A
container whose start was not received is none (R220). -/
def assemble (n label : Nat) : Nat → Nat → List Bool → List (Nat × Nat × List Bool) × Option (Nat × List Bool)
  | 0, _, _ => ([], none)
  | k + 1, used, l =>
    if n ≤ l.length then
      let r := assemble n ((label + 1) % labelSpan) k (used + n) (l.drop n)
      ((used + n, label, l.take n) :: r.1, r.2)
    else ([], some (label, l))

/-- A beat of an AxC's bytes, by its tag's label and bit: containers with the bits of the beat before each one's end (R220, R224). -/
def AxvAxc.take (x : AxvAxc) (n label bit : Nat) (bits : List Bool) : List (Nat × Nat × List Bool) × Option (Nat × List Bool) :=
  let held := match x.asm with
    | some (l, h) => if l = label && h.length = bit then some h else none
    | none => none
  match held with
  | some h =>
    let r := assemble n label (bits.length / n + 2) 0 (h ++ bits)
    (r.1.map fun e => (e.1 - h.length, e.2), r.2)
  | none =>
    let skip := (n - bit) % n
    let r := assemble n ((label + (if bit = 0 then 0 else 1)) % labelSpan) (bits.length / n + 2) 0 (bits.drop skip)
    (r.1.map fun e => (e.1 + skip, e.2), r.2)

/-- A container with tag label `label` reaches the play-out buffer `at'` payload positions into the beat; `lead`: basic frames from the
start of the beat to the frame it leaves as. The model releases the containers of a beat together, at the boundary before they leave
(log 112): one that comes later is late, and one more than 7,680 basic frames before it is early (R225). -/
def AxvAxc.arrive (x : AxvAxc) (lead : Int) (at' label : Nat) (bits : List Bool) : AxvAxc :=
  let margin := lead / 480 * 1250000 - ((at' * 1250000 / 783 : Nat) : Int)
  let x := { x with marginNow := some (match x.marginNow with
    | some m => min m margin
    | none => margin) }
  if lead < 480 then { x with slips := x.slips + 1, slipNow := true }
  else if 20000000 < margin then { x with earlies := x.earlies + 1, slipNow := true }
  else { x with store := (label, bits) :: x.store.filter fun e => e.1 != label }

/-- The containers that leave as basic frames `first` to `first` + 479, less play_out; one that is missing is a repeat of the one before
it (R224, R225). -/
def AxvAxc.release (x : AxvAxc) (n first playOut : Nat) : AxvAxc :=
  let r := (List.range 480).foldl (fun (acc : List (List Bool) × List Bool) f =>
    let l := (first + f + labelSpan - playOut) % labelSpan
    let c := (x.store.find? fun e => e.1 == l).elim acc.2 Prod.snd
    (c :: acc.1, c)) ([], x.last)
  { x with
    out := bytesOf (60 * n) (r.1.reverse.flatMap fun c => padTo false n c), last := r.2
    store := x.store.filter fun e => 480 ≤ labelDiff (e.1 + playOut) first }

/-- PLAY_SLIP: one late container, or one early one, is counted (R225). -/
def playSlip (b g0 i : Nat) (late : Bool) (s : State) : State :=
  let v := s.axvOf b 1 g0
  let x := v.axcOf i
  if v.cfg.enable = 1 ∧ i < v.cfg.axcs.length ∧ 0 < (if late then x.slips else x.earlies) then
    s.onAxvAxc b 1 g0 i fun x => { x with
      playSlips := satAdd 32 x.playSlips 1, slips := x.slips - boolNat late, earlies := x.earlies - boolNat (!late) }
  else s

/-- PLAY_DEFECT_CHANGE: 8 consecutive beats with a late or early container, or 80 without (R225). -/
def playDefect (b g0 i : Nat) (s : State) : State :=
  let v := s.axvOf b 1 g0
  let x := v.axcOf i
  if v.cfg.enable = 0 ∨ v.cfg.axcs.length ≤ i then s
  else if !x.dPlay && 8 ≤ x.slipBeats then raise (nurseSrc b) (s.onAxvAxc b 1 g0 i fun x => { x with dPlay := true })
  else if x.dPlay && 80 ≤ x.cleanBeats then raise (nurseSrc b) (s.onAxvAxc b 1 g0 i fun x => { x with dPlay := false })
  else s

def execTuPointerInterpret (b g tu : Nat) (s : State) : Out := done s (stingsSpent (onTuFrame b g tu) (tuInterpret b g tu s))
def execTuEgressBuild (b g tu : Nat) (s : State) : Out := done s (tuBuild b g tu s)
def execDegSecondEnd (u : DetUnit) (s : State) : Out := done s (degSecond u s)
def execBerSubwindowEnd (u : DetUnit) (isExc : Bool) (s : State) : Out := done s (berSub u isExc s)
def execMapRateUpdate (b g0 i : Nat) (s : State) : Out := done s (mapRate b g0 i s)
def execPlaySlip (b g0 i : Nat) (late : Bool) (s : State) : Out := done s (playSlip b g0 i late s)
def execPlayDefectChange (b g0 i : Nat) (s : State) : Out := done s (playDefect b g0 i s)

end Sys2Proof.Machine
end

