-- ==== Sys2Proof/Machine/Pool.lean ====
section
/-!
DEFINITION. Machine/Pool.lean: delay pools (08): entries and their slots, admission, VC frames held per write slot,
multiframe alignment, twin-frame selection, plain delay, bypass, and the DDR5 channels that hold the entries.
-/

namespace Sys2Proof

/-! ### Pool settings (R228-R231) -/

/-- Granules of a group member (08 pool.group). -/
def memberWidth (type : Nat) : Nat := if type = 2 then 3 else 1

def PoolCfg.isOn : PoolCfg → Bool
  | .delay a => a.enable == 1
  | .group a => a.enable == 1
  | .twin a => a.enable == 1

def PoolCfg.first : PoolCfg → Nat
  | .delay a => a.s0
  | .group a => a.s0
  | .twin a => a.sA

def PoolCfg.chan : PoolCfg → Nat
  | .delay a => a.channel
  | .group a => a.channel
  | .twin a => a.channel

def PoolCfg.isTwin : PoolCfg → Bool
  | .twin _ => true
  | _ => false

/-- Write-side runs: first slot and length (R229). -/
def PoolCfg.runs : PoolCfg → List (Nat × Nat)
  | .delay a => [(a.s0, a.width)]
  | .group a => [(a.s0, memberWidth a.type * a.x)]
  | .twin a => [(a.sA, a.width), (a.sB, a.width)]

def PoolCfg.writes (c : PoolCfg) (slot : Nat) : Bool := c.runs.any fun r => decide (r.1 ≤ slot) && decide (slot < r.1 + r.2)

/-- T and V of an entry (R229). -/
def PoolCfg.load : PoolCfg → Nat × Nat
  | .delay a => (0, a.width)
  | .group a => (0, memberWidth a.type * a.x)
  | .twin a => (a.width, 0)

/-- Granules of one member or copy, and how many there are. -/
def PoolCfg.memberSize : PoolCfg → Nat × Nat
  | .delay a => (a.width, 1)
  | .group a => (memberWidth a.type, a.x)
  | .twin a => (a.width, 2)

def PoolCfg.kindIsDelay : PoolCfg → Bool
  | .delay _ => true
  | _ => false

def PoolCfg.maxDiff : PoolCfg → Nat
  | .delay _ => 0
  | .group a => a.maxDiff
  | .twin a => a.maxDiff

/-- Records that a ring holds (R232). -/
def PoolCfg.depth : PoolCfg → Nat
  | .delay a => a.delay + 2
  | .group a => a.maxDiff + 4
  | .twin a => a.maxDiff + 4

/-- Write-side slot of granule `r` of an entry, counted over its members or copies. -/
def PoolCfg.slotAt (c : PoolCfg) (r : Nat) : Nat :=
  match c with
  | .twin a => if r < a.width then a.sA + r else a.sB + (r - a.width)
  | _ => c.first + r

def PoolCfg.granules (c : PoolCfg) : Nat := c.memberSize.1 * c.memberSize.2

/-- The entry with its channel set. -/
def PoolCfg.setChan (c : PoolCfg) (d : Nat) : PoolCfg :=
  match c with
  | .delay a => .delay { a with channel := d }
  | .group a => .group { a with channel := d }
  | .twin a => .twin { a with channel := d }

end Sys2Proof

namespace Sys2Proof.Machine

open Sys2Proof

/-! ### Entries and slots (R228-R231) -/

/-- The entry that holds a slot: an enabled one, else a setting that names it (R229). -/
def State.entryAt (s : State) (slot : Nat) : Option Nat :=
  let here := s.pool.entries.filter fun e => e.2.used && e.2.cfg.writes slot
  ((here.find? fun e => e.2.cfg.isOn).orElse fun _ => here.head?).map Prod.fst

/-- Entries that pending tickets and the open batch of port `p` set. -/
def State.poolPending (s : State) (p : Nat) : List PoolCfg :=
  ((s.clk.tickets.flatMap fun t => t.changes) ++ (match (if p = 0 then s.clk.batchA else s.clk.batchB) with
    | some b => b.changes
    | none => [])).filterMap fun c =>
    match c with
    | .pool p => some p
    | _ => none

/-! ### Admission (R234, R235) -/

/-- Channel limit for a data rate (R234). -/
def poolLimit (rate : Nat) : Nat := rate * 9 / 10

/-- Entries in force. -/
def State.inForce (s : State) : List PoolCfg := (s.pool.entries.filter fun e => e.2.used && e.2.cfg.isOn).map fun e => e.2.cfg

/-- 3 T + 2 V of a channel over a list of entries (R234). -/
def channelTV (l : List PoolCfg) (d : Nat) : Nat × Nat :=
  l.foldl (fun acc c => if c.chan = d then (acc.1 + c.load.1, acc.2 + c.load.2) else acc) (0, 0)

def loadOf (l : List PoolCfg) (d : Nat) : Nat := 3 * (channelTV l d).1 + 2 * (channelTV l d).2

/-- Adds an entry to those that count, once for each channel and load it has there. -/
def placeOnce (l : List PoolCfg) (c : PoolCfg) : List PoolCfg :=
  if l.any fun d => d.first == c.first && d.chan == c.chan && d.load == c.load then l else l ++ [c]

/-- The load that admission counts: the entries in force, every pending ticket, the batch of port `p` and the command in hand (R235). -/
def State.placed (s : State) (p : Nat) (c : PoolCfg) : List PoolCfg :=
  ((s.poolPending p).filter PoolCfg.isOn ++ [c]).foldl placeOnce s.inForce

/-- Whether a channel takes an entry (R235). -/
def State.admits (s : State) (p : Nat) (c : PoolCfg) : Bool :=
  (s.chan c.chan).state == 0 && loadOf (s.placed p c) c.chan ≤ poolLimit s.pool.rate

/-- The channel that automatic placement chooses: the most spare load after placement, the lowest number on a tie
(R235). -/
def State.placeAuto (s : State) (p : Nat) (c : PoolCfg) : Option Nat :=
  let after (d : Nat) : Nat := loadOf (s.placed p (c.setChan d)) d
  ((List.range 4).filter fun d => s.admits p (c.setChan d)).foldl (fun (best : Option Nat) d =>
    match best with
    | none => some d
    | some b => if after d < after b then some d else some b) none

/-- The setting that a pending command gives an entry. -/
def State.poolNext (s : State) (k : Nat) : Option PoolCfg := (s.poolPending 0 ++ s.poolPending 1).reverse.find? fun c => c.first == k

/-- The load of a channel once a pending setting of an entry is applied. -/
def State.loadAfter (s : State) (c : PoolCfg) (d : Nat) : Nat :=
  loadOf ((s.inForce.filter fun x => x.first != c.first) ++ (if c.isOn then [c] else [])) d

/-! ### What an entry's source reports (R246, R256) -/

/-- The entry's source of its channel (R256). -/
def entrySrc (c : PoolCfg) : Nat := 78 + 4 * (c.chan % 4)

/-- Defects, late flags, realignments, and bypass with its copy. -/
def PoolEntry.report (e : PoolEntry) : List (Bool × Bool × Bool) × Bool × Nat × Bool × Bool :=
  ((List.range e.cfg.memberSize.2).map fun i => ((e.memberOf i).dLom, (e.memberOf i).dSqm, (e.memberOf i).late),
    e.dLoa, e.realigns, e.state == 3, e.state == 3 && e.selB)

/-- Runs a step of an entry; a change of what it reports raises the entry source (R246, R256). -/
def withEntryEvents (k : Nat) (f : PoolEntry → PoolEntry) (s : State) : State :=
  let e := s.entry k
  let t := s.onEntry k f
  let e' := t.entry k
  raiseIf (e.used && e.report != e'.report) (entrySrc e'.cfg) t

/-! ### Configuration in force -/

/-- Nothing is held or known of the multiframes. -/
def PoolEntry.clear (e : PoolEntry) : PoolEntry :=
  { e with members := [], ring := [], farMf := 0, nearMf := 0, picks := [], ssdNow := false, outAction := 0, sinceAdj := 4 }

/-- An entry put to work: a plain delay starts its first `delay` beats, a group or twin acquires (R246, R251); in a
channel that is not in service it acts as R252 gives. -/
def PoolEntry.start (e : PoolEntry) (up : Bool) : PoolEntry :=
  let e := { e.clear with dLoa := false, selB := false, hit := 0, aisLeft := 0, clean := 0, returning := false, left := 0 }
  match e.cfg with
  | .delay a => { e with left := a.delay, state := if up then 1 else 4 }
  | .group _ => { e with state := if up then 1 else 4, dLoa := !up }
  | .twin a => { e with state := if up then 1 else 3, selB := a.preferred == 1, hit := if up then 0 else 2 }

/-- Applies a capped pool change (R56, R257). -/
def applyPool (c : PoolCfg) (s : State) : State :=
  let e := s.entry c.first
  let up := (s.chan c.chan).state == 0 && !(c.isTwin && s.mode == .lean)
  withEntryEvents c.first (fun _ =>
    if !c.isOn then { e.clear with cfg := c, used := true, state := 0, dLoa := false, outAis := false }
    else if e.used && e.cfg.isOn then { e with cfg := c }
    else PoolEntry.start { e with cfg := c, used := true } up) s

/-! ### Records of the write side (R232, R233) -/

/-- What the write side stores of a granule (R233); the Bool says that its ptype was rejected. -/
def poolTakes (c : PoolCfg) (g : Granule) : Granule × Bool :=
  let ok := match c with
    | .delay _ => g.ptype == 0 || g.ptype == 3
    | _ => g.ptype == 0
  if ok then (g, false) else ({ g with ssf := true, payload := [] }, true)

/-- Positions of the 4,096 frames of the MFI. -/
def mfiSpan : Nat := 783 * 4096

/-! ### The multiframe process (R240, R241) -/

/-- SQ of a member with sq_check 1: bits 7:4 come with MFI1 14, bits 3:0 with MFI1 15; 3 identical multiframes accept it (R241). -/
def Member.sqStep (m : Member) (index place nib : Nat) : Member :=
  if place = 14 then { m with sqHi := nib }
  else if place = 15 then
    let r := m.sqRun.step (m.sqHi * 16 + nib)
    let sq := if 3 ≤ r.count then some r.cand else m.sq
    { m with sqRun := r, sq := sq, dSqm := match sq with
      | some v => v != index
      | none => m.dSqm }
  else m

/-- One H4 of the frame that the member counts as `num` (R240). In OUT the numbers received are followed beside the count. -/
def Member.h4 (check : Bool) (index num : Nat) (m : Member) (b : Byte) : Member :=
  let nib := b.toNat / 16
  let mfi1 := b.toNat % 16
  if m.isIn then
    let place := num % 16
    let m := if check then m.sqStep index place nib else m
    { m with
      hi := if place = 0 then nib else m.hi
      break1 := if mfi1 = place then 0 else m.break1 + 1
      break2 := if place ≠ 1 then m.break2 else if m.hi * 16 + nib = num / 16 % 256 then 0 else m.break2 + 1 }
  else
    let whole := mfi1 = 1 && m.mfi1 == some 0
    let two := m.hi * 16 + nib
    let seen := (num + m.delta) % 4096
    let target := if whole then 16 * two + 1 else seen / 16 * 16 + mfi1
    { m with
      mfi1 := some mfi1, hi := if mfi1 = 0 then nib else m.hi, mfi2 := if whole then some two else m.mfi2
      follow1 := if m.mfi1 == some ((mfi1 + 15) % 16) then m.follow1 + 1 else 0
      follow2 := if !whole then m.follow2 else if m.mfi2 == some ((two + 255) % 256) then m.follow2 + 1 else 0
      delta := (target + 4096 - num % 4096) % 4096 }

/-- One beat of a member or copy, from its granules (R240-R242): H4 is VC byte 435 of its first granule. -/
def Member.feed (beat : Nat) (check : Bool) (index : Nat) (gs : List Granule) (m0 : Member) : Member :=
  let g := gs.headD {}
  let st := g.starts
  let bytes := g.vcBytes
  let c := (g.offset + 435) % 783
  let m := ([c, c + 783].filter fun i => decide (i < bytes.length)).foldl (fun m i =>
    m.h4 check index ((m0.next + 4095 + (st.filter (· ≤ i)).length) % 4096) (bytes.getD i 0)) m0
  let next := (m.next + st.length) % 4096
  let start := match st.getLast? with
    | some i => 783 * beat + g.placeOf i
    | none => m.start
  let outFrames := if m.isIn then 0 else min 8 (m.outFrames + st.length)
  { m with
    next := next, start := start, outFrames := outFrames, dLom := m.dLom || 8 ≤ outFrames
    dead := if gs.any Granule.failedVc then min 8 (m.dead + 1) else 0
    arrival := if m.isIn then (start + mfiSpan - 783 * ((next + 4095) % 4096)) % mfiSpan else m.arrival }

/-- Stores one beat of an entry (R232, R233) and runs its members' processes; `w n` is the granule at write-side slot n. -/
def PoolEntry.store (e : PoolEntry) (beat : Nat) (w : Nat → Granule) : PoolEntry :=
  let size := e.cfg.memberSize.1
  let gs := (List.range e.cfg.granules).map fun r => (poolTakes e.cfg (w (e.cfg.slotAt r))).1
  let check := match e.cfg with
    | .group a => a.sqCheck == 1
    | _ => false
  let recs := gs.zipIdx.map fun x => (⟨x.1, beat, (e.memberOf (x.2 / size)).next, false⟩ : PoolRec)
  { e with
    ring := recs :: e.ring.take (e.cfg.depth - 1)
    members := match e.cfg with
      | .delay _ => e.members
      | _ => (List.range e.cfg.memberSize.2).foldl (fun t i =>
          tput {} t i ((e.memberOf i).feed beat check i ((gs.drop (i * size)).take size))) e.members }

/-! ### Alignment (R242-R247) -/

/-- Signed difference of two arrivals of the same frame, ±2,048 frames, in positions (R242). -/
def arrivalDiff (x y : Nat) : Int :=
  let d := (x + mfiSpan - y) % mfiSpan
  if d < mfiSpan / 2 then d else (d : Int) - mfiSpan

/-- Signed difference of two frame numbers. -/
def frameDiff (x y : Nat) : Int :=
  let d := (x + 4096 - y % 4096) % 4096
  if d < 2048 then d else (d : Int) - 4096

/-- Arrivals of the members relative to member 0. -/
def PoolEntry.arrivals (e : PoolEntry) : List Int :=
  (List.range e.cfg.memberSize.2).map fun i => arrivalDiff (e.memberOf i).arrival (e.memberOf 0).arrival

/-- Earliest and latest of them, and the member that is latest. -/
def PoolEntry.extremes (e : PoolEntry) : Int × Int × Nat :=
  let l := e.arrivals.zipIdx
  (l.foldl (fun m a => min m a.1) 0, l.foldl (fun m a => max m a.1) 0,
    (l.foldl (fun (b : Int × Nat) a => if b.1 < a.1 then a else b) (0, 0)).2)

/-- Latest minus earliest arrival, in positions. -/
def PoolEntry.spread (e : PoolEntry) : Nat := (e.extremes.2.1 - e.extremes.1).toNat

def PoolEntry.allIn (e : PoolEntry) : Bool := (List.range e.cfg.memberSize.2).all fun i => (e.memberOf i).isIn
def PoolEntry.anyLom (e : PoolEntry) : Bool := (List.range e.cfg.memberSize.2).any fun i => (e.memberOf i).dLom
def PoolEntry.anySqm (e : PoolEntry) : Bool := (List.range e.cfg.memberSize.2).any fun i => (e.memberOf i).dSqm

/-- Whether a group may be aligned (R243), or a twin leave its first AIS (R247). -/
def PoolEntry.canAlign (e : PoolEntry) : Bool := e.allIn && !e.anyLom && !e.anySqm && !e.dLoa

/-- The differential delay of a VCAT multiframe, judged at its boundary with all members in IN (R242). -/
def PoolEntry.judgeLoa (e : PoolEntry) (beat : Nat) : PoolEntry :=
  if !e.allIn then { e with farMf := 0, nearMf := 0 }
  else if beat % vcatBeats ≠ 0 then e
  else if e.cfg.maxDiff * 783 < e.spread then { e with farMf := min 2 (e.farMf + 1), nearMf := 0 }
  else { e with farMf := 0, nearMf := min 2 (e.nearMf + 1) }

/-- Positions from the reference's frame to the output's at a lag of 0: 250 µs and two rows for a twin (R243, R247). -/
def PoolEntry.gap (e : PoolEntry) : Nat := if e.cfg.isTwin then 2 * 783 + 2 * 87 else 0

/-- Positions by which the output of beat `beat` stands behind member i's arrival of the same frame. -/
def PoolEntry.behind (e : PoolEntry) (i beat : Nat) : Int :=
  let m := e.memberOf i
  (783 * beat + e.outOffset : Nat) - ((m.start : Int) + 783 * frameDiff (e.outFrame + 1) (m.next + 4095))

/-- The output lag (R244, R250). -/
def PoolEntry.lag (e : PoolEntry) (beat : Nat) : Int := e.behind e.follow beat - e.base

/-- Places the output of beat `beat` on 8 positions behind the now-latest member, its reference (R243-R245). -/
def PoolEntry.setOutput (e : PoolEntry) (beat : Nat) : PoolEntry :=
  let r := e.extremes.2.2
  let m := e.memberOf r
  let p := m.start + e.gap + 8
  { e with
    ref := r, follow := r, base := e.gap, sinceAdj := 4, outOffset := p % 783, outAction := 0, picks := []
    outFrame := (((m.next : Int) + 4095 - ((p / 783 : Nat) - (beat : Int)) - 1) % 4096).toNat }

/-- A realignment in beat `beat`: AIS, then NDF at the new position (R245). -/
def PoolEntry.realign (e : PoolEntry) (beat : Nat) : PoolEntry := { e.setOutput beat with hit := 2, realigns := satAdd 32 e.realigns 1 }

/-- A byte of a member's frame would be needed in beat `beat` before it was written (R245). -/
def PoolEntry.starved (e : PoolEntry) (beat : Nat) : Bool :=
  (List.range e.cfg.memberSize.2).any fun i => (e.memberOf i).isIn && e.behind i beat < 0

/-- A twin's output follows the justifications of its reference, or, while that is OUT or late, of the other copy; the lag itself
stays as it is (R250). -/
def PoolEntry.track (e : PoolEntry) (beat : Nat) : PoolEntry :=
  let ok (i : Nat) : Bool := (e.memberOf i).isIn && !(e.memberOf i).late
  let want := if ok e.ref then e.ref else if ok (1 - e.ref) then 1 - e.ref else e.follow
  if want = e.follow then e else { e with follow := want, base := e.base + (e.behind want beat - e.behind e.follow beat) }

/-! ### Frames out of the records -/

/-- The record in which frame F starts, its index there, and the records after it, from records newest first. -/
def findFrame (F : Nat) : List PoolRec → List PoolRec → Option (PoolRec × Nat × List PoolRec)
  | [], _ => none
  | x :: older, newer =>
    let d := (F + 4096 - x.num % 4096) % 4096
    if d < x.g.starts.length then some (x, x.g.offset + 783 * d, newer) else findFrame F older (x :: newer)

/-- Records of write slot r of an entry, newest first. -/
def PoolEntry.slotRecs (e : PoolEntry) (r : Nat) : List PoolRec := e.ring.filterMap fun l => l[r]?

/-- Frame F of write slot r: its bytes, whether it is failed, and whether it is unequipped; a frame that is not held is failed. -/
def PoolEntry.frame (e : PoolEntry) (r F : Nat) : List Byte × Bool × Bool :=
  match findFrame F (e.slotRecs r) [] with
  | none => ([], true, false)
  | some (x, i, newer) =>
    let head := x.g.vcBytes.drop i
    let used := if 783 ≤ head.length then [] else newer.take 1
    (padTo 0 783 (head ++ used.flatMap fun y => y.g.vcBytes.take y.g.offset), (x :: used).any fun y => y.g.ais || y.g.ssf,
      (x :: used).any fun y => y.g.uneq)

/-- When frame F of copy i reached the write side, if its record is held. -/
def PoolEntry.copyAt (e : PoolEntry) (i F : Nat) : Option Nat :=
  (findFrame F (e.slotRecs (i * e.cfg.memberSize.1)) []).map fun x => 783 * x.1.beat + x.1.g.placeOf x.2.1

/-! ### Twin-frame selection (R248-R250) -/

/-- How many records of copy i are newer than the one in which frame F starts. -/
def PoolEntry.agedBy (e : PoolEntry) (i F : Nat) : Option Nat :=
  (e.slotRecs (i * e.cfg.memberSize.1)).findIdx? fun x => (F + 4096 - x.num % 4096) % 4096 < x.g.starts.length

/-- Whether frame F of copy i is clean, its time apart (R248). -/
def PoolEntry.copyClean (e : PoolEntry) (i F : Nat) : Bool :=
  match e.agedBy i F with
  | some (t + 2) =>
    (e.memberOf i).isIn && (List.range e.cfg.memberSize.1).all fun j =>
      let recs := (e.slotRecs (i * e.cfg.memberSize.1 + j)).drop t
      ((recs.take 1).any fun x => x.g.twinClean) && ((recs.take 3).all fun x => !x.g.failedVc && x.g.originPort < 256) &&
        !((recs.drop 1).take 2).any fun x => x.drop
  | _ => false

/-- A copy's frame that is not written in time for its output position (R248, R250). -/
def PoolEntry.copyLate (e : PoolEntry) (i F out : Nat) : Bool :=
  (e.memberOf i).isIn && match e.copyAt i F with
    | none => true
    | some p => out < p

/-- Decides output frame F, whose J1 leaves at position `out`, once (R249, R250). -/
def PoolEntry.pick (e : PoolEntry) (a : PoolTwinArgs) (F out : Nat) : PoolEntry :=
  if e.picks.any fun x => x.1 == F then e
  else
    let lateA := e.copyLate 0 F out
    let lateB := e.copyLate 1 F out
    let okA := e.copyClean 0 F && !lateA
    let okB := e.copyClean 1 F && !lateB
    let prefB := a.preferred == 1
    let okP := if prefB then okB else okA
    let okO := if prefB then okA else okB
    let useB := if okP || !okO then prefB else !prefB
    { e with
      picks := e.picks ++ [(F, useB, !okP && !okO)]
      framesA := if (okP || okO) && !useB then satAdd 32 e.framesA 1 else e.framesA
      framesB := if (okP || okO) && useB then satAdd 32 e.framesB 1 else e.framesB
      neither := if okP || okO then e.neither else satAdd 32 e.neither 1
      lateFrames := satAdd 32 e.lateFrames (boolNat lateA + boolNat lateB)
      members := tput {} (tput {} e.members 0 { e.memberOf 0 with late := lateA }) 1 { e.memberOf 1 with late := lateB } }

/-- Bytes of a beat with an action: a stuff byte leaves one out, a decrement has one more (R173). -/
def beatLen (action : Nat) : Nat := match action with
  | 1 => 782 | 2 => 784 | _ => 783

/-- How many frames start in the output's beat. -/
def PoolEntry.outStarts (e : PoolEntry) : Nat :=
  ([e.outOffset, e.outOffset + 783].filter fun i => decide (i < beatLen e.outAction)).length

/-- Decides the frames that start in the output of beat `beat`; neither copy in time realigns the twin (R249, R250). -/
def PoolEntry.pickBeat (e : PoolEntry) (a : PoolTwinArgs) (beat : Nat) : PoolEntry :=
  let t := (List.range e.outStarts).foldl (fun e i => e.pick a ((e.outFrame + 1 + i) % 4096) (783 * (beat + i) + e.outOffset)) e
  if 0 < e.outStarts && (t.memberOf 0).late && (t.memberOf 1).late then t.realign beat else t

/-! ### The read side -/

/-- The copy that output frame F comes from, and whether neither was clean. -/
def PoolEntry.chosen (e : PoolEntry) (F : Nat) : Bool × Bool :=
  ((e.picks.find? fun x => x.1 == F % 4096).map Prod.snd).getD (e.selB, false)

/-- One beat of an aligned output, from write slot `r b` of copy b: the frame in progress at its start and those that start in it, and
whether one of them is failed or unequipped (R243, R249). A failed frame makes the granule AIS. -/
def PoolEntry.readSlot (e : PoolEntry) (r : Bool → Nat) : List Byte × Bool × Bool :=
  let len := beatLen e.outAction
  let o := e.outOffset
  let f0 := e.frame (r e.selB) e.outFrame
  let next := (List.range e.outStarts).map fun i => e.frame (r (e.chosen (e.outFrame + 1 + i)).1) ((e.outFrame + 1 + i) % 4096)
  let parts := (if 0 < o then [f0] else []) ++ next
  let ais := parts.any fun f => f.2.1
  (if ais then List.replicate len 0xFF else (f0.1.drop (783 - o) ++ next.flatMap Prod.fst).take len, ais, parts.any fun f => f.2.2)

/-- An AIS granule of the read side (R246). -/
def poolAis : Granule := { ais := true, ssf := true, payload := onesPayload }

/-- A granule of an aligned output. -/
def PoolEntry.alignedGranule (e : PoolEntry) (r : Bool → Nat) (ssd : Bool) : Granule :=
  let x := e.readSlot r
  let first := e.hit = 1
  { offset := e.outOffset, ndf := first, action := if first then 3 else e.outAction, ais := x.2.1, uneq := !x.2.1 && x.2.2, ssd := ssd
    jbyte := if e.outAction = 2 then x.1.getD 0 0 else 0
    payload := if e.outAction = 1 then 0 :: x.1 else if e.outAction = 2 then x.1.drop 1 else x.1 }

/-- The read side of an entry in a beat, by granule of the output, without the origin, tag and BIP that the pool read adds; the Bool says
that the header passes as stored (R172, R251, R253). `before n` is the granule of write-side slot n in the previous beat. -/
def PoolEntry.output (e : PoolEntry) (before : Nat → Granule) (r : Nat) : Granule × Bool :=
  match e.cfg with
  | .delay a =>
    if e.state = 4 || 0 < e.left then ({ ssf := true, payload := [] }, false)
    else match (e.ring[a.delay]?).bind (·[r]?) with
      | some x => (x.g, true)
      | none => ({ ssf := true }, false)
  | .group _ => (if e.state ≠ 2 || e.hit = 2 then poolAis else e.alignedGranule (fun _ => r) false, false)
  | .twin a =>
    if e.hit = 2 || 0 < e.aisLeft then (poolAis, false)
    else if e.state = 3 then
      let g := (poolTakes e.cfg (before (if e.selB then a.sB + r else a.sA + r))).1
      (if e.hit = 1 && g.ptype = 0 then { g with ndf := true, action := 3 } else g, true)
    else if e.state ≠ 2 then (poolAis, false)
    else
      let ssd := (0 < e.outOffset && e.ssdNow) || (List.range e.outStarts).any fun i => (e.chosen (e.outFrame + 1 + i)).2
      (e.alignedGranule (fun b => (if b then a.width else 0) + r) (bit a.flags 0 && ssd), false)

/-- The output after its beat was read: the next frame, offset and copy. -/
def PoolEntry.advance (e : PoolEntry) : PoolEntry :=
  let off := match e.outAction with
    | 1 => (e.outOffset + 1) % 783
    | 2 => (e.outOffset + 782) % 783
    | _ => e.outOffset
  let e := { e with hit := e.hit - 1, aisLeft := e.aisLeft - 1, left := e.left - 1, sinceAdj := min 4 (e.sinceAdj + 1) }
  if e.state = 2 then
    let last := e.chosen (e.outFrame + e.outStarts)
    let gone := (List.range e.outStarts).map fun i => (e.outFrame + 1 + i) % 4096
    { e with
      outFrame := (e.outFrame + e.outStarts) % 4096, outOffset := off, outAction := 0
      selB := if 0 < e.outStarts then last.1 else e.selB, ssdNow := if 0 < e.outStarts then last.2 else e.ssdNow
      picks := e.picks.filter fun x => !(gone.contains x.1) }
  else e

/-- The bypass selector of a twin, over the granules that it passes in the beat: away from the preferred copy when only that one
fails (R253). -/
def PoolEntry.bypassStep (e : PoolEntry) (a : PoolTwinArgs) (before : Nat → Granule) : PoolEntry :=
  let bad (s0 : Nat) : Bool := (List.range a.width).any fun j => ((poolTakes e.cfg (before (s0 + j))).1).failedVc
  let prefB := a.preferred == 1
  let badP := bad (if prefB then a.sB else a.sA)
  let badO := bad (if prefB then a.sA else a.sB)
  if e.selB = prefB then
    if badP && !badO then { e with selB := !prefB, hit := max 1 e.hit, clean := 0 } else e
  else { e with clean := if badP then 0 else min 8000 (e.clean + 1) }

/-- One beat of an entry: its write side is stored and its alignment judged (R240-R253); `up`: its channel serves it. -/
def beatEntry (beat : Nat) (before w : Nat → Granule) (up : Bool) (e : PoolEntry) : PoolEntry :=
  if !(e.used && e.cfg.isOn) then e
  else
    let rejected := ((List.range e.cfg.granules).filter fun r => (poolTakes e.cfg (w (e.cfg.slotAt r))).2).length
    let e := { e with ptypeReject := satAdd 32 e.ptypeReject rejected }
    let holds := e.state = 1 || e.state = 2 || (e.state = 3 && e.returning && up)
    let e := if holds then e.store beat w else e
    match e.cfg with
    | .delay _ => if e.state = 1 && e.left = 0 then { e with state := 2 } else e
    | .group _ =>
      let e := e.judgeLoa beat
      if e.state = 1 && e.canAlign then { e.setOutput beat with state := 2, hit := 1 }
      else if e.state ≠ 2 then e
      else if e.anyLom || e.anySqm || e.dLoa then { e with state := 1 }
      else if e.starved beat then e.realign beat
      else e
    | .twin a =>
      let e := e.judgeLoa beat
      if e.state = 3 then e.bypassStep a before
      else if e.state = 1 && e.canAlign then ({ e.setOutput beat with state := 2, hit := 1 } : PoolEntry).pickBeat a beat
      else if e.state = 2 then (e.track beat).pickBeat a beat
      else e

/-! ### Events of entries -/

/-- MEMBER_MFI_CHANGE: the multiframe process of a member or copy moves when its condition holds; on entry to IN the records held take
the numbers received (R240-R242). -/
def memberMfi (k i : Nat) (s : State) : State :=
  let e := s.entry k
  let m := e.memberOf i
  let size := e.cfg.memberSize.1
  if !(e.used && e.cfg.isOn && i < e.cfg.memberSize.2) || e.state = 0 || e.state = 4 then s
  else if !m.isIn && 2 ≤ m.follow1 && 1 ≤ m.follow2 then
    let next := (m.next + m.delta) % 4096
    withEntryEvents k (fun e => { e with
      ring := e.ring.map fun l => l.zipIdx.map fun x => if x.2 / size = i then { x.1 with num := (x.1.num + m.delta) % 4096 } else x.1
      members := tput {} e.members i { m with
        isIn := true, next := next, delta := 0, outFrames := 0, dLom := false, break1 := 0, break2 := 0
        arrival := (m.start + mfiSpan - 783 * ((next + 4095) % 4096)) % mfiSpan } }) s
  else if m.isIn && (3 ≤ m.break1 || 2 ≤ m.break2 || 8 ≤ m.dead) then
    withEntryEvents k (fun e => { e with members := tput {} e.members i { m with
      isIn := false, sqRun := {}, mfi1 := none, mfi2 := none, follow1 := 0, follow2 := 0, delta := 0, outFrames := 0 } }) s
  else s

/-- LOA_CHANGE: the arrivals lay beyond, or within, max_diff in 2 multiframes, with all members IN (R242). -/
def loaChange (k : Nat) (s : State) : State :=
  let e := s.entry k
  if e.used && e.cfg.isOn && (e.state == 1 || e.state == 2) && 2 ≤ (if e.dLoa then e.nearMf else e.farMf) then
    withEntryEvents k (fun e => { e with dLoa := !e.dLoa }) s
  else s

/-- A realignment before the next beat (R245). -/
def realignEntry (k : Nat) (s : State) : State := withEntryEvents k (fun e => e.realign (s.now + 1)) s

/-- GROUP_REALIGN: a byte would be needed before it was written; a twin only when neither copy is in time (R245, R250). -/
def groupRealign (k : Nat) (s : State) : State :=
  let e := s.entry k
  let due := if e.cfg.isTwin then (e.memberOf 0).late && (e.memberOf 1).late else e.starved (s.now + 1)
  if e.used && e.cfg.isOn && e.state == 2 && due then realignEntry k s else s

/-- OUTPUT_LAG_ADJUST: at a lag of 4 or less an increment, at 12 or more a decrement, one in any 4 beats (R244). -/
def lagAdjust (k : Nat) (s : State) : State :=
  let e := s.entry k
  let lag := e.lag (s.now + 1)
  if !(e.used && e.cfg.isOn && e.state == 2) || e.cfg.kindIsDelay || e.sinceAdj < 4 then s
  else if lag ≤ 4 then s.onEntry k fun e => { e with outAction := 1, sinceAdj := 0, adjusts := e.adjusts + 1 }
  else if 12 ≤ lag then s.onEntry k fun e => { e with outAction := 2, sinceAdj := 0, adjusts := e.adjusts + 1 }
  else s

/-- TWIN_SELECT: the next output frame is decided as soon as the last header that its test needs is written (R248-R250); a frame that
this step has not decided is decided in the beat it leaves in. -/
def twinSelect (k : Nat) (s : State) : State :=
  let e := s.entry k
  match e.cfg with
  | .twin a =>
    let F := (e.outFrame + 1) % 4096
    let known (i : Nat) : Bool := !(e.memberOf i).isIn || (match e.agedBy i F with
      | some t => 2 ≤ t
      | none => false)
    if e.used && a.enable == 1 && e.state == 2 && known 0 && known 1 then
      withEntryEvents k (fun e => e.pick a F (783 * (s.now + 1) + e.outOffset)) s
    else s
  | _ => s

/-- BYPASS_REVERT: the preferred copy was free for 8,000 beats (R253). -/
def bypassRevert (k : Nat) (s : State) : State :=
  let e := s.entry k
  match e.cfg with
  | .twin a =>
    if e.used && e.state == 3 && e.selB != (a.preferred == 1) && 8000 ≤ e.clean then
      withEntryEvents k (fun e => { e with selB := a.preferred == 1, hit := max 1 e.hit, clean := 0 }) s
    else s
  | _ => s

/-- A time in payload positions, in 0.1 µs. -/
def posTime (p : Nat) : Nat := p * 1250 / 783

/-- Beats of AIS when the output leaves bypass: the pool latency of the copy, 27.8 + 250 + 3.0 µs and its alignment delay, less the
128 µs of bypass (R255). -/
def PoolEntry.returnAis (e : PoolEntry) : Nat :=
  let ahead := e.extremes.2.1 - e.arrivals.getD (boolNat e.selB) 0
  (posTime ahead.toNat + 278 + 2500 + 30 - 1280 + 1249) / 1250

/-- TWIN_BYPASS_RETURN before the VCAT multiframe boundary, once the twin is aligned in the pool: AIS from the boundary until the pool
output reaches the frame after the last one bypassed (R255). -/
def bypassReturn (k : Nat) (s : State) : State :=
  let e := s.entry k
  if e.used && e.cfg.isOn && e.cfg.isTwin && e.state == 3 && e.returning && e.canAlign && (s.chan e.cfg.chan).state == 0 && s.mode != .lean &&
      (s.now + 1) % vcatBeats == 0 then
    withEntryEvents k (fun e =>
      { e.setOutput (s.now + 1) with state := 2, returning := false, aisLeft := e.returnAis, hit := e.returnAis + 1 }) s
  else s

/-! ### Grengon's own regions (15 R486) -/

/-- The PM bins are lost with their last copy. -/
def losePmBins (s : State) : State :=
  s.onPm fun p => { p with mons := tmap {} (fun _ m => { m with bin15 := {}, hist15 := [], binDay := {}, histDay := [], alerted := [] }) p.mons }

/-- In-service channels that hold no copy. -/
def State.freeCopies (s : State) : List Nat := (List.range 4).filter fun d => (s.chan d).state == 0 && !s.pm.copies.contains d

/-- Copies in two channels whenever two or more are in service: a channel out of service no longer holds one, and one that has none takes
a copy of the other before it counts (15 R486). -/
def keepCopies (s : State) : State :=
  let held := s.pm.copies.filter fun d => (s.chan d).state == 0
  let t := s.onPm fun p => { p with copies := held }
  let t := if held.isEmpty && !s.pm.copies.isEmpty then losePmBins t else t
  t.onPm fun p => { p with copies := (p.copies ++ t.freeCopies).take 2 }

/-! ### Channels (R237-R239, R252-R255) -/

/-- A channel changes its state; its source says so (R256). -/
def setChan (d st cause : Nat) (s : State) : State :=
  keepCopies (raise (75 + 4 * d) (s.onChan d fun c => { c with state := st, cause := cause, retrainSince := none, postponed := [] }))

/-- A twin goes to bypass (R252, R253): one beat of AIS, then the bypassed copy with NDF. -/
def PoolEntry.toBypass (e : PoolEntry) : PoolEntry :=
  match e.cfg with
  | .twin a => if e.state = 3 then { e.clear with returning := false }
    else { e.clear with state := 3, selB := a.preferred == 1, hit := 2, aisLeft := 0, clean := 0, returning := false }
  | _ => e

/-- First slots of the enabled entries that pick `f`. -/
def State.poolEntries (s : State) (f : PoolCfg → Bool) : List Nat :=
  (s.pool.entries.filter fun e => e.2.used && e.2.cfg.isOn && f e.2.cfg).map Prod.fst

/-- What the entries of a channel do when it fails or is isolated (R252). -/
def dropChannel (d : Nat) (s : State) : State :=
  (s.poolEntries fun c => c.chan == d).foldl (fun s k => withEntryEvents k (fun e =>
    match e.cfg with
    | .delay _ => { e.clear with state := 4 }
    | .group _ => { e.clear with state := 4, dLoa := true }
    | .twin _ => e.toBypass) s) s

/-- The channel is declared failed with a cause (R252). -/
def failChannel (d cause : Nat) (s : State) : State :=
  fault 0x0B 4 d (dropChannel d (setChan d 1 cause s))

/-- CHANNEL_FAIL (R252): cause 1 timeout, 2 uncorrectable errors, 3 retraining, 4 supply. -/
def channelFail (d cause : Nat) (s : State) : State :=
  let c := s.chan d
  let ok := d < 4 && c.state == 0 && (match cause with
    | 2 => 8 ≤ c.uncSecond
    | 1 | 3 | 4 => true
    | _ => false)
  if ok then failChannel d cause s else s

/-- An uncorrectable error, wherever it is found: the eighth within a second fails the channel (R252; 15 R487). -/
def uncError (d : Nat) (s : State) : State :=
  channelFail d 2 (raise (76 + 4 * d) (s.onChan d fun c => { c with
    eccUncorrected := satAdd 32 c.eccUncorrected 1, uncSecond := c.uncSecond + 1 }))

/-- DDR_REQUEST_TIMEOUT: a request exceeds its 20 µs (R252). -/
def ddrTimeout (d : Nat) (s : State) : State := channelFail d 1 s

/-- CHANNEL_TRAINING_DONE: what the module is, and 0 passed, 1 failed, 2 another kind of module; a module that cannot run the device's
rate is refused too (R254). -/
def channelTrained (d size ranks rate outcome : Nat) (s : State) : State :=
  if d < 4 && (s.chan d).state == 4 then
    let t := s.onChan d fun c => { c with size := size, ranks := ranks, maxRate := rate }
    if outcome = 1 || size = 0 then fault 0x0B 4 d (setChan d 1 6 t)
    else if outcome ≠ 0 || rate < s.pool.rate then fault 0x0B 4 d (setChan d 1 7 t)
    else setChan d 5 0 t
  else s

/-- CHANNEL_RETURN_DONE: the read and write pass of the ring area is over and the channel is admitted (R254, R255). -/
def channelReturned (d : Nat) (s : State) : State :=
  if d < 4 && (s.chan d).state != 0 && s.pool.waiters.any (fun w => w.1 == d) then
    let t := setChan d 0 0 (s.onChan d fun c => { c with everOff := false, uncSecond := 0 })
    let t := resolveCode 0x0B 4 d t
    (t.poolEntries fun c => c.chan == d && !c.isTwin).foldl (fun s k => withEntryEvents k (fun e =>
      match e.cfg with
      | .delay a => { e.clear with state := 1, left := a.delay }
      | _ => { e.clear with state := 1 }) s) t
  else s

/-- A beat in which a channel drops the writes of the non-preferred copies: a frame with a byte in it is not clean (R238). -/
def PoolEntry.dropWrites (e : PoolEntry) : PoolEntry :=
  match e.cfg, e.ring with
  | .twin a, now :: older =>
    let mine (r : Nat) : Bool := (r / a.width == 1) != (a.preferred == 1)
    let first := if a.preferred = 1 then 0 else a.width
    let g := ((now[first]?).getD {}).g
    let frames := g.starts.length + boolNat (0 < g.offset && !((older.headD [])[first]?).any fun x => x.drop)
    { e with
      ring := (now.zipIdx.map fun x => if mine x.2 then { x.1 with drop := true } else x.1) :: older
      singleFrames := satAdd 32 e.singleFrames frames }
  | _, _ => e

/-- REFRESH_PLACE: a refresh of a rank, or the retraining step, goes into the beat, is postponed, or breaks a read margin (R237,
R238): 4 refreshes of a rank can be postponed, a step by 1 s. -/
def refreshPlace (d rank : Nat) (inMargin retrain : Bool) (s : State) : State :=
  let c := s.chan d
  let waits := tget 0 c.postponed rank
  let since := c.retrainSince.getD s.now
  if !(d < 4 && c.state == 0 && rank < c.ranks) then s
  else
    let done (s : State) : State := tick (if retrain then 109 else 79) d 1 s
    let placed (c : Channel) : Channel :=
      if retrain then { c with retrainSince := none } else { c with postponed := tput 0 c.postponed rank 0 }
    if !inMargin then done (s.onChan d placed)
    else if retrain && s.now < since + secondBeats then s.onChan d fun c => { c with retrainSince := some since }
    else if !retrain && waits < 4 then
      s.onChan d fun c => { c with postponed := tput 0 c.postponed rank (waits + 1), deferred := satAdd 32 c.deferred 1 }
    else
      let t := (done s).onChan d fun c => { placed c with singleCopy := satAdd 32 c.singleCopy 1 }
      let t := (t.poolEntries fun p => p.chan == d && p.isTwin).foldl (fun s k => s.onEntry k PoolEntry.dropWrites) t
      raise (77 + 4 * d) (t.onClk fun x => { x with ovPool := satAdd 32 x.ovPool 1 })

/-- POOL_ECC_ERROR on a read of a slot (R239). -/
def poolEcc (slot : Nat) (s : State) : State :=
  match s.entryAt slot with
  | none => s
  | some k => uncError (s.entry k).cfg.chan (s.onPool fun p => { p with eccNow := insertNat slot p.eccNow })

/-! ### Status figures -/

/-- Latest minus earliest arrival, 0.1 µs. -/
def PoolEntry.diffDelay (e : PoolEntry) : Nat := posTime e.spread

/-- The largest pool latency of an entry's members or copies, 0.1 µs (R34, R243, R247, R251, R253). -/
def PoolEntry.latency (e : PoolEntry) : Nat :=
  match e.cfg with
  | .delay a => a.delay * 1250 + 30
  | .group _ => e.diffDelay + 30
  | .twin _ => if e.state = 3 then 1280 else e.diffDelay + 278 + 2500 + 30

/-- The defects word of pool.status (R241-R250) for an entry and a member. -/
def PoolEntry.defects (e : PoolEntry) (member : Nat) : Nat :=
  let twin := e.cfg.isTwin
  let m := e.memberOf member
  let here := member < e.cfg.memberSize.2
  boolNat e.dLoa + at' 1 (boolNat e.anyLom) + at' 2 (boolNat e.anySqm) + at' 3 (boolNat (twin && (e.memberOf 0).late)) +
  at' 4 (boolNat (twin && (e.memberOf 1).late)) + at' 5 (boolNat (twin && e.selB)) + at' 6 (boolNat e.outAis) +
  at' 16 (boolNat (here && m.dLom)) + at' 17 (boolNat (here && m.dSqm))

def execMemberMfiChange (k i : Nat) (s : State) : Out := done s (memberMfi k i s)
def execLoaChange (k : Nat) (s : State) : Out := done s (loaChange k s)
def execGroupRealign (k : Nat) (s : State) : Out := done s (groupRealign k s)
def execOutputLagAdjust (k : Nat) (s : State) : Out := done s (lagAdjust k s)
def execTwinSelect (k : Nat) (s : State) : Out := done s (twinSelect k s)
def execRefreshPlace (d rank : Nat) (inMargin retrain : Bool) (s : State) : Out := done s (refreshPlace d rank inMargin retrain s)
def execPoolEccError (slot : Nat) (s : State) : Out := done s (poolEcc slot s)
def execDdrRequestTimeout (d : Nat) (s : State) : Out := done s (ddrTimeout d s)
def execChannelFail (d cause : Nat) (s : State) : Out := done s (channelFail d cause s)
def execBypassRevert (k : Nat) (s : State) : Out := done s (bypassRevert k s)
def execTwinBypassReturn (k : Nat) (s : State) : Out := done s (bypassReturn k s)

end Sys2Proof.Machine
end

