-- ==== Sys2Proof/Machine/Fabric.lean ====
section
/-!
DEFINITION. Machine/Fabric.lean: what the data plane does in one beat: granules that every source delivers (06 R171-R178),
the Super (R181-R186) and the Brood (R183), the granules nurse units build (07 R200-R202, R217-R221), pool reads (08),
and the checks the consumers make (06 R174, 05 R149, 07 R201, R223).
-/

namespace Sys2Proof.Machine

open Sys2Proof

/-! ### Granules of line ports (04 R116, R134; 05 R148, R154, R162) -/

/-- The origin, tag and BIP that a source adds (R171). The BIP covers the slot's granule of the previous beat: what carries traffic is
held in `superIn`, port 418 sent all ones, and every other source 0x00. -/
def finishGranule (s : State) (slot : Nat) (g : Granule) : Granule :=
  let bip : Byte := match (s.comb.superIn.find? fun e => e.1 == slot) with
    | some e => bip8 (fill783 e.2.at)
    | none => if slot / 192 = 418 then 0xFF else 0
  { g with originPort := slot / 192, originG := slot % 192, tag := s.now % 2 ^ 24, combBip := bip }

/-- A granule of an enabled port that carries nothing. -/
def emptyGranule : Granule := { uneq := true, fillerOnly := true }

/-- Whether a unit missed the beat (R52): its granules carry SSF. -/
def missed (s : State) (kind index : Nat) : Bool := (kind, index) ∈ s.clk.pipeLate

/-- Signed difference of two 24-bit tags (R176). -/
def tagDiff (x y : Nat) : Int :=
  let d : Nat := (x + 2 ^ 24 - y % 2 ^ 24) % 2 ^ 24
  if d < 2 ^ 23 then d else (d : Int) - 16777216

/-- The tile that carries tile k's lines by the assignment of the spares. -/
def tileNow (s : State) (k : Nat) : Nat := if s.test.f32 = some k then 32 else if s.test.f33 = some k then 33 else k

/-- The migration of tile k whose handover beat has come, by the tag of the granules of the beat (R176). -/
def tileMoves (s : State) (k : Nat) : Option Slice :=
  match s.test.slice with
  | some x => if x.kind = 1 ∧ x.index = k ∧ x.stage ≠ 2 ∧ x.shadow ∧ 0 ≤ tagDiff s.now x.handover then some x else none
  | none => none

/-- The tile whose granules the Super inputs of line port n take in the beat: before the handover the old one, from it on the new one
(R176). -/
def servingTile (s : State) (n : Nat) : Nat :=
  match tileMoves s (n / 8) with
  | some x => if x.toSpare then x.spare.getD (n / 8) else n / 8
  | none => tileNow s (n / 8)

/-- The unit that serves Brood port b: N24 in place of its own. -/
def servingNurse (s : State) (b : Nat) : Nat := if s.test.n24 = some (b / 4) then 24 else b / 4

/-- Ingress granule g of an SDH lane. The beat of an adjustment still carries the offset before it (R173). -/
def sdhGranule (s : State) (n g : Nat) : Granule :=
  if sdhGranules (s.lane n).mode ≤ g then emptyGranule
  else
    match (s.pathsOf n).find? fun h => decide (h ≤ g) && decide (g < h + pathWidth (s.path n h).cfg.type) with
    | none => emptyGranule
    | some h =>
      let p := s.path n h
      let d := pathDef s n h
      let w := pathWidth p.cfg.type
      let ais := d.aais || (p.jumpIn != 0 && p.jumpAis)
      let bytes := deinterleave w (g - h) (padTo 0 (p.beatUnits * w) p.store)
      { offset := if p.action = 1 then (p.offset + 782) % 783 else if p.action = 2 then (p.offset + 1) % 783 else p.offset
        action := p.action, ndf := p.action == 3, ais := ais, ssf := d.tsf, ssd := d.tsd, uneq := d.uneq
        twinClean := p.clean.getD 3 false
        jbyte := if p.action = 2 then bytes.getD 0 0 else 0
        payload := if ais then onesPayload else if p.action = 1 then 0 :: bytes else if p.action = 2 then bytes.drop 1 else bytes }

/-- The AxC whose cells hold port cell x of a lane, and the cell's number in it (R162). -/
def axcAtCell (s : State) (n dir x : Nat) : Option (Nat × Nat) :=
  ((s.axcsOf n dir).find? fun i =>
    let a := (s.axc n dir i).cfg
    decide (a.cellBase ≤ x) && decide (x < a.cellBase + axcCells a.nBits)).map fun i => (i, x - (s.axc n dir i).cfg.cellBase)

/-- Ingress granule g of a CPRI lane: cells of its AxCs, or its part of the broad stream. -/
def cpriGranule (s : State) (n g : Nat) : Granule :=
  let p := s.cpriOf n
  let line := lineSource s n
  let fails := cpriFails s line
  if p.cfg.transport = 1 then
    let w := cpriW (cpriOption (s.lane n).mode)
    if broadGroup (cpriOption (s.lane n).mode) ≤ g then emptyGranule
    else if fails then { ais := true, ptype := 2, payload := onesPayload }
    else
      let bytes := padTo 0 (p.beatBytes w) p.rxStore
      let part := (bytes.drop (783 * g)).take 783
      let hs := (p.rxMarks.find? fun m => decide (783 * g ≤ m) && decide (m < 783 * g + part.length)).map (· - 783 * g)
      { ptype := 2, ndf := hs.isSome, offset := hs.getD 0, filler := 783 - part.length, fillerOnly := part.isEmpty
        payload := match hs with
          | some k => part.set k 0xBC
          | none => part }
  else
    let cells := (List.range 87).map fun c => axcAtCell s n 0 (87 * g + c)
    if !(cells.any Option.isSome) then { emptyGranule with ssf := fails }
    else
      let w := cpriW (cpriOption (s.lane line).mode)
      let got := packBytes s n
      let data : List (Nat × Array Byte) := ((cells.filterMap fun c => c.map Prod.fst).eraseDups).map fun i =>
        let a := (s.axc n 0 i).cfg
        (i, (containers w a.startBit a.nBits got.1).toArray)
      { ptype := 1, ssf := fails || got.2
        payload := if fails then [] else fill783 fun k =>
          match cells.getD (k % 87) none with
          | none => 0
          | some (i, c) =>
            let nb := (s.axc n 0 i).cfg.nBits
            let byte := axcCells nb * (k / 87) + c
            if byte < axcBytes nb then ((data.find? fun e => e.1 == i).elim #[] Prod.snd).getD byte 0 else 0 }

/-- Ingress granule g of a line, by its own tile (R178). -/
def tileGranule (s : State) (n g : Nat) : Granule :=
  if missed s 1 (servingTile s n) then { ssf := true }
  else if sdhUp s n then sdhGranule s n g
  else if cpriUp s n then cpriGranule s n g
  else { ssf := true, fillerOnly := true }

/-- Granule g of a protection port while protection is selected: R266 says what it carries only otherwise (log 26). -/
def openGranule (s : State) (n g : Nat) : Granule :=
  let k := drawAt s.fresh (192 * n + g)
  let b (i : Nat) : Bool := (Config.free 22 k).testBit i
  { ais := b 0, ssf := b 1, ssd := b 2, uneq := b 3, twinClean := b 4, ndf := b 5
    payload := fill783 fun p => BitVec.ofNat 8 (Config.free 23 (1024 * k + p)) }

/-- The selector of an MSP group whose working lane is n has moved at the last boundary (R266, R281). -/
def movedLine (s : State) (n : Nat) : Bool :=
  s.prot.any fun e => e.2.moved && e.2.cfg.kind ≤ 2 && (e.2.lanes.map Prod.fst) == some n

/-- Granule g of line port n: of the selected line of an MSP group, marked new in the first beat after a change; the
protection port of a bridged 1:1 group delivers AIS in the granules of its line (R178, 09 R266, R267). -/
def lineGranule (s : State) (n g : Nat) : Granule :=
  match laneGroup s [1, 2] fun _ p => p == n with
  | some pg =>
    if !(pg.bridged || pg.sel) || !sdhUp s n || sdhGranules (s.lane n).mode ≤ g then tileGranule s n g
    else if pg.bridged then { ais := true, payload := onesPayload } else openGranule s n g
  | none =>
    let x := tileGranule s (if isSdhMode (s.lane n).mode then lineSource s n else n) g
    if movedLine s n && x.ptype = 0 then { x with action := 3, ndf := true } else x

/-- Granules of line port n that can carry something: those of its paths or of its AxCs, of its broad stream, or of a protection line. -/
def lineCarries (s : State) (n : Nat) : List Nat :=
  let src := if isSdhMode (s.lane n).mode then lineSource s n else n
  let path (m : Nat) : List Nat := (s.pathsOf m).flatMap fun h => (List.range (pathWidth (s.path m h).cfg.type)).map (h + ·)
  if (laneGroup s [1, 2] fun _ p => p == n).isSome && sdhUp s n then List.range (sdhGranules (s.lane n).mode)
  else if sdhUp s src then path src
  else if cpriUp s n then
    if (s.cpriOf n).cfg.transport = 1 then List.range (broadGroup (cpriOption (s.lane n).mode))
    else (s.axcsOf n 0).flatMap fun i =>
      let a := (s.axc n 0 i).cfg
      ((List.range 192).filter fun g => decide (a.cellBase < 87 * (g + 1)) && decide (87 * g < a.cellBase + axcCells a.nBits))
  else []

/-- R176: an old tile that has not finished the beat before its handover still sends in the beat: its granules, tagged s or later, are
discarded and counted at each of its eight ports (log 113). -/
def lateMigration (s : State) : State :=
  match s.test.slice with
  | some x =>
    let old := if x.toSpare then x.index else x.spare.getD x.index
    if (tileMoves s x.index).isSome && missed s 1 old then
      raise 73 (s.onComb fun c => { c with
        ports := (List.range 8).foldl (fun t i =>
          let p := tget {} t (8 * x.index + i)
          tput {} t (8 * x.index + i) { p with late := satAdd 32 p.late 192 }) c.ports })
    else s
  | none => s

/-! ### Granules of Brood ports (07 R197-R221) -/

/-- The Brood output cell as it stands. -/
def outCell (s : State) (b x : Nat) : Cell := tget {} s.comb.broodOut (cellOf b x)

/-- Bit-exact H4 of a VC that carries sequence number `sq` (R221). -/
def h4Member (n sq : Nat) : Nat :=
  let mfi1 := n % 16
  let hi := if mfi1 = 14 then sq / 16 else if mfi1 = 15 then sq % 16 else h4Sent n / 16
  hi * 16 + mfi1

/-- POH of a VC that the device builds at position 0, by row (R202, R194); B3 is the BIP-8 of the VC frame sent in the previous beat,
which for a VC-3 leaves out its fixed stuff. -/
def pohByte (s : State) (first w c2 h4 row : Nat) : Byte :=
  match row with
  | 0 => traceByte false (List.replicate 15 0) s.now
  | 1 => vcBip w 0 ((List.range w).flatMap fun i => fill783 (tget {} s.comb.superIn (first + i)).at)
  | 2 => BitVec.ofNat 8 c2
  | 5 => BitVec.ofNat 8 h4
  | _ => 0

/-- All bytes of a tributary's cells in this beat, row by row. -/
def tuCellBytes (s : State) (b g tu : Nat) : List Byte :=
  let c := (s.vcOf b g).cfg
  let xs := tuIndices (c.struct == 2) ((tuType c tu).getD 0) g tu
  (List.range 9).flatMap fun r => xs.map fun x => (outCell s b x).bytes.getD r 0

/-- The tributary bytes of a built VC in this beat, row by row: the frame of the period that the egress built, the cells themselves where
their source has no state entry, or an unequipped TU before the first period (R205-R207). -/
def builtTu (s : State) (b g tu : Nat) : List Byte :=
  let type := (tuType (s.vcOf b g).cfg tu).getD 0
  let t := s.tuOf b g tu
  if t.txRaw then tuCellBytes s b g tu
  else (if t.txFrames.isEmpty then t.fixed type false else t).txFrames.getD (s.now % tuFrames type) []

/-- Granule x of the VC built at granule g of Brood port b (R202). -/
def builtGranule (s : State) (b g x : Nat) : Granule :=
  let v := s.vcOf b g
  let c := v.cfg
  let gi := x - g
  let au3 := c.struct == 2
  let w := if au3 then 1 else 3
  let tus := (tusOf c).map fun tu => (tuIndices au3 ((tuType c tu).getD 0) g tu, builtTu s b g tu)
  let isTu3 := !au3 && bit c.tug3 gi
  { ndf := v.fresh
    payload := fill783 fun k =>
      let r := k / 87
      let col := k % 87
      let idx := 87 * x + col
      match tus.find? fun t => decide (idx ∈ t.1) with
      | some t => t.2.getD (r * t.1.length + t.1.findIdx (· == idx)) 0
      | none =>
        if col = 0 && gi = 0 then pohByte s (slotOf (broodPort b) g) w c.txC2 (h4Sent s.now) r
        else if !au3 && !isTu3 && col = 1 then (if r = 0 then 0x93 else if r = 1 then 0xE0 else 0)
        else 0 }

/-- Tag of the bytes that AxC i of a map group sends in this beat (R217, R220). -/
def axvTag (s : State) (nBits left : Nat) (valid : Bool) : Nat :=
  let bits : Int := ((s.now : Int) - 1) * 480 * nBits - 8 * left
  let cont := bits / nBits
  let off := (bits % nBits).toNat
  let i := (cont % 38400).toNat
  let bfn := ((cont / 38400 + s.scout.bfnOffset) % 4096).toNat
  ((bfn * 256 + i / 256) * 256 + i % 256) * 4096 + off * 2 + boolNat valid

/-- What AxC i of a map group sends in this beat: count, tag, bytes, and the buffer after it (R218, R219). -/
def mapSend (s : State) (a : NurseAxvArgs) (v : Axv) (i : Nat) : Nat × Nat × List Byte × AxvAxc :=
  match a.axcs[i]? with
  | none => (0, 0, [], {})
  | some e =>
    let x := v.axcOf i
    let cells := (List.range (axcCells e.nBits)).map fun c => outCell s a.b (e.x + c)
    let got := (List.range (axcBytes e.nBits)).map fun k =>
      (cells.getD (k % axcCells e.nBits) {}).bytes.getD (k / axcCells e.nBits) 0
    let bad := cells.any fun c => c.failed
    let left := x.buf.length
    let buf := x.buf ++ got
    let acc := x.acc + x.rate
    let count := acc / 65536
    (count, axvTag s e.nBits left (!bad), (buf ++ List.replicate count 0).take count,
      { x with acc := acc % 65536, count := count, buf := buf.drop count })

/-- Granule x of a map group's members (R215-R218, R221). -/
def mapGranule (s : State) (v : Axv) (x : Nat) : Granule :=
  let a := v.cfg
  let w := axvWidth a.type
  let m := (x - a.g0) / w
  let gi := (x - a.g0) % w
  let sends := (List.range a.axcs.length).map fun i => mapSend s a v i
  let stream := sends.flatMap fun t => t.2.2.1
  let d := axvDataCells a.type * a.members
  let ctl := sends.getD (m % a.axcs.length) (0, 0, [], {})
  let i := m % a.axcs.length
  let control (r : Nat) : Byte :=
    match r with
    | 0 => BitVec.ofNat 8 (0x50 + i)
    | 1 => BitVec.ofNat 8 m
    | 2 => BitVec.ofNat 8 (ctl.1 / 256)
    | 3 => BitVec.ofNat 8 ctl.1
    | r => BitVec.ofNat 8 (ctl.2.1 / 256 ^ (8 - r))
  let datas := (List.range (axvDataCells a.type)).map fun u => axvData a (axvDataCells a.type * m + u)
  { payload := fill783 fun k =>
      let r := k / 87
      let idx := 87 * x + k % 87
      if idx = axvControl a m then control r
      else if k % 87 = 0 && gi = 0 then
        pohByte s (slotOf (broodPort a.b) (axvGranule a m)) w a.txC2 (h4Member s.now m) r
      else
        let u := datas.findIdx (· == idx)
        if u < datas.length then stream.getD (d * r + axvDataCells a.type * m + u) 0 else 0 }

/-- The enabled AxC group of a direction whose members cover granule x of Brood port b. -/
def axvCovering (s : State) (b dir x : Nat) : Option Nat :=
  (s.nurse.axvs.find? fun e =>
    e.1 / 192 == 2 * b + dir && e.2.cfg.enable == 1 && e.1 % 192 ≤ x &&
      x < e.1 % 192 + axvWidth e.2.cfg.type * e.2.cfg.members).map fun e => e.1 % 192

/-- Egress granule x of Brood port b (R197). -/
def broodGranule (s : State) (b x : Nat) : Granule :=
  if missed s 2 (servingNurse s b) then { ssf := true }
  else match vcCovering s b x with
  | some g =>
    if (s.vcOf b g).cfg.mode = 0 then
      let cells := (List.range 87).map fun c => outCell s b (87 * x + c)
      { ptype := 1, failMap := (List.range 87).filter fun c => (cells.getD c {}).failed
        payload := fill783 fun k => (cells.getD (k % 87) {}).bytes.getD (k / 87) 0 }
    else builtGranule s b g x
  | none =>
    match axvCovering s b 0 x with
    | some g0 => mapGranule s (s.axvOf b 0 g0) x
    | none => emptyGranule

/-- Granules of Brood ports that can carry something, by slot. -/
def nurseCarries (s : State) : List Nat :=
  ((s.nurse.vcs.filter fun e => e.2.cfg.enable == 1).flatMap fun e =>
      (List.range (vcWidth e.2.cfg)).map fun i => slotOf (broodPort (e.1 / 192)) (e.1 % 192 + i)) ++
    (s.nurse.axvs.filter fun e => e.2.cfg.enable == 1 && e.1 / 192 % 2 == 0).flatMap fun e =>
      (List.range (axvWidth e.2.cfg.type * e.2.cfg.members)).map fun i => slotOf (broodPort (e.1 / 384)) (e.1 % 192 + i)

/-! ### Service ports and pool reads (06 R193, R194; 08) -/

/-- The stream with its generator on that covers granule g of port 416 or 417. -/
def genStream (s : State) (port g : Nat) : Option (Nat × Stream) :=
  (s.comb.streams.find? fun e =>
    e.1 / 64 == port - 416 && bit e.2.pattern 4 && e.2.firstG ≤ g && g < e.2.firstG + e.2.width)

/-- Bytes of a stream's payload that hold its pattern, by place: in mode 1 the VC's bytes in their order, by unit and place in it, else
granule by granule (R194, log 114). -/
def streamPlaces (x : Stream) : List Nat :=
  (List.range (783 * x.width)).filter fun p => x.mode != 1 || !vcFixed x.width (p / x.width % 87) (p % x.width)

/-- One beat of a stream's generator: the next bits of its pattern, with one inverted for each injection; R194 does not say which one, so
a free one (log 4). -/
def Stream.generate (fresh key : Nat) (x : Stream) : Stream :=
  if !(bit x.pattern 4) then { x with gen := 0, out := [], inject := 0 }
  else
    let d := prbsPoly (field x.pattern 0 3)
    let from' := if x.gen = 0 then 1 + Config.patternSeed (1000 + key) % (2 ^ d.1 - 1) else x.gen
    let n := streamBits x
    let flips := (List.range x.inject).map fun j => Config.free 24 (drawAt (drawAt fresh key) j) % n
    let bits := (lfsrBits d.1 d.2 n from').zipIdx.map fun e =>
      (e.1 != bit x.pattern 3) != (flips.filter (· == e.2)).length.testBit 0
    { x with gen := lfsrRun d.1 d.2 n from', out := bytesOf (n / 8) bits, inject := 0 }

/-- Payload of a stream's beat, by place (see `streamPlaces`): POH and fixed stuff of a VC beside the pattern. -/
def streamBytes (s : State) (port : Nat) (x : Stream) : List Byte :=
  let base : Array Byte := ((List.range 9).foldl (fun a r =>
    if x.mode = 1 then a.setIfInBounds (87 * r * x.width) (pohByte s (slotOf port x.firstG) x.width 0xFE 0 r) else a)
    (Array.replicate (783 * x.width) 0))
  ((List.zip (streamPlaces x) x.out).foldl (fun a e => a.setIfInBounds e.1 e.2) base).toList

/-- Granule g of a PRBS generator port (R194). -/
def prbsGranule (s : State) (port g : Nat) : Granule :=
  match genStream s port g with
  | none => emptyGranule
  | some (_, x) =>
    let l := streamBytes s port x
    let gi := g - x.firstG
    match x.mode with
    | 1 => { payload := deinterleave x.width gi l }
    | 2 => { ptype := 1, payload := (l.drop (783 * gi)).take 783 }
    | _ => { ptype := 3, payload := (l.drop (783 * gi)).take 783 }

/-- Granule g of a service port (R193). -/
def serviceGranule (s : State) (p g : Nat) : Granule :=
  if p = 416 ∨ p = 417 then prbsGranule s p g
  else if p = 418 then { ais := true, payload := onesPayload }
  else emptyGranule

/-- The entry whose read side covers a pool slot, and the granule of it; a copy B slot reads unequipped (R230). -/
def readEntry (s : State) (slot : Nat) : Option (Nat × Nat) :=
  ((s.pool.entries.find? fun e =>
    e.2.used && e.2.cfg.isOn && decide (e.2.cfg.first ≤ slot) &&
      decide (slot < e.2.cfg.first + (if e.2.cfg.isTwin then e.2.cfg.memberSize.1 else e.2.cfg.granules))).map Prod.fst).map fun k => (k, slot - k)

/-- The granule of write-side slot n as the Super's outputs stand. -/
def writeSide (s : State) (n : Nat) : Granule :=
  let slot := 352 * 192 + n
  (s.comb.superOut.find? fun e => e.1 == slot).elim (unconnected s.now false) Prod.snd

/-- Granule of a pool read slot (R228, R239), and whether its header passes as stored; `before`: the previous beat's write side. -/
def poolGranule (s : State) (before : Nat → Granule) (n : Nat) : Granule × Bool :=
  match readEntry s n with
  | none => (emptyGranule, false)
  | some (k, r) =>
    if n ∈ s.pool.eccNow then ({ ssf := true, payload := [] }, false) else (s.entry k).output before r

/-- Read-side slots of the enabled entries. -/
def poolCarries (s : State) : List Nat :=
  (s.pool.entries.filter fun e => e.2.used && e.2.cfg.isOn).flatMap fun e =>
    (List.range (if e.2.cfg.isTwin then e.2.cfg.memberSize.1 else e.2.cfg.granules)).map fun i => 352 * 192 + e.2.cfg.first + i

/-! ### The Super (06 R181-R186, R190) -/

/-- Sources of a beat, each once: what the connection memory names, and every granule that carries something, connected or not. -/
def superSources (s : State) : List Nat :=
  let named := s.comb.superConn.filterMap Prod.snd
  let lines := (((s.sdh.map Prod.fst) ++ (s.cpri.map Prod.fst)).eraseDups).flatMap fun n => (lineCarries s n).map (slotOf n)
  let tests := (s.comb.streams.filter fun e => bit e.2.pattern 4).flatMap fun e =>
    (List.range e.2.width).map fun i => slotOf (416 + e.1 / 64) (e.2.firstG + i)
  (named ++ lines ++ nurseCarries s ++ tests ++ poolCarries s).foldl (fun l x => insertNat x l) []

def isPoolPort (p : Nat) : Bool := 352 ≤ p && p < 416

/-- Input granules of a beat from every source but the pools. Port 419 shows itself as origin; port 421 carries the
previous beat's granule with its header (R193). -/
def sourceGranule (s : State) (slot : Nat) : Granule :=
  let p := slot / 192
  let g := slot % 192
  if p < 256 then finishGranule s slot (lineGranule s p g)
  else if p < 352 then finishGranule s slot (broodGranule s (p - 256) g)
  else if p = 421 then tget (unconnected (s.now + 2 ^ 48 - 1) false) s.comb.superOut slot
  else if p = 419 then { unconnected s.now false with originPort := 419, originG := g }
  else finishGranule s slot (serviceGranule s p g)

/-- The granule that output slot `dst` delivers (R184-R186, R190); a Comb region that missed the beat marks all it serves
(02 R52). -/
def superDeliver (s : State) (ins : Tbl Granule) (dst : Nat) : Granule :=
  let fresh := s.moved dst
  let g := match (if dst ∈ s.comb.eccConns then none else s.superSrc dst) with
    | none => unconnected s.now fresh
    | some x =>
      let g := (ins.find? fun e => e.1 == x).elim emptyGranule Prod.snd
      if fresh && g.ptype = 0 then { g with action := 3, ndf := true } else g
  let bank := dst / 192 / 53
  if dst ∈ s.comb.eccSlots || missed s 3 bank || missed s 3 (8 + bank) then { g with ssf := true } else g

/-- Outputs that deliver: connected ones and those that just lost their connection. -/
def superOutputs (s : State) : List Nat :=
  s.comb.changed.foldl (fun l e => insertNat e.1 l) (s.comb.superConn.map Prod.fst)

/-- What every output slot delivers, with pool read slots as the entries stand; and the sources (R181). -/
def superPass (s : State) (ins : Tbl Granule) (reads : List Nat) (before : Nat → Granule) (p : Pool) : Tbl Granule × Tbl Granule :=
  let u := { s with pool := p }
  let all := (reads.map fun x =>
    let r := poolGranule u before (x - 352 * 192)
    (x, if r.2 then r.1 else finishGranule s x r.1)).foldl (fun t e => tput {} t e.1 e.2) ins
  (all, (superOutputs s).map fun d => (d, superDeliver s all d))

/-- The pools with one beat of the write side stored in every entry; a twin counts on its channel only where it is served in the pool
(18 R550). -/
def poolStore (s : State) (outs : Tbl Granule) : Pool :=
  let old := writeSide s
  let new := writeSide (s.onComb fun c => { c with superOut := outs })
  { s.pool with
    entries := tmap {} (fun _ e => beatEntry s.now old new ((s.chan e.cfg.chan).state == 0 && s.mode != .lean) e) s.pool.entries }

/-- The Super in one beat. A granule of a pool read may go into a pool write of the same beat: reads of a VCAT group can hold bytes of the
beat, so that as many passes are made as there are groups, and one more (log 30). -/
def beatSuper (s : State) : State :=
  let srcs := superSources s
  let ins := ((srcs.filter fun x => !isPoolPort (x / 192)).map fun x => (x, sourceGranule s x)).foldl (fun t e => tput {} t e.1 e.2) ([] : Tbl Granule)
  let reads := srcs.filter fun x => isPoolPort (x / 192)
  let before := writeSide s
  let groups := (s.pool.entries.filter fun e => e.2.used && e.2.cfg.isOn && !e.2.cfg.isTwin && !e.2.cfg.kindIsDelay).length
  let first := (superOutputs s).map fun d => (d, superDeliver s ins d)
  let last := (List.range (if reads.isEmpty then 0 else groups + 1)).foldl (fun (acc : Tbl Granule × Tbl Granule) _ =>
    superPass s ins reads before (poolStore s acc.2)) (ins, first)
  let pool := poolStore s last.2
  let u := { s with pool := pool }
  let events := (s.pool.entries.map Prod.fst).foldl (fun t k =>
    let e := s.entry k
    let e' := u.entry k
    raiseIf (e.used && e.report != e'.report) (entrySrc e'.cfg) t) s
  let shown (e : PoolEntry) : PoolEntry :=
    if !(e.used && e.cfg.isOn) then e
    else { e.advance with
      outAis := !e.cfg.kindIsDelay && (last.1.find? fun x => x.1 == 352 * 192 + e.cfg.first).elim false fun x => x.2.ais }
  { events with
    pool := { pool with entries := tmap {} (fun _ e => shown e) pool.entries, eccNow := [] }
    comb := { events.comb with superIn := last.1, superOut := last.2 } }

/-- Comb BIP checks of the beat (R174): a consumer skips a slot whose origin changed. The loopback input is none; the tap is one
like any other (R195). -/
def beatBip (before : Tbl Granule) (s : State) : State :=
  let bad := s.comb.superOut.filter fun e =>
    e.1 / 192 != 421 && match before.find? fun b => b.1 == e.1 with
    | none => false
    | some b => b.2.originPort == e.2.originPort && b.2.originG == e.2.originG &&
        (s.superSrc e.1).isSome && e.2.combBip != bip8 (fill783 b.2.at)
  let t := bad.foldl (fun s e => s.onComb fun c => { c with
    ports := tput {} c.ports (e.1 / 192) { tget {} c.ports (e.1 / 192) with
      bip := satAdd 32 (tget {} c.ports (e.1 / 192)).bip 1, bipNow := true } }) s
  let t := t.onComb fun c => { c with
    ports := tmap {} (fun _ p => { p with bipRun := if p.bipNow then p.bipRun + 1 else 0, bipNow := false }) c.ports }
  raiseIf (!bad.isEmpty) 59 t

/-! ### The Brood (06 R183, R190; 07 R197, R200) -/

/-- The granule that Brood port b receives at g. -/
def broodIn (s : State) (b g : Nat) : Granule := tget (unconnected s.now false) s.comb.superOut (slotOf (broodPort b) g)

/-- Cell c of a granule in the aligned form (R200): each byte keeps its row. A stuff byte belongs to no cell; the place of the byte that an
increment leaves out carries 0x00 (log 115). -/
def alignedCell (g : Granule) (c : Nat) : List Byte :=
  let shift := match g.action with
    | 1 => g.offset + 1
    | 2 => g.offset + 86
    | _ => g.offset
  (List.range 9).map fun r =>
    let k := 87 * r + (c + shift) % 87
    if k = 0 ∧ g.action = 1 then 0 else g.at k

/-- Brood input cell x of port b (R197, R175, R214, R226). -/
def broodInCell (s : State) (b x : Nat) : Cell :=
  let gx := x / 87
  let c := x % 87
  let g := broodIn s b gx
  let plain (l : Nat → Byte) (bad : Bool) : Cell := ⟨(List.range 9).map l, bad⟩
  if missed s 2 (servingNurse s b) then plain (fun _ => 0) true
  else match vcCovering s b gx with
  | some g0 =>
    let v := (s.vcOf b g0).cfg
    if v.mode = 0 then plain (fun r => g.at (87 * r + c)) (g.ais || g.ssf || decide (c ∈ g.failMap))
    else
      let d := match tuOfCell s b x with
        | some (vg, tu) => (tuDef s b vg tu).aais
        | none => false
      ⟨alignedCell g c, g.ais || g.ssf || d⟩
  | none =>
    match playCell s b x with
    | some (g0, i, cell) =>
      let v := s.axvOf b 1 g0
      let a := v.axcOf i
      let nb := (v.cfg.axcs.getD i ⟨1, 0⟩).nBits
      plain (fun r =>
        let k := axcCells nb * r + cell
        if k < axcBytes nb && !(a.lost || a.dPlay) then a.out.getD k 0 else 0) (a.lost || a.dPlay)
    | none => plain (fun _ => 0) true

/-- The Brood in one beat: every connected output cell takes its source's bytes (R183, R190). -/
def beatBrood (s : State) : State :=
  let outs := s.comb.broodConn.map fun e =>
    let cell := match (if (81408 + e.1) ∈ s.comb.eccConns then none else e.2.src) with
      | none => (⟨List.replicate 9 0, true⟩ : Cell)
      | some y => broodInCell s (y / 16704) (y % 16704)
    let bank := e.1 / 16704 / 4
    (e.1, if e.1 ∈ s.comb.eccCells || missed s 3 (16 + bank) || missed s 3 (40 + bank) then { cell with failed := true } else cell)
  s.onComb fun c => { c with broodOut := outs }

/-! ### What units take from the beat -/

/-- The bytes of a tributary in a VC frame, row by row (R180). -/
def tuOfFrame (c : NurseVcArgs) (type tu : Nat) (f : Array Byte) : List Byte :=
  let au3 := c.struct == 2
  let cols := (cellsOf c type tu).map fun x => if au3 then x else 3 * x + (tuK tu - 1)
  (List.range 9).flatMap fun r => cols.map fun j => f.getD ((if au3 then 87 else 261) * r + j) 0

/-- Nurse ingress of a VC in use: incoming marks, and the H4 process on each H4 that the beat's VC bytes hold: VC byte 435, counted with
the justification of the beat (R201, R173). Of a TU structure the VC frames are cut at their J1s, and each frame's tributaries wait for
their interpreters, the newest eight of them; H4 of a frame is the frame's own place in the TU multiframe (R202, log 116). -/
def beatVc (key : Nat) (s : State) : State :=
  let b := key / 192
  let g := key % 192
  let v := s.vcOf b g
  if v.cfg.enable = 0 then s
  else
    let gs := (List.range (vcWidth v.cfg)).map fun i => broodIn s b (g + i)
    let h := gs.headD {}
    let bytes := h.vcBytes
    let c := (h.offset + 435) % 783
    let h4s := if carriesTug2 v.cfg then [c, c + 783].filter fun k => decide (k < bytes.length) else []
    let lomTo (i : Nat) : Lom := (h4s.filter (· < i)).foldl (fun l k => l.step (bytes.getD k 0).toNat) v.lom
    let v1 : NurseVc := { v with
      inAis := gs.any fun x => x.ais, inSsf := gs.any fun x => x.ssf, fresh := false, lom := lomTo bytes.length }
    if v.cfg.mode = 0 then s.onVc b g fun _ => v1
    else
      let st := h.starts
      let cutted := vcCut gs.length 0 st (vcUnits gs) v.part
      let place (i : Nat) : Nat := 783 * s.now + h.placeOf i
      let frames := cutted.1.map fun e =>
        ((lomTo e.1).expect + 3, ((st.filter (· < e.1)).getLast?.map place).getD v.partAt, e.2.toArray)
      let t := s.onVc b g fun _ => { v1 with part := cutted.2, partAt := (st.getLast?.map place).getD v.partAt }
      if frames.isEmpty then t
      else (tusOf v.cfg).foldl (fun s tu =>
        let type := (tuType v.cfg tu).getD 0
        let fs := frames.map fun f => (⟨f.1 % 4, f.2.1, tuOfFrame v.cfg type tu f.2.2⟩ : TuFrame)
        s.onTu b g tu fun t => { t with rx := let l := t.rx ++ fs; l.drop (l.length - 8) }) t

/-! ### Demap groups (R223-R226) -/

/-- VC columns of a member's data cells, in order (R215). -/
def axvColumns (type : Nat) : List Nat :=
  if type = 1 then (List.range 259).map (· + 2) else (List.range 87).filter fun j => 2 ≤ j && j != 29 && j != 58

/-- Width of a member's VC row. -/
def axvRow (type : Nat) : Nat := if type = 1 then 261 else 87

/-- The VC frames that end in the beat at member m: whether the member carried ais or ssf with them, where each began relative to the
beat, and its bytes; and the frame in hand. -/
def memberFrames (s : State) (v : Axv) (m : Nat) : List (Bool × Int × Array Byte) × VcPart :=
  let a := v.cfg
  let gs := (List.range (axvWidth a.type)).map fun j => broodIn s a.b (axvGranule a m + j)
  let h := gs.headD {}
  let part : VcPart := tget {} v.parts m
  let bad := gs.any fun g => g.ais || g.ssf
  let cutted := vcCut gs.length 0 h.starts (vcUnits gs) part.bytes
  (cutted.1.map fun e => (bad || part.bad, (h.placeOf e.1 : Int) - 783, e.2.toArray),
    ⟨cutted.2, bad || (part.bad && h.starts.isEmpty)⟩)

/-- The record in a member's control cell, if the member is clean for AxC of n bits (R223): count and tag. -/
def ctlRecord (type m nBits : Nat) (f : Bool × Int × Array Byte) : Option (Nat × Nat) :=
  let at' (r : Nat) : Nat := (f.2.2.getD (axvRow type * r + 1) 0).toNat
  let count := at' 2 * 256 + at' 3
  let tag := (List.range 5).foldl (fun t r => t * 256 + at' (4 + r)) 0
  let nom := axcBytes nBits
  if at' 0 / 16 = 5 && at' 1 = m && !f.1 && nom ≤ count + axvSlack nBits && count ≤ nom + axvSlack nBits then some (count, tag) else none

/-- Label, bit and validity of a tag (R217). -/
def tagFields (tag : Nat) : Nat × Nat × Bool :=
  (tag / 2 ^ 28 % 4096 * 38400 + tag / 2 ^ 20 % 256 * 256 + tag / 2 ^ 12 % 256, tag / 2 % 2048, tag.testBit 0)

/-- One AxC in one frame of a group: its record and its bytes into the play-out buffer, and how many bytes of the stream are its own
(R223-R225). -/
def demapAxc (s : State) (v : Axv) (sets : List (Nat × (Bool × Int × Array Byte))) (i : Nat) (stream : List Byte) (off : Nat)
    (x : AxvAxc) : AxvAxc × Nat :=
  let a := v.cfg
  let e := a.axcs.getD i ⟨1, 0⟩
  let recs := (sets.filter fun m => m.1 % a.axcs.length == i).filterMap fun m => ctlRecord a.type m.1 e.nBits m.2
  match recs with
  | r :: rest =>
    if rest.all (· == r) then
      let f := tagFields r.2
      if !f.2.2 then ({ x with count := r.1, lost := true, asm := none }, r.1)
      else
        let d := axvDataCells a.type * a.members
        let start := (sets.headD (0, false, 0, #[])).2.2.1
        let got := x.take e.nBits f.1 f.2.1 (bitsOf ((stream.drop off).take r.1))
        let first := playLabel s a.b e.x s.now
        let y := got.1.foldl (fun x c =>
          let z := off + (c.1 - 1) / 8
          let at' : Int := start + ((87 * (z / d) + axvData a (z % d) % 87 : Nat) : Int)
          x.arrive (labelDiff (c.2.1 + a.playOut) first) at'.toNat c.2.1 c.2.2) x
        ({ y with count := r.1, lost := false, asm := got.2 }, r.1)
    else ({ x with ctrlErrors := satAdd 32 x.ctrlErrors 1, lost := true, asm := none }, x.count)
  | [] => ({ x with ctrlErrors := satAdd 32 x.ctrlErrors 1, lost := true, asm := none }, x.count)

/-- One frame of a group: the data cells of its members as one stream, row by row, then its AxCs in turn (R218). -/
def demapFrame (s : State) (v : Axv) (sets : List (Nat × (Bool × Int × Array Byte))) : Axv :=
  let a := v.cfg
  let cols := axvColumns a.type
  let stream := (List.range 9).flatMap fun r => (List.range a.members).flatMap fun m =>
    match sets.find? fun e => e.1 == m with
    | some e => cols.map fun j => e.2.2.2.getD (axvRow a.type * r + j) 0
    | none => cols.map fun _ => 0
  let step (acc : Tbl AxvAxc × Nat) (i : Nat) : Tbl AxvAxc × Nat :=
    let x := demapAxc s v sets i stream acc.2 (tget {} acc.1 i)
    (tput {} acc.1 i x.1, acc.2 + x.2)
  { v with axcs := ((List.range a.axcs.length).foldl step (v.axcs, 0)).1 }

/-- One beat of a demap group: the frames that its members complete, the beats with a slip, the least margin of the radio frame, and the
containers released (R223-R226). -/
def beatDemap (s : State) (v : Axv) : Axv :=
  let a := v.cfg
  let got := (List.range a.members).map fun m => memberFrames s v m
  let sets := got.foldl (fun n x => max n x.1.length) 0
  let v := { v with parts := got.zipIdx.foldl (fun t e => tput {} t e.2 e.1.2) [] }
  let v := (List.range sets).foldl (fun v j =>
    demapFrame s v (got.zipIdx.filterMap fun e => (e.1.1[j]?).map fun f => (e.2, f))) v
  let anyFail := (List.range (axvWidth a.type * a.members)).any fun j => let g := broodIn s a.b (a.g0 + j); g.ais || g.ssf
  let close (i : Nat) (x : AxvAxc) : AxvAxc :=
    let e := a.axcs.getD i ⟨1, 0⟩
    let x := { x with
      slipBeats := if x.slipNow then x.slipBeats + 1 else 0, cleanBeats := if x.slipNow then 0 else x.cleanBeats + 1
      slipNow := false, lost := x.lost || anyFail
      margin := if s.now % 80 = 79 then x.marginNow.getD x.margin else x.margin
      marginNow := if s.now % 80 = 79 then none else x.marginNow }
    x.release e.nBits (playLabel s a.b e.x (s.now + 1)) a.playOut
  { v with axcs := (List.range a.axcs.length).foldl (fun t i => tput {} t i (close i (tget {} t i))) v.axcs }

/-- One beat of a map group: its buffers move on (R219). -/
def beatMap (s : State) (v : Axv) : Axv :=
  { v with axcs := (List.range v.cfg.axcs.length).foldl (fun t i => tput {} t i (mapSend s v.cfg v i).2.2.2) v.axcs }

def beatAxv (s : State) (key : Nat) (v : Axv) : Axv :=
  if v.cfg.enable = 0 then v else if key / 192 % 2 = 0 then beatMap s v else beatDemap s v

/-- Egress cells of an AxC in this beat carry AIS or SSF, or come from no connection (05 R149, R165). -/
def axcFails (s : State) (n : Nat) (a : CpriAxcArgs) : Bool :=
  (List.range (axcCells a.nBits)).any fun c =>
    let x := a.cellBase + c
    let g := tget (unconnected s.now false) s.comb.superOut (slotOf n (x / 87))
    (s.superSrc (slotOf n (x / 87))).isNone || g.ais || g.ssf || decide (x % 87 ∈ g.failMap)

/-- One beat of an egress AxC: its cells fail, or its store drifts; one that no connection reaches counts as failed and realigns once it is
connected (R165, R166, log 127). -/
def beatAxc (s : State) (key : Nat) (x : Axc) : Axc :=
  if key / 48 % 2 = 1 && x.cfg.enable = 1 then
    let bad := axcFails s (key / 96) x.cfg
    let x := if bad then x else driftStore s (key / 96) (key % 48) x
    { x with failed := bad, realign := (x.realign || x.failed) && !bad }
  else x

/-- Pattern bytes of a stream as its analyser receives them: in mode 1 by their place in the VC, which the offset and the action give
(R194, R173). -/
def streamReceived (x : Stream) (gs : List Granule) : List Byte :=
  if x.mode = 1 then
    let o := (gs.headD {}).offset
    (vcUnits gs).zipIdx.filterMap fun e =>
      if vcFixed x.width ((e.2 / x.width + 783 - o) % 783 % 87) (e.2 % x.width) then none else some e.1
  else gs.flatMap fun g => fill783 g.at

/-- One beat of a service port's analyser (R194): a beat with ais, ssf or uneq is unavailable, and its register goes on by a beat's bits. -/
def beatStream (s : State) (key : Nat) (x : Stream) : Stream :=
  if !(bit x.pattern 5) then { x with rx := [] }
  else
    let gs := (List.range x.width).map fun i => tget (unconnected s.now false) s.comb.superOut (slotOf (416 + key / 64) (x.firstG + i))
    let d := prbsPoly (field x.pattern 0 3)
    if gs.any Granule.failedVc then
      { x with unavailable := satAdd 32 x.unavailable 1, rx := [], ref := if x.locked then lfsrRun d.1 d.2 (streamBits x) x.ref else x.ref }
    else
      let l := streamReceived x gs
      let x := { x with rx := l }
      if x.locked then x.check (bitsOf l) else x

/-- The tap starts at its beat (R195). -/
def beatTap (beat : Nat) (t : Tap) : Tap := if t.state = 1 ∧ t.startBeat ≤ beat then { t with state := 2 } else t

/-- The data plane in one beat, after its tickets were applied: the generators, the Super, its checks, what every consumer takes, then
the Brood, whose cells the nurse egress builds from in the next beat. -/
def beatFabric (s : State) : State :=
  let before := s.comb.superOut
  let s0 := s.onComb fun c => { c with streams := tmap {} (Stream.generate s.fresh) c.streams }
  let t := beatSuper (lateMigration s0)
  let t := beatBip before t
  let t := (t.nurse.vcs.map Prod.fst).foldl (fun s k => beatVc k s) t
  let u := t
  let t := t.onNurse fun x => { x with
    axvs := tmap {} (fun k v => if k / 192 % 2 = 0 then beatAxv s0 k v else beatAxv u k v) x.axvs }
  let t := { t with axcs := tmap {} (beatAxc t) t.axcs }
  let t := t.cpri.foldl (fun s e => cpriEgress e.1 s) t
  let errs := t.comb.streams.any fun e => (beatStream t e.1 e.2).errors != e.2.errors
  let t := raiseIf errs 71 (t.onComb fun c => { c with streams := tmap {} (beatStream t) c.streams })
  let t := beatBrood t
  (t.onComb fun c => { c with changed := [], eccSlots := [], eccCells := [], eccConns := [], tap := beatTap s.now c.tap }).draw

end Sys2Proof.Machine
end

