-- ==== Sys2Proof/Machine/Prot.lean ====
section
/-!
DEFINITION. Machine/Prot.lean: the protection engine (09): triggers, hold-off, requests and wait-to-restore, the APS
protocol on K1 and K2, and the selectors.
-/

namespace Sys2Proof.Machine

open Sys2Proof

/-! ### Triggers (R261) -/

/-- What a member shows: 0 nothing, 1 SD, 2 SF. -/
def showing (sf sd : Bool) : Nat := if sf then 2 else if sd then 1 else 0

/-- An MSP member: SF while its lane or port is disabled (R261, R273). -/
def lineTrigger (s : State) (sdOn : Bool) (n : Nat) : Nat :=
  let d := portDef s n
  showing (!sdhUp s n || d.tsf) (sdOn && d.tsd)

/-- A CPRI 1+1 member. -/
def cpriTrigger (s : State) (n : Nat) : Nat :=
  let d := cpriDef s n
  showing (!cpriUp s n || d.los || d.lof || d.ver || d.axf) false

/-- A high-order SNCP source run. A source on a line port with a path there shows the path's states; any source shows
the ais and ssf bits of its granules; a source of a disabled unit carries ssf (R261, R273). -/
def runTrigger (s : State) (sncpN sdOn : Bool) (port g width : Nat) : Nat :=
  let marks := (List.range width).any fun i =>
    let x := (s.comb.superIn.find? fun e => e.1 == slotOf port (g + i)).elim (sourceGranule s (slotOf port (g + i))) Prod.snd
    x.ais || x.ssf
  let isPath := port < 256 && (s.path port g).cfg.type != 0
  let d := pathDef s port g
  let p := portDef s port
  showing (marks || (isPath && (p.tsf || d.ais || d.lop || (sncpN && d.tsf)))) (isPath && sncpN && sdOn && d.tsd)

/-- A low-order SNCP source tributary. -/
def tuTrigger (s : State) (sncpN sdOn : Bool) (b g tu : Nat) : Nat :=
  let v := s.vcOf b g
  let here := v.cfg.enable == 1 && (tuType v.cfg tu).isSome
  let d := tuDef s b g tu
  showing (!here || d.server || d.ais || d.lop || (sncpN && d.tsf)) (sncpN && sdOn && d.tsd)

/-- What the working and the protection member show. -/
def triggers (s : State) (c : ProtGroupArgs) : Nat × Nat :=
  let sdOn := bit c.flags 2
  let sncpN := bit c.flags 3
  match c.members with
  | .lines w p => (lineTrigger s sdOn w, lineTrigger s sdOn p)
  | .cpri w p _ => (cpriTrigger s w, cpriTrigger s p)
  | .sncpHo _ _ width wPort wG pPort pG => (runTrigger s sncpN sdOn wPort wG width, runTrigger s sncpN sdOn pPort pG width)
  | .sncpLo _ _ _ _ wB wG wTu pB pG pTu _ => (tuTrigger s sncpN sdOn wB wG wTu, tuTrigger s sncpN sdOn pB pG pTu)

/-! ### Hold-off and requests (R262-R265) -/

/-- One beat of a member's hold-off: beats left and the condition that is a request (R263). -/
def holdStep (holdoff shown : Nat) (left : Option Nat) (req : Nat) : Option Nat × Nat :=
  if shown = 0 then (none, 0)
  else if holdoff = 0 || req ≠ 0 then (none, shown)
  else match left with
    | none => (some (holdoff * 800), 0)
    | some n => (some (n - 1), 0)

/-- Whether a request selects protection (R262). -/
def selectsProt (rank : Nat) : Bool := rank ∈ [3, 5, 7, 8, 10, 11]

/-- K1 bits 1-4 and channel of a request (R262). -/
def kCode (rank : Nat) : Nat × Nat :=
  match rank with
  | 1 => (15, 0) | 2 => (12, 0) | 3 => (14, 1) | 4 => (14, 0) | 5 => (12, 1) | 6 => (10, 0) | 7 => (10, 1)
  | 8 => (8, 1) | 9 => (8, 0) | 10 => (6, 1) | 11 => (1, 1) | _ => (0, 0)

/-- The request that an accepted K1 holds: both codes of SF and of SD; exercise is NR; none for an unused code. RR
stands for no request of its own (R268, R270). -/
def kRank (k1 : Nat) : Option Nat :=
  let ch := k1 % 16
  match k1 / 16 with
  | 15 => some 1
  | 14 => some (if ch = 1 then 3 else 4)
  | 13 | 12 => some (if ch = 1 then 5 else 2)
  | 11 | 10 => some (if ch = 1 then 7 else 6)
  | 8 => some (if ch = 1 then 8 else 9)
  | 6 => some 10
  | 1 => some 11
  | 4 | 2 | 0 => some 12
  | _ => none

/-- Rank of a held command; 13 for none (R262). -/
def commandRank (c : Nat) : Nat :=
  match c with
  | 1 => 1 | 2 => 3 | 3 => 4 | 4 => 8 | 5 => 9 | _ => 13

/-- Rank of the best trigger; 13 for none. -/
def triggerRank (reqW reqP : Nat) : Nat :=
  if reqP = 2 then 2 else if reqW = 2 then 5 else if reqP = 1 then 6 else if reqW = 1 then 7 else 13

/-- The group's own request from its triggers, command, timer and state (R262, R264, R265). -/
def ProtGroup.ownRequest (g : ProtGroup) : ProtGroup :=
  let trig := triggerRank g.reqW g.reqP
  let g := if trig ≤ 7 ∧ (g.command = 4 ∨ g.command = 5) then { g with command := 0 } else g
  let best := min trig (commandRank g.command)
  if best ≤ 9 then { g with request := best, wtrLeft := 0 }
  else if (g.request = 5 || g.request = 7) && g.sel then
    if bit g.cfg.flags 0 then { g with request := 10, wtrLeft := g.cfg.wtr * 480000 } else { g with request := 11, wtrLeft := 0 }
  else if g.request = 10 then { g with wtrLeft := g.wtrLeft - 1 }
  else if g.request = 11 then g
  else { g with request := 12, wtrLeft := 0 }

/-! ### APS (R266-R270) -/

def ProtGroup.isMsp (g : ProtGroup) : Bool := g.cfg.kind == 1 || g.cfg.kind == 2
def ProtGroup.bidir (g : ProtGroup) : Bool := g.isMsp && (bit g.cfg.flags 1 || g.cfg.kind == 2)
def ProtGroup.fop (g : ProtGroup) : Bool := g.fopIv || g.fopPm || g.fopArch || g.fopCm

/-- The accepted remote request: rank 2-11 on channel 1 (R268). -/
def ProtGroup.remote (g : ProtGroup) (p : SdhPort) : Option Nat :=
  if g.bidir && !g.fop && p.kAccepted && p.k1 % 16 == 1 then
    match kRank p.k1 with
    | some r => if 2 ≤ r && r ≤ 11 then some r else none
    | none => none
  else none

/-- An end whose own request ranks below the remote one answers it (R268). -/
def ProtGroup.answers (g : ProtGroup) (p : SdhPort) : Bool :=
  match g.remote p with
  | some r => r < g.request
  | none => false

/-- The request in force as the host sees it: an end that answers takes the remote request as its own (R268). -/
def requestShown (s : State) (g : ProtGroup) : Nat :=
  match g.lanes with
  | some (_, p) => match g.remote (s.sdhOf p) with
    | some r => min r g.request
    | none => g.request
  | none => g.request

/-- The failure-of-protocol defects but dFOP-CM's declaration (R270). -/
def ProtGroup.fopStep (g : ProtGroup) (p : SdhPort) (protSf : Bool) : ProtGroup :=
  if !g.isMsp then g
  else if protSf then { g with fopIv := false, fopPm := false, fopArch := false, fopCm := false, cmBeats := 0 }
  else
    let mode := p.k2 % 8
    let own := if g.bidir then 5 else 4
    let agree := p.k2 / 16 == g.txK1 % 16
    { g with
      fopIv := 12 ≤ p.noK || (p.kAccepted && (kRank p.k1).isNone)
      fopPm := p.kAccepted && (if mode = 4 ∨ mode = 5 then mode != own else g.fopPm)
      fopArch := p.kAccepted && bit p.k2 3 != (g.cfg.kind == 2)
      fopCm := g.fopCm && !agree
      cmBeats := if g.bidir && p.kAccepted && !agree then min 400 (g.cmBeats + 1) else 0 }

/-- The selection that the group's requests ask for (R262, R266, R269). -/
def ProtGroup.wants (g : ProtGroup) (p : SdhPort) : Bool :=
  let own := selectsProt g.request
  if !g.bidir || g.fop then own
  else if g.answers p then true
  else own && (g.sel || (p.kAccepted && p.k2 / 16 == 1))

/-- K1, K2 and the bridge after the request was taken (R267, R268). -/
def ProtGroup.sendK (g : ProtGroup) (p : SdhPort) : ProtGroup :=
  if !g.isMsp then g
  else
    let bridged := g.cfg.kind == 2 && ((p.kAccepted && p.k1 % 16 == 1) || (g.fop && selectsProt g.request))
    let ch := if g.cfg.kind = 1 then (if p.kAccepted then p.k1 % 16 else 0) else boolNat bridged
    let k := kCode g.request
    { g with
      bridged := bridged
      txK1 := if g.answers p then 0x21 else k.1 * 16 + k.2
      txK2 := ch * 16 + boolNat (g.cfg.kind == 2) * 8 + (if g.bidir then 5 else 4) }

/-! ### Selectors (R266, R271-R273, R276, R277, R281) -/

/-- Points the connections of an SNCP group's output at a member. -/
def pointSelector (c : ProtGroupArgs) (prot : Bool) (s : State) : State :=
  match c.members with
  | .sncpHo dstPort dstG width wPort wG pPort pG =>
    (List.range width).foldl (fun s i =>
      applySuper (slotOf dstPort (dstG + i)) (some (if prot then slotOf pPort (pG + i) else slotOf wPort (wG + i))) s) s
  | .sncpLo dstB dstG dstTu type wB wG wTu pB pG pTu struct =>
    let ds := tuIndices (bit struct 0) type dstG dstTu
    let xs := if prot then tuIndices (bit struct 2) type pG pTu else tuIndices (bit struct 1) type wG wTu
    let b := if prot then pB else wB
    (ds.zip xs).foldl (fun s e => applyBrood (cellOf dstB e.1) (some (cellOf b e.2)) false s) s
  | _ => s

/-- The selector of a group moves, at the boundary that has just come (R266, R271, R285). -/
def moveSelector (n : Nat) (prot : Bool) (s : State) : State :=
  let g := s.group n
  let t := pointSelector g.cfg prot (s.onGroup n fun g => { g with
    sel := prot, moved := true, move := none, waitHitless := false, switches := satAdd 32 g.switches 1, lastSwitch := s.now })
  notify 8 0x80 [(2, n), (1, boolNat prot), (1, requestShown s g), (4, 0), (8, s.now)] t

/-- The selector is to move at the next boundary. -/
def askMove (n : Nat) (prot : Bool) (s : State) : State :=
  s.onGroup n fun g => { g with move := if prot = g.sel then none else some prot, waitHitless := false }

/-- Both lanes of a CPRI 1+1 group are hitless-ready (R276); 0.1 ns. -/
def hitlessReady (s : State) (g : ProtGroup) : Bool :=
  match g.cfg.members with
  | .cpri w p skew =>
    let a := s.cpriOf w
    let b := s.cpriOf p
    a.state == .bfnSync && b.state == .bfnSync && cpriTrigger s w == 0 && cpriTrigger s p == 0 &&
      (a.rxOffset - b.rxOffset).natAbs * 10 ≤ skew * 26042
  | _ => false

/-- One group in one beat (R262-R273). A low-order group takes its request and moves at a TU multiframe boundary. -/
def evaluateGroup (n : Nat) (s : State) : State :=
  let g := s.group n
  if g.cfg.enable = 0 then s
  else
    let t := triggers s g.cfg
    let hw := holdStep g.cfg.holdoff t.1 g.holdW g.reqW
    let hp := holdStep g.cfg.holdoff t.2 g.holdP g.reqP
    let g := { g with
      sfW := t.1 == 2, sdW := t.1 == 1, sfP := t.2 == 2, sdP := t.2 == 1
      holdW := hw.1, reqW := hw.2, holdP := hp.1, reqP := hp.2 }
    if g.cfg.kind = 4 ∧ (s.now + 1) % tuBeats ≠ 0 then
      s.onGroup n fun _ => { g with wtrLeft := if g.request = 10 then g.wtrLeft - 1 else g.wtrLeft }
    else
      let p := match g.lanes with
        | some (_, p) => s.sdhOf p
        | none => {}
      let g := (g.fopStep p (t.2 == 2)).ownRequest
      let g := g.sendK p
      let want := g.wants p
      let s := s.onGroup n fun _ => g
      if want ≠ g.sel ∧ g.cfg.kind = 5 ∧ !(g.request = 2 ∨ g.request = 5) then s.onGroup n fun g => { g with waitHitless := true }
      else askMove n want s

/-- Enabled groups, in the order of their numbers. -/
def State.groupsOn (s : State) : List Nat := (s.prot.filter fun e => e.2.cfg.enable == 1).map Prod.fst

/-- A group's state goes to the standby (12 R363, type 4). A timer is sent as 0 when none runs, else as its beats left + 1. -/
def mirrorGroup (n : Nat) (s : State) : State :=
  let g := s.group n
  let left (x : Option Nat) : Nat := match x with | some k => k + 1 | none => 0
  mirrorSend (.prot n g.request g.sel (left g.holdW) (left g.holdP) g.wtrLeft) s

/-- Sent in a beat with a change, and in turn over 16 beats. -/
def mirrorIfDue (n : Nat) (old : ProtGroup) (s : State) : State :=
  let g := s.group n
  let change := g.request != old.request || g.sel != old.sel || g.holdW.isSome != old.holdW.isSome || g.holdP.isSome != old.holdP.isSome
  if change || n % 16 == s.now % 16 then mirrorGroup n s else s

/-- The selectors that move at the boundary, after its tickets (R266, R271, R280). -/
def beatMoves (s : State) : State :=
  s.prot.foldl (fun t e => match (t.group e.1).move with
    | some prot => mirrorGroup e.1 (moveSelector e.1 prot t)
    | none => t) s

/-- PROT_EVALUATE: every group in one beat. A standby follows the mirror and acts on no trigger of its own (R283). -/
def protEvaluate (s : State) : State :=
  if s.clk.started && s.hive.role != .standby then
    s.groupsOn.foldl (fun s n => mirrorIfDue n (s.group n) (evaluateGroup n s)) s
  else s

/-- HOLDOFF_EXPIRY: the member's condition in this beat becomes the request (R263). -/
def holdoffEnds (n : Nat) (prot : Bool) (s : State) : State :=
  let g := s.group n
  let t := triggers s g.cfg
  let left := if prot then g.holdP else g.holdW
  let shown := if prot then t.2 else t.1
  if g.cfg.enable = 1 ∧ left = some 0 ∧ shown ≠ 0 then
    s.onGroup n fun g => if prot then { g with holdP := none, reqP := shown } else { g with holdW := none, reqW := shown }
  else s

/-- WTR_EXPIRY: the request becomes NR (R264); the selector follows at the group's next evaluation. -/
def wtrEnds (n : Nat) (s : State) : State :=
  let g := s.group n
  if g.cfg.enable = 1 ∧ g.request = 10 ∧ g.wtrLeft = 0 then s.onGroup n fun g => { g with request := 12 } else s

/-- FOP_CM_EXPIRY: the channels have differed for 50 ms, 400 beats (R270). -/
def fopCm (n : Nat) (s : State) : State :=
  let g := s.group n
  if g.cfg.enable = 1 ∧ g.bidir ∧ 400 ≤ g.cmBeats then s.onGroup n fun g => { g with fopCm := true } else s

/-- CPRI_HITLESS_SWITCH at the radio frame boundary that follows (R277). -/
def hitlessSwitch (n : Nat) (s : State) : State :=
  let g := s.group n
  if g.cfg.enable = 1 ∧ g.waitHitless ∧ hitlessReady s g ∧ (s.now + 1) % radioBeats = 0 then askMove n (!g.sel) s else s

/-! ### Configuration in force (R280, R281) -/

/-- Applies a capped group change: members and kind unchanged keep request, command and timers; otherwise the group
restarts in NR on working. A movement that was to take effect at this boundary is decided anew on the new configuration (R280). A disabled
group leaves its output on the working member, which is new data where protection was selected (R266, R281). -/
def applyProt (a : ProtGroupArgs) (s : State) : State :=
  let n := a.group
  let g := s.group n
  if a.enable = 1 then
    if g.cfg.enable = 1 ∧ g.cfg.kind = a.kind ∧ g.cfg.members = a.members then s.onGroup n fun g => { g with cfg := a, move := none }
    else
      let t := s.onGroup n fun g => { ({} : ProtGroup) with cfg := a, switches := g.switches, lastSwitch := g.lastSwitch }
      pointSelector a false t
  else
    let t := if g.cfg.enable = 1 then pointSelector g.cfg false s else s
    t.onGroup n fun g => { ({} : ProtGroup) with
      cfg := a, switches := g.switches, lastSwitch := g.lastSwitch, moved := g.cfg.enable = 1 && g.isMsp && g.sel }

/-- prot.command on an enabled group: the outcome and the group with its request (R265). A command below the one that is
held does not displace it (R262). -/
def protCommand (c : Nat) (g : ProtGroup) : Nat × ProtGroup :=
  if c = 0 then
    let g := { g with command := 0, request := if g.request ∈ [1, 3, 4, 8, 9, 10] then 12 else g.request, wtrLeft := 0 }
    let trig := triggerRank g.reqW g.reqP
    (0, if trig ≤ 7 then { g with request := trig } else g)
  else
    let trig := triggerRank g.reqW g.reqP
    if (c = 4 ∨ c = 5) ∧ min trig (if commandRank g.command ≤ 7 then commandRank g.command else 13) ≤ 7 then (2, g)
    else
      let g := { g with command := if commandRank g.command < commandRank c then g.command else c }
      let best := min trig (commandRank g.command)
      (if best = commandRank c then 0 else 1, { g with request := best, wtrLeft := 0 })

/-- What a beat does to a group: the mark of a moved selector is over. -/
def beatGroup (_n : Nat) (g : ProtGroup) : ProtGroup := { g with moved := false }

/-- The flags of prot.status. -/
def protFlags (s : State) (g : ProtGroup) : Nat :=
  boolNat g.sfW + at' 1 (boolNat g.sdW) + at' 2 (boolNat g.sfP) + at' 3 (boolNat g.sdP) + at' 4 (boolNat g.fopIv) +
  at' 5 (boolNat g.fopPm) + at' 6 (boolNat g.fopArch) + at' 7 (boolNat g.fopCm) + at' 8 (boolNat (hitlessReady s g)) +
  at' 9 (boolNat (s.hive.role == .standby))

def execProtEvaluate (s : State) : Out := done s (protEvaluate s)
def execHoldoffExpiry (n : Nat) (prot : Bool) (s : State) : Out := done s (holdoffEnds n prot s)
def execWtrExpiry (n : Nat) (s : State) : Out := done s (wtrEnds n s)
def execFopCmExpiry (n : Nat) (s : State) : Out := done s (fopCm n s)
def execCpriHitlessSwitch (n : Nat) (s : State) : Out := done s (hitlessSwitch n s)

end Sys2Proof.Machine
end

