-- ==== Sys2Proof/Machine/Pm.lean ====
section
/-!
DEFINITION. Machine/Pm.lean: snapshots (01 R27, R28), the Keeper's per-beat handler and per-second work (02 R47-R54), and
performance monitoring (10): primitives, classification, unavailable time, bins, alerts and read-out.
-/

namespace Sys2Proof.Machine

open Sys2Proof

/-! ### Primitives of a beat (R286-R288) -/

/-- What an entity shows: its defect word, and whether a near-end and a far-end defect hold; for a CPRI lane dLOS and dLOF;
and whether its unit works. -/
structure EntView where
  word : Nat := 0
  ne : Bool := false
  fe : Bool := false
  los : Bool := false
  lof : Bool := false
  up : Bool := false
  deriving DecidableEq, Repr

def entView (s : State) (e : Entity) : EntView :=
  let d := portDef s e.unit
  let ms := d.los || d.lof || d.ais || (d.tim && bit (s.sdhOf e.unit).cfg.flags 0)
  match e.type with
  | 1 => { word := d.word, ne := d.los || d.lof, up := sdhUp s e.unit }
  | 2 => { word := d.word, ne := ms, fe := d.rdi, up := sdhUp s e.unit }
  | 3 =>
    let p := pathDef s e.unit e.g
    { word := p.word, ne := ms || p.ais || p.lop || p.uneq || p.tim || p.plm || p.lom, fe := p.rdi
      up := sdhUp s e.unit && (s.path e.unit e.g).cfg.type != 0 }
  | 4 =>
    let t := tuDef s e.unit e.g e.tu
    { word := t.word, ne := t.server || t.ais || t.lop || t.uneq || t.tim || t.plm, fe := t.rdi
      up := (s.vcOf e.unit e.g).cfg.enable == 1 && (tuType (s.vcOf e.unit e.g).cfg e.tu).isSome }
  | _ =>
    let c := cpriDef s e.unit
    { word := c.word, ne := c.los || c.lof, los := c.los, lof := c.lof, up := cpriUp s e.unit }

/-- The defect word of a snapshot with the marks that the next beat needs (bits 3-0: near end, far end, dLOS, dLOF). -/
def EntView.pack (v : EntView) : Nat :=
  v.word * 16 + boolNat v.ne + at' 1 (boolNat v.fe) + at' 2 (boolNat v.los) + at' 3 (boolNat v.lof)

def Prim.add (a b : Prim) : Prim :=
  ⟨a.neEb + b.neEb, a.feEb + b.feEb, a.neDef + b.neDef, a.feDef + b.feDef, a.cv + b.cv, a.los + b.los, a.lof + b.lof,
    a.slips + b.slips, a.off + b.off⟩

/-- The primitives of the beat that ends, with its defect beats: a defect that held at its start or holds now. -/
def endOfBeat (v : EntView) (before : Nat) (p : Prim) : Prim :=
  { p with
    neDef := boolNat (v.ne || bit before 0), feDef := boolNat (v.fe || bit before 1)
    los := boolNat (v.los || bit before 2), lof := boolNat (v.lof || bit before 3), off := boolNat (!v.up) }

/-! ### Snapshots (01 R27, R28) -/

/-- Entities monitored, by key. -/
def State.monitored (s : State) : List (Nat × Entity) :=
  (s.pm.mons.filter fun e => e.2.cfg.enable == 1).map fun e => (e.1, e.2.cfg.ent)

/-- The snapshot of the beat that ends. -/
def snapshotNow (s : State) : Snapshot :=
  let old := if s.clk.lastB then s.clk.snapB else s.clk.snapA
  let es := s.monitored.map fun e =>
    let v := entView s e.2
    (e.1, v.pack, endOfBeat v (tget 0 old.defects e.1) (tget {} s.pm.acc e.1))
  { unreleased := true, first := s.now, last := s.now
    prims := es.foldl (fun t e => tput {} t e.1 e.2.2) []
    defects := es.foldl (fun t e => tput 0 t e.1 e.2.1) []
    selectors := s.prot.foldl (fun t e => tput false t e.1 e.2.sel) []
    scoutState := match s.scout.state with
      | .freerun => 0 | .acquiring => 1 | .locked => 2 | .holdover => 3 | .hand => 4 }

/-- Adds a snapshot to an unreleased buffer: primitives add, states are replaced; what the Keeper has consumed of it is
not counted again. -/
def Snapshot.merge (old new : Snapshot) : Snapshot :=
  { new with
    first := if old.consumed then new.first else old.first, merges := old.merges + 1
    prims := if old.consumed then new.prims
      else new.prims.foldl (fun t e => tput {} t e.1 ((tget {} t e.1).add e.2)) old.prims }

/-- Writes the snapshot of the beat that ends: into the other buffer when it is released, else merged into the unreleased
buffer, which is a beat overrun (R28, R52, log 12). -/
def writeSnapshot (s : State) : State :=
  let n := snapshotNow s
  let put (b : Bool) (f : Snapshot → Snapshot) (s : State) : State :=
    s.onClk fun c => if b then { c with snapB := f c.snapB, lastB := true } else { c with snapA := f c.snapA, lastB := false }
  let get (b : Bool) : Snapshot := if b then s.clk.snapB else s.clk.snapA
  let other := !s.clk.lastB
  let t :=
    if !(get other).unreleased then put other (fun _ => n) s
    else
      let into := if (get s.clk.lastB).unreleased then s.clk.lastB else other
      raise 190 ((put into (fun o => o.merge n) s).onClk fun c => { c with ovSnap := satAdd 32 c.ovSnap 1 })
  t.onPm fun x => { x with acc := [] }

/-- SNAPSHOT_RELEASE: the Keeper releases a buffer it has consumed (R27). -/
def releaseSnapshot (b : Nat) (s : State) : State :=
  if !s.keeper.present then s
  else if b = 0 then
    if s.clk.snapA.consumed then s.onClk fun c => { c with snapA := { c.snapA with unreleased := false } } else s
  else if b = 1 then
    if s.clk.snapB.consumed then s.onClk fun c => { c with snapB := { c.snapB with unreleased := false } } else s
  else s

/-- The Keeper takes a snapshot's primitives: into the second in hand, or, when it spans a second boundary, into a span
that is classified uniformly (R296). -/
def consume (x : Snapshot) (s : State) : State :=
  let f := x.first / 8000
  let l := x.last / 8000
  let addAll (g : Mon → Prim → Mon) (s : State) : State := s.onPm fun p => { p with
    mons := tmap {} (fun k m => if m.cfg.enable = 1 then g m (tget {} x.prims k) else m) p.mons }
  if f ≠ l then
    (addAll (fun m p => { m with span := (m.span.add m.acc).add p, acc := {} }) s).onPm fun p => { p with
      span := match p.span with
        | some (f0, n, b) => some (f0, n + (l - f), b + (x.last + 1 - x.first))
        | none => some (f, l - f, x.last + 1 - 8000 * f)
      accSec := l }
  else if f = s.pm.accSec then addAll (fun m p => { m with acc := m.acc.add p }) s
  else (addAll (fun m p => { m with done := tput {} m.done s.pm.accSec m.acc, acc := p }) s).onPm fun p => { p with
    doneSecs := p.doneSecs ++ [p.accSec], accSec := f }

/-- PER_BEAT_HANDLER: the Keeper consumes the snapshots that it has not consumed, the older first (02 R47). -/
def beatHandler (s : State) : State :=
  if !s.keeper.serving then s
  else
    let one (b : Bool) (s : State) : State :=
      let x := if b then s.clk.snapB else s.clk.snapA
      if x.unreleased && !x.consumed then
        (consume x s).onClk fun c =>
          if b then { c with snapB := { c.snapB with consumed := true } } else { c with snapA := { c.snapA with consumed := true } }
      else s
    one s.clk.lastB (one (!s.clk.lastB) s)

/-- PER_BEAT_HANDLER_OVERRUN: still running 60 µs after its start (02 R52). -/
def handlerOverrun (s : State) : State :=
  if s.keeper.serving then
    raise 188 (s.onClk fun c => { c with
      ovHandler := satAdd 32 c.ovHandler 1, handlerRun := if c.handlerLate then c.handlerRun else c.handlerRun + 1, handlerLate := true })
  else s

/-- PER_SECOND_OVERRUN (02 R52). -/
def secondOverrun (s : State) : State :=
  if s.keeper.serving then raise 189 (s.onClk fun c => { c with ovSecond := satAdd 32 c.ovSecond 1 }) else s

/-! ### Classification (R290-R296) -/

/-- Errored blocks of a severely errored second (R290). -/
def sesBlocks (s : State) (e : Entity) : Nat :=
  match e.type with
  | 4 => if tuType (s.vcOf e.unit e.g).cfg e.tu = some 4 then 2400 else 600
  | 5 => 4500
  | _ => 2400

def isNeSes (thr : Nat) (p : Prim) : Bool := p.off == 0 && (0 < p.neDef || thr ≤ p.neEb)

/-- The far end of a second with a near-end defect is no SES (R291); types 1 and 5 have no far end. -/
def isFeSes (type thr : Nat) (p : Prim) : Bool :=
  p.off == 0 && 2 ≤ type && type ≤ 4 && p.neDef == 0 && (0 < p.feDef || thr ≤ p.feEb)

/-- es, ses, bbe of one direction. -/
def classes (ses : Bool) (eb : Nat) : List Nat :=
  [boolNat (ses || 0 < eb), boolNat ses, if ses then 0 else eb]

/-- What a second counts in the eight counters of R299 (R290-R294). A second with the unit disabled counts in none. -/
def SecRec.counts (r : SecRec) (type thr : Nat) (bidir : Bool) : List Nat :=
  let neU := r.neU || (bidir && r.feU)
  let feU := r.feU || (bidir && r.neU)
  let p := r.prim
  if 0 < p.off then List.replicate 8 0
  else
    (if neU then [0, 0, 0, 1] else classes (isNeSes thr p) p.neEb ++ [0]) ++
    (if type = 5 then [boolNat (0 < p.los), boolNat (0 < p.lof), p.slips, 0]
     else if feU then [0, 0, 0, 1]
     else if 0 < p.neDef || type = 1 then [0, 0, 0, 0]
     else classes (isFeSes type thr p) p.feEb ++ [0])

/-- Whether a bin holds a second; the current bin reaches on. -/
def Bin.holds (b : Bin) (sec : Nat) (current : Bool) : Bool :=
  decide (b.start / 8000 ≤ sec) && (current || decide (sec < b.start / 8000 + b.elapsed))

/-- Adds signed counts to a bin; `flags` are set in it. -/
def Bin.adjust (b : Bin) (d : List Int) (cv flags : Nat) : Bin :=
  { b with
    cnt := b.cnt.zipIdx.map fun c => (max 0 (min (2 ^ 32 - 1 : Int) ((c.1 : Int) + d.getD c.2 0))).toNat
    cv := satAdd 32 b.cv cv, flags := b.flags ||| flags }

/-- Applies `f` to every bin that holds a second; its Bool says that the bin is completed. -/
def Mon.onBins (m : Mon) (sec : Nat) (f : Bool → Bin → Bin) : Mon :=
  let cur (b : Bin) : Bin := if b.holds sec true then f false b else b
  let old (l : List Bin) : List Bin := l.map fun b => if b.holds sec false then f true b else b
  { m with bin15 := cur m.bin15, hist15 := old m.hist15, binDay := cur m.binDay, histDay := old m.histDay }

/-- One direction's run and state after a second (R293); the last value says that the state changed. -/
def availStep (unavail : Bool) (run : Nat) (ses : Bool) : Bool × Nat × Bool :=
  let hit := if unavail then !ses else ses
  let n := if hit then run + 1 else 0
  if 10 ≤ n then (!unavail, 0, true) else (unavail, n, false)

/-- Classifies one second of an entity (R290-R296): the second itself and, at an entry or exit, the 9 before it. -/
def classify' (type thr sec : Nat) (p : Prim) (suspect : Bool) (m : Mon) : Mon :=
  let bidir := m.cfg.bidir == 1
  let ne := availStep m.unavailNe m.runNe (isNeSes thr p)
  let fe := availStep m.unavailFe m.runFe (isFeSes type thr p)
  let this : SecRec := ⟨sec, p, ne.1, fe.1⟩
  let prev := m.recent.map fun r =>
    { r with neU := if ne.2.2 then ne.1 else r.neU, feU := if fe.2.2 then fe.1 else r.feU }
  let zero : List Nat := List.replicate 8 0
  let diff (a b : List Nat) : List Int := (a.zip b).map fun e => (e.1 : Int) - e.2
  let mark (r : SecRec) (b : Bin) : Bin := { b with flags := if r.neU || r.feU then b.flags ||| 64 else clearBits b.flags 64 }
  let m1 := (m.recent.zip prev).reverse.foldl (fun m e =>
    let d := diff (e.2.counts type thr bidir) (e.1.counts type thr bidir)
    if d.all (· == 0) then m
    else m.onBins e.1.sec fun done b => mark e.2 (b.adjust d 0 (if done then 4 else 0))) m
  let m2 := m1.onBins sec fun _ b =>
    mark this (b.adjust (diff (this.counts type thr bidir) zero) p.cv (boolNat suspect * 2 + boolNat (0 < p.off) * 16))
  { m2 with
    unavailNe := ne.1, runNe := ne.2.1, unavailFe := fe.1, runFe := fe.2.1, recent := (this :: prev).take 9 }

/-- Alerts of an entity after a second was classified (R300, R301). -/
def alerts (key : Nat) (sec : Nat) (s : State) : State :=
  let m := tget {} s.pm.mons key
  let thr := tget [] s.pm.profiles m.cfg.profile
  if 64 ≤ m.cfg.profile then s
  else
    let value (c : Nat) : Nat := if c < 8 then m.bin15.cnt.getD c 0 else m.binDay.cnt.getD (c - 8) 0
    (List.range 16).foldl (fun s c =>
      let t := thr.getD c 0
      let x := tget {} s.pm.mons key
      if t ≠ 0 ∧ t ≤ value c ∧ c ∉ x.alerted then
        let e := x.cfg.ent
        let x' := { x with
          alerted := insertNat c x.alerted
          bin15 := if c < 8 then { x.bin15 with flags := x.bin15.flags ||| 32 } else x.bin15
          binDay := if c < 8 then x.binDay else { x.binDay with flags := x.binDay.flags ||| 32 } }
        notify 9 0x80 [(1, e.type), (1, e.g), (2, e.unit), (1, e.tu), (1, c), (2, 0), (4, value c), (4, 0), (8, 8000 * sec)]
          (s.onPm fun p => { p with mons := tput {} p.mons key x' })
      else s) s

/-- Classifies a second of every monitored entity. -/
def classifyAll (sec : Nat) (suspect : Bool) (prim : Mon → Prim) (s : State) : State :=
  s.monitored.foldl (fun s e =>
    let m := tget {} s.pm.mons e.1
    let m' := classify' e.2.type (sesBlocks s e.2) sec (prim m) suspect m
    alerts e.1 sec (s.onPm fun p => { p with mons := tput {} p.mons e.1 m' })) s

/-- The mean primitives of one second of a span (R296): an SES when the span holds a defect beat. -/
def spanMean (beats : Nat) (p : Prim) : Prim :=
  let per (n : Nat) : Nat := n * 8000 / max 1 beats
  ⟨per p.neEb, per p.feEb, p.neDef, p.feDef, per p.cv, p.los, p.lof, per p.slips, per p.off⟩

/-- Classifies a waiting second. -/
def classifyDone (sec : Nat) (s : State) : State :=
  (classifyAll sec false (fun m => tget {} m.done sec) s).onPm fun p => { p with
    doneSecs := p.doneSecs.filter (· != sec), mons := tmap {} (fun _ m => { m with done := m.done.filter fun e => e.1 != sec }) p.mons }

/-- Second k - 1 is due in beat 8000k + 7,999, in Lean also in the one before it (R49, R50); a second whose work was not finished
there is classified late, in any later beat (R49, R52). -/
def secondDue (s : State) (sec : Nat) : Bool :=
  let r := s.now % 8000
  sec + 2 ≤ s.now / 8000 || (sec + 1 ≤ s.now / 8000 && (r == 7999 || (s.mode == .lean && r == 7998)))

/-- PER_SECOND_WORK covers the seconds that are due (02 R50), and a span of an outage before the seconds after it (R296). -/
def secondWork (s : State) : State :=
  let r := s.now % 8000
  let slot := r == 7999 || (s.mode == .lean && r == 7998)
  let due := s.pm.doneSecs.filter (secondDue s)
  if !(s.keeper.serving && s.clk.started && (slot || due != [])) then s
  else
    let spans (s : State) : State :=
      match s.pm.span with
      | some (f, n, b) =>
        ((List.range n).foldl (fun s i => classifyAll (f + i) true (fun m => spanMean b m.span) s) s).onPm fun p => { p with
          span := none, lastSpan := some (f, s.now), mons := tmap {} (fun _ m => { m with span := {} }) p.mons }
      | none => s
    match s.pm.span with
    | some (f, _, _) =>
      let t := (due.filter fun k => decide (k < f)).foldl (fun s k => classifyDone k s) s
      (due.filter fun k => !decide (k < f)).foldl (fun s k => classifyDone k s) (spans t)
    | none => due.foldl (fun s k => classifyDone k s) s

/-! ### Bins (R297-R299) -/

/-- The time of day of the beat in hand, in seconds: the Scout's when set, else the count of seconds (R297). -/
def todNow (s : State) : Nat := if s.scout.todValid then s.scout.tod else s.now / 8000

/-- A bin that starts now. -/
def freshBin (s : State) (flags : Nat) : Bin := { start := s.now, tod := if s.scout.todValid then s.scout.tod else 0, flags := flags }

/-- One second ends for the bins of an entity: `end15`, `endDay` say which end with it. -/
def Mon.secondEnds (m : Mon) (fresh : Bin) (end15 endDay changed : Bool) : Mon :=
  let mark (b : Bin) : Bin := { b with elapsed := b.elapsed + 1, flags := if changed then b.flags ||| 8 else b.flags }
  let m := { m with
    bin15 := if end15 then fresh else mark m.bin15, hist15 := if end15 then (mark m.bin15 :: m.hist15).take 96 else m.hist15
    binDay := if endDay then fresh else mark m.binDay, histDay := if endDay then (mark m.binDay :: m.histDay).take 7 else m.histDay }
  { m with alerted := m.alerted.filter fun c => !(if c < 8 then end15 else endDay) }

/-- What a second boundary does to the bins (R297, R298). -/
def secondBins (s : State) : State :=
  let t := todNow s
  let end15 := s.pm.timeStep || t % 900 == 0
  let endDay := s.pm.timeStep || t % 86400 == s.pm.dayStart * 900
  s.onPm fun p => { p with
    timeStep := false
    mons := tmap {} (fun _ m => if m.cfg.enable = 1 then m.secondEnds (freshBin s 0) end15 endDay p.timeStep else m) p.mons }

/-! ### Configuration in force, records, read-out -/

/-- Applies a capped monitoring change (R299, R301): turned on or off, the current bins are partial. -/
def applyMonitor (a : PmMonitorArgs) (s : State) : State :=
  let m := s.mon a.ent
  let part (b : Bin) : Bin := { b with flags := b.flags ||| 1 }
  if a.enable = 1 ∧ m.cfg.enable = 0 then
    s.onMon a.ent fun m => { ({} : Mon) with
      cfg := a, sent15 := m.sent15, sentDay := m.sentDay, bin15 := freshBin s 1, binDay := freshBin s 1
      hist15 := if m.bin15.elapsed = 0 then m.hist15 else (part m.bin15 :: m.hist15).take 96
      histDay := if m.binDay.elapsed = 0 then m.histDay else (part m.binDay :: m.histDay).take 7 }
  else if a.enable = 0 ∧ m.cfg.enable = 1 then
    s.onMon a.ent fun m => { m with cfg := a, bin15 := part m.bin15, binDay := part m.binDay }
  else s.onMon a.ent fun m => { m with cfg := a }

/-- Applies a capped profile change (R300). -/
def applyProfile (i : Nat) (thr : List Nat) (s : State) : State := s.onPm fun p => { p with profiles := tput [] p.profiles i thr }

/-- The record of a bin (R299). -/
def binFields (e : Entity) (b : Bin) : Fields :=
  ([(8, b.start), (4, b.tod), (4, b.elapsed), (1, e.type), (1, b.flags), (2, e.unit), (1, e.g), (1, e.tu), (2, 0)] : Fields) ++
  (b.cnt.map fun c => (4, (c : Int))) ++ ([(4, b.cv), (4, 0)] : Fields)

/-- A bin by the number of pm.read. -/
def Mon.binAt (m : Mon) (n : Nat) : Option Bin :=
  if n = 0 then some m.bin15 else if n ≤ 96 then m.hist15[n - 1]? else if n = 100 then some m.binDay
  else if 101 ≤ n ∧ n ≤ 107 then m.histDay[n - 101]? else none

/-- The beat at which a bin ended. -/
def Bin.ended (b : Bin) : Nat := b.start + 8000 * b.elapsed

/-- The bin ended within the span that was classified last (R296). -/
def inSpan (s : State) (b : Bin) : Bool := match s.pm.lastSpan with
  | some (f, at') => 8000 * f < b.ended && b.ended ≤ at'
  | none => false

/-- The completed bins of an entity that auto has to write now, oldest first, each once: the newest one, and those that ended in a span,
10 seconds after the end, or after the work that closed them (R296, R302). -/
def autoBins (m : Mon) (day : Bool) (s : State) : List Bin :=
  let l := if day then m.histDay else m.hist15
  ((l.take 1 ++ (l.drop 1).filter (inSpan s)).filter fun b =>
    let closed := match s.pm.lastSpan with
      | some (_, at') => if inSpan s b then at' else b.ended
      | none => b.ended
    decide ((if day then m.sentDay else m.sent15) < b.ended) && decide (closed + 80000 ≤ s.now)).reverse

/-- PM_AUTO_WRITE: a completed bin (R302). -/
def autoWrite (e : Entity) (day : Bool) (s : State) : State :=
  match (autoBins (s.mon e) day s).head? with
  | some b =>
    if s.keeper.serving && bit s.pm.auto (boolNat day) then
      ringPut s.pm.port 5 (recordBytes (binFields e b))
        (s.onMon e fun m => if day then { m with sentDay := b.ended } else { m with sent15 := b.ended })
    else s
  | none => s

/-- The bins of an entity that a bulk read-out takes, in order (R302). -/
def bulkBins (m : Mon) (bins depth : Nat) : List Bin :=
  (if bit bins 0 then [m.bin15] else []) ++ (if bit bins 1 then m.hist15.take depth else []) ++
  (if bit bins 2 then [m.binDay] else []) ++ (if bit bins 3 then m.histDay.take (min 7 depth) else [])

/-- Writes the selected records to ring 5 of a port; the counts are of records written and dropped. -/
def bulkWrite (a : PmBulkArgs) (s : State) : State × Nat × Nat :=
  let recs := s.monitored.flatMap fun e =>
    if bit a.types (e.2.type - 1) && e.2.type != 0 then
      (bulkBins (tget {} s.pm.mons e.1) a.bins a.depth).map fun b => recordBytes (binFields e.2 b)
    else []
  recs.foldl (fun acc r => if ringTakes a.port 5 acc.1 then (ringPut a.port 5 r acc.1, acc.2.1 + 1, acc.2.2)
    else (ringPut a.port 5 r acc.1, acc.2.1, acc.2.2 + 1)) (s, 0, 0)

def execSnapshotRelease (b : Nat) (s : State) : Out := done s (releaseSnapshot b s)
def execPerBeatHandler (s : State) : Out := done s (beatHandler s)
def execPerBeatHandlerOverrun (s : State) : Out := done s (handlerOverrun s)
def execPerSecondWork (s : State) : Out := done s (secondWork s)
def execPerSecondOverrun (s : State) : Out := done s (secondOverrun s)
def execPmAutoWrite (e : Entity) (day : Bool) (s : State) : Out := done s (autoWrite e day s)

end Sys2Proof.Machine
end

