-- ==== Sys2Proof/Machine/Scout.lean ====
section
/-!
DEFINITION. Machine/Scout.lean: the Scout (11): input qualification, reference selection and switches, the DPLL states,
phase control, holdover, the thermal model, time of day and outputs.
-/

namespace Sys2Proof.Machine

open Sys2Proof

/-! ### Codes and notifications -/

def inStateNum : InState → Nat
  | .disabled => 0 | .qualifying => 1 | .wtr => 2 | .qualified => 3 | .failed => 4

def dpllNum : Dpll → Nat
  | .freerun => 0 | .acquiring => 1 | .locked => 2 | .holdover => 3 | .hand => 4

def optNum (x : Option Nat) : Nat := x.getD 0xFF

/-- A free signed value of at most `m` in magnitude (log 4). -/
def freeInt (kind k m : Nat) : Int :=
  let v := Config.free kind k
  ((v % (2 * m + 1) : Nat) : Int) - m

/-- The notification of R349. -/
def scoutChange (source input old new : Nat) (s : State) : State :=
  notify 0x0A 0x80 [(1, source), (1, input), (1, old), (1, new), (4, 0), (8, s.now)] (raise source s)

/-- An input goes to a qualification state; source 97 says so (R315, R348). -/
def setInState (i : Nat) (st : InState) (s : State) : State :=
  let x := s.inp i
  if x.state = st then s
  else scoutChange 97 i (inStateNum x.state) (inStateNum st) (s.onInp i fun x => { x with state := st, okBeats := 0 })

/-- The DPLL goes to a state; sources 93, 94 and 95 (R348). -/
def setDpll (st : Dpll) (s : State) : State :=
  let old := s.scout.state
  if old = st then s
  else
    let say (source : Nat) (t : State) : State := scoutChange source (optNum s.scout.freq) (dpllNum old) (dpllNum st) t
    let t := say 93 (s.onScout fun x => { x with state := st })
    let t := if st = .holdover then say 94 t else t
    if old = .holdover then say 95 t else t

/-- The frequency reference changes (source 91). -/
def setFreq (r : Option Nat) (s : State) : State :=
  if s.scout.freq = r then s
  else
    let n := dpllNum s.scout.state
    scoutChange 91 (optNum r) n n (s.onScout fun x => { x with freq := r })

/-- The phase reference changes (source 92). -/
def setPhase (r : Option Nat) (s : State) : State :=
  if s.scout.phase = r then s
  else
    let n := dpllNum s.scout.state
    scoutChange 92 (optNum r) n n (s.onScout fun x =>
      { x with
        phase := r, aligned := false, phiRate := if r.isNone then 0 else x.phiRate })

/-- A drift onset is recorded or lapses (source 99). -/
def setOnset (i onset : Nat) (s : State) : State :=
  let x := s.inp i
  if x.onset = onset then s
  else
    let n := inStateNum x.state
    scoutChange 99 i n n (s.onInp i fun x => { x with onset := onset })

/-! ### Quality levels (R318, R319) -/

/-- Rank of an SSM code, 1 best; none is never selected (R318). -/
def qlRank (option code : Nat) : Option Nat :=
  let codes := if option = 2 then [0x1, 0x0, 0x7, 0x4, 0xD, 0xA, 0xC, 0xE] else [0x2, 0x4, 0x8, 0xB]
  (codes.idxOf? code).map (· + 1)

/-- The rank as a number, never-selected codes last. -/
def qlOrder (option code : Nat) : Nat := (qlRank option code).getD 100

/-- QL of an input (R319). -/
def inputQl (s : State) (i : Nat) : Nat :=
  let c := (s.inp i).cfg
  if i = 18 || i = 19 then s.scout.sysQl
  else if 6 ≤ i && c.qlSource == 1 then (s.sdhOf (lineSource s c.nominal)).s1.getD 0xF
  else c.ql

/-- The system QL that the DPLL's state calls for (R319). -/
def systemQl (s : State) : Nat :=
  let x := s.scout
  let ql (r : Option Nat) : Nat := (r.map (inputQl s)).getD 0xF
  match x.state with
  | .holdover | .hand => x.sel.holdoverQl
  | .freerun => x.sel.freerunQl
  | .locked | .acquiring =>
    if x.stage = .idle then ql x.freq
    else if x.oldOk then
      (if qlOrder x.sel.qlOption (ql x.freq) < qlOrder x.sel.qlOption (ql x.target) then ql x.target else ql x.freq)
    else ql x.target

/-- Takes up the system QL; a change raises source 102. -/
def refreshQl (s : State) : State :=
  let q := systemQl s
  if s.scout.sysQl = q then s else raise 102 (s.onScout fun x => { x with sysQl := q })

/-! ### The thermal model and holdover (R332-R335) -/

def ModelBin.isValid (b : ModelBin) : Bool := 60 ≤ b.samples

/-- M of a bin (R332). -/
def ModelBin.mean (b : ModelBin) : Int := if b.samples = 0 then 0 else b.acc / (min b.samples 600 : Nat)

/-- One more sample: the plain mean of the first 600, then weight 1/600. -/
def ModelBin.add (b : ModelBin) (v : Int) : ModelBin :=
  ⟨if b.samples < 600 then b.acc + v else b.acc - b.acc / 600 + v, b.samples + 1⟩

/-- The bin of a temperature in 0.0625 °C (R332). -/
def modelBin (temp : Int) : Nat := (max 0 (min 539 ((temp + 640) / 4))).toNat

def Scout.bin (x : Scout) (i : Nat) : ModelBin := tget {} x.model i

/-- M(T) and whether the temperature is outside the model (R332). -/
def thermalAt (x : Scout) (temp : Int) : Int × Bool :=
  let i := modelBin temp
  if (x.bin i).isValid then ((x.bin i).mean, false)
  else
    let good := (x.model.filter fun e => e.2.isValid).map fun e => (e.1, e.2.mean)
    let below := (good.filter fun e => e.1 < i).getLast?
    let above := (good.filter fun e => i < e.1).head?
    match below, above with
    | some (l, a), some (h, b) =>
      if i - l ≤ 20 && h - i ≤ 20 then (a + (b - a) * ((i - l : Nat) : Int) / ((h - l : Nat) : Int), false)
      else if i - l ≤ h - i then (a, true) else (b, true)
    | some (_, a), none => (a, true)
    | none, some (_, b) => (b, true)
    | none, none => (Config.thermalNone, false)

def thermalNow (x : Scout) : Int := (thermalAt x x.xotemp).1

/-- Whether a holdover base exists (R322, R338): one was fixed or mirrored, or a second of LOCKED time is known. -/
def hasBase (x : Scout) : Bool := x.base.isSome || x.hist.any fun e => e.2.2

/-- The mean of some integers, rounded down. -/
def meanInt (l : List Int) : Int := l.sum / (l.length : Int)

/-- The LOCKED seconds of `hist` with an age from `lo` up to `hi` seconds, as (age, w, M). -/
def lockedBetween (hist : List (Int × Int × Bool)) (lo hi : Nat) : List (Nat × Int × Int) :=
  ((hist.take hi).zipIdx.filter fun e => lo ≤ e.2 && e.1.2.2).map fun e => (e.2, e.1.1, e.1.2.1)

/-- B, the mean of M and t_mid over a list of seconds before a loss (R334). -/
def baseOver (loss : Nat) (l : List (Nat × Int × Int)) : Int × Int × Nat :=
  let first := (l.head?.map Prod.fst).getD 0
  let last := (l.getLast?.map Prod.fst).getD 0
  (meanInt (l.map fun e => e.2.1), meanInt (l.map fun e => e.2.2), loss - (first + last + 1) * 4000)

/-- The base that a loss now would fix, and its source (R334). -/
def baseFor (s : State) : (Int × Int × Nat) × Nat :=
  let x := s.scout
  let c := x.dpllCfg
  let onset := match x.freq with | some i => (s.inp i).onset | none => 0
  let sinceOnset := if onset = 0 then 0 else (s.now - onset + 7999) / 8000
  let w := lockedBetween x.hist (max (60 * c.leadBack) sinceOnset) (60 * (c.leadBack + c.learn))
  if 600 ≤ w.length then (baseOver s.now w, 0)
  else
    let v := lockedBetween x.hist 0 (60 * (c.leadBack + c.learn))
    if 60 ≤ v.length then (baseOver s.now v, 1) else ((x.word, thermalNow x, s.now), 2)

/-- The bound of R335 in ns, `t` seconds after the entry: the sum over the common denominator 2 · 86,400 · 10^4. -/
def boundAt (x : Scout) (t : Nat) : Nat :=
  let c := x.dpllCfg
  let d := match x.base with | some (_, _, mid) => (x.lossBeat - mid) / 8000 | none => 0
  (x.e0 * 172800000 + (c.baseErr + c.tempRes) * t * 172800 + c.agingErr * (t * t + 2 * d * t)) / 1728000000

/-- A reference is lost: the base, the loss beat and e0 are fixed (R334, R335). A standby keeps the mirrored base (R345). -/
def fixBase (s : State) : State :=
  let b := baseFor s
  s.onScout fun x =>
    let e0 := if x.phase.isSome then x.eBar.natAbs else 0
    let x := { x with lossBeat := s.now, e0 := e0, boundOver := false }
    let x := if s.hive.role = .standby && x.base.isSome then x else { x with base := some b.1, baseSource := b.2 }
    { x with bound := boundAt x 0 }

/-- The holdover word at a beat (R334), within the span of R307. -/
def holdoverWord (x : Scout) (beat : Nat) : Int :=
  match x.base with
  | none => x.word
  | some (b, m, mid) => clampInt 200000000000 (b + (thermalNow x - m) + x.aging * ((beat : Int) - mid) / 8000000)

/-- Moves a word by at most 10^-6 in a beat (R306). -/
def rampWord (word target : Int) : Int := word + clampInt 1000000000 (target - word)

/-! ### Selection (R320, R321) -/

def ScoutIn.lockout (x : ScoutIn) : Bool := bit x.cfg.flags 0
def ScoutIn.phaseUse (x : ScoutIn) : Bool := bit x.cfg.flags 2

def isQualified (s : State) (i : Nat) : Bool := (s.inp i).state == .qualified

/-- Rank of an input's QL, 0 while QL is not used, none when it is never selected. -/
def rankOf (s : State) (i : Nat) : Option Nat :=
  let sel := s.scout.sel
  if bit sel.flags 0 then qlRank sel.qlOption (inputQl s i) else some 0

/-- Candidates of the frequency selector. -/
def isCandidate (s : State) (i : Nat) : Bool :=
  let x := s.inp i
  i < 18 && isQualified s i && !x.lockout && 1 ≤ x.cfg.priority && (!x.suspect || s.scout.freq == some i) &&
    (rankOf s i).isSome

/-- Candidates of the phase selector: SI0 and SI1 with the phase flag; priority 0 is allowed. -/
def isPhaseCandidate (s : State) (i : Nat) : Bool :=
  let x := s.inp i
  i < 2 && x.phaseUse && isQualified s i && !x.lockout && (!x.suspect || s.scout.phase == some i) && (rankOf s i).isSome

/-- The better of two by QL rank, then priority number, then input number. -/
def bestOf (s : State) (l : List Nat) : Option Nat :=
  l.foldl (fun b i =>
    match b with
    | none => some i
    | some j =>
      let key (k : Nat) : Nat := (rankOf s k).getD 100 * 16 + (s.inp k).cfg.priority
      if key i < key j then some i else b) none

/-- What a standby takes (R345). -/
def mateInput (s : State) : Option Nat :=
  if !(s.inp 18).failing then some 18 else if !(s.inp 19).failing then some 19 else none

/-- The target of automatic mode. -/
def autoTarget (s : State) : Option Nat :=
  let sel := s.scout.sel
  let best := bestOf s ((List.range 18).filter (isCandidate s))
  match s.scout.freq, best with
  | some i, some b =>
    let keeps := isCandidate s i && (rankOf s i).getD 100 ≤ (rankOf s b).getD 100 &&
      (!bit sel.flags 1 || (s.inp i).cfg.priority ≤ (s.inp b).cfg.priority)
    if keeps then some i else some b
  | _, _ => best

/-- The target of the frequency selector (R320). -/
def freqTarget (s : State) : Option Nat :=
  let sel := s.scout.sel
  if s.hive.role = .standby then mateInput s
  else match sel.mode with
    | 0 => autoTarget s
    | 1 | 2 => if isQualified s sel.input then some sel.input else none
    | _ => none

/-- The target of the phase selector (R321). -/
def phaseTarget (s : State) : Option Nat :=
  if s.hive.role = .standby then mateInput s
  else match s.scout.sel.phaseMode with
    | 0 => bestOf s ((List.range 2).filter (isPhaseCandidate s))
    | 1 => if isQualified s 0 then some 0 else none
    | 2 => if isQualified s 1 then some 1 else none
    | _ => none

/-! ### Switches (R324-R327) -/

/-- A switch in hand is abandoned (R326). -/
def abandon (s : State) : State :=
  if s.scout.stage = .idle then s
  else
    let n := dpllNum s.scout.state
    let s := tick 147 noUnit 1 s
    scoutChange 96 (optNum s.scout.target) n n (s.onScout fun x => { x with stage := .idle, target := none })

/-- The target is none (R320, R322, R331). -/
def toNoTarget (s0 : State) : State :=
  let s := abandon s0
  let x := s.scout
  let free := x.sel.mode = 4 ∧ s.hive.role ≠ .standby
  if free then setFreq none (setDpll .freerun s)
  else if x.state = .hand then raise 105 (setFreq none (setDpll .holdover (fixBase s)))
  else if x.freq.isSome then
    (if hasBase x || x.sel.mode = 3 then setFreq none (setDpll .holdover (fixBase s)) else setFreq none (setDpll .freerun s))
  else if x.sel.mode = 3 && x.state == .freerun then setDpll .holdover (fixBase s)
  else s

/-- The selected reference is in use and healthy. -/
def oldHealthy (s : State) : Bool :=
  match s.scout.freq with
  | none => false
  | some i => if i = 18 || i = 19 then !(s.inp i).failing else isQualified s i

/-- The target is an input (R320, R324, R327, R345). -/
def toTarget (i : Nat) (s : State) : State :=
  let x := s.scout
  if x.freq = some i then abandon s
  else if s.hive.role = .standby then
    setFreq (some i) (setDpll .acquiring (s.onScout fun x =>
      { x with stage := .idle, target := none, bw := x.dpllCfg.bwFinal, buildOut := 0 }))
  else if x.stage ≠ .idle ∧ x.target = some i then
    (if x.oldOk && !oldHealthy s then (fixBase s).onScout fun x => { x with oldOk := false } else s)
  else
    let ok := oldHealthy s
    let t := abandon s
    let t := if x.freq.isSome && !ok && x.state != .hand && x.state != .holdover then fixBase t else t
    t.onScout fun x => { x with stage := .measure, target := some i, oldOk := ok, stageBeats := 0 }

/-- The phase selector's part of a beat (R321, R329). -/
def phaseSelect (s : State) : State :=
  let x := s.scout
  let t := phaseTarget s
  if t = x.phase then
    (if x.phTarget.isSome then raise 96 (s.onScout fun x => { x with phTarget := none, phEdges := 0 }) else s)
  else if t.isNone then setPhase none (s.onScout fun x => { x with phTarget := none, phEdges := 0 })
  else if s.hive.role = .standby then setPhase t (s.onScout fun x => { x with phTarget := none, phEdges := 0 })
  else
    let lost := match x.phase with
      | some p => if p = 18 || p = 19 then (s.inp p).failing else !isQualified s p
      | none => false
    let s := if lost then setPhase none s else s
    if x.phTarget = t then s
    else
      let s := raiseIf x.phTarget.isSome 96 s
      (t.elim s fun i => s.onInp i fun y => { y with es := [] }).onScout fun x => { x with phTarget := t, phEdges := 0 }

/-- Manual mode becomes automatic when its input is not Qualified (R320). -/
def manualFails (s : State) : State :=
  if s.scout.sel.mode = 2 && s.hive.role != .standby && !isQualified s s.scout.sel.input then
    s.onScout fun x => { x with sel := { x.sel with mode := 0 } }
  else s

/-- Source 101 for every input whose QL changed. -/
def watchQls (s : State) : State :=
  (List.range 18).foldl (fun s i =>
    let q := inputQl s i
    if (s.inp i).lastQl = q then s
    else
      let t := s.onInp i fun x => { x with lastQl := q }
      raiseIf ((s.inp i).cfg.enable == 1) 101 t) s

/-- The monitor DPLL, locked to the standing candidate for 1 s, loses it because the input fails (R324, R348; log 121). -/
def standLost (s : State) (now : Option Nat) : Bool :=
  let x := s.scout
  x.standing != now && 8000 ≤ x.standBeats && x.standing.any fun i => (s.inp i).failing

/-- The selectors of one beat (R320, R321). -/
def selectRefs (s : State) : State :=
  if s.scout.dpllCfg.xoFreq = 0 then s
  else
    let s := manualFails (watchQls s)
    let t := freqTarget s
    let standing := bestOf s ((List.range 18).filter fun i => isCandidate s i && t != some i)
    let s := raiseIf (standLost s standing) 114 s
    let s := s.onScout fun x => { x with
      standing := standing, standBeats := if standing = x.standing then x.standBeats else 0
      tracked := if standing = x.standing then x.tracked else if 8000 ≤ x.standBeats then x.standing else none }
    let s := match t with
      | none => toNoTarget s
      | some i => toTarget i s
    refreshQl (phaseSelect s)

/-- The monitor DPLL can have held its lock for 1 s: in this stage, or on the candidate while it was the standing one (R324). -/
def measured1s (x : Scout) : Bool := 8000 ≤ x.stageBeats || (x.tracked.isSome && x.tracked == x.target)

/-- SWITCH_MEASURE_DONE (R324). -/
def measureDone (delta freqDiff : Int) (s : State) : State :=
  if s.scout.stage = .measure && measured1s s.scout then
    s.onScout fun x => { x with stage := .buildOut, buildOut := delta, freqDiff := freqDiff, stageBeats := 0 }
  else s

/-- SWITCH_CLOSE (R323, R324). The state after a close at bw_final is LOCKED, at 1 Hz ACQUIRING (log 14). -/
def closeSwitch (s : State) : State :=
  let x := s.scout
  if x.stage = .buildOut && 1 ≤ x.stageBeats then
    let wide := 50 < x.freqDiff.natAbs
    let bw : Nat := match x.state with
      | .freerun => 25000
      | .acquiring => x.bw
      | .locked | .holdover | .hand => if wide then 1000 else x.dpllCfg.bwFinal
    let st : Dpll := match x.state with
      | .freerun | .acquiring => .acquiring
      | .locked | .holdover | .hand => if wide then .acquiring else .locked
    let t := s.onScout fun x => { x with stage := .idle, target := none, bw := bw, lockBeats := 0, strayBeats := 0 }
    refreshQl (setDpll st (setFreq x.target t))
  else s

/-- Beats of lock that a step of the schedule asks for; at the final bandwidth 20/bw_final s (R323). -/
def stepBeats (fin bw : Nat) : Nat :=
  if bw = fin then 160000000 / max 1 fin else match bw with
    | 25000 => 8000
    | 5000 => 32000
    | _ => 160000

/-- DPLL_STEP: the next bandwidth of the schedule, or LOCKED (R323). -/
def stepDpll (s : State) : State :=
  let x := s.scout
  if x.state = .acquiring && x.freq.isSome && stepBeats x.dpllCfg.bwFinal x.bw ≤ x.lockBeats then
    let fin := x.dpllCfg.bwFinal
    if x.bw = fin then refreshQl (setDpll .locked s)
    else
      let next := (([5000, 1000] : List Nat).find? fun b => b < x.bw && fin < b).getD fin
      s.onScout fun x => { x with bw := next, lockBeats := 0 }
  else s

/-- DPLL_LOCK_LOSS (R323). -/
def loseLock (s : State) : State :=
  if (s.scout.state = .locked || s.scout.state = .acquiring) && 8000 ≤ s.scout.strayBeats then
    refreshQl (setDpll .acquiring (s.onScout fun x => { x with bw := 1000, lockBeats := 0, strayBeats := 0 }))
  else s

/-- STEER_WORD_APPLY: the word written moves the NCO, ramped (R306, R330). -/
def applySteer (s : State) : State :=
  let x := s.scout
  match x.wordNext with
  | some w =>
    if x.state = .hand then
      let v := rampWord x.word w
      s.onScout fun x => { x with word := v, wordNext := if v = w then none else some w }
    else s.onScout fun x => { x with wordNext := none }
  | none => s

/-- STEER_TIMEOUT (R331). -/
def steerTimesOut (s : State) : State :=
  let x := s.scout
  if x.state = .hand && x.dpllCfg.steerTimeout ≤ x.handBeats then
    refreshQl (raise 105 (setFreq none (setDpll .holdover (abandon (fixBase s)))))
  else s

/-! ### Inputs (R311-R317) -/

/-- The lane of a recovered-clock input has failed (R311, R314). -/
def laneFails (s : State) (i : Nat) : Bool :=
  let l := s.lane (lineSource s (s.inp i).cfg.nominal)
  l.enable == 0 || l.mode == 0 || l.losNow || l.lolNow

/-- QL failed with ql_source 1 (R107, R314). -/
def qlFails (s : State) (i : Nat) : Bool :=
  let c := (s.inp i).cfg
  let n := lineSource s c.nominal
  c.qlSource == 1 && ((portDef s n).s1Failed || (s.sdhOf n).s1.isNone)

/-- Whether a cause of R314 can be found at an input in this state. -/
def causeHolds (s : State) (i cause : Nat) : Bool :=
  match cause with
  | 1 => 2 ≤ i && i ≤ 5
  | 2 => i < 2 && 2 ≤ (s.inp i).missed
  | 3 => 6 ≤ i && i ≤ 17 && laneFails s i
  | 4 => 6 ≤ i && i ≤ 17 && qlFails s i
  | 5 => (i == 18 || i == 19) && 3 ≤ (s.inp i).silent
  | 6 => i < 20 && 2 ≤ (s.inp i).hardRun
  | 7 => s.scout.stage == .measure && s.scout.target == some i && 16000 ≤ s.scout.stageBeats
  | _ => false

/-- INPUT_FAIL (R314, R315). A standby's SI18 and SI19 are watched whatever their settings (R345). -/
def inputFails (i cause : Nat) (s : State) : State :=
  let x := s.inp i
  if causeHolds s i cause && (x.state != .disabled || i == 18 || i == 19) && x.state != .failed then
    let t := s.onInp i fun x =>
      { x with
        failing := true, cause := cause, failures := satAdd 32 x.failures 1, wasFailed := x.state != .disabled, wtrLeft := 0 }
    raiseIf (cause == 6) 100 (if x.state = .disabled then t else setInState i .failed t)
  else s

/-- INPUT_FAIL_CLEAR (R315): no fail condition holds. -/
def inputFailClears (i : Nat) (s : State) : State :=
  let x := s.inp i
  if x.failing && (x.cause == 7 || !causeHolds s i 6) && !([2, 3, 4, 5].any (causeHolds s i)) then
    let t := s.onInp i fun x => { x with failing := false }
    if x.state = .failed then setInState i .qualifying t else t
  else s

/-- INPUT_QUALIFY (R315). -/
def inputQualifies (i : Nat) (s : State) : State :=
  let x := s.inp i
  if x.state = .qualifying && !x.failing && x.mean10.natAbs ≤ x.cfg.softLimit * 10000 && 8000 * x.cfg.qualTime ≤ x.okBeats then
    if x.wasFailed then setInState i .wtr (s.onInp i fun x => { x with wtrLeft := x.cfg.wtr * 480000 })
    else setInState i .qualified s
  else s

/-- INPUT_WTR_EXPIRY (R315). -/
def inputWtrEnds (i : Nat) (s : State) : State :=
  let x := s.inp i
  if x.state = .wtr && x.wtrLeft = 0 then setInState i .qualified s else s

/-- The monitor reference against the oscillator, 10^-12: the holdover word when a base is there, with its thermal term, else 0 (R313). -/
def monitorRef (s : State) : Int := if s.scout.base.isSome then holdoverWord s.scout s.now / 1000 else 0

/-- Updates over which an input's offset, and its 10 s mean, are means: 100 ms apart on a frequency input, else 1 s (R313). -/
def offsetSpans (i : Nat) : Nat × Nat := if i < 2 || 18 ≤ i then (16, 10) else (10, 100)

/-- INPUT_OFFSET_UPDATE: an input's frequency against the oscillator over the time since the last one, in 10^-12 (R313, R314); hard_limit is
in 0.01 ppm. -/
def inputOffset (i : Nat) (raw : Int) (s : State) : State :=
  let x := s.inp i
  if x.cfg.enable = 1 then
    let r := raw - monitorRef s
    let raws := (r :: x.raws).take 100
    let offset := meanInt (raws.take (offsetSpans i).1)
    let beyond := x.cfg.hardLimit * 10000 < offset.natAbs
    s.onInp i fun x => { x with
      raws := raws, offset := offset, mean10 := meanInt (raws.take (offsetSpans i).2), sumOff := x.sumOff + r, nOff := x.nOff + 1
      hardRun := if beyond then x.hardRun + 1 else 0 }
  else s

/-- SUSPECT_CHANGE (R316). -/
def suspectChanges (i : Nat) (s : State) : State :=
  let x := s.inp i
  let m := x.mean10.natAbs
  if x.cfg.enable = 1 && !x.suspect && x.cfg.softLimit * 10000 < m then
    raise 98 (s.onInp i fun x => { x with suspect := true })
  else if x.suspect && m ≤ x.cfg.softLimit * 9000 && 480000 ≤ x.calmBeats then raise 98 (s.onInp i fun x => { x with suspect := false })
  else s

/-- Least-squares slope of means 100 s apart, newest first: in 10^-12 per 100 s times 36 is in 10^-12 per hour; answered in 0.01 ppb per
hour (R317). -/
def driftSlope (means : List Int) : Int :=
  let pts := means.zipIdx.map fun e => (-(e.2 : Int), e.1)
  let n : Int := pts.length
  let sx := (pts.map Prod.fst).sum
  let sy := (pts.map Prod.snd).sum
  let sxx := (pts.map fun p => p.1 * p.1).sum
  let sxy := (pts.map fun p => p.1 * p.2).sum
  let d := n * sxx - sx * sx
  if d = 0 then 0 else 36 * (n * sxy - sx * sy) / (10 * d)

/-- DRIFT_UPDATE at the end of 100 s of offsets (R317): the mean, the slope once there are 36 of them, and what follows from it;
drift_limit is in 0.01 ppb per hour. -/
def driftUpdates (i : Nat) (s0 : State) : State :=
  let y := s0.inp i
  let means := (y.sumOff / (max 1 y.nOff : Nat) :: y.means).take 36
  let s := s0.onInp i fun y => { y with means := means, sumOff := 0, nOff := 0 }
  let x := s.inp i
  if !(y.cfg.enable == 1 && 10 * (offsetSpans i).2 ≤ y.nOff) then s0
  else if means.length < 36 then s
  else
    let slope := driftSlope means
    let beyond := x.cfg.driftLimit < slope.natAbs
    let low := 2 * slope.natAbs < x.cfg.driftLimit && !x.suspect
    let run := if beyond then x.driftRun + 1 else 0
    let first := if beyond && x.driftRun = 0 then s.now else x.firstOver
    let okRun := if low then x.driftOk + 1 else 0
    let t := s.onInp i fun x =>
      { x with
        drift := slope, driftRun := run, firstOver := first, driftOk := okRun }
    if 2 ≤ run && x.onset = 0 then setOnset i (max 1 (first - 28800000)) t
    else if 36 ≤ okRun then setOnset i 0 t
    else t

/-- PPS_EDGE (R328, R329): the time of an edge against the second boundary, in 0.1 ns; a sample of SI18 or SI19, which a standby's control
takes over 80 beats (R312). An edge farther than pps_window from where the one before it was is missed (R314). -/
def ppsEdge (i : Nat) (edge : Int) (s : State) : State :=
  let x := s.scout
  if i ∈ [0, 1, 18, 19] then
    let keep := if i < 2 then 8 else 80
    let y := s.inp i
    let e := if i < 2 then edge - y.cfg.ppsComp else edge
    let es := (e :: y.es).take keep
    let off := i < 2 && y.es != [] && decide (10 * y.cfg.ppsWindow < (e - y.phase).natAbs)
    let t := s.onInp i fun y => { y with phase := e, es := es, silent := 0, missed := if off then y.missed + 1 else 0 }
    let t := if x.phTarget = some i then t.onScout fun x => { x with phEdges := x.phEdges + 1 } else t
    if x.phase = some i then
      let m := meanInt es
      let done := m.natAbs ≤ 20
      let t := t.onScout fun x =>
        { x with
          eBar := m, phiRate := clampInt (x.dpllCfg.slew * 10) (m / 10), aligned := x.aligned || done }
      raiseIf (done && !x.aligned) 104 t
    else t
  else s

/-- PHASE_CHANGE_CLOSE (R329). -/
def phaseCloses (s : State) : State :=
  let x := s.scout
  match x.phTarget with
  | some i =>
    if 8 ≤ x.phEdges && s.now % 8000 = 0 then
      let m := meanInt (s.inp i).es
      raise 103 ((setPhase (some i) (s.onScout fun x => { x with phTarget := none, phEdges := 0 })).onScout fun x =>
        { x with
          eBar := m, phiRate := clampInt (x.dpllCfg.slew * 10) (m / 10) })
    else s
  | none => s

/-! ### Oscillator, model, holdover bound -/

/-- OSCILLATOR_FAULT (R308). -/
def oscillatorFails (s : State) : State := faultWith 0 0x10 0 0 (raise 109 (s.onScout fun x => { x with oscFault := true }))

/-- XOTEMP_READ (R309, R332): source 108 stands while the diode or the model's range fails. -/
def xotempRead (r : Option Int) (s : State) : State :=
  match r with
  | none => driveSrc 108 true (s.onScout fun x => { x with xoFault := true })
  | some v =>
    let t := s.onScout fun x => { x with xotemp := v, xoFault := false }
    driveSrc 108 (v < -640 || 1520 < v || (thermalAt t.scout v).2) t

/-- Bins `first` to `first + n − 1` of the model go to the standby (12 R363, type 6). -/
def mirrorBins (first n : Nat) (s : State) : State :=
  mirrorSend (.bins first ((List.range n).map fun i => ((s.scout.bin (first + i)).acc, (s.scout.bin (first + i)).samples))) s

/-- MODEL_UPDATE (R332). -/
def modelUpdates (s : State) : State :=
  let x := s.scout
  if x.state = .locked && (match x.modelAt with | some n => decide (n + 8000 ≤ s.now) | none => true) then
    let v := x.word - x.aging * ((s.now : Int) - x.agingAt) / 8000000
    let i := modelBin x.xotemp
    raise 113 (mirrorBins i 1 (s.onScout fun x => { x with
      model := tput {} x.model i ((x.bin i).add v), modelAt := some s.now }))
  else s

/-- Least-squares slope of w − M(T) over the locked seconds, 10^-18 per second (R333). -/
def agingSlope (hist : List (Int × Int × Bool)) : Int :=
  let pts := (lockedBetween hist 0 86400).map fun e => (-(e.1 : Int), e.2.1 - e.2.2)
  let n : Int := pts.length
  let sx := (pts.map Prod.fst).sum
  let sy := (pts.map Prod.snd).sum
  let sxx := (pts.map fun p => p.1 * p.1).sum
  let sxy := (pts.map fun p => p.1 * p.2).sum
  let d := n * sxx - sx * sx
  if d = 0 then 0 else 1000 * (n * sxy - sx * sy) / d

/-- AGING_RECOMPUTE (R333). -/
def agingUpdates (s : State) : State :=
  let x := s.scout
  if (match x.agingLast with | some n => decide (s.now < n + 28800000) | none => false) then s else
  let ok := 72000 ≤ (x.hist.filter fun e => e.2.2).length
  let a := if ok then agingSlope x.hist else 0
  let t := s.onScout fun x => { x with aging := a, agingOk := ok, agingAt := if ok then s.now else x.agingAt, agingLast := some s.now }
  raiseIf (a != x.aging || ok != x.agingOk) 113 t

/-- HOLDOVER_BOUND_UPDATE (R335). -/
def boundUpdates (s : State) : State :=
  let x := s.scout
  if x.state = .holdover then
    let b := boundAt x ((s.now - x.lossBeat) / 8000)
    let beyond := x.dpllCfg.boundLimit < b
    let t := s.onScout fun x => { x with bound := b, boundOver := x.boundOver || beyond }
    if beyond && !x.boundOver then scoutChange 110 0xFF 3 3 t else t
  else s

/-- What a save writes to flash (R338, R530). -/
def savedModel (x : Scout) : Nat × Int × Tbl ModelBin := (x.dpllCfg.xoFreq, x.aging, x.model)

/-- MODEL_SAVE (R338): only a serving Keeper saves (R347). -/
def modelSaves (s : State) : State :=
  if s.keeper.serving then s.onSec fun x => { x with modelFlash := some (savedModel s.scout) } else s

/-- Loads the stored model when its xo_freq matches (R338). -/
def modelLoads (s : State) : State :=
  match s.sec.modelFlash with
  | some (xo, a, m) =>
    if xo = s.scout.dpllCfg.xoFreq then s.onScout fun x => { x with model := m, aging := a, modelLoaded := true } else s
  | none => s

/-! ### Time of day, BFN, outputs -/

def applyBfn (offset : Nat) (s : State) : State := raise 107 (s.onScout fun x => { x with bfnOffset := offset })

/-- TOD_APPLY (R340, R341): in Carry, Provision or Autopilot; a time due in another mode lapses. -/
def todApplies (s : State) : State :=
  match s.scout.todPend with
  | some (atBeat, sec, bfn) =>
    if atBeat ≤ s.now && s.clk.started && !(s.mode ∈ [.carry, .provision, .autopilot]) then s.onScout fun x => { x with todPend := none }
    else if atBeat ≤ s.now && s.clk.started then
      let stepped := !(s.scout.todValid && s.scout.tod == sec)
      let n := dpllNum s.scout.state
      let t := s.onScout fun x => { x with todPend := none, todValid := true, tod := sec }
      let t := if stepped then scoutChange 106 0xFF n n (t.onPm fun p => { p with timeStep := true }) else t
      if bfn = 1 then applyBfn (((100 * (sec : Int) - (atBeat / 80 : Nat)) % 4096).toNat) t else t
    else s
  | none => s

def State.scoutOut (s : State) (o : Nat) : ScoutOut := tget {} s.scout.outputs o

/-- Whether an output's squelch condition holds (R344). -/
def squelchHolds (s : State) (o : Nat) : Bool :=
  let c := (s.scoutOut o).cfg
  let x := s.scout
  match c.squelch with
  | 1 => qlOrder x.sel.qlOption c.squelchQl < qlOrder x.sel.qlOption x.sysQl
  | 2 => x.state == .holdover || x.state == .hand || x.state == .freerun
  | 3 => x.state == .freerun
  | _ => false

/-- Cycles in a beat of each clock frequency (R342). -/
def clkRate (freq : Nat) : Nat := [0, 1, 193, 256, 1250, 2430, 3125, 3840, 7680, 15360, 15625, 19440, 30720].getD freq 0

/-- Cycles of a clock output in the beat in hand: it is held low while it is off or squelched, before
the oscillator's frequency is set and, in phase mode, before the beat starts (R307, R342-R344). -/
def State.clkCycles (s : State) (o : Nat) : Nat :=
  let r := s.scoutOut o
  if r.cfg.enable = 0 || r.held || s.scout.dpllCfg.xoFreq = 0 || (r.cfg.domain == 1 && !s.clk.started) then 0 else clkRate r.cfg.freq

/-- Beats between the pulses of an output: a second, or a radio frame on RFP_OUT (R343). -/
def pulsePer (o : Nat) : Nat := if o = 10 then 80 else 8000

/-- One beat of a pulse output, in ns after the strobe: when a pulse rises in it, the edges, and how long it stays high after the beat. A
pulse that rises while the one before is high lengthens it (R343). -/
def pulseBeat (rise : Option Nat) (width : Nat) (high : Option Nat) : List (Nat × Bool) × Option Nat :=
  let fall := fun (at' : Nat) => if at' < 125000 then ([(at', false)], none) else (([] : List (Nat × Bool)), some (at' - 125000))
  match rise, high with
  | none, none => ([], none)
  | none, some h => fall h
  | some r, none =>
    let e := fall (r + width)
    ((r, true) :: e.1, e.2)
  | some r, some h =>
    if h < r then
      let e := fall (r + width)
      ((h, false) :: (r, true) :: e.1, e.2)
    else fall (max h (r + width))

/-- The instant in beat n at which an output's pulse rises: a boundary of its period plus offset falls in the beat (R343). -/
def pulseRise (o : Nat) (offset : Int) (n : Nat) : Option Nat :=
  let r := ((offset - 125000 * (n : Int)) % (125000 * pulsePer o : Nat)).toNat
  if r < 125000 then some r else none

/-- One beat of an output: a squelch takes it, and a pulse output has its edges (R343, R344). -/
def ScoutOut.beat (r : ScoutOut) (o n : Nat) : ScoutOut :=
  let r := { r with held := r.squelched }
  if o < 8 then r
  else if r.cfg.enable = 0 || r.held then { r with edges := if r.high.isSome then [(0, false)] else [], high := none }
  else
    let e := pulseBeat (pulseRise o r.cfg.offset n) (1000 * r.cfg.width) r.high
    { r with edges := e.1, high := e.2 }

/-- SQUELCH_CHANGE (R344). -/
def squelchChanges (o : Nat) (s : State) : State :=
  let b := squelchHolds s o
  let r := s.scoutOut o
  if o < 11 && r.squelched != b then
    raise 112 (s.onScout fun x => { x with outputs := tput {} x.outputs o { r with squelched := b } })
  else s

/-! ### Settings -/

/-- Sets an input (R315, R317): bit 3 of flags only clears the onset. -/
def liveScoutInput (a : ScoutInputArgs) (s : State) : State :=
  let i := a.input
  let x := s.inp i
  let t := if bit a.flags 3 || a.enable = 0 then
      (setOnset i 0 s).onInp i fun x => { x with driftRun := 0, driftOk := 0 }
    else s
  let t := t.onInp i fun x => { x with cfg := { a with flags := a.flags % 8 } }
  if a.enable = 1 && x.state == .disabled then
    setInState i .qualifying (t.onInp i fun x => { x with wasFailed := false, failing := false, hardRun := 0, lastQl := inputQl t i })
  else if a.enable = 0 then
    setInState i .disabled (t.onInp i fun x => { x with suspect := false, wtrLeft := 0, wasFailed := false })
  else t

def liveScoutSelect (a : ScoutSelectArgs) (s : State) : State := s.onScout fun x => { x with sel := a }

/-- xo_freq 0 leaves it unchanged (11 scout.dpll). -/
def liveScoutDpll (a : ScoutDpllArgs) (s : State) : State :=
  s.onScout fun x =>
    let xo := if a.xoFreq = 0 then x.dpllCfg.xoFreq else a.xoFreq
    { x with dpllCfg := { a with xoFreq := xo } }

def liveScoutOutput (a : ScoutOutputArgs) (s : State) : State :=
  s.onScout fun x => { x with outputs := tput {} x.outputs a.output { s.scoutOut a.output with cfg := a } }

/-! ### Each beat -/

/-- The NCO word of the next beat (R306, R322, R324): with the loop closed it follows the reference, a free value. -/
def nextWord (fresh beat : Nat) (x : Scout) : Int :=
  match x.state with
  | .freerun => rampWord x.word 0
  | .hand => x.word
  | .holdover => rampWord x.word (holdoverWord x beat)
  | .locked | .acquiring =>
    if x.stage != .idle && !x.oldOk then rampWord x.word (holdoverWord x beat)
    else if x.stage == .buildOut then x.word
    else clampInt 200000000000 (x.word + freeInt 8 fresh 1000000000)

/-- Outputs in one beat (R343, R344). -/
def beatOutputs (s : State) : State :=
  s.onScout fun x => { x with outputs := tmap {} (fun o r => ScoutOut.beat r o s.now) x.outputs }

/-- The word at which the NCO runs at the selected reference's frequency, as it was measured (R313, R323). -/
def refWord (s : State) : Int :=
  match s.scout.freq with
  | some i => 1000 * ((s.inp i).offset + monitorRef s)
  | none => 0

/-- One beat of an input's timers (R314-R316): a second of SI0 or SI1 without an edge is over 0.1 s after the edge was due. -/
def ScoutIn.beat (i : Nat) (y : ScoutIn) : ScoutIn :=
  let m := y.mean10.natAbs
  let silent := y.silent + 1
  { y with
    wtrLeft := y.wtrLeft - 1
    okBeats := if y.state = .qualifying && !y.failing && m ≤ y.cfg.softLimit * 10000 then y.okBeats + 1 else 0
    calmBeats := if m ≤ y.cfg.softLimit * 9000 then min 480000 (y.calmBeats + 1) else 0
    silent := if i < 2 || 18 ≤ i then silent else 0
    missed := if i < 2 && 8800 ≤ silent && silent % 8000 = 800 then y.missed + 1 else y.missed }

/-- The inputs of a beat; a standby watches SI18 and SI19 whether or not they were ever set (R345). -/
def beatInputs (standby : Bool) (t : Tbl ScoutIn) : Tbl ScoutIn :=
  if standby then tmap {} (fun i y => y.beat i) (t.filter fun e => e.1 < 18) ++ [18, 19].map fun i => (i, (tget {} t i).beat i)
  else tmap {} (fun i y => y.beat i) t

/-- One beat of the Scout's timers, NCO word, phase samples, φ and second (R304-R307, R315, R330, R340). -/
def beatScout (s : State) : State :=
  if s.scout.dpllCfg.xoFreq = 0 then s
  else
    let n := s.now
    let hand := s.scout.state = .hand
    let s := match s.scout.freq with
      | some i => tickIf (200 < (freeInt 9 s.fresh 2147483647).natAbs) 144 i s
      | none => s
    let t := s.onScout fun x =>
      let e := freeInt 9 s.fresh 2147483647
      let near := e.natAbs ≤ 200 && decide ((refWord s - x.word).natAbs ≤ 10000000)
      let x := { x with
        inputs := beatInputs (s.hive.role == .standby) x.inputs
        word := nextWord s.fresh n x
        samples := ((e, n % 2 ^ 24, x.freq.isSome) :: x.samples).take 64
        lockBeats := if near && x.freq.isSome then x.lockBeats + 1 else 0
        strayBeats := if 4000 < e.natAbs && x.freq.isSome then x.strayBeats + 1 else 0
        stageBeats := x.stageBeats + 1
        standBeats := x.standBeats + 1
        handBeats := if hand then x.handBeats + 1 else 0
        phi := x.phi + x.phiRate }
      if n % 8000 = 0 then
        { x with
          hist := ((x.word, thermalNow x, x.state == .locked) :: x.hist).take 86400
          tod := if x.todValid then (x.tod + 1) % 2 ^ 48 else x.tod
          holdSec := if x.state == .holdover then x.holdSec + 1 else 0 }
      else x
    raiseIf hand 111 t

def execFreqSelect (s : State) : Out := done s (selectRefs s)
def execSwitchMeasureDone (delta freqDiff : Int) (s : State) : Out := done s (measureDone delta freqDiff s)
def execSwitchClose (s : State) : Out := done s (closeSwitch s)
def execDpllStep (s : State) : Out := done s (stepDpll s)
def execDpllLockLoss (s : State) : Out := done s (loseLock s)
def execSteerWordApply (s : State) : Out := done s (applySteer s)
def execSteerTimeout (s : State) : Out := done s (steerTimesOut s)
def execInputFail (i cause : Nat) (s : State) : Out := done s (inputFails i cause s)
def execInputFailClear (i : Nat) (s : State) : Out := done s (inputFailClears i s)
def execInputQualify (i : Nat) (s : State) : Out := done s (inputQualifies i s)
def execInputWtrExpiry (i : Nat) (s : State) : Out := done s (inputWtrEnds i s)
def execInputOffsetUpdate (i : Nat) (raw : Int) (s : State) : Out := done s (inputOffset i raw s)
def execSuspectChange (i : Nat) (s : State) : Out := done s (suspectChanges i s)
def execDriftUpdate (i : Nat) (s : State) : Out := done s (driftUpdates i s)
def execPpsEdge (i : Nat) (edge : Int) (s : State) : Out := done s (ppsEdge i edge s)
def execPhaseChangeClose (s : State) : Out := done s (phaseCloses s)
def execOscillatorFault (s : State) : Out := done s (oscillatorFails s)
def execXotempRead (r : Option Int) (s : State) : Out := done s (xotempRead r s)
def execModelUpdate (s : State) : Out := done s (modelUpdates s)
def execAgingRecompute (s : State) : Out := done s (agingUpdates s)
def execHoldoverBoundUpdate (s : State) : Out := done s (boundUpdates s)
def execModelSave (s : State) : Out := done s (modelSaves s)
def execTodApply (s : State) : Out := done s (todApplies s)
def execSquelchChange (o : Nat) (s : State) : Out := done s (squelchChanges o s)

end Sys2Proof.Machine
end

