-- ==== Sys2Proof/Machine/Reply.lean ====
section
/-!
DEFINITION. Machine/Reply.lean: how a response is laid out and published (13 R402-R407), and the answers that commands
get later than the moment they are served.
-/

namespace Sys2Proof.Machine

open Sys2Proof

/-! ### Status codes (R406) -/

abbrev stOk : Nat := 0
abbrev stBusy : Nat := 1
abbrev stBadArg : Nat := 2
abbrev stNoResource : Nat := 3
abbrev stNotInMode : Nat := 4
abbrev stWorldDenied : Nat := 5
abbrev stLocked : Nat := 6
abbrev stCapMissed : Nat := 7
abbrev stTimeout : Nat := 8
abbrev stUnsupported : Nat := 9
abbrev stFrozen : Nat := 10
abbrev stAdmission : Nat := 11
abbrev stVersion : Nat := 12

/-- Fields after a status that is neither OK nor CAP_MISSED read 0 (R407). -/
def zeroFields (fs : Fields) : Fields := fs.map fun f => (f.1, 0)

def keptFields (status : Nat) (fs : Fields) : Fields := if status = stOk || status = stCapMissed then fs else zeroFields fs

/-- Publishes a response as it stands (R402, R405): bit 0 response, bit 3 late. -/
def respondRaw (h : Hdr) (svc cmd status : Nat) (fs : Fields) (s : State) : State :=
  publishRsp h.port h.queue (message h.seq svc cmd (1 + 8 * boolNat h.late) h.tag ((2, (status : Int)) :: fs)) s

/-- Publishes a response whose fields keep no meaning when the command failed (R407). -/
def respond (h : Hdr) (svc cmd status : Nat) (fs : Fields) (s : State) : State :=
  respondRaw h svc cmd status (keptFields status fs) s

/-! ### Fields of the answers -/

/-- Status-only responses: 6 reserved bytes. -/
def reserved6 : Fields := [(6, 0)]

def calFields (s : State) (lane group : Nat) : Fields :=
  (6, 0) :: (calRecords lane group (s.calOf lane group)).flatMap fun r =>
    [(1, (r.1 : Int)), (1, r.2.1), (1, (r.2.2.1 : Int)), (1, (boolNat r.2.2.2 : Int))]

/-- cpri.axc (05): fill in 0.1 ns. -/
def axcFields (s : State) (lane i dir : Nat) : Fields :=
  let x := s.axc lane dir i
  let n := x.cfg.nBits
  [(2, axcCells n), (2, axcFiller n), (1, boolNat (x.cfg.enable == 1) +
      2 * boolNat (if dir = 1 then x.failed else x.cfg.enable == 1 && cpriFails s (lineSource s lane)) + 4 * boolNat x.armed), (1, 0),
    (4, if dir = 1 then x.fill / 10 else 0), (4, if dir = 1 then x.bfShift else 0), (4, x.slipsRepeat), (4, x.slipsDrop), (4, x.realigns)]

/-- The shared response of pool.delay, pool.group and pool.twin (08). -/
def poolFields (s : State) (s0 applied : Nat) : Fields :=
  let d := (s.entry s0).cfg.chan % 256
  [(1, d), (1, 0), (4, loadOf s.inForce d), (8, applied)]

/-- The same of a command that joined a batch: as the batch will set its entry. -/
def poolJoined (s : State) (s0 : Nat) : Fields :=
  match s.poolNext s0 with
  | some c => [(1, c.chan % 256), (1, 0), (4, s.loadAfter c c.chan), (8, 0)]
  | none => poolFields s s0 0

/-- pool.channel (08). -/
def channelFields (s : State) (d : Nat) : Fields :=
  let c := s.chan d
  let tv := channelTV s.inForce d
  [(1, c.state), (1, c.cause), (2, s.pool.rate), (2, c.size), (4, loadOf s.inForce d), (4, poolLimit s.pool.rate),
    (2, tv.1), (2, tv.2), (4, c.deferred), (4, c.singleCopy), (4, c.eccCorrected), (4, c.eccUncorrected), (4, 0), (8, s.now)]

/-- scout.tod (11). -/
def todFields (s : State) : Fields :=
  [(1, boolNat s.scout.todValid), (5, 0), (8, s.scout.tod), (2, s.scout.bfnOffset), (6, 0), (8, s.now)]

/-- scout.model (11): flags, counts and, for op 4, bins. -/
def modelFields (s : State) (op first count : Nat) : Fields :=
  let x := s.scout
  let valid := (x.model.filter fun e => e.2.isValid).length
  let hours := (x.model.map fun e => e.2.samples).sum / 3600
  let head : Fields := [(1, boolNat x.agingOk + 2 * boolNat (hasBase x) + 4 * boolNat x.modelLoaded), (1, 0), (2, valid), (2, 0),
    (8, x.aging), (4, hours), (4, 0)]
  head ++ (if op = 4 then (List.range count).flatMap fun i => [(4, (x.bin (first + i)).mean), (4, ((x.bin (first + i)).samples : Int))]
     else [])

/-- A power table entry, 16 bytes (R549). -/
def entryFields (e : PowerEntry) : Fields :=
  [(1, e.addr), (1, e.rail), (1, e.page), (1, e.role), (2, e.delay), (1, e.uvRaise), (1, e.ovLower), (8, 0)]

/-- sec.update (17): state, target slot, bytes written, beat of the last step. -/
def updateFields (s : State) : Fields :=
  let slot := 1 - s.keeper.fwSlot
  [(1, s.sec.updState), (1, slot), (4, (tget ({} : Slot) s.sec.slots slot).written), (8, s.sec.updBeat)]

/-- sec.world repeats its parameters; the values in force of the block or region (17). -/
def worldFields (s : State) (a : SecWorldArgs) : Fields :=
  let r := tget ({} : DdrRegion) s.sec.ddr a.index
  let isSealed := match a.kind with
    | 0 => s.sec.blocks.contains a.index
    | 1 => s.sec.sram.contains a.index
    | _ => r.isSealed
  let d := a.kind = 2
  [(1, a.op), (1, a.kind), (2, a.index), (1, boolNat isSealed), (1, if d then boolNat r.clearOnWake else 0),
    (1, if d then r.channel else 0), (1, 0), (2, if d then r.base else 0), (2, if d then r.size else 0), (4, 0)]

/-- The board map that the factory table gives (R549): slots 0-6 rails 0, 1, 3, 4, 5, 6, 7 and slots 7-10 the RDIMM load
switches of D0-D3, whose rails are 8-11. -/
def factoryEntry (slot : Nat) : PowerEntry :=
  if slot < 7 then ⟨0x40 + slot, [0, 1, 3, 4, 5, 6, 7].getD slot 0, 0xFF, 0, 1, 0, 0⟩
  else if slot < 11 then ⟨0x48 + slot - 7, 8 + slot - 7, 0xFF, 2, 0, 0, 0⟩
  else ⟨0, 0, 0, 0, 0, 0, 0⟩

/-- The power table entry in force of a slot. -/
def State.powerEntry (s : State) (slot : Nat) : PowerEntry := tget (factoryEntry slot) s.power.table slot

/-- The fields after the status of a deferred answer, with the beat at which its ticket took effect. -/
def replyFields (s : State) (applied : Nat) : ReplyKind → Fields
  | .status => reserved6
  | .batchClose cls superN broodN => [(2, cls), (4, 0), (8, applied), (4, superN), (4, broodN)]
  | .comb changes => [(2, 0), (4, changes), (8, applied)]
  | .pool s0 => if applied = 0 then poolJoined s s0 else poolFields s s0 applied
  | .axc lane i dir => axcFields s lane i dir
  | .laneCal a => calFields s a.lane a.group
  | .tod => todFields s
  | .mode => [(1, modeNum s.mode), (5, 0)]
  | .start epoch => [(1, epoch), (5, 0)]
  | .join => [(6, 0), (8, s.hive.joinSnap)]
  | .hiveSwitch => [(6, 0), (8, applied)]
  | .bulk written dropped => [(2, 0), (4, written), (4, dropped)]
  | .channel d => channelFields s d
  | .model op first count => modelFields s op first count
  | .powerTable slot _ => (6, 0) :: entryFields (s.powerEntry slot)
  | .lifecycle => [(1, s.sec.life), (1, (s.sec.lifePend.getD 0xFF))]
  | .world a => worldFields s a
  | .update => updateFields s

/-- Answers a waiting command. The mode field keeps its meaning whatever the status (R407). -/
def answer (w : Waiter) (status applied : Nat) (s : State) : State :=
  let fs := replyFields s applied w.kind
  match w.kind with
  | .mode => respondRaw w.hdr w.service w.command status fs s
  | _ => respond w.hdr w.service w.command status fs s

/-- Answers a command whose ticket took effect; a lane.cal op 2 is answered when its offsets are stored (03 R83). -/
def answerApplied (w : Waiter) (status applied : Nat) (s : State) : State :=
  match w.kind with
  | .laneCal a =>
    if a.op = 2 then s.onSec fun c => { c with saving := c.saving ++ [(1, status, w)] } else answer w status applied s
  | _ => answer w status applied s

def answerAll (ws : List Waiter) (status applied : Nat) (s : State) : State :=
  ws.foldl (fun s w => answer w status applied s) s

/-- A waiter in an optional place, answered. -/
def answerOpt (w : Option Waiter) (status applied : Nat) (s : State) : State :=
  match w with
  | some w => answer w status applied s
  | none => s

/-- The same waiter answered after an outage, flags bit 3 set (R408). -/
def Waiter.late (w : Waiter) : Waiter := { w with hdr := { w.hdr with late := true } }

end Sys2Proof.Machine
end

