-- ==== Sys2Proof/Machine/Events.lean ====
section
/-!
DEFINITION. Machine/Events.lean: the event controller (14 R446-R463): claims and completions, arbitration and MSI-X,
coalescing, unavailable targets, and the host's writes to EV_ registers.
-/

namespace Sys2Proof.Machine

open Sys2Proof

/-- Whether a host access through a port reaches the device: its link is up and its endpoint out of reset (R383, R570). -/
def State.portUp (s : State) (p : Nat) : Bool := p < 2 && (s.port p).linkUp && !(s.port p).perst

/-- The fallback target of a source's group (R463). -/
def fallbackOf (s : State) (n : Nat) : Nat := tget 7 s.ev.fallback (groupOf n)

/-- The target that a source is delivered to now (R458). -/
def effTarget (s : State) (n : Nat) : Nat := if (s.src n).fallen then fallbackOf s n else (s.src n).target

/-- Available targets (R458): a core that is Working or Relief; a host port in D0 with its link up and MSI-X enabled. -/
def available (s : State) (t : Nat) : Bool :=
  if t < 4 then s.guard.cores.getD t .held == .working || s.guard.cores.getD t .held == .relief
  else if t < 6 then s.portUp (t - 4) && !(s.port (t - 4)).d3hot && (s.port (t - 4)).msix
  else false

/-- Whether a priority is above a target's level (R451). -/
def aboveLevel (s : State) (t prio : Nat) : Bool :=
  match s.stackOf t with
  | [] => true
  | (_, top) :: _ => top < prio

/-- The better of two sources: the higher priority, then the lower number (R451, R453). -/
def betterSource (a b : Nat × Nat) : Bool := b.2 < a.2 || (a.2 == b.2 && a.1 < b.1)

/-- Source and priority that a claim of a target returns (R453). Source 319 goes to no core and no port (R446). -/
def claimable (s : State) (t : Nat) : Option (Nat × Nat) :=
  s.ev.srcs.foldl (fun best e =>
    let c := (e.1, e.2.prio)
    if e.1 < 319 && e.2.pends && effTarget s e.1 == t && aboveLevel s t e.2.prio then
      match best with
      | none => some c
      | some b => if betterSource c b then some c else best
    else best) none

/-- A claim by a target (R453): what it returns, and the state after it. -/
def claimFor (t : Nat) (s : State) : Option (Nat × Nat) × State :=
  match claimable s t with
  | none => (none, s)
  | some (n, prio) =>
    let x := s.src n
    let y := setSrc n { x with latch := if x.edge then false else x.latch, inService := true } s
    (some (n, prio), y.setStack t ((n, prio) :: s.stackOf t))

/-- EV_ERR bits of a port. -/
def setEvErr (p b : Nat) (s : State) : State :=
  s.onEv fun e => if p = 0 then { e with errA := withBit e.errA b } else { e with errB := withBit e.errB b }

/-- A completion by a target (R454), or the record of one out of order (R455). -/
def completeFor (t n : Nat) (s : State) : State :=
  match s.stackOf t with
  | (top, _) :: rest =>
    if top = n then outOfService n (s.setStack t rest) else outOfOrder t s
  | [] => outOfOrder t s
where
  outOfOrder (t : Nat) (s : State) : State :=
    let u := driveSrc 319 true (raise 225 (fault 0x0E 9 t s))
    if 4 ≤ t then setEvErr (t - 4) 1 u else u

/-- EV_CLAIM (R462): the value read. -/
def claimWord (s : State) (c : Option (Nat × Nat)) : Word :=
  match c with
  | none => 0x8000
  | some (n, prio) => BitVec.ofNat 64 (n + at' 16 prio + at' 20 (boolNat (s.src n).edge))

/-- A read of EV_CLAIM: the upper half alone returns 0 and claims nothing. -/
def evClaim (p : Nat) (half : Half) (s : State) : State :=
  if s.portUp p then
    match half with
    | .hi => s.onPort p fun w => { w with readData := 0 }
    | _ =>
      let r := claimFor (4 + p) s
      r.2.onPort p fun w => { w with readData := claimWord s r.1 }
  else s

def evComplete (p n : Nat) (s : State) : State := if s.portUp p then completeFor (4 + p) (n % 512) s else s

def evReset (p key : Nat) (s : State) : State := if s.portUp p && key % 256 == 0xA5 then clearStack (4 + p) s else s

def hostTarget (t : Nat) : Bool := t == 4 || t == 5 || t == 7

/-- EV_SRC_n (R459, R461). Source 319 ignores writes. -/
def evSrcWrite (p n : Nat) (v : Nat) (s : State) : State :=
  if !s.portUp p || 319 ≤ n then s
  else
    let x := s.src n
    let t := v / 32 % 8
    if hostTarget x.target && hostTarget t then
      setSrc n
        { x with
          prio := v % 16, edge := bit v 4, target := t, fallen := false
          signalled := x.signalled && t == x.target, held := x.held && t == x.target } s
    else setEvErr p 0 s

/-- EV_GRPg (R459, R463). -/
def evGrpWrite (p g : Nat) (v : Nat) (s : State) : State :=
  if !s.portUp p || 14 ≤ g then s
  else
    let count := v % 256
    let time := v / 256 % 16384
    let fb := v / 2 ^ 24 % 8
    let t := s.onCoal p g fun c =>
      { c with
        count := if count = 0 then c.count else count, time := if 1 ≤ time && time ≤ 10000 then time else c.time }
    if hostTarget fb then t.onEv fun e => { e with fallback := tput 7 e.fallback g fb } else t

/-- Sources that are never asserted (R414, R449, R516), and 319, which its own rule drives. -/
def reservedSource (n : Nat) : Bool := (170 ≤ n && n ≤ 178) || (228 ≤ n && n ≤ 242) || (304 ≤ n && n ≤ 306) || 319 ≤ n

/-- SOURCE_ASSERT: a unit drives a source's line (R450). -/
def assertSource (n : Nat) (level : Bool) (s : State) : State := if reservedSource n then s else driveSrc n level s

/-- The MSI-X vector of a source delivered to a port (R421). -/
def vectorOf (p n prio : Nat) : Nat := if portSrc p 0 ≤ n && n < portSrc p 16 then 16 + (n - portSrc p 0) else prio

/-- Inserts by arbitration order (R451). -/
def insertSource (c : Nat × Nat) : List (Nat × Nat) → List (Nat × Nat)
  | [] => [c]
  | d :: l => if betterSource c d then c :: d :: l else d :: insertSource c l

/-- A dword of the MSI-X table: address, upper address, data and vector control of each vector; a vector starts masked. -/
def msixDefault (i : Nat) : Nat := if i % 4 = 3 then 1 else 0
def WgPort.msixWord (w : WgPort) (i : Nat) : Nat := tget (msixDefault i) w.msixTable i

/-- Vector control bit 0 masks a vector (PCI Express Base 4.0, 00 R19). -/
def WgPort.vectorMasked (w : WgPort) (v : Nat) : Bool := bit (w.msixWord (4 * v + 3)) 0

/-- A message is sent, or held in the pending bit array while its vector is masked. -/
def WgPort.sendVector (w : WgPort) (v : Nat) : WgPort :=
  if w.vectorMasked v then { w with msixPba := if w.msixPba.contains v then w.msixPba else v :: w.msixPba }
  else { w with sentMsix := v :: w.sentMsix }

/-- A write of half an entry of the table; a vector that it unmasks sends its held message. -/
def WgPort.writeVector (w : WgPort) (i lo hi : Nat) : WgPort :=
  let t := { w with
    msixTable := tput (msixDefault (2 * i + 1)) (tput (msixDefault (2 * i)) w.msixTable (2 * i) lo) (2 * i + 1) hi }
  if t.msixPba.contains (i / 2) && !t.vectorMasked (i / 2) then
    { t with msixPba := t.msixPba.filter (· != i / 2), sentMsix := i / 2 :: t.sentMsix }
  else t

/-- One arbitration for a host port: vectors of the sources that became deliverable, in priority order (R451). -/
def arbitratePort (s : State) (p : Nat) : State :=
  let t := 4 + p
  if available s t then
    let new := s.ev.srcs.foldl (fun l e =>
      if e.1 < 319 && e.2.pends && !e.2.held && !e.2.signalled && effTarget s e.1 == t && aboveLevel s t e.2.prio then
        insertSource (e.1, e.2.prio) l
      else l) []
    let vs := (new.map fun c => vectorOf p c.1 c.2).foldl (fun l v => if l.contains v then l else l ++ [v]) []
    let u := s.onPort p fun w => vs.foldl WgPort.sendVector w
    new.foldl (fun s c => s.onEv fun e => { e with srcs := tput {} e.srcs c.1 { s.src c.1 with signalled := true } }) u
  else s

/-- Source 319 has been asserted for one arbitration (R455). -/
def orderSeen (s : State) : State := if (s.src 319).asserted then driveSrc 319 false s else s

/-- EVENT_ARBITRATE (R451): a core's interrupt line follows `claimable` and needs no state of its own. -/
def arbitrate (s : State) : State := orderSeen ([0, 1].foldl arbitratePort s)

/-- COALESCE_RELEASE (R452). -/
def coalesceEnds (p g : Nat) (s : State) : State :=
  if p < 2 && g < 14 && (s.coalOf p g).isOpen then releaseHeld p g s else s

/-- REDIRECT_TIMEOUT (R458). -/
def redirectEnds (n : Nat) (s : State) : State :=
  let x := s.src n
  let fb := fallbackOf s n
  if n < 319 && x.pends && !x.held && x.target < 6 && !available s x.target && aboveLevel s x.target x.prio && fb < 6 && available s fb then
    s.onEv fun e => { e with srcs := tput {} e.srcs n { x with fallen := true, signalled := false } }
  else s

/-- HOST_PORT_POWER_STATE (R458). -/
def portPower (p : Nat) (d3hot msix : Bool) (s : State) : State :=
  if p < 2 then s.onPort p fun w => { w with d3hot := d3hot, msix := msix } else s

def execSourceAssert (n : Nat) (level : Bool) (s : State) : Out := done s (assertSource n level s)
def execEventArbitrate (s : State) : Out := done s (arbitrate s)
def execCoalesceRelease (p g : Nat) (s : State) : Out := done s (coalesceEnds p g s)
def execRedirectTimeout (n : Nat) (s : State) : Out := done s (redirectEnds n s)
def execHostPortPowerState (p : Nat) (d3hot msix : Bool) (s : State) : Out := done s (portPower p d3hot msix s)

end Sys2Proof.Machine
end

