-- ==== Sys2Proof/Machine/Hive.lean ====
section
/-!
DEFINITION. Machine/Hive.lean: the token, roles, takeovers, bounce-back and the hive link's headers (12), and the mode
changes that drive HV_OK and HV_SEL.
-/

namespace Sys2Proof.Machine

open Sys2Proof

/-! ### Modes, HV_OK, HV_SEL and role -/

/-- Modes in which the Guard drives HV_OK high (R352, R541). -/
def okMode : Mode → Bool
  | .off | .wake | .boot | .isolate | .halt => false
  | _ => true

/-- The mode that decides HV_SEL: Lean and Quiesce keep that of the mode they left (log 16). -/
def selMode (s : State) : Mode :=
  let left (m : Mode) : Mode :=
    match m with
    | .lean => s.power.leanFrom
    | .quiesce => s.quiesceFrom
    | x => x
  left (left s.mode)

/-- HV_SEL is high only while the device holds the token and is in Carry or Autopilot (R354). -/
def selDue (s : State) : Bool := s.hive.token && (selMode s == .carry || selMode s == .autopilot)

def State.keeperThere (s : State) : Bool := s.keeper.present

/-- The mate reports itself ready (R360, R362). -/
def mateReady (s : State) : Bool := bit s.hive.mateFlags 8

/-- Paired: HV_MATE_OK high or a half of the link up (R359). -/
def paired (s : State) : Bool := s.hive.mateOk || s.hive.halfA || s.hive.halfB

/-- The role (R359). -/
def roleDue (s : State) : Role :=
  if s.hive.token then (if mateReady s then .active else .solo) else if paired s then .standby else .solo

/-- Brings HV_OK, HV_SEL and the role up to date; source 116 (R377). -/
def refreshHive (s : State) : State :=
  let t := s.onHive fun h => { h with hvOk := okMode s.mode, hvSel := selDue s, role := roleDue s }
  raiseIf (roleDue s != s.hive.role) 116 t

/-- Enters a mode (R541, R542). -/
def enterMode (m : Mode) (s : State) : State := refreshHive (setMode m s)

/-- Changes the mode under Lean and Quiesce: those keep running, and what they return to changes. -/
def enterUnder (m : Mode) (s : State) : State :=
  match s.mode with
  | .lean =>
    if s.power.leanFrom = .quiesce then refreshHive { s with quiesceFrom := m }
    else refreshHive (s.onPower fun p => { p with leanFrom := m })
  | .quiesce => refreshHive { s with quiesceFrom := m }
  | _ => enterMode m s

/-- The mode below Lean and Quiesce. -/
def underMode (s : State) : Mode := selMode s

/-! ### Releasing and claiming the token (R354-R358, R367-R370) -/

/-- The device releases the token: HV_SEL low, line transmitters idle (R354, R368, R369). `guard` marks a release by the
Guard (source 227). -/
def releaseToken (cause : Nat) (guard : Bool) (s : State) : State :=
  if s.hive.token then
    let t := s.onHive fun h =>
      { h with
        token := false, hvSel := false, txIdled := true, released := cause, wasActive := true, lineFree := true
        bbOpen := false, bbLeft := 0 }
    let t := raiseIf guard 227 (raise 115 t)
    if underMode t = .carry && t.keeper.present then enterUnder .shadow t else refreshHive t
  else s

/-- A takeover's count, sources and notification (R370, R373, R377, R380). -/
def recordTakeover (cause : Nat) (old : Role) (s : State) : State :=
  let lost := s.hive.incoming.length
  let t := s.onHive fun h =>
    let w := h.cfg.bbWindow * 800
    let opens := cause ∈ [1, 3, 4, 6, 7] ∧ 0 < w
    { h with
      toBeat := s.now, toCause := cause, discarded := lost, incoming := [], wasActive := false
      takeovers := if cause = 5 then h.takeovers else satAdd 16 h.takeovers 1
      bounces := if cause = 5 then satAdd 16 h.bounces 1 else h.bounces
      bbOpen := decide opens, bbLeft := if opens then w else 0
      farBarred := (h.farLast.filter fun e => e.2 ≠ 0 && s.now ≤ e.2 + 8000).map Prod.fst }
  let t := raise (if cause = 5 then 127 else 126) t
  notify 0x0B 0x80 [(1, cause), (1, roleNum old), (1, roleNum (roleDue t)), (1, 0), (4, lost), (8, s.now)] t

/-- The device drives the token: a standby becomes active in Carry, or in Autopilot without a Keeper (R368). -/
def claimToken (cause : Nat) (s : State) : State :=
  let old := s.hive.role
  let t := raise 115 (s.onHive fun h => { h with token := true, txIdled := false, released := 0, lineFree := false, hbLost := false, claimAt := s.now })
  let t := if underMode t = .shadow then enterUnder .carry t
    else refreshHive (if underMode t = .autopilot then { t with apFrom := .carry } else t)
  recordTakeover cause old t

/-- A plain claim in Provision: no device was active (R358). -/
def claimFree (s : State) : State :=
  refreshHive (raise 115 (s.onHive fun h => { h with token := true, txIdled := false, released := 0, lineFree := false, claimAt := s.now }))

/-- Cause of the claim of a standby, from what it knows of the mate (log 17). -/
def claimCause (s : State) : Nat :=
  let mateMode := field s.hive.mateFlags 2 4
  if s.hive.hbLost then 3
  else if mateMode = 11 || mateMode = 10 then 2
  else if s.hive.switchPend.isSome then 4
  else if !bit s.hive.mateFlags 9 then 1
  else 6

/-- A pending switch that another takeover cancels (R372). -/
def cancelSwitch (status applied : Nat) (s : State) : State :=
  match s.hive.switchPend with
  | some (_, _, w) => answerOpt w status applied (s.onHive fun h => { h with switchPend := none })
  | none => s

/-- Whether the mate has declared an egress fault and this device may take the lines back (R374). -/
def bounceDue (s : State) : Bool := s.hive.wasActive && s.hive.egressOk && bit (s.hive.heartbeat.getD 12 0) 1

/-- TOKEN_CLAIM (R355, R358). -/
def tokenClaims (s : State) : State :=
  let h := s.hive
  if h.token || !h.lineFree then s
  else match underMode s with
    | .provision =>
      match s.keeper.modeWait, h.switchPend with
      | some (4, w), _ =>
        if bit h.cfg.flags 1 then
          let t := enterMode .carry (claimFree s)
          answer w stOk 0 (t.onKeeper fun k => { k with modeWait := none })
        else s
      | _, some (2, b, w) =>
        if b ≤ s.now then
          let t := claimFree s
          answerOpt w stOk b (t.onHive fun h => { h with switchPend := none })
        else s
      | _, _ => s
    | .shadow | .autopilot =>
      if bounceDue s then claimToken 5 (cancelSwitch stNotInMode 0 s)
      else if h.released ≠ 0 then s
      else
        let cause := claimCause s
        let t0 := match h.switchPend with | some (_, b, _) => b | none => s.now
        claimToken cause (cancelSwitch (if cause = 4 then stOk else stNotInMode) (if cause = 4 then t0 else 0) s)
    | _ => s

/-- TOKEN_RECLAIM (R357): the line is still high 10 µs after a release other than for Halt or Isolate. -/
def tokenReclaims (s : State) : State :=
  let h := s.hive
  if h.released ≠ 0 && h.released ≠ 2 && h.lineFree && !h.token && okMode s.mode && s.power.seq = 2 then
    let t := raise 130 (raise 115 (s.onHive fun h =>
      { h with
        token := true, txIdled := false, released := 0, wasActive := false, lineFree := false, claimAt := s.now
        collisions := satAdd 32 h.collisions 1 }))
    let t := if underMode t = .shadow then enterUnder .carry t else refreshHive t
    cancelSwitch stTimeout 0 t
  else s

/-- The token decision of the Guard on Keeper loss (R367, cause 1). -/
def keeperLossRelease (s : State) : State :=
  if bit s.hive.cfg.flags 0 && mateReady s && s.hive.mateOk then releaseToken 1 true s else s

/-- TOKEN_RELEASE: a trigger of R367 releases the token. -/
def tokenReleases (cause : Nat) (s : State) : State :=
  let due : Bool := match cause with
    | 1 => s.guard.keeperLost && s.guard.autopilot && bit s.hive.cfg.flags 0 && mateReady s && s.hive.mateOk
    | 2 => s.mode == .halt || s.mode == .isolate
    | 3 => s.power.seq == 3
    | _ => false
  if due then releaseToken cause true s else s

/-- HELD_TOKEN_CLAIM (R356): 1 ms of HV_MATE_OK low holds 8 beat boundaries. -/
def heldClaims (s : State) : State :=
  let h := s.hive
  if h.hbLost && !h.mateOk && decide (8 ≤ h.mateLow) && !h.token && (underMode s == .shadow || underMode s == .autopilot) then
    claimToken 7 (cancelSwitch stNotInMode 0 s)
  else s

/-- MATE_OK_CHANGE (R350, R356). -/
def mateOkChanges (level : Bool) (s : State) : State :=
  if s.hive.mateOk = level then s
  else refreshHive (raise 118 (s.onHive fun h => { h with mateOk := level }))

/-! ### The link (R360-R362) -/

/-- Whether a hive lane hands its data on: aligned, and neither LOS nor LOL declared (03 R86, R99). -/
def hiveLaneUp (s : State) (i : Nat) : Bool :=
  let l := s.lane (256 + i)
  l.works && l.mode == 12 && l.aligned && !l.losNow && !l.lolNow

/-- Whether a half is up: both lanes aligned and one of the last 8 headers of one of them passed (R360). -/
def halfUp (s : State) (b : Bool) : Bool :=
  let lanes := if b then [2, 3] else [0, 1]
  (lanes.all (hiveLaneUp s)) && lanes.any fun i => (tget [] s.hive.hdrFails i).any id

/-- HALF_STATE_CHANGE (R360, R377). -/
def halfChanges (b up : Bool) (s : State) : State :=
  let now := if b then s.hive.halfB else s.hive.halfA
  if up = now || halfUp s b != up then s
  else
    refreshHive (raise (if b then 122 else 121) (s.onHive fun h => if b then { h with halfB := up } else { h with halfA := up }))

/-- HEARTBEAT_MISS (R362): in beat 8f, once, without the record of flight f. -/
def heartbeatMisses (s : State) : State :=
  let h := s.hive
  if h.hbSeen && s.now % 8 == 0 && h.hbMissAt != s.now + 1 && h.hbFlight != s.now / 8 % 2 ^ 32 then
    let n := satAdd 16 h.hbMissed 1
    let lost := n = 3 ∧ !h.hbLost
    let t := raise 119 ((tick 150 noUnit 1 s).onHive fun h => { h with hbMissed := n, hbMissAt := s.now + 1 })
    if lost then
      let t := raise 120 (t.onHive fun h =>
        { h with
          hbLost := true, hbLosses := satAdd 16 h.hbLosses 1, mateFlags := clearBits h.mateFlags 0x100 })
      refreshHive (raiseIf (mateReady s) 117 t)
    else t
  else s

/-- A side 1 device that claimed within the last 2 beats finds its mate holding the token (R355). -/
def collides (s : State) (mateHolds : Bool) : Bool :=
  s.hive.side && s.hive.token && mateHolds && s.now ≤ s.hive.claimAt + 2

/-- The Scout state that every beat carries (R363, type 5): the base in force, or the one that a loss now would fix. -/
def scoutRecord (s : State) : MirrorRec :=
  let x := s.scout
  let base := if x.state == .holdover then x.base else if hasBase x then some (baseFor s).1 else none
  .scout x.word x.phi base x.aging x.agingOk (x.inputs.map fun e => (e.1, e.2.onset))

/-- The records that a full snapshot holds: the configuration in force, pending tickets, protection, Scout, model (R375). -/
def snapshotRecs (s : State) : List MirrorRec :=
  let lanes := s.lanes.filterMap fun e => if e.1 < 256 then some (Change.lane e.1 e.2.enable e.2.loopback) else none
  let cals := s.userCal.map fun e => Change.laneCal (e.1 / 4) (e.1 % 4) e.2.swing e.2.pre e.2.post e.2.ctle
  let ports := s.sdh.map fun e => Change.sdhPort { e.2.cfg with lane := e.1 }
  let paths := s.paths.map fun e => Change.sdhPath e.2.cfg
  let cpri := s.cpri.map fun e => Change.cpriPort { e.2.cfg with lane := e.1 }
  let axcs := s.axcs.map fun e => Change.axc e.2.cfg
  let sup := s.comb.superConn.map fun e => Change.super e.1 e.2
  let brood := s.comb.broodConn.map fun e => Change.brood e.1 e.2.src e.2.axcKind
  let vcs := s.nurse.vcs.map fun e => Change.nurseVc e.2.cfg
  let tus := s.nurse.tus.map fun e => Change.nurseTu e.2.cfg
  let axvs := s.nurse.axvs.map fun e => Change.axv e.2.cfg
  let pools := s.pool.entries.map fun e => Change.pool e.2.cfg
  let prots := s.prot.map fun e => Change.prot { e.2.cfg with group := e.1 }
  let mons := s.pm.mons.map fun e => Change.pmMonitor e.2.cfg
  let profs := s.pm.profiles.map fun e => Change.pmProfile e.1 e.2
  let cs := lanes ++ cals ++ ports ++ paths ++ cpri ++ axcs ++ sup ++ brood ++ vcs ++ tus ++ axvs ++ pools ++ prots ++
    [Change.pmDay s.pm.dayStart] ++ mons ++ profs ++ [Change.bfn s.scout.bfnOffset]
  let line := s.lanes.filter fun e => e.1 < 256
  let fs := line.map fun e => Live.laneF e.1 e.2.mode e.2.align e.2.polarity e.2.scramble
  let ls := (line.map fun e => Live.lane e.1 e.2.losThr e.2.dfeAdapt) ++ (line.map fun e => Live.trim e.1 e.2.trimTarget) ++
    (line.map fun e => Live.prbs ⟨e.1, e.2.prbsGen, e.2.prbsChk, e.2.prbsInv, 0⟩) ++ (s.sdh.map fun e => Live.sdhOh { e.2.oh with lane := e.1 }) ++
    (s.cpri.map fun e => Live.cpriFlags e.1 e.2.cfg.flags) ++ (s.cpri.map fun e => Live.cpriCm { e.2.cm with lane := e.1 }) ++
    (s.scout.outputs.map fun e => Live.scoutOutput { e.2.cfg with output := e.1 }) ++ (s.scout.inputs.map fun e => Live.scoutInput { e.2.cfg with input := e.1 }) ++
    [Live.scoutSelect s.scout.sel, Live.scoutDpll s.scout.dpllCfg, Live.hiveConfig s.hive.cfg, Live.powerConfig s.power.cfg,
      Live.pmPort s.pm.port s.pm.auto]
  let tickets := s.clk.tickets.flatMap fun k => [MirrorRec.shadow k.id k.changes, .close k.id k.bclass k.target]
  let left (x : Option Nat) : Nat := match x with | some k => k + 1 | none => 0
  let groups := s.prot.map fun e => MirrorRec.prot e.1 e.2.request e.2.sel (left e.2.holdW) (left e.2.holdP) e.2.wtrLeft
  [.chunk [] fs, .chunk cs ls] ++ tickets ++ groups ++
    [scoutRecord s, .bins 0 ((List.range 540).map fun i => ((s.scout.bin i).acc, (s.scout.bin i).samples)), .snapEnd]

/-- Acknowledgement and gap of the mate (R365): a record no longer kept forces a full resynchronisation. -/
def serveGap (ack : Nat) (newGap : Bool) (s : State) : State :=
  if s.hive.token && newGap && ack ≠ s.hive.txSeq then
    if s.hive.sent.any fun r => r.1 == (ack + 1) % 2 ^ 32 then raise 123 (tick 154 noUnit ((s.hive.txSeq + 2 ^ 32 - ack) % 2 ^ 32) s)
    else (snapshotRecs s).foldl (fun s r => mirrorSend r s) (s.onHive fun h => { h with generation := 0 })
  else s

/-- The switch request of a standby reaches the active (12 hive.switch); the header carries neither op nor at_beat, so both
are free values (log 18). -/
def takeRequest (flags : Nat) (s : State) : State :=
  if bit flags 10 && s.hive.token && s.hive.switchPend.isNone then
    let op := 1 + Config.free 10 s.fresh % 2
    let at_ := s.now + 8 + Config.free 11 s.fresh % 79993
    (s.onHive fun h => { h with switchPend := some (op, at_, none) }).draw
  else s

/-- A standby that passed a switch on finds the mate still active after t0: a planned one was cancelled (R372), a forced one
came back to the mate (R357). -/
def passedOn (beat : Nat) (holds : Bool) (s : State) : State :=
  match s.hive.switchPend with
  | some (op, b, _) =>
    if !s.hive.token && s.hive.released = 0 && holds && b < beat then cancelSwitch (if op = 1 then stNotInMode else stTimeout) 0 s else s
  | none => s

/-- A hive lane frame's header (R360), with the heartbeat record when its beat carries one (R361). -/
structure HiveHeader where
  lane : Nat
  beat : Nat
  timing : Int
  ack : Nat
  flags : Nat
  laneSummary : List Nat := []
  heartbeat : Option (List Nat) := none
  deriving DecidableEq, Repr

/-- The phase-detector sample of a half: the mate's strobe time less this device's own, 0.25 ns to 0.1 ns; one in each beat (11 R312). -/
def phaseSample (hdr : HiveHeader) (s0 : State) : State :=
  let s := tick 157 noUnit 1 s0
  let i := 18 + hdr.lane / 2
  if (s.inp i).es.isEmpty || 1 ≤ (s.inp i).silent then ppsEdge i ((hdr.timing - s.hive.strobe) * 5 / 2) s else s

/-- A header that passed its CRC (R360, R362). -/
def headerIn (hdr : HiveHeader) (s : State) : State :=
  let old := s.hive.mateFlags
  let holds := bit hdr.flags 0
  let t := s.onHive fun h =>
    { h with
      mateFlags := hdr.flags, mateBeat := hdr.beat, mateLanes := hdr.laneSummary
      lineFree := !holds && !h.token }
  let t := match hdr.heartbeat with
    | some r => t.onHive fun h => { h with heartbeat := r, hbFlight := ((List.range 4).map fun j => r.getD j 0 * 256 ^ j).sum, hbSeen := true, hbMissed := 0, hbLost := false }
    | none => t
  let t := raiseIf (bit old 8 != bit hdr.flags 8) 117 t
  let t := takeRequest hdr.flags (serveGap hdr.ack (!bit old 11 && bit hdr.flags 11) t)
  let t := if collides t holds then
      raise 130 ((releaseToken 0 false t).onHive fun h =>
        { h with
          collisions := satAdd 32 h.collisions 1, lineFree := false })
    else t
  let t := if holds && t.hive.released ≠ 0 then
      let ok := t.hive.released = 4
      let b := match t.hive.switchPend with | some (_, b, _) => b | none => 0
      cancelSwitch (if ok then stOk else stNotInMode) (if ok then b else 0) (t.onHive fun h => { h with released := 0 })
    else t
  refreshHive (phaseSample hdr (passedOn hdr.beat holds t))

/-- A value of `k` bytes from byte `i` of a frame on, least significant first (R360). -/
def frameField (a : Array Byte) (i k : Nat) : Nat := ((List.range k).map fun j => (a.getD (i + j) 0).toNat * 256 ^ j).sum

/-- The header of a frame's code groups, if its K28.5 stands first and its CRC holds (R360). -/
def readHeader (gs : List Group) : Option HiveHeader :=
  let b := gs.map Group.byte
  let a := b.toArray
  if (gs.head?.map Group.k285).getD false && crc32 ((b.drop 1).take 87) == frameField a 88 4 then
    let beat := frameField a 2 6
    let timing := frameField a 8 8
    some {
      lane := frameField a 1 1 % 4, beat := beat, timing := if timing < 2 ^ 63 then timing else (timing : Int) - 2 ^ 64
      ack := frameField a 16 4, flags := frameField a 20 4
      laneSummary := (List.range 256).filter fun k => (a.getD (24 + k / 8) 0).toNat.testBit (k % 8)
      heartbeat := if beat % 8 = 0 then some ((List.range 32).map fun j => (a.getD (56 + j) 0).toNat) else none }
  else none

/-- HIVE_FRAME_RX (R360): the code groups of one frame on HLi, decoded and counted (03 R74), its marker `skew` code groups away from where
the engine expects it. The engine deskews up to ±8 code groups (03 R98); a header past that, or whose CRC fails, is discarded. -/
def hiveFrame (i : Nat) (skew : Int) (codes : List Nat) (s : State) : State :=
  if 4 ≤ i || !(s.lane (256 + i)).works || (s.lane (256 + i)).losNow || (s.lane (256 + i)).lolNow then s
  else
    let r := laneGroups (256 + i) (stungUnit s 0x0A (256 + i)) codes s
    if !hiveLaneUp s i then r.2
    else
      let hdr := if skew.natAbs ≤ 8 then readHeader r.1 else none
      let t := (tickIf hdr.isNone 155 noUnit r.2).onHive fun h => { h with
        skews := tput 0 h.skews i skew, hdrFails := tput [] h.hdrFails i ((hdr.isSome :: tget [] h.hdrFails i).take 8) }
      match hdr with
      | some x => headerIn x t
      | none => t

/-! ### Readiness, switches and bounce-back (R366, R371-R374) -/

/-- Whether this device is ready as a standby (R366). -/
def readyDue (s : State) : Bool :=
  let h := s.hive
  s.mode == .shadow && s.keeper.present && h.loaded && !h.resync && !h.gap && 80 ≤ h.onTime &&
    (s.scout.freq == some 18 || s.scout.freq == some 19) && s.scout.state == .locked && 64000 ≤ h.alignedBeats &&
    (h.halfA || h.halfB) && s.faultTop ≤ 1 && (h.differ.all fun e => e.2 ≤ 8000) && h.egressOk

/-- HIVE_SWITCH_EXECUTE (R372). -/
def switchExecutes (s : State) : State :=
  match s.hive.switchPend with
  | some (op, b, _) =>
    if b ≤ s.now && s.hive.token && s.hive.released = 0 then
      if op = 2 || (mateReady s && (s.hive.halfA || s.hive.halfB)) then releaseToken 4 false s
      else cancelSwitch stNotInMode 0 s
    else s
  | none => s

/-- HV_CTRL (R379): key 0xA5 and release trigger cause 6, which requires the mate ready (R367). -/
def hvCtrl (half : Half) (v : Nat) (s : State) : State :=
  match half with
  | .hi => s
  | _ => if v % 256 = 0xA5 && bit v 8 && mateReady s then releaseToken 6 false s else s

/-- Whether a lane shows a far-end indication now (R373). -/
def farShown (n : Nat) (s : State) : Bool :=
  let l := s.lane n
  l.enable == 1 && ((isSdhMode l.mode && (s.sdhOf n).dRdi) ||
    (isCpriMode l.mode && ((s.cpriOf n).dRai || (s.cpriOf n).dRlos || (s.cpriOf n).dRlof)))

/-- Lanes whose far-end indication has held for 100 ms and that were free of it in the second before t0 (R373). -/
def farEndLanes (s : State) : Nat :=
  ((List.range 256).filter fun n => farShown n s && 800 ≤ tget 0 s.hive.farRun n && !s.hive.farBarred.contains n).length

/-- The far-end indications of a beat (R373). -/
def beatFarEnd (s : State) : State :=
  let shown := (List.range 256).filter fun n => farShown n s
  s.onHive fun h => { h with
    farRun := shown.foldl (fun d n => tput 0 d n (tget 0 h.farRun n + 1)) []
    farLast := shown.foldl (fun d n => tput 0 d n (s.now + 1)) h.farLast }

/-- EGRESS_FAULT_DECLARE (R373, R374). -/
def egressFaults (far : Bool) (s : State) : State :=
  let h := s.hive
  if h.bbOpen && h.token && (!far || h.cfg.bbLanes ≤ farEndLanes s) then
    let t := raise 129 (fault 0x15 0 0 (s.onHive fun h => { h with egressFault := true, egressOk := false }))
    let mateWell := bit (h.heartbeat.getD 4 0) 0 && bit (h.heartbeat.getD 4 0) 1 && bit h.mateFlags 12
    if mateWell then releaseToken 5 false t else t
  else s

/-- BB_WINDOW_CLOSE (R373). -/
def bbCloses (s : State) : State :=
  if s.hive.bbOpen && s.hive.bbLeft = 0 then raise 128 (s.onHive fun h => { h with bbOpen := false }) else s

/-- HIVE_JOIN_TIMEOUT (R375; 12 hive.join). -/
def joinTimesOut (s : State) : State :=
  match s.hive.joining with
  | some w => answer w stTimeout 0 (s.onHive fun h => { h with joining := none, joinMode := false })
  | none =>
    if s.hive.joinMode then
      let t := s.onHive fun h => { h with joinMode := false }
      match t.keeper.modeWait with
      | some (_, w) => answer w stTimeout 0 (t.onKeeper fun k => { k with modeWait := none })
      | none => t
    else s

/-- The flags of the header that this device sends (R360): bit 10 asks the mate for a switch that this standby received. -/
def headFlags (s : State) : Nat :=
  let h := s.hive
  boolNat h.token + at' 1 (boolNat h.hvSel) + at' 2 (modeNum s.mode) + at' 6 (roleNum h.role) + at' 8 (boolNat h.ready) +
    at' 9 (boolNat s.keeper.present) + at' 10 (boolNat (!h.token && h.switchPend.isSome)) + at' 11 (boolNat h.gap) +
    at' 12 (boolNat h.egressOk)

/-- The heartbeat record that the Guard builds (R361); it is healthy while no fault 0x11 stands. -/
def heartbeatOut (s : State) : List Byte :=
  let h := s.hive
  let well := !((List.range 16).any fun e => (s.fqe e).valid && (s.fqe e).code == 0x11)
  recordBytes [(4, (s.now / 8 % 2 ^ 32 : Nat)), (1, (boolNat well + at' 1 (boolNat h.hvOk) + at' 2 (boolNat s.guard.storm) : Nat)),
    (1, (s.faultTop : Nat)), (2, (s.faultsUsed : Nat)), (4, (h.generation : Nat)), (1, (boolNat h.bbOpen + at' 1 (boolNat h.egressFault) : Nat)),
    (19, 0)]

/-- Lanes with dLOS or dLOF, as the lane summary shows them (R360). -/
def laneDown (n : Nat) (s : State) : Bool := (s.lane n).losNow || (s.sdhOf n).dLof || (s.cpriOf n).dLof

/-- Code groups 0 to 91 of this beat's frame on lane `i` of the link (R360); sting 0x22 withholds the record. -/
def headerOut (i : Nat) (summary : List Byte) (s : State) : List Byte :=
  let h := s.hive
  let body := recordBytes [(1, (i : Nat)), (6, (s.now : Nat)), (8, h.strobe), (4, (h.rxSeq : Nat)), (4, (headFlags s : Nat))] ++
    summary ++ (if s.now % 8 = 0 && !h.withheld then heartbeatOut s else List.replicate 32 0)
  (0xBC : Byte) :: body ++ recordBytes [(4, (crc32 body : Nat))]

/-- The headers of a beat leave on the four lanes; the strobe's time against HVREF is a free value (11 R312, log 4). -/
def beatHeaders (s : State) : State :=
  let t := (s.onHive fun h => { h with strobe := (Config.free 32 s.fresh % 2 ^ 20 : Nat) }).draw
  let down := (List.range 256).map fun n => laneDown n t
  let summary : List Byte := (List.range 32).map fun k => BitVec.ofNat 8 (((List.range 8).map fun j => if down.getD (8 * k + j) false then 2 ^ j else 0).sum)
  t.onHive fun h => { h with txHead := (List.range 4).map fun i => headerOut i summary t }

/-- One beat of the hive: kept records, readiness counts, the bounce-back window (R365, R366, R373). -/
def beatHive (s : State) : State :=
  let standby := s.hive.role = .standby
  let t := s.onHive fun h =>
    let differs (n : Nat) : Bool := laneDown n s != h.mateLanes.contains n
    { h with
      sent := h.sent.filter fun r => s.now ≤ r.2.1 + 8
      differ := if standby then
          (List.range 256).foldl (fun d n =>
            if (s.lane n).enable = 1 then tput 0 d n (if differs n then tget 0 h.differ n + 1 else 0) else tput 0 d n 0) []
        else []
      onTime := if standby && !(s.clk.tickets.any fun k => k.mirrored && k.moved) then h.onTime + 1 else 0
      alignedBeats := if standby && s.scout.eBar.natAbs ≤ 20 then h.alignedBeats + 1 else 0
      bbLeft := h.bbLeft - 1
      mateLow := if h.mateOk then 0 else h.mateLow + 1 }
  let t := beatFarEnd (t.onHive fun h => { h with ready := readyDue t })
  beatHeaders (refreshHive t)

def execTokenClaim (s : State) : Out := done s (tokenClaims s)
def execTokenReclaim (s : State) : Out := done s (tokenReclaims s)
def execTokenRelease (cause : Nat) (s : State) : Out := done s (tokenReleases cause s)
def execHeldTokenClaim (s : State) : Out := done s (heldClaims s)
def execMateOkChange (level : Bool) (s : State) : Out := done s (mateOkChanges level s)
def execHiveFrameRx (i : Nat) (skew : Int) (codes : List Nat) (s : State) : Out :=
  done s (stingsSpent (onLaneFrame (256 + i)) (hiveFrame i skew codes s))
def execHeartbeatMiss (s : State) : Out := done s (heartbeatMisses s)
def execHalfStateChange (b up : Bool) (s : State) : Out := done s (halfChanges b up s)
def execHiveSwitchExecute (s : State) : Out := done s (switchExecutes s)
def execEgressFaultDeclare (far : Bool) (s : State) : Out := done s (egressFaults far s)
def execBbWindowClose (s : State) : Out := done s (bbCloses s)
def execHiveJoinTimeout (s : State) : Out := done s (joinTimesOut s)
def execHvCtrlRelease (half : Half) (v : Word) (s : State) : Out := done s (hvCtrl half v.toNat s)

end Sys2Proof.Machine
end

