-- ==== Sys2Proof/Machine/Loss.lean ====
section
/-!
DEFINITION. Machine/Loss.lean: what the loss of a lane's signal or alignment does to all that uses the lane (03 R86, R87, R99; 04 R129;
05 R140, R147; 12 R360): the SDH or CPRI port, the Scout inputs that take its clock, and the half of the hive link.
-/

namespace Sys2Proof.Machine

open Sys2Proof

/-- Scout inputs among SI6-SI17 that take the recovered clock of a line lane (R87, 11 R311). -/
def inputsOn (s : State) (n : Nat) : List Nat :=
  ((List.range 12).map (· + 6)).filter fun i => (s.inp i).state != .disabled && lineSource s (s.inp i).cfg.nominal == n

/-- The half of the hive link that a hive lane belongs to goes down (R86, 12 R360). -/
def halfLost (n : Nat) (s : State) : State :=
  if isHiveLane n && (if 258 ≤ n then s.hive.halfB else s.hive.halfA) then halfChanges (258 ≤ n) false s else s

/-- What takes the lane's clock or frames: the Scout inputs on it, and the half of the hive link. -/
def clockLost (n : Nat) (s : State) : State := halfLost n ((inputsOn s n).foldl (fun s i => inputFails i 3 s) s)

/-- A capped lane change; a lane that is disabled is lost to its consumers (R81, R86, R87). -/
def laneChanges (n enable loopback : Nat) (s : State) : State :=
  let t := applyLane n enable loopback s
  if enable = 0 && (s.lane n).enable = 1 then clockLost n t else t

/-- The consumers of a lane whose LOS or LOL is declared, at once (R86, R87). -/
def laneLost (n : Nat) (s : State) : State :=
  let l := s.lane n
  if !(l.losNow || l.lolNow) then s
  else
    let t := if sdhUp s n then withSdhEvents n (signalLost n) s else s
    clockLost n (withCpriEvents n (cpriLost n) t)

/-- LOS_DECLARE and LOL_DECLARE with what they do to the lane's consumers. -/
def losDeclares (n : Nat) (s : State) : State := laneLost n (losDeclared n s)
def lolDeclares (n : Nat) (s : State) : State := laneLost n (lolDeclared n s)

/-- A change of what a sting forces on a lane's detectors (16 R503). -/
def forceLane (n : Nat) (f : Lane → Lane) (s : State) : State :=
  laneLost n (if (s.lane n).works then detectChange n f s else s.onLane n f)

/-- ALIGNMENT_LOST with what it does to the port or the half of the lane (R76, 05 R140, 12 R360). -/
def alignmentLost (n : Nat) (s : State) : State :=
  let t := alignLost n s
  if (t.lane n).aligned then t else halfLost n (withCpriEvents n (cpriLost n) t)

def execLosDeclare (n : Nat) (s : State) : Out := done s (losDeclares n s)
def execLosClear (n : Nat) (s : State) : Out := done s (losCleared n s)
def execLolDeclare (n : Nat) (s : State) : Out := done s (lolDeclares n s)
def execLolClear (n : Nat) (s : State) : Out := done s (lolCleared n s)
def execAlignmentLost (n : Nat) (s : State) : Out := done s (alignmentLost n s)

end Sys2Proof.Machine
end

