-- ==== Sys2Proof/Machine/Guard.lean ====
section
/-!
DEFINITION. Machine/Guard.lean: keeper cores, watchdogs, and what the Guard does about faults: Autopilot, the Keeper lost
in place, Halt (14 R425-R445, R591).
-/

namespace Sys2Proof.Machine

open Sys2Proof

/-! ### Cores (R425-R428) -/

def State.coreOf (s : State) (c : Nat) : Core := s.guard.cores.getD c .held

/-- A core changes state: source 183 + c (R448). -/
def setCore (c : Nat) (st : Core) (s : State) : State :=
  if s.coreOf c = st then s else raise (183 + c) (s.onGuard fun g => { g with cores := g.cores.set c st })

def reliefCore (s : State) : Option Nat := (List.range 4).find? fun c => s.coreOf c == .relief

def workingCores (s : State) : List Nat := (List.range 4).filter fun c => s.coreOf c == .working

/-- Retargets every source aimed at one core to another (R427, R457). -/
def retarget (c d : Nat) (s : State) : State :=
  s.ev.srcs.foldl (fun s e =>
    if (s.src e.1).target = c then setSrc e.1 { s.src e.1 with target := d, signalled := false, fallen := false } s else s) s

/-- Hands a core's work and its sources to the relief core (R427, R428). -/
def handToRelief (c r : Nat) (s : State) : State :=
  raise 187 (clearStack c (retarget c r (setCore r .working s)))

/-- CORE_RETIRE (R427). -/
def coreRetires (c : Nat) (s : State) : State :=
  match reliefCore s with
  | some r => if s.coreOf c = .working then handToRelief c r (setCore c .retired s) else s
  | none => s

/-- CORE_WATCHDOG_PRE_EXPIRY (R430). -/
def watchdogHalf (core : Option Nat) (s : State) : State :=
  match core with
  | some c => raiseIf (c < 4 && s.coreOf c == .working) (179 + c) s
  | none => raiseIf (s.guard.clusterRun && workingCores s != []) 191 s

/-! ### The Keeper is lost (R429, R439, R440) -/

/-- Every command that waits for its answer (R66, R429). -/
def waitingCommands (s : State) : List Waiter :=
  let opt (w : Option Waiter) : List Waiter := w.toList
  s.clk.tickets.flatMap (·.waiters) ++ opt s.clk.startPend ++ s.pool.waiters.map Prod.snd ++ opt s.hive.joining ++
    (match s.hive.switchPend with | some (_, _, w) => opt w | none => []) ++ opt (s.keeper.modeWait.map Prod.snd) ++
    s.keeper.deferred ++ s.pm.bulk.map Prod.fst ++ opt s.sec.activating ++ opt s.sec.dataWait ++ opt s.sec.lifeWait ++
    opt (s.sec.worldWait.map fun w => w.1) ++ s.sec.worldQueue.map Prod.fst ++ s.sec.saving.map fun w => w.2.2

/-- A batch that the Keeper held is discarded; its close will be answered TIMEOUT (R66). -/
def Batch.lose (b : Batch) : Batch := { b with changes := [], services := 0, failed := some (b.failed.getD stTimeout) }

/-- They are answered TIMEOUT once service resumes; tickets that are not armed are discarded (R66). -/
def loseCommands (s : State) : State :=
  let lost := (waitingCommands s).map Waiter.late
  let t := s.onClk fun c =>
    { c with
      lost := c.lost ++ lost, startPend := none, batchA := c.batchA.map Batch.lose, batchB := c.batchB.map Batch.lose
      tickets := (c.tickets.filter (·.armed)).map fun k => { k with waiters := [] } }
  let t := (t.onPool fun p => { p with waiters := [] }).onPm fun p => { p with bulk := [] }
  let t := t.onHive fun h => { h with joining := none, switchPend := h.switchPend.map fun w => (w.1, w.2.1, none) }
  let t := t.onKeeper fun k => { k with modeWait := none, deferred := [] }
  t.onSec fun c => { c with activating := none, dataWait := none, lifeWait := none, worldWait := none, worldQueue := [], saving := [] }

/-- Releases the semaphores that the Keeper owns (R413). -/
def releaseKeeperSems (s : State) : State :=
  { s with sems := tmap {} (fun _ m => if m.owner = some .keeper then { m with owner := none, left := 0 } else m) s.sems }

/-- Holds every core and clears its stack (R439). -/
def holdCores (s : State) : State := clearCoreStacks ([0, 1, 2, 3].foldl (fun s c => setCore c .held s) s)

/-- What R439 and R440 have in common. -/
def keeperDown (cause : Nat) (s : State) : State :=
  let t := releaseKeeperSems (loseCommands (holdCores s))
  let t := t.onGuard fun g =>
    { g with
      keeperLost := true, apCause := cause, attempts := 0, attempting := false, clusterRun := false }
  t.onKeeper fun k => { k with present := false, serving := false, started := false }

/-- Whether a critical fault, or a storm under storm_policy 0 without a sealed entry, calls for a Keeper loss (R438-R440). -/
def lossDue (storm : Bool) (s : State) : Bool :=
  if storm then s.guard.storm && s.guard.stormPolicy == 0 && !s.anySealedFault
  else (List.range 16).any fun e => (s.fqe e).valid && (s.fqe e).cls == 4

/-- Enters Autopilot (R439, R551, R591). -/
def toAutopilot (cause : Nat) (s : State) : State :=
  let left := underMode s
  let t := keeperDown cause s
  let t := raise 217 (t.onGuard fun g => { g with autopilot := true, apBeat := s.now })
  let t := { t with apFrom := left }
  let t := if t.mode = .lean then refreshHive (t.onPower fun p => { p with leanFrom := .autopilot }) else enterMode .autopilot t
  keeperLossRelease t

/-- Modes in which a Keeper loss leads to Autopilot (R439, R591), and those in which the mode stays (R440). -/
def autopilotMode (m : Mode) : Bool := m ∈ [.carry, .shadow, .provision, .quiesce, .lean]
def inPlaceMode (m : Mode) : Bool := m ∈ [.maintenance, .isolate]

/-- AUTOPILOT_ENTRY. -/
def autopilotEnters (storm : Bool) (s : State) : State :=
  if lossDue storm s && !s.guard.keeperLost && autopilotMode s.mode then toAutopilot (if storm then 2 else 1) s else s

/-- KEEPER_LOST_IN_PLACE (R440). -/
def lostInPlace (storm : Bool) (s : State) : State :=
  if lossDue storm s && !s.guard.keeperLost && inPlaceMode s.mode then keeperDown (if storm then 2 else 1) s else s

/-- The Guard's action on a lost Keeper, whether or not its fault took an entry of the queue (R437, R439, R440, R591): cause 1 a critical
fault, 2 a storm. -/
def keeperLoss (cause : Nat) (s : State) : State :=
  if s.guard.keeperLost then s
  else if autopilotMode s.mode then toAutopilot cause s
  else if inPlaceMode s.mode then keeperDown cause s
  else s

/-- Fewer than two working cores outside Lean is fault 0x05 and a Keeper loss; the loss of the relief core suspends core BIST (R428, R434). -/
def coresShort (reliefGone : Bool) (s : State) : State :=
  let t := raiseIf reliefGone 296 s
  if (workingCores s).length < 2 && s.mode != .lean then keeperLoss 1 (fault 0x05 0 0 t) else t

/-- CORE_WATCHDOG_EXPIRY (R428, R431): the core is held in reset, which clears its stack. -/
def coreExpires (c : Nat) (s : State) : State :=
  if c < 4 && s.coreOf c == .working then
    let t := setCore c .failed (fault 0x01 5 c (raise (220 + c) s))
    coresShort (reliefCore s).isSome (match reliefCore s with
      | some r => handToRelief c r t
      | none => clearStack c t)
  else s

/-- CLUSTER_WATCHDOG_EXPIRY (R430, R431), while a core is Working: fault 0x02; the Guard enters Autopilot, or acts as R440 gives. -/
def clusterExpires (s : State) : State :=
  if s.guard.clusterRun && workingCores s != [] then
    keeperLoss 1 (fault 0x02 0 0 (raise 224 (s.onGuard fun g => { g with clusterRun := false })))
  else s

/-- KEEPER_HANDLER_LOST: after 8,000 consecutive overruns of its handler the Keeper is lost, as on a watchdog expiry (02 R54,
14 R434). -/
def handlerLost (s : State) : State :=
  if s.keeper.serving && 8000 ≤ s.clk.handlerRun then keeperLoss 1 (fault 0x03 0 0 s) else s

/-! ### Halt (R445) -/

/-- Enters Halt. -/
def toHalt (cause : Nat) (s : State) : State :=
  let t := raise 219 (s.onGuard fun g => { g with isHalt := true, haltCause := cause, clusterRun := false, attempting := false })
  let t := holdCores (t.onKeeper fun k => { k with present := false, serving := false, started := false })
  releaseToken 2 true (enterMode .halt t)

/-- Modes in which the Guard enters Halt (R445, R591). -/
def haltable (m : Mode) : Bool := !(m ∈ [.off, .wake, .halt])

/-- HALT_ENTRY (R438, R445, R542): for a fatal fault, which may have found the queue full, or for a storm with a sealed entry. -/
def haltEnters (storm : Bool) (s : State) : State :=
  let due := if storm then s.guard.storm && s.anySealedFault else s.faultTop == 5 || s.guard.lastCls == 5
  if due && haltable s.mode then toHalt (if storm then 2 else 1) s else s

/-- GUARD_STEP_TIMEOUT (R431): fault 0x11 and Halt. -/
def guardStepExpires (s : State) : State := if s.mode ∈ [.off, .wake, .halt] then s else toHalt 1 (fault 0x11 0 0 s)

/-! ### Faults and the host's writes -/

/-- What the Guard does about a fault of a class, and about a storm that it brought (R433, R438, R591). -/
def guardActs (cls : Nat) (storm : Bool) (s : State) : State :=
  if cls = 5 then (if haltable s.mode then toHalt 1 s else s)
  else if storm && s.anySealedFault then (if haltable s.mode then toHalt 2 s else s)
  else if cls = 4 then keeperLoss 1 s
  else if storm && s.guard.stormPolicy == 0 then keeperLoss 2 s
  else s

/-- FAULT_RECORD (R432, R433): the codes of R434; the Guard records the fault and acts on it. -/
def recordFault (code kind index detail : Nat) (s : State) : State :=
  if 1 ≤ code && code ≤ 0x15 && kind ≤ 11 then
    let t := faultWith detail code kind index s
    guardActs (faultClass code index) (!s.guard.storm && t.guard.storm) t
  else s

/-- GD_CTRL clear_storm (R438). -/
def clearStorm (key : Nat) (s : State) : State :=
  if key % 256 = 0xA5 && s.guard.storm && s.faultsUsed ≤ 12 then raise 215 (s.onGuard fun g => { g with storm := false }) else s

/-- GD_RESOLVE (R436): a critical, fatal or sealed entry is left. -/
def gdResolve (entry key : Nat) (s : State) : State :=
  let e := entry % 16
  let x := s.fqe e
  if key % 256 = 0xA5 && x.valid && x.cls < 4 && !x.isSealed then resolveEntry e true s else s

/-- QUIESCE_TIMEOUT (R442, R554). -/
def quiesceExpires (s : State) : State :=
  if s.mode = .quiesce || (s.mode = .lean && s.power.leanFrom = .quiesce) then
    toAutopilot 1 (fault 0x04 10 s.keeper.fwSlot s)
  else s

def execCoreRetire (c : Nat) (s : State) : Out := done s (coreRetires c s)
def execCoreWatchdogPreExpiry (c : Option Nat) (s : State) : Out := done s (watchdogHalf c s)
def execCoreWatchdogExpiry (c : Nat) (s : State) : Out := done s (coreExpires c s)
def execClusterWatchdogExpiry (s : State) : Out := done s (clusterExpires s)
def execKeeperHandlerLost (s : State) : Out := done s (handlerLost s)
def execGuardStepTimeout (s : State) : Out := done s (guardStepExpires s)
def execFaultRecord (code kind index detail : Nat) (s : State) : Out := done s (recordFault code kind index detail s)
def execAutopilotEntry (storm : Bool) (s : State) : Out := done s (autopilotEnters storm s)
def execKeeperLostInPlace (storm : Bool) (s : State) : Out := done s (lostInPlace storm s)
def execHaltEntry (storm : Bool) (s : State) : Out := done s (haltEnters storm s)
def execGdClearStorm (key : Nat) (s : State) : Out := done s (clearStorm key s)
def execGdResolve (entry key : Nat) (s : State) : Out := done s (gdResolve entry key s)
def execQuiesceTimeout (s : State) : Out := done s (quiesceExpires s)

end Sys2Proof.Machine
end

