-- ==== Sys2Proof/Machine/Port.lean ====
section
/-!
DEFINITION. Machine/Port.lean: sessions and semaphores (13 R410-R414), and what a link loss, a PERST_N or a function level
reset does to a host port (13 R383, 19 R570).
-/

namespace Sys2Proof.Machine

open Sys2Proof

def ownerOf (p : Nat) : Owner := if p = 0 then .portA else .portB

def ownerNum : Owner → Nat
  | .portA => 1 | .portB => 2 | .keeper => 3

def Sem.ownedBy (m : Sem) (p : Nat) : Bool := m.owner == some (ownerOf p)

/-- Bit mask of the domains that a port holds (R410, R411). -/
def domainsOf (s : State) (p : Nat) : Nat :=
  ((List.range 16).map fun k => if 1 ≤ k && (s.sem k).ownedBy p then 2 ^ k else 0).sum

def holdsDomain (s : State) (p k : Nat) : Bool := 1 ≤ k && k < 16 && (s.sem k).ownedBy p

def freeSem (n : Nat) (s : State) : State := s.onSem n fun m => { m with owner := none, left := 0 }

/-- Grants or renews a semaphore with the port's lease (R413). -/
def grantSem (n p : Nat) (s : State) : State :=
  s.onSem n fun m => { m with owner := some (ownerOf p), left := (s.port p).lease }

/-- Renews every lease of a port (R413). -/
def renewLeases (p : Nat) (s : State) : State :=
  { s with sems := tmap {} (fun _ m => if m.ownedBy p then { m with left := (s.port p).lease } else m) s.sems }

def State.batchOf (s : State) (p : Nat) : Option Batch := if p = 0 then s.clk.batchA else s.clk.batchB
def State.setBatch (s : State) (p : Nat) (b : Option Batch) : State :=
  s.onClk fun c => if p = 0 then { c with batchA := b } else { c with batchB := b }

/-- Releases every domain of a port, discards its open batch and forgets its session. -/
def endSession (p : Nat) (s : State) : State :=
  let t := (List.range 16).foldl (fun s k => if (s.sem k).ownedBy p then freeSem k s else s) s
  (t.setBatch p none).onPort p fun w => { w with session := 0 }

/-- A session lost by lease expiry, link loss or FLR: sys.service reports it on both ports (R413, R414, R423). -/
def loseSession (p : Nat) (s : State) : State :=
  if (s.port p).session = 0 then s
  else
    let ds := domainsOf s p
    let t := raise (166 + p) (endSession p s)
    notify 0x01 0x80 [(1, 2), (1, p), (2, ds), (4, 0), (8, s.now)] t

/-- Releases everything that a port owns on link loss or FLR (R413). -/
def releasePort (p : Nat) (s : State) : State :=
  let host := (List.range 32).filter fun n => 16 ≤ n && (s.sem n).ownedBy p
  let t := host.foldl (fun s n => freeSem n s) s
  loseSession p (raiseIf (host != []) 169 t)

/-- LEASE_EXPIRY (R413); in Quiesce the lease timers stand still (R539). -/
def leaseExpires (n : Nat) (s : State) : State :=
  let m := s.sem n
  let host := m.owner == some .portA || m.owner == some .portB
  if n < 32 && host && s.mode != .quiesce && (m.left = 0 || !s.clk.started) then
    if 16 ≤ n then raise 169 (freeSem n s)
    else loseSession (if m.owner = some .portA then 0 else 1) s
  else s

/-- What link loss and FLR have in common: session, semaphores, agreed version, sealed state (R383, R523). -/
def portLost (p : Nat) (s : State) : State :=
  let t := releasePort p s
  (t.onPort p fun w => { w with version := none }).onChal p fun c => { c with isSealed := false }

/-- The port's link goes down (R383): its command queues flush at the next message boundary. -/
def linkDown (p : Nat) (s : State) : State :=
  let t := portLost p s
  t.onPort p fun w =>
    { w with
      linkUp := false
      cmd := [0, 1, 2, 3].foldl (fun q n =>
        let c : CmdQueue := tget {} q n
        if c.words = [] then q else tput {} q n { c with flush := true }) w.cmd }

def pcieLinkDown (p : Nat) (s : State) : State := if p < 2 && (s.port p).linkUp then linkDown p s else s

/-- PERST_ASSERT (R570): acts as a link loss and holds the endpoint in reset. -/
def perstAsserts (p : Nat) (s : State) : State :=
  if p < 2 then
    let t := if (s.port p).linkUp then linkDown p s else s
    t.onPort p fun w => { w with perst := true }
  else s

/-- PCIE_LINK_UP: the boot ROM has started the endpoints (R534); PERST_N is high; the port is open (R522). -/
def pcieLinkUp (p : Nat) (s : State) : State :=
  if p < 2 && s.mode != .off && s.mode != .wake then
    (s.onPort p fun w => { w with linkUp := true, perst := false }).onChal p fun c => { c with isSealed := false }
  else s

/-- PCIE_FLR (R383). -/
def pcieFlr (p : Nat) (s : State) : State :=
  if s.portUp p then
    let t := portLost p s
    let t := t.onPort p fun w =>
      { w with
        cmd := [], rsp := [], ntf := {}
        rings := tmap {} (fun _ r => { r with enable := false, pendEnable := none, base := 0, log2 := 0, cur := [], wroteNow := false, halted := false })
          w.rings }
    [0, 1, 2, 3, 4].foldl (fun s k => driveSrc (portSrc p k) false s) t
  else s

/-! ### Semaphore registers (R411, R412) -/

/-- What SEM_n reads as when it is not granted: owner and lease left in ms. -/
def semWord (s : State) (n : Nat) : Word :=
  match (s.sem n).owner with
  | none => 0
  | some .keeper => 3
  | some o => BitVec.ofNat 64 (ownerNum o + 256 * (s.sem n).left)

def setRead (p : Nat) (v : Word) (s : State) : State := s.onPort p fun w => { w with readData := v }

/-- A read of SEM_n by a port; `tie` says that both ports read the same free semaphore in this cycle. -/
def semAcquire (p n : Nat) (half : Half) (tie : Bool) (s : State) : State :=
  if !s.portUp p || 32 ≤ n then s
  else match half with
    | .hi => setRead p 0 s
    | _ =>
      if n < 16 then setRead p (semWord s n) s
      else
        let m := s.sem n
        if m.owner.isSome && !m.ownedBy p then setRead p (semWord s n) (tick 141 noUnit 1 s)
        else if m.owner.isNone && tie then
          let winner := match m.lastLoser with
            | some .portB => 1
            | _ => 0
          let t := (grantSem n winner s).onSem n fun m => { m with lastLoser := some (ownerOf (1 - winner)) }
          setRead winner 0 (setRead (1 - winner) (semWord t n) (tick 141 noUnit 1 t))
        else setRead p 0 (grantSem n p s)

/-- A write of SEM_n: only its owner releases it, and 0-15 ignore writes (R411, R412). -/
def semRelease (p n : Nat) (s : State) : State :=
  if s.portUp p && 16 ≤ n && n < 32 && (s.sem n).ownedBy p then freeSem n s else s

/-- A read of SEM_RENEW (R412, R413). -/
def semRenew (p : Nat) (half : Half) (s : State) : State :=
  if !s.portUp p then s
  else match half with
    | .hi => setRead p 0 s
    | _ => setRead p (BitVec.ofNat 64 ((List.range 32).filter fun n => (s.sem n).ownedBy p).length) (renewLeases p s)

def execLeaseExpiry (n : Nat) (s : State) : Out := done s (leaseExpires n s)
def execPcieLinkDown (p : Nat) (s : State) : Out := done s (pcieLinkDown p s)
def execPcieLinkUp (p : Nat) (s : State) : Out := done s (pcieLinkUp p s)
def execPerstAssert (p : Nat) (s : State) : Out := done s (perstAsserts p s)
def execPcieFlr (p : Nat) (s : State) : Out := done s (pcieFlr p s)

end Sys2Proof.Machine
end

