-- ==== Sys2Proof/Machine/Bus.lean ====
section
/-!
DEFINITION. Machine/Bus.lean: the bus matrix's errors, keeper SRAM, DDR5 scrub and temperature, and the BAR2 window (15,
13 R386).
-/

namespace Sys2Proof.Machine

open Sys2Proof

/-- A bit of ID_ERR (R387), which is the same at both ports (R382). -/
def setIdErr (b : Nat) (s : State) : State := s.onBus fun x => { x with idErr := withBit x.idErr b }

/-- A gap of the mirror opens (R365, R377). -/
def openGap (s : State) : State :=
  if s.hive.gap then s else raise 123 (s.onHive fun h => { h with gap := true, gaps := satAdd 16 h.gaps 1 })

/-- How a master takes an error response (R476). Which ring a DMA error stops is a DESCRIPTOR_CLOSE (log 20). -/
def errorResponse (master kind addr : Nat) (sealedTarget : Bool) (s : State) : State :=
  let t := (tick 101 master 1 s).onBus fun b => { b with lastMaster := master, lastKind := kind, lastAddr := addr % 2 ^ 40, lastSealed := sealedTarget }
  if master < 8 then fault 0x12 8 master t
  else if master < 10 then (if kind = 4 then setIdErr 3 t else t)
  else if master = 13 then openGap t
  else t

/-- The response of the default target (R474, R519): `worldIndex` is the index of fault 0x13 when a world rule was broken. -/
def defaultTarget (master addr : Nat) (worldIndex : Option Nat) (s : State) : State :=
  if master < 14 then
    let t := raise 307 ((tick 99 master 1 (tick 96 master 1 s)).onBus fun b => { b with defaultHits := satAdd 32 b.defaultHits 1 })
    match worldIndex with
    | some i => errorResponse master 4 addr true (fault 0x13 11 i (raise 317 t))
    | none => errorResponse master 1 addr false t
  else s

/-- A target that has not answered a request 4 µs after its issue (R475). -/
def busTimeout (master addr : Nat) (s : State) : State :=
  if master < 14 then
    errorResponse master 2 addr false (raise 308 ((tick 100 master 1 (tick 96 master 1 s)).onBus fun b => { b with timeouts := satAdd 32 b.timeouts 1 }))
  else s

/-- REMAP_APPLY (R473): it goes to 1 and stays there until device reset. -/
def remapApplies (v : Bool) (s : State) : State :=
  if v && !s.bus.remap && s.bus.sramOpen then raise 316 (s.onBus fun b => { b with remap := true }) else s

/-- The SRAM offset of a Keeper address: the SRAM's home, or the alias with remap 1 (R468, R473). -/
def sramOff (s : State) (addr : Nat) : Option Nat :=
  if 0x20000000 ≤ addr && addr < 0x20400000 then some (addr - 0x20000000)
  else if s.bus.remap && addr < 0x400000 then some addr else none

/-- Numbers of the 64-bit words that n bytes from an offset lie in: one access each (R478). -/
def sramWords (off n : Nat) : List Nat := (List.range ((off + n + 7) / 8 - off / 8)).map (off / 8 + ·)

/-- Whether a write of n bytes covers a word, so that nothing of it is merged (R478). -/
def sramCovers (off n w : Nat) : Bool := off ≤ 8 * w && 8 * w + 8 ≤ off + n

/-- A write of the SRAM's bytes: each word is merged with what it held, and its ECC is computed anew (R478). -/
def State.sramStore (s : State) (off : Nat) (l : List Byte) : State :=
  s.onBus fun b => { b with
    sram := memWrite b.sram off l, sramWrong := b.sramWrong.filter fun e => !(sramWords off l.length).contains e.1 }

/-- An access of the SRAM, a write of bytes or, with none, a read of one word: a fenced region answers with an error; an error of two bits
in a word that is read or merged ends it with one, and one of a single bit is corrected in what is read (R477, R478, R481, log 117). -/
def sramAccess (master off : Nat) (write : List Byte) (s : State) : State :=
  let n := if write = [] then 1 else write.length
  let ws := sramWords off n
  let addr := 0x20000000 + off
  let read := ws.filter fun w => write = [] || !sramCovers off n w
  if ws.any fun w => s.bus.fenced.contains (w / 8192) then errorResponse master 3 addr false s
  else if read.any fun w => 2 ≤ tget 0 s.bus.sramWrong w then
    errorResponse master 3 addr false (raise 310 (s.onBus fun b => { b with sramUncorrected := satAdd 32 b.sramUncorrected 1 }))
  else
    let t := if read.any fun w => tget 0 s.bus.sramWrong w = 1 then
        raise 309 ((tick 103 master 1 s).onBus fun b => { b with sramCorrected := satAdd 32 b.sramCorrected 1 })
      else s
    if write = [] then t else t.sramStore off write

/-- Whether a master acts in the open world: a host port and the DMA engine of one by the port, and the test engine in FIELD and FIELD_DEBUG
(R518). -/
def openMaster (s : State) (m : Nat) : Bool :=
  if m = 8 || m = 10 then !(s.chal 0).isSealed
  else if m = 9 || m = 11 then !(s.chal 1).isSealed
  else m = 12 && (s.sec.life == 1 || s.sec.life == 2)

/-- The first sealed region of the SRAM that n bytes from an offset reach, for a master of the open world; a region that is being cleared to
open denies it too (R519, R520). -/
def sramSealed (s : State) (m off n : Nat) : Option Nat :=
  if openMaster s m then
    ((List.range ((off + max n 1 - 1) / 65536 + 1 - off / 65536)).map (off / 65536 + ·)).find? s.sec.sram.contains
  else none

/-- What an address names (R468): an offset in the SRAM or in a channel, a bridge by its number. -/
inductive Target where
  | rom | sram (off : Nat) | combPort | bridge (k : Nat) | ddr (d off : Nat) | nothing
  deriving DecidableEq, Repr

/-- The target of a Keeper address of 40 bits (R468). -/
def targetOf (s : State) (addr : Nat) : Target :=
  let a := addr % 2 ^ 40
  match sramOff s a with
  | some off => .sram off
  | none =>
    if a < 0x400000 || (0x10000000 ≤ a && a < 0x10040000) then .rom
    else if 0x40000000 ≤ a && a < 0x50000000 then .combPort
    else if 0x50000000 ≤ a && a < 0x53000000 then .bridge (a / 2 ^ 24 - 0x50)
    else if 1 ≤ a / 2 ^ 36 && a / 2 ^ 36 ≤ 4 then .ddr (a / 2 ^ 36 - 1) (a % 2 ^ 36)
    else .nothing

/-- The DDR5 region that an offset of a channel lies in; the region area starts at 12 GiB (R485). -/
def regionAt (s : State) (d off : Nat) : Option Nat :=
  (List.range 32).find? fun r =>
    let g : DdrRegion := tget {} s.sec.ddr r
    g.size != 0 && g.channel == d && 0x3_0000_0000 + g.base * 2 ^ 25 ≤ off && off < 0x3_0000_0000 + (g.base + g.size) * 2 ^ 25

/-- The matrix connects a master to a target (R469). The pool rings below 12 GiB are the pool's alone (R485), and an instruction port
reaches only the Keeper's own regions. -/
def connected (s : State) (m : Nat) : Target → Bool
  | .rom => m < 8 || m == 12
  | .sram _ => m < 8 || (10 ≤ m && m < 14)
  | .combPort => (m < 8 && m % 2 == 1) || m == 12 || m == 13
  | .bridge 0 => (m < 8 && m % 2 == 1) || m == 12
  | .bridge 1 => (m < 8 && m % 2 == 1) || m == 12 || m == 13
  | .bridge _ => (m < 8 && m % 2 == 1) || m == 8 || m == 9 || m == 12 || m == 13
  | .ddr d off => m < 14 && 0x3_0000_0000 ≤ off && (8 ≤ m || m % 2 == 1 || ((regionAt s d off).map Config.keeperRegion).getD false)
  | .nothing => false

/-- One of the blocks of bridge 0, or of the others, by its place among them; with none of them no block. -/
def blockNo (bridge0 : Bool) (k : Nat) : Nat :=
  let l := (List.range 64).filter fun b => Config.bridge0 b == bridge0
  l.getD (k % l.length) 64

/-- The world rule that a master of the open world breaks at an address: the index of fault 0x13 (R519). A region that is being cleared to
open denies too (R520); the blocks of bridge 0 never open. -/
def worldBreach (s : State) (m addr : Nat) : Option Nat :=
  let k := Config.blockAt (addr % 2 ^ 40)
  if !openMaster s m then none
  else match targetOf s addr with
    | .sram off => if s.sec.sram.contains (off / 65536) then some (64 + off / 65536) else none
    | .ddr d off => (regionAt s d off).bind fun r => if (tget ({} : DdrRegion) s.sec.ddr r).isSealed then some (128 + r) else none
    | .bridge 0 => some (blockNo true k)
    | .bridge _ | .combPort => if s.sec.blocks.contains (blockNo false k) then some (blockNo false k) else none
    | _ => none

/-- DEFAULT_TARGET_RESPONSE: a request to a target that its master is not connected to, or that breaks a world rule (R469, R474). -/
def requestDenied (master addr : Nat) (s : State) : State :=
  if !connected s master (targetOf s addr) then defaultTarget master addr none s
  else match worldBreach s master addr with
    | some i => defaultTarget master addr (some i) s
    | none => s

/-- BUS_TRANSACTION_TIMEOUT of a request that reaches its target (R475). -/
def requestExpires (master addr : Nat) (s : State) : State :=
  if connected s master (targetOf s addr) && (worldBreach s master addr).isNone then busTimeout master addr s
  else requestDenied master addr s

/-- SRAM_ECC_ERROR: an access meets a word in which one or two bits are wrong (R477). -/
def sramEcc (master addr : Nat) (double : Bool) (write : List Byte) (s : State) : State :=
  match sramOff s addr with
  | none => s
  | some off =>
    if !connected s master (.sram off) then defaultTarget master addr none s
    else if s.bus.sramOpen && off + write.length ≤ 0x400000 then
      let t := s.onBus fun b => { b with sramWrong := tput 0 b.sramWrong (off / 8) (if double then 2 else 1) }
      match sramSealed t master off write.length with
      | some r => defaultTarget master addr (some (64 + r)) t
      | none => sramAccess master off write t
    else s

/-- The first line from `line` on that is not in a fenced region, and whether the search passed the end (R480, R481). -/
def nextLine (fenced : List Nat) : Nat → Nat → Nat × Bool
  | 0, line => (line % 65536, true)
  | k + 1, line =>
    if 65536 ≤ line then (let r := nextLine fenced k 0; (r.1, true))
    else if fenced.contains (line / 1024) then nextLine fenced k ((line / 1024 + 1) * 1024)
    else (line, false)

/-- SRAM_BACKGROUND_STEP: the copy written back holds no single-bit error (R480, R481); paused in Lean (R551). -/
def sramStep (corrected passed : Bool) (s : State) : State :=
  if !s.bus.sramOpen || s.mode = .lean then s
  else
    let s := tick 173 noUnit 1 (tick 104 12 1 s)
    let line := s.bus.bgLine
    let single := fun (e : Nat × Nat) => e.1 / 8 == line && e.2 == 1
    let t := if corrected || s.bus.sramWrong.any single then
        raise 309 (s.onBus fun b => { b with
          sramCorrected := satAdd 32 b.sramCorrected 1, sramWrong := b.sramWrong.filter fun e => !single e })
      else s
    let r := line / 1024
    let t := if passed then t else raise 311 (fault 0x0C 6 r (t.onBus fun b => { b with fenced := insertNat r b.fenced }))
    let n := nextLine t.bus.fenced 130 (line + 1)
    if n.2 then raise 312 (t.onBus fun b => { b with bgLine := n.1, bgPasses := satAdd 32 b.bgPasses 1 })
    else t.onBus fun b => { b with bgLine := n.1 }

/-- PATROL_SCRUB_LINE (R488) of a 64-byte line: outcome 0 clean, 1 corrected, 2 corrected with its write-back dropped, 3 uncorrectable, which
leaves the poison pattern in it; so is a line that holds one. -/
def scrubLine (d line outcome0 : Nat) (last : Bool) (s : State) : State :=
  if d < 4 && (s.chan d).state == 0 && s.mode != .lean then
    let outcome := if (s.chan d).poison.contains line then 3 else outcome0
    let t := tickIf (outcome = 2) 77 d (tick 174 noUnit 1 (tick 76 d 1 (s.onChan d fun c => { c with scrubbing := !last })))
    let t := if outcome = 1 || outcome = 2 then
        raise (76 + 4 * d) (t.onChan d fun c => { c with eccCorrected := satAdd 32 c.eccCorrected 1 })
      else if outcome = 3 then
        uncError d (raise 315 (t.onChan d fun c => { c with
          scrubUnc := satAdd 32 c.scrubUnc 1, poison := insertNat line c.poison }))
      else t
    raiseIf last 314 t
  else s

/-- DDR_THERMAL_READ (R489): 85 °C and 82 °C in 0.25 °C. -/
def thermalRead (d : Nat) (temp : Int) (s : State) : State :=
  if d < 4 && (s.chan d).size != 0 then
    let was := (s.chan d).doubleRefresh
    let dbl := if 340 < temp then true else if temp < 328 then false else was
    raiseIf (dbl != was) 318 (s.onChan d fun c => { c with temp := some temp, doubleRefresh := dbl })
  else s

/-! ### BAR0 through the worlds (R385, R519) -/

/-- The row of the BAR0 table that an offset lies in: ID_, WG_, SEM_, EV_, DMA_, TL_, GD_, HV_, PW_, DBG_, MSI-X (R385). -/
def barRow (off : Nat) : Nat :=
  ([0x1000, 0x4000, 0x5000, 0x6000, 0x8000, 0x9000, 0xA000, 0xC000, 0x10000, 0xF0000].filter (· ≤ off)).length

/-- The register block of a BAR0 offset, where it is sealed and the port open; none lies in bridge 0 (R468, R519). -/
def barSealed (s : State) (p off : Nat) : Option Nat :=
  let b := blockNo false (Config.barBlock (barRow off))
  if !(s.chal p).isSealed && s.sec.blocks.contains b then some b else none

/-- No register block of BAR0 is sealed to a port: it is sealed itself, or nothing but blocks of bridge 0 is (R517, R523). -/
def barOpen (s : State) (p : Nat) : Bool := (s.chal p).isSealed || s.sec.blocks.all fun b => b < 64 && Config.bridge0 b

/-- A host access to BAR0 through a port: one to a sealed block is answered as the default target answers, and sets ID_ERR bit 3 (R474,
R476, R519). -/
def barAccess (p off : Nat) (f : State → State) (s : State) : State :=
  match (if s.portUp p then barSealed s p off else none) with
  | some b => defaultTarget (8 + p) (0x52000000 + off) (some b) s
  | none => f s

/-- The number that bytes spell, least significant first. -/
def bytesNat (l : List Byte) : Nat := l.foldr (fun b n => b.toNat + 256 * n) 0

/-- Why an access of a port to a BAR2 byte is denied: 0 not at all, 1 the channel, 2 the world (R386, R519, R520). -/
def bar2Denied (s : State) (p off : Nat) : Nat :=
  let up := match s.pool.window with
    | some d => (s.chan d).state == 0
    | none => false
  let r := tget ({} : DdrRegion) s.sec.ddr (off / 2 ^ 25)
  if !up then 1 else if (r.isSealed || r.clearing) && !(s.chal p).isSealed then 2 else if r.clearing then 1 else 0

/-- The Keeper address of a BAR2 byte: its region in the region area of the window's channel (R468, R485, R386). -/
def bar2Addr (s : State) (off : Nat) : Nat :=
  0x10_0000_0000 * (s.pool.window.getD 0 + 1) + 0x3_0000_0000 + (tget ({} : DdrRegion) s.sec.ddr (off / 2 ^ 25)).base * 2 ^ 25 + off % 2 ^ 25

/-- The first of n bytes of BAR2, and the first in each further segment that they reach. -/
def bar2Spots (off n : Nat) : List Nat :=
  off :: ((List.range 8).map (· * 2 ^ 25)).filter fun o => decide (off < o) && decide (o < off + n)

/-- The lines of the window's channel that n bytes of BAR2 lie in: the region area starts at 12 GiB (R485). -/
def bar2Lines (s : State) (off n : Nat) : List Nat :=
  let at' (o : Nat) := (0x3_0000_0000 + (tget ({} : DdrRegion) s.sec.ddr (o / 2 ^ 25)).base * 2 ^ 25 + o % 2 ^ 25) / 64
  (List.range (at' (off + n - 1) - at' off + 1)).map (at' off + ·)

/-- A read of BAR2 bytes: an uncorrectable error, found now or a line of poison, ends it with an error response (R487, R488). -/
def bar2Read (p off n : Nat) (uncorrectable : Bool) (s : State) : State :=
  let d := s.pool.window.getD 0
  if uncorrectable || (bar2Lines s off n).any fun l => (s.chan d).poison.contains l then
    errorResponse (8 + p) 3 (bar2Addr s off) false (uncError d (raise 313 s))
  else setRead p (BitVec.ofNat 64 (bytesNat ((List.range n).map fun i => memRead s.bus.bar2 (off + i)))) s

/-- A write of BAR2 bytes: a line that is written holds no poison any more (R488). -/
def bar2Write (off : Nat) (l : List Byte) (s : State) : State :=
  (s.onChan (s.pool.window.getD 0) fun c => { c with
    poison := c.poison.filter fun x => !(bar2Lines s off l.length).contains x }).writeBar2 off l

/-- BAR2_ACCESS (R386): a read of at most 8 bytes, or a write of the bytes given; a breach of the worlds is answered as
the default target answers (R474). -/
def bar2Access (p off : Nat) (write : Option (List Byte)) (len : Nat) (uncorrectable : Bool) (s : State) : State :=
  let n := match write with | some l => l.length | none => min len 8
  if !s.portUp p || 2 ^ 28 < off + n || n = 0 then s
  else
    match (bar2Spots off n).find? fun o => bar2Denied s p o == 2 with
    | some o => setIdErr 2 (defaultTarget (8 + p) (bar2Addr s o) (some (128 + o / 2 ^ 25)) s)
    | none =>
      if (bar2Spots off n).any fun o => bar2Denied s p o == 1 then setIdErr 2 s
      else match write with
        | some l => bar2Write off l (tick 108 (s.pool.window.getD 0) 1 (tick 96 (8 + p) 1 s))
        | none => bar2Read p off n uncorrectable (tick 107 (s.pool.window.getD 0) 1 (tick 96 (8 + p) 1 s))

def execDefaultTargetResponse (master addr : Nat) (s : State) : Out := done s (requestDenied master addr s)
def execBusTransactionTimeout (master addr : Nat) (s : State) : Out := done s (requestExpires master addr s)
def execRemapApply (v : Bool) (s : State) : Out := done s (remapApplies v s)
def execSramEccError (master addr : Nat) (double : Bool) (write : List Byte) (s : State) : Out :=
  done s (sramEcc master addr double write s)
def execSramBackgroundStep (corrected passed : Bool) (s : State) : Out := done s (sramStep corrected passed s)
def execPatrolScrubLine (d line outcome : Nat) (last : Bool) (s : State) : Out := done s (scrubLine d line outcome last s)
def execDdrThermalRead (d : Nat) (temp : Int) (s : State) : Out := done s (thermalRead d temp s)
def execBar2Access (p off : Nat) (write : Option (List Byte)) (len : Nat) (uncorrectable : Bool) (s : State) : Out :=
  done s (bar2Access p off write len uncorrectable s)

end Sys2Proof.Machine
end

