-- ==== Sys2Proof/Machine/Test.lean ====
section
/-!
DEFINITION. Machine/Test.lean: the slice scheduler and migrations (16 R491-R500), and tracers (16 R513-R515).
-/

namespace Sys2Proof.Machine

open Sys2Proof

/-! ### Units and spares (R491-R493) -/

/-- Kind and index of a position of the cycle (R491): tiles F0-F33, nurse units N0-N24, cores, Comb regions. -/
def sliceUnit (pos : Nat) : Nat × Nat :=
  if pos < 34 then (1, pos) else if pos < 59 then (2, pos - 34) else if pos < 63 then (5, pos - 59) else (3, pos - 63)

/-- A unit of a kind exists (R37). -/
def unitExists (kind index : Nat) : Bool :=
  match kind with
  | 1 => index < 34
  | 2 => index < 25
  | 3 => index < 64
  | 5 => index < 4
  | _ => false

def unitFailed (s : State) (kind index : Nat) : Bool :=
  s.test.failedUnits.contains (kind, index) || (kind == 3 && 2 ≤ (s.region index).state) ||
    (kind == 5 && (s.coreOf index == .failed || s.coreOf index == .held))

/-- The spare that carries a unit's work. -/
def carrier (s : State) (kind index : Nat) : Option Nat :=
  if kind = 1 then (if s.test.f32 = some index then some 32 else if s.test.f33 = some index then some 33 else none)
  else if kind = 2 then (if s.test.n24 = some index then some 24 else none)
  else none

/-- The unit whose slice or migration runs. -/
def inSlice (s : State) (kind index : Nat) : Bool :=
  match s.test.slice with
  | some x => x.kind == kind && x.index == index
  | none => false

/-- The slice unit that a sting point acts in. -/
def stingUnit (a : TestStingArgs) : Option (Nat × Nat) :=
  if 1 ≤ a.point ∧ a.point ≤ 7 ∨ a.point = 0x0A then (if a.unit < 256 then some (1, a.unit / 8) else none)
  else if a.point = 8 ∨ a.point = 9 then some (2, a.unit / 4)
  else if a.point = 0x12 then some (3, a.unit)
  else if a.point = 0x20 then some (5, a.unit)
  else none

/-- The unit has an active sting point (R493). -/
def unitStung (s : State) (kind index : Nat) : Bool := s.test.stings.any fun x => stingUnit x.args == some (kind, index)

/-- A tile with an enabled lane, or a nurse unit with an enabled granule (R492). -/
def unitBusy (s : State) (kind index : Nat) : Bool :=
  if kind = 1 then index < 32 && (List.range 8).any fun i => (s.lane (8 * index + i)).enable == 1
  else if kind = 2 then
    index < 24 && ((s.nurse.vcs.any fun e => e.1 / 768 == index && e.2.cfg.enable == 1) ||
      (s.nurse.axvs.any fun e => e.1 / 1536 == index && e.2.cfg.enable == 1))
  else false

/-- A spare that is free and healthy (R38, R492): for tiles F32, or F33 when F32 holds a failed tile's lanes or failed. -/
def freeSpare (s : State) (kind : Nat) : Option Nat :=
  if kind = 1 then
    let gone32 := unitFailed s 1 32 || (match s.test.f32 with | some k => unitFailed s 1 k | none => false)
    if s.test.f32.isNone && !unitFailed s 1 32 then some 32
    else if gone32 && s.test.f33.isNone && !unitFailed s 1 33 then some 33
    else none
  else if kind = 2 then (if s.test.n24.isNone && !unitFailed s 2 24 then some 24 else none)
  else none

/-- Both spares fail or hold failed tiles (R38). -/
def sparesGone (s : State) : Bool :=
  let gone (u : Nat) (k : Option Nat) : Bool := unitFailed s 1 u || (match k with | some k => unitFailed s 1 k | none => false)
  gone 32 s.test.f32 && gone 33 s.test.f33

/-- Largest play_out of an enabled AxC demap of a nurse unit (R498). -/
def maxPlayOut (s : State) (index : Nat) : Nat :=
  (s.nurse.axvs.map fun e =>
    if e.1 / 1536 = index ∧ e.1 / 192 % 2 = 1 ∧ e.2.cfg.enable = 1 then e.2.cfg.playOut else 0).foldl max 0

/-- Beats of shadow (R494, R498). -/
def shadowBeats (s : State) (kind index : Nat) : Nat :=
  if kind = 1 then 2 else 4 + (maxPlayOut s index + 479) / 480

/-- Arms a migration with its handover at least so many beats ahead that the shadow starts one beat from now (R494). -/
def armMigration (kind index spare : Nat) (toSpare hold : Bool) (s : State) : State :=
  s.onTest fun x =>
    { x with
      slice := some
        { kind := kind, index := index, spare := some spare, stage := if toSpare then 1 else 3
          handover := s.now + 1 + shadowBeats s kind index, hold := hold, toSpare := toSpare } }

/-- The slice or migration is over: stings that waited for it take effect (R505). -/
def endSlice (s : State) : State :=
  s.onTest fun x => { x with slice := none, stings := x.stings.map fun g => { g with waits := false } }

/-- What a spare carries changes: source 297; forager BIST is suspended while both spares are gone (R38, R516). -/
def assignSpare (kind spare : Nat) (unit : Option Nat) (s : State) : State :=
  raise 297 (s.onTest fun x =>
    if kind = 2 then { x with n24 := unit } else if spare = 32 then { x with f32 := unit } else { x with f33 := unit })

/-- Suspension of forager BIST follows the spares: fault 0x08 and source 296 (R38, R434, R516). -/
def refreshSuspension (s : State) : State :=
  if sparesGone s && !s.test.forSuspended then
    raise 296 (fault 0x08 0 0 (s.onTest fun x => { x with forSuspended := true }))
  else if !sparesGone s && s.test.forSuspended then
    raise 296 (resolveCode 0x08 0 0 (s.onTest fun x => { x with forSuspended := false }))
  else s

/-- Modes in which no slice starts (R493). -/
def sliceMode (s : State) : Bool := !(s.mode ∈ [.lean, .autopilot, .quiesce, .halt, .isolate])

/-- Starts the slice of a unit (R492), or answers none when R493 skips it. -/
def startSlice (kind index : Nat) (s : State) : Option State :=
  let go (t : State) : Option State := some (raise 291 (tick 164 noUnit 1 t))
  let inPlace : Option State :=
    go (s.onTest fun x =>
      { x with slice := some { kind := kind, index := index, spare := none, stage := 2, handover := s.now } })
  if s.test.slice.isSome || !sliceMode s || !unitExists kind index || unitStung s kind index then none
  else if kind = 1 && s.test.forSuspended then none
  else if kind = 5 then
    match s.coreOf index, reliefCore s with
    | .working, some r => (go (handToRelief index r (setCore index .retired s))).map fun t => t.onTest fun x =>
        { x with slice := some { kind := 5, index := index, spare := some r, stage := 2, handover := s.now } }
    | .relief, _ => inPlace
    | _, _ => none
  else if kind = 3 then (if unitFailed s 3 index then none else go ((s.onTest fun x =>
      { x with slice := some { kind := 3, index := index, spare := none, stage := 2, handover := s.now } }).onRegion index
        fun x => { x with state := 1, step := 0, start := s.now + 1 }))
  else match carrier s kind index with
    | some sp =>
      -- A migration back that was aborted is tried again (R496); a held unit keeps its spare.
      if unitFailed s kind index || s.test.held.contains (kind, index) then none
      else some (armMigration kind index sp false true s)
    | none =>
      if unitFailed s kind index then none
      else if unitBusy s kind index then (freeSpare s kind).bind fun sp => go (armMigration kind index sp true false s)
      else if kind = 1 && 32 ≤ index && (if index = 32 then s.test.f32.isSome else s.test.f33.isSome) then none
      else if kind = 2 && index = 24 && s.test.n24.isSome then none
      else inPlace

/-- SLICE_SLOT (R491, R493): the Keeper runs or skips the slice of the next position. -/
def sliceSlot (s : State) : State :=
  if !s.keeper.serving || s.test.suspended then s
  else
    let u := sliceUnit s.test.position
    let t := s.onTest fun x => { x with position := (x.position + 1) % 127 }
    match startSlice u.1 u.2 t with
    | some t => t
    | none => t.onTest fun x => { x with skips := satAdd 32 x.skips 1 }

/-! ### Migration (R494-R498) -/

/-- MIGRATION_SHADOW: s − 2 of a tile, or the shadow of a nurse unit (R494, R498). -/
def shadowStarts (s : State) : State :=
  match s.test.slice with
  | some x =>
    if x.stage != 2 && !x.shadow && x.handover ≤ s.now + shadowBeats s x.kind x.index then
      s.onTest fun t => { t with slice := some { x with shadow := true } }
    else s
  | none => s

/-- MIGRATION_HANDOVER: the unit taking over continues the state of R495, which the model keeps per lane, path and AxC
wherever it is served; the spare's assignment changes (R494-R498). -/
def handover (s : State) : State :=
  match s.test.slice with
  | some x =>
    if x.stage != 2 && x.shadow && x.handover ≤ s.now then
      let sp := x.spare.getD 0
      let s := tick 168 noUnit 1 s
      if x.toSpare then
        let t := assignSpare x.kind sp (some x.index) (raise 294 s)
        if x.hold then endSlice (t.onTest fun v => { v with held := (x.kind, x.index) :: v.held })
        else t.onTest fun v => { v with slice := some { x with stage := 2, shadow := false } }
      else
        let t := assignSpare x.kind sp none (raise 294 s)
        refreshSuspension (endSlice (t.onTest fun v => { v with held := v.held.filter (· != (x.kind, x.index)) }))
    else s
  | none => s

/-- MIGRATION_ABORT (R496): the unit that serves keeps the work. -/
def migrationAborts (s : State) : State :=
  match s.test.slice with
  | some x =>
    if x.stage != 2 && x.shadow then
      raise 295 (endSlice (s.onTest fun v => { v with aborts := satAdd 32 v.aborts 1 }))
    else s
  | none => s

/-- A running slice in Lean (R551): aborted before its handover, or after it with the work left on the spare. A Comb rotation
is paused. -/
def abortSlice (s : State) : State :=
  match s.test.slice with
  | some x =>
    if x.kind = 3 then s
    else if x.stage = 1 then raise 295 (endSlice (s.onTest fun v => { v with aborts := satAdd 32 v.aborts 1 }))
    else endSlice s
  | none => s

/-! ### Test results (R497, R500) -/

/-- A passed slice: source 292. -/
def slicePassed (s : State) : State := raise 292 (s.onTest fun v => { v with slices := satAdd 32 v.slices 1 })

/-- A failed slice: source 293 and fault 0x07 (R500). -/
def sliceFailed (kind index : Nat) (s : State) : State :=
  fault 0x07 kind index (raise 293 (s.onTest fun v =>
    { v with slices := satAdd 32 v.slices 1, failures := satAdd 32 v.failures 1 }))

/-- One step of the PRPG, x^64 + x^4 + x^3 + x + 1 (R499, log 151). -/
def prpgStep (x : Nat) : Nat := (2 * x ^^^ (if bit x 63 then 0x1B else 0)) % 2 ^ 64

/-- The patterns that a logic test of a kind of unit shifts through its scan chains (R499). -/
def testWords (kind : Nat) : List Nat := (List.range (Config.testPatterns kind)).map fun k => prpgStep^[k] (Config.testSeed kind)

/-- A run passes with the signature that OTP holds for the kind of unit and a clean march test (R499, R500). -/
def testPasses (kind : Nat) (r : TestRun) : Bool := r.signature == Config.testSignature kind && r.march

/-- SLICE_TEST_DONE: the first run and, where that failed, the second (R500, R497, R427, R428). -/
def testDone (one two : TestRun) (s : State) : State :=
  match s.test.slice with
  | some x =>
    if x.stage != 2 || x.kind = 3 then s
    else
      let first := testPasses x.kind one
      let second := testPasses x.kind two
      let s := if !first && second then raise 303 (s.onTest fun v => { v with retries := satAdd 32 v.retries 1 }) else s
      if first || second then
        let s := slicePassed s
        let s := s.onTest fun v => { v with failedUnits := v.failedUnits.filter (· != (x.kind, x.index)) }
        if x.kind = 5 then endSlice (if s.coreOf x.index = .retired then setCore x.index .relief s else s)
        else match x.spare, carrier s x.kind x.index with
          | some sp, _ => armMigration x.kind x.index sp false false s
          | none, some sp => armMigration x.kind x.index sp false false s
          | none, none => refreshSuspension (endSlice s)
      else
        let s := sliceFailed x.kind x.index s
        if x.kind = 5 then coresShort true (setCore x.index .failed (endSlice s))
        else
          let mark (v : Test) : Test := if v.failedUnits.contains (x.kind, x.index) then v
            else { v with failedUnits := (x.kind, x.index) :: v.failedUnits }
          refreshSuspension (endSlice (s.onTest mark))
  | none => s

/-- The end of a Comb region's slice: its rotation came round, or a bank failed (R191, R192, R500). -/
def regionSlice (r : Nat) (marchOk : Bool) (s : State) : State :=
  if inSlice s 3 r then
    if !marchOk then endSlice (sliceFailed 3 r s)
    else if (s.region r).state = 0 then endSlice (slicePassed s)
    else s
  else s

/-! ### Tracers (R513-R515) -/

/-- One step of the 31-bit LFSR x^31 + x^28 + 1. -/
def lfsrStep (x : Nat) : Nat := (2 * x + (boolNat (bit x 30) + boolNat (bit x 27)) % 2) % 2 ^ 31

/-- The legs on which the byte of an ingress granule goes: one for each Super output that takes it, and one where none does (R513). -/
def legsOf (n g : Nat) (s : State) : Nat := max 1 (s.comb.superConn.filter fun e => e.2 == some (192 * n + g)).length

/-- TRACER_TAG: a granule-beat of an enabled line port passes the ingress; its tag takes an entry for each leg, and a leg without a free
one is skipped (R513). Tagging stops in Lean (R515). -/
def tracerTags (n g : Nat) (s : State) : State :=
  let x := s.test
  if x.tracerK = 0 || 256 ≤ n || 192 ≤ g || !(s.lane n).works || s.mode = .lean then s
  else
    let t := s.onTest fun v => { v with lfsr := lfsrStep v.lfsr }
    if x.lfsr % 2 ^ x.tracerK ≠ 0 then t
    else
      let legs := legsOf n g s
      let free := min legs (4096 - x.inFlight.length)
      let t := t.onTest fun v => { v with
        skipped := (v.skipped + (legs - free)) % 2 ^ 32
        inFlight := List.replicate free (v.nextTracer, n, g, x.lfsr % 783, s.now) ++ v.inFlight
        nextTracer := if free = 0 then v.nextTracer else (v.nextTracer + 1) % 2 ^ 32
        tagged := if free = 0 then v.tagged else (v.tagged + 1) % 2 ^ 32 }
      raiseIf (free < legs) 300 t

/-- The 64-byte record of R515. `dts` holds t0 and then the times of points 1-9. -/
def tracerRecord (e : Nat × Nat × Nat × Nat × Nat) (txLane mask flags : Nat) (dts : List Nat) : List Byte :=
  let dt (i : Nat) : Int := if bit mask i then dts.getD i 0 else 0
  let head : Fields := [(8, e.2.2.2.2), (4, e.1), (2, e.2.1), (2, txLane), (1, e.2.2.1), (1, flags), (2, e.2.2.2.1), (2, mask), (2, 0),
    (4, (dts.getD 0 0 : Nat))]
  recordBytes (head ++ (List.range 9).map fun i => (4, dt (i + 1)))

/-- The tracers in flight after a record: a leg of a multicast (flag 3) frees its entry and leaves those of the other legs; the last
stays for legs that part later on the way, until its 300 ms have passed. -/
def recordDone (e : Nat × Nat × Nat × Nat × Nat) (flags : Nat) (l : List (Nat × Nat × Nat × Nat × Nat)) : List (Nat × Nat × Nat × Nat × Nat) :=
  if !bit flags 3 then l.filter fun x => x.1 != e.1
  else if 1 < (l.filter fun x => x.1 == e.1).length then l.erase e
  else l

/-- TRACER_RECORD: one record per leg to ring 4 of the chosen port (R515). -/
def tracerWrites (id txLane mask flags : Nat) (dts : List Nat) (s : State) : State :=
  match s.test.inFlight.find? fun e => e.1 == id with
  | some e =>
    let p := s.test.tracerPort
    let rec' := tracerRecord e txLane mask flags dts
    let t := s.onTest fun v => { v with inFlight := recordDone e flags v.inFlight }
    if ringTakes p 4 s then ringPut p 4 rec' (t.onTest fun v => { v with written := (v.written + 1) % 2 ^ 32 })
    else raise 300 (ringPut p 4 rec' (t.onTest fun v => { v with dropped := (v.dropped + 1) % 2 ^ 32 }))
  | none => s

/-- Tracers whose 300 ms have passed leave, after the beat in which a timeout is written (R515). -/
def beatTracers (s : State) : State :=
  s.onTest fun v => { v with inFlight := v.inFlight.filter fun e => s.now ≤ e.2.2.2.2 + 2400 }

def execRotationStep (r : Nat) (marchOk : Bool) (s : State) : Out :=
  done s (if s.mode = .lean then s else regionSlice r marchOk (rotationStep r marchOk s))
def execSliceSlot (s : State) : Out := done s (sliceSlot s)
def execMigrationShadow (s : State) : Out := done s (shadowStarts s)
def execMigrationHandover (s : State) : Out := done s (handover s)
def execMigrationAbort (s : State) : Out := done s (migrationAborts s)
def execSliceTestDone (first second : TestRun) (s : State) : Out := done s (testDone first second s)
def execTracerTag (n g : Nat) (s : State) : Out := done s (tracerTags n g s)
def execTracerRecord (id txLane mask flags : Nat) (dts : List Nat) (s : State) : Out :=
  done s (tracerWrites id txLane mask flags dts s)

end Sys2Proof.Machine
end

