-- ==== Sys2Proof/Machine/Power.lean ====
section
/-!
DEFINITION. Machine/Power.lean: power sequencing, Off and Wake, device reset (18 R541-R548, 19 R570-R583), the Lean
ride-through (18 R550-R555), rail supervision, PMBus, adaptive voltage and energy (18 R547-R557).
-/

namespace Sys2Proof.Machine

open Sys2Proof

/-! ### Off, Wake and device reset -/

/-- Rails in power-up order: VDD, VDDM, AVDDL, VDDPE, AVDDH, VDDQ, VDDIO (R545). -/
def stepRail (step : Nat) : Nat := [0, 1, 3, 7, 4, 5, 6].getD (step - 1) 0

/-- What a reset leaves of the OTP, the flash and the region table (R485, R525, R530); a pending life-cycle state takes effect
(R528). Open ports, open blocks but those of bridge 0, and open SRAM but regions 0-3 (R517, R522). -/
def resetSec (s : State) : Sec :=
  { life := s.sec.lifePend.getD s.sec.life, toggles := s.sec.toggles, rootKey := s.sec.rootKey, rollback := s.sec.rollback
    boot0 := s.sec.boot0, boot1 := s.sec.boot1, slots := s.sec.slots, calOk := s.sec.calOk, calFlash := s.sec.calFlash
    modelFlash := s.sec.modelFlash, ptableFlash := s.sec.ptableFlash, ptableOk := s.sec.ptableOk, ddr := s.sec.ddr }

/-- Guard state that lies in the always-on domain survives; the Keeper is held and not lost (R548, R464). -/
def resetGuard (s : State) : Guard :=
  { s.guard with
    cores := [.held, .held, .held, .held], keeperLost := false, autopilot := false, isHalt := false, haltCause := 0, apCause := 0
    attempts := 0, attempting := false, clusterRun := false, pipeOk := [] }

/-- The HV_ counts lie in the always-on domain; the token is free and the pins stay as the board drives them (R352, R379). -/
def resetHive (s : State) : Hive :=
  { side := s.hive.side, mateOk := s.hive.mateOk, lineFree := s.hive.lineFree || s.hive.token
    hbMissed := s.hive.hbMissed, toBeat := s.hive.toBeat, toCause := s.hive.toCause, takeovers := s.hive.takeovers
    bounces := s.hive.bounces, hbLosses := s.hive.hbLosses, gaps := s.hive.gaps, events := s.hive.events }

/-- The state with everything outside the always-on domain at its reset value. -/
def wiped (s : State) : State :=
  { pending := s.pending, fresh := s.fresh, sec := resetSec s, guard := resetGuard s, hive := resetHive s
    power := { s.power with isLean := false, coresBefore := [], leanFrom := .off, avsHigh := 0, avsNeg := 0, setpoint := 800 }
    ports := tmap {} (fun _ w => { perst := w.perst }) s.ports }

/-- Arms the DDR5 clear engine: regions with the flag and sealed regions (R521, R543). -/
def armClears (t : Tbl DdrRegion) : Tbl DdrRegion :=
  tmap {} (fun _ r => { r with clearing := r.size != 0 && (r.isSealed || r.clearOnWake) }) t

/-- Wake begins (R543, R517). -/
def beginWake (s : State) : State :=
  raise 290 { (s.onSec fun x =>
    { x with ddr := armClears x.ddr, blocks := (List.range 64).filter Config.bridge0, sram := [0, 1, 2, 3] }) with mode := .wake }

/-- A device reset (R542): the rails stay on and DDR5 keeps its content; fatal entries are resolved (R434). -/
def deviceReset (s : State) : State :=
  let t := resolveWhere false (fun x => x.cls == 5) s
  beginWake ((wiped t).onBus fun b => { b with bar2 := s.bus.bar2 })

/-- The power-up sequence starts with its first rail (R545). -/
def startUp (s : State) : State :=
  (s.onPower fun p => { p with seq := 1, seqStep := 1, wakeLatch := false, startDue := false }).onRail 0 fun r => { r with enabled := true }

/-- The power-down sequence starts (R546): the line transmitters idle and the token is released first. Cause 0 leaves off_cause as it stands (R583). -/
def startPowerDown (cause : Nat) (s : State) : State :=
  if s.power.seq = 1 || s.power.seq = 2 then
    let t := raise 282 (s.onPower fun p =>
      { p with seq := 3, seqStep := 0, offCause := if cause = 0 then p.offCause else cause })
    (releaseToken 3 true t).onHive fun h => { h with txIdled := true }
  else s

/-- VDDAO_POWER_ON (R582): power-on reset of the always-on domain; sequencing starts when PFW_N is high. -/
def vddaoOn (pfwHigh : Bool) (s : State) : State :=
  if s.power.powered then s
  else
    let t : State :=
      { pending := s.pending, fresh := s.fresh, sec := { resetSec s with ddr := [] }
        hive := { side := s.hive.side, mateOk := s.hive.mateOk, lineFree := s.hive.lineFree }
        ports := tmap {} (fun _ w => { perst := w.perst }) s.ports
        power :=
          { powered := true, pfw := !pfwHigh, resetLow := s.power.resetLow
            flashSlow := s.power.flashSlow, testEn := s.power.testEn } }
    if pfwHigh then startUp t else t

/-- SEQUENCING_STEP (R545, R583): the rail of the step is within its limits and its delay has passed. A start that a power fail ends
counts as not yet made. -/
def seqSteps (s0 : State) : State :=
  let s := tickIf (s0.power.seq = 1) 190 noUnit s0
  let p := s.power
  if p.seq ≠ 1 then s
  else
    let t := s.onRail (stepRail p.seqStep) fun r => { r with enabled := true, good := true }
    if p.pfw then startPowerDown 0 (t.onPower fun q => { q with startDue := true })
    else if p.seqStep < 7 then
      (t.onPower fun q => { q with seqStep := q.seqStep + 1 }).onRail (stepRail (p.seqStep + 1)) fun r => { r with enabled := true }
    else
      let u := t.onPower fun q => { q with seq := 2, seqStep := 0 }
      if p.resetLow then u else beginWake u

/-- RAMP_LIMIT_EXPIRY (R545). -/
def rampExpires (s : State) : State := if s.power.seq = 1 then startPowerDown 5 (raise 275 s) else s

/-- POWER_DOWN: the sequence reaches Off (R546); `cause` is the off_cause it runs for. A latched WAKE_N wakes the device again
(R583). DDR5 loses its content. -/
def powerDowns (cause : Nat) (s : State) : State :=
  let p := s.power
  if p.seq ≠ 3 || p.offCause ≠ cause then s
  else
    let t := wiped (setMode .off s)
    let t := t.onPower fun q =>
      { q with
        seq := if cause = 5 then 4 else 0, railBad := [], mw := 0
        leanOffs := if cause = 2 || cause = 3 then (q.leanOffs + 1) % 65536 else q.leanOffs
        rails := tmap {} (fun _ r => { r with enabled := false, good := false, uv := false, ov := false, mv := 0, current := 0, okBeats := 0 })
          q.rails }
    if p.wakeLatch && !p.pfw then startUp t else t.onPower fun q => { q with wakeLatch := false }

/-- WAKE_N_FALL (R542, R583). -/
def wakeFalls (s : State) : State :=
  let p := s.power
  if !p.powered then s
  else if p.seq = 3 then s.onPower fun q => { q with wakeLatch := true }
  else if (p.seq = 0 || p.seq = 4) && !p.pfw then startUp s
  else s

/-- RESET_N_ASSERT (R542, R583). -/
def resetAsserts (s : State) : State :=
  let t := s.onPower fun q => { q with resetLow := true }
  if s.power.seq = 2 && s.mode ≠ .off then deviceReset t else t

/-! ### Test access port (19 R571, R572; no command reaches it: log 118) -/

/-- The instruction that the port executes: one that drives or samples balls is BYPASS unless RESET_N is low (R572). -/
def tapRuns (s : State) : TapInstr :=
  match s.power.tapInstr with
  | .boundary d => if s.power.resetLow then .boundary d else .bypass
  | i => i

/-- What the data register takes before it shifts: the identity code, one 0, or the balls' levels (R572). -/
def tapCapture (balls : List Bool) (s : State) : List Bool :=
  match tapRuns s with
  | .bypass => [false]
  | .idcode => (List.range 32).map (Nat.testBit 0x1925654F)
  | .boundary _ => balls

/-- The scan access that TEST_EN gives (R571). -/
def testScan (s : State) : Bool := s.power.testEn && (s.sec.life == 0 || s.sec.life == 3)

/-- RESET_N_RELEASE (R582, R571): the straps are sampled; Wake begins if the rails are good. -/
def resetReleases (side flashSlow testEn : Bool) (s : State) : State :=
  if !s.power.resetLow then s
  else
    let t := (s.onPower fun q => { q with resetLow := false, flashSlow := flashSlow, testEn := testEn }).onHive fun h => { h with side := side }
    if t.power.seq = 2 && t.mode = .off then beginWake t else t

/-- WAKE_CLEAR_DONE (R482, R543); in Boot the four RDIMM load switches close before training (R545). -/
def wakeCleared (s : State) : State :=
  if s.mode = .wake && !s.power.resetLow then
    let t := [8, 9, 10, 11].foldl (fun s r => s.onRail r fun x => { x with enabled := true, good := true }) s
    enterMode .boot (t.onBus fun b => { b with sramOpen := true })
  else s

/-- AUTO_WAKE (R553, R583): after a power-fail Off, or for a start that was not yet made. -/
def autoWakes (s : State) : State :=
  let p := s.power
  let due := ((p.offCause = 2 || p.offCause = 3) && bit p.cfg.flags 1) || p.offCause = 0 || p.startDue
  if p.powered && p.seq = 0 && !p.pfw && due then startUp s else s

/-! ### Lean (R550-R555) -/

/-- Modes that Lean can be entered from (R542). -/
def leanable (m : Mode) : Bool := m ∈ [.provision, .carry, .shadow, .autopilot, .quiesce, .maintenance]

/-- Enters Lean and sheds (R550, R551): every core but the lowest-numbered working one is held. -/
def enterLean (s : State) : State :=
  let keep := (workingCores s).head?
  let t := s.onPower fun p =>
    { p with
      isLean := true, leanFrom := s.mode, leanBeats := 0, leanMs := 0, leanEntries := (p.leanEntries + 1) % 65536
      coresBefore := s.guard.cores }
  let t := (List.range 4).foldl (fun t c =>
    if keep = some c || !(t.coreOf c = .working || t.coreOf c = .relief) then t
    else match keep with
      | some k => clearStack c (retarget c k (setCore c .held t))
      | none => clearStack c (setCore c .held t)) t
  raise 280 (enterMode .lean (abortSlice t))

/-- PFW_ASSERT (R550, R553, R555). -/
def pfwAsserts (s : State) : State :=
  if !s.power.powered || s.power.pfw then s
  else
    let t := raise 278 ((tick 184 noUnit 1 s).onPower fun p => { p with pfw := true })
    if bit s.power.cfg.flags 0 && s.power.seq = 2 && leanable s.mode then enterLean t else t

/-- PFW_RELEASE (R552). -/
def pfwReleases (s : State) : State := if s.power.pfw then raise 279 (s.onPower fun p => { p with pfw := false }) else s

/-- Every twin in bypass returns as op 3 of pool.twin gives (R253, R552). -/
def returnTwins (s : State) : State :=
  (s.poolEntries fun c => c.isTwin && (s.chan c.chan).state == 0).foldl (fun s k =>
    s.onEntry k fun e => if e.state = 3 then { e with returning := true } else e) s

/-- LEAN_EXIT (R552, R554): PFW_N has been high for exit_hold. The cores come back unless the Keeper is lost. -/
def leanExits (s : State) : State :=
  if s.mode = .lean && !s.power.pfw then
    let p := s.power
    let t := if s.guard.keeperLost then s
      else (List.range 4).foldl (fun t c =>
        if t.coreOf c = .held then setCore c (p.coresBefore.getD c .held) t else t) s
    let t := t.onPower fun q => { q with isLean := false, coresBefore := [] }
    raise 281 (enterMode p.leanFrom (returnTwins t))
  else s

/-- LEAN_MAX_EXPIRY (R553, R555): in Halt PFW_N has no effect. -/
def leanMaxExpires (s : State) : State :=
  if s.power.pfw && s.power.seq = 2 && s.mode ≠ .halt then startPowerDown 2 s else s

/-- The boundary of a beat in Lean: every twin enters bypass (R550; 08 R253). -/
def leanTwins (s : State) : State :=
  if s.mode = .lean then
    (s.poolEntries fun c => c.isTwin).foldl (fun s k => withEntryEvents k (fun e => if e.state = 3 then e else e.toBypass) s) s
  else s

/-- A beat in Lean: the time spent (R559). -/
def beatLean (s : State) : State :=
  if s.mode = .lean then s.onPower fun p => { p with leanBeats := p.leanBeats + 1, leanMs := (p.leanBeats + 1) / 8 % 2 ^ 32 }
  else s

/-! ### Rails (R547, R548) -/

def railSrc (isOv : Bool) : Nat := if isOv then 277 else 276

/-- Power-on reset of the always-on domain: VDDAO is gone and the next start is cold (R548). -/
def vddaoOff (s : State) : State :=
  { pending := s.pending, fresh := s.fresh, sec := { resetSec s with ddr := [] }
    hive := { side := s.hive.side, mateOk := s.hive.mateOk, lineFree := s.hive.lineFree || s.hive.token }
    ports := tmap {} (fun _ w => { perst := w.perst }) s.ports
    power := { resetLow := s.power.resetLow, flashSlow := s.power.flashSlow, testEn := s.power.testEn } }

/-- Channels that a rail supplies: VDDQ all four, an RDIMM supply its own (R548). -/
def railChannels (r : Nat) : List Nat := if r = 5 then [0, 1, 2, 3] else if 8 ≤ r ∧ r < 12 then [r - 8] else []

/-- What a declared excursion does (R548, R553); `held`: for 100 µs, or below 0.70 V for VDDAO. -/
def railActs (r : Nat) (isOv held : Bool) (s : State) : State :=
  if r = 2 && !isOv && held then vddaoOff s
  else if s.mode = .lean && !isOv then startPowerDown 3 s
  else if r ∈ [0, 1, 3, 4] then (if held || s.mode = .lean then startPowerDown 4 s else s)
  else if r = 5 || (8 ≤ r && r < 12) then (railChannels r).foldl (fun s d => channelFail d 4 s) s
  else if r = 7 then pcieLinkDown 1 (pcieLinkDown 0 s)
  else s

/-- RAIL_EXCURSION (R547, R548): `long` says that it lasted more than 1 µs. -/
def railExcursion (r : Nat) (isOv long held : Bool) (s : State) : State :=
  if 16 ≤ r || !s.power.powered || (r ≠ 2 && s.power.seq ≠ 2) then s
  else if !long then
    s.onRail r fun x => if isOv then { x with ovGlitch := x.ovGlitch + 1 } else { x with uvGlitch := x.uvGlitch + 1 }
  else
    let t := s.onRail r fun x =>
      { x with good := false, uv := x.uv || !isOv, ov := x.ov || isOv, okBeats := 0 }
    let t := raise (railSrc isOv) ((tick (if isOv then 179 else 177) r 1 t).onPower fun p => { p with railBad := insertNat r p.railBad })
    railActs r isOv held (fault 0x0F 7 r t)

/-- RAIL_CLEAR (R547): within the limits for 1 ms. -/
def railClears (r : Nat) (s : State) : State :=
  let x := s.rail r
  if 16 ≤ r || !(x.uv || x.ov) then s
  else
    let t := s.onRail r fun y => { y with uv := false, ov := false, good := true, okBeats := 0 }
    let t := t.onPower fun p => { p with railBad := p.railBad.filter (· != r) }
    raiseIf x.ov 277 (raiseIf x.uv 276 t)

/-- A beat of the rails: fault 0x0F is resolved 1 s after its rail is back within limits (R434). -/
def beatRails (s : State) : State :=
  (List.range 16).foldl (fun s r =>
    let x := s.rail r
    if x.uv || x.ov || !((List.range 16).any fun e => (s.fqe e).valid && (s.fqe e).code == 0x0F && (s.fqe e).unit == 7 * 4096 + r) then s
    else if x.okBeats + 1 < 8000 then s.onRail r fun y => { y with okBeats := y.okBeats + 1 }
    else resolveCode 0x0F 7 r (s.onRail r fun y => { y with okBeats := 0 })) s

/-! ### PMBus, AVS, energy (R549, R556, R557) -/

/-- PMB_ALERT: STATUS_WORD of every slot is read (R549); one that reports anything raises 287, and a regulator or load switch of a channel
that does fails the channel (08 R252). -/
def pmbAlerts (status : List Nat) (s : State) : State :=
  if s.power.powered then
    let used := (List.range 16).filter fun k => (s.powerEntry k).addr != 0
    let t := raiseIf (status.any (· != 0)) 287 (raise 286 (tick 189 noUnit used.length (tick 182 noUnit used.length s)))
    let bad := used.filter fun k => status.getD k 0 != 0 && (s.powerEntry k).role ≤ 2
    (bad.flatMap fun k => railChannels (s.powerEntry k).rail).foldl (fun s d => channelFail d 4 s) t
  else s

/-- PMBUS_FAILURE: the fourth try of a transaction failed; in the power-up sequence that fails it (R549). -/
def pmbusFails (s : State) : State :=
  if s.power.powered then
    let t := raise 285 ((tick 183 noUnit 1 (tick 182 noUnit 4 s)).onPower fun p => { p with pmbusErr := true })
    if s.power.seq = 1 then rampExpires t else t
  else s

/-- AVS runs: from Provision on, with avs_enable 1 (R556). -/
def avsOn (s : State) : Bool := bit s.power.cfg.flags 2 && s.power.seq == 2 && !(s.mode ∈ [.off, .wake, .boot])

/-- AVS_SAMPLE: the smallest slack in ps (R556). -/
def avsSample (m : Int) (s : State) : State :=
  if !avsOn s then s
  else
    let p := s.power
    let high := if 60 < m then p.avsHigh + 1 else 0
    let next := if m < 20 then min 800 (p.setpoint + 10) else if high = 100 then max 700 (p.setpoint - 5) else p.setpoint
    let neg := if p.setpoint = 800 && m < 0 then p.avsNeg + 1 else 0
    let t := s.onPower fun q =>
      { q with avsM := m, setpoint := next, avsHigh := if high = 100 then 0 else high, avsNeg := neg }
    let t := raiseIf (next != p.setpoint && (next == 800 || next == 700)) 283 t
    if neg = 10 then fault 0x0F 7 0 (raise 284 t) else t

/-- The slots that report a rail's energy: regulators and additional phases (R557). -/
def railSlots (s : State) (r : Nat) : List Nat :=
  (List.range 16).filter fun k => let e := s.powerEntry k; e.addr != 0 && e.rail == r && e.role ≤ 1

/-- READ_VOUT and READ_IOUT of each regulator are a transaction each (R506, R557); a die above 105 °C is counted. -/
def countReads (n : Nat) (tj : Int) (s : State) : State := tickIf (420 < tj) 188 noUnit (tick 182 noUnit (2 * n) s)

/-- ENERGY_READ: (slot, mV, 10 mA) of the regulators that answered; a rail none of whose slots did keeps its values (R557). -/
def energyRead (readings : List (Nat × Nat × Nat)) (tj : Int) (s : State) : State :=
  if s.power.seq ≠ 2 then s
  else
    let s := countReads readings.length tj s
    let of (r : Nat) : List (Nat × Nat × Nat) := readings.filter fun x => (railSlots s r).contains x.1
    let t := (List.range 16).foldl (fun t r =>
      match of r with
      | [] => t
      | x :: l => t.onRail r fun y => { y with mv := x.2.1, current := ((x :: l).map fun z => z.2.2).sum }) s
    let power (r : Nat) : Nat :=
      match of r with
      | [] => if railSlots s r = [] then 0 else (t.rail r).mv * (t.rail r).current
      | l => (l.map fun x => x.2.1 * x.2.2).sum
    let uj := ((List.range 16).map power).sum
    let mw := uj / 100
    let total := s.power.energyUj + uj
    let beyond := s.power.cfg.powerLimit != 0 && decide (s.power.cfg.powerLimit < mw)
    raiseIf (beyond && !s.power.overLimit) 288 (t.onPower fun p =>
      { p with
        energy := (p.energy + total / 1000) % 2 ^ 64, energyUj := total % 1000, mw := mw % 2 ^ 32, tj := tj, overLimit := beyond })

def execVddaoPowerOn (pfwHigh : Bool) (s : State) : Out := done s (vddaoOn pfwHigh s)
def execSequencingStep (s : State) : Out := done s (seqSteps s)
def execRampLimitExpiry (s : State) : Out := done s (rampExpires s)
def execPowerDown (cause : Nat) (s : State) : Out := done s (powerDowns cause s)
def execWakeNFall (s : State) : Out := done s (wakeFalls s)
def execResetNAssert (s : State) : Out := done s (resetAsserts s)
def execResetNRelease (side flashSlow testEn : Bool) (s : State) : Out := done s (resetReleases side flashSlow testEn s)
def execWakeClearDone (s : State) : Out := done s (wakeCleared s)
def execAutoWake (s : State) : Out := done s (autoWakes s)
def execPfwAssert (s : State) : Out := done s (pfwAsserts s)
def execPfwRelease (s : State) : Out := done s (pfwReleases s)
def execLeanExit (s : State) : Out := done s (leanExits s)
def execLeanMaxExpiry (s : State) : Out := done s (leanMaxExpires s)
def execRailExcursion (r : Nat) (isOv long held : Bool) (s : State) : Out := done s (railExcursion r isOv long held s)
def execRailClear (r : Nat) (s : State) : Out := done s (railClears r s)
def execPmbAlert (status : List Nat) (s : State) : Out := done s (pmbAlerts status s)
def execPmbusFailure (s : State) : Out := done s (pmbusFails s)
def execAvsSample (m : Int) (s : State) : Out := done s (avsSample m s)
def execEnergyRead (readings : List (Nat × Nat × Nat)) (tj : Int) (s : State) : Out := done s (energyRead readings tj s)

end Sys2Proof.Machine
end

