-- ==== Sys2Proof/Machine/Sting.lean ====
section
/-!
DEFINITION. Machine/Sting.lean: sting points (16 R503-R505): what one forces while it is in force, what each occurrence
does, and how it ends.
-/

namespace Sys2Proof.Machine

open Sys2Proof

/-- The detector input that a sting forces from its application to its end (R503, R88, R362, R547, R550). -/
def stingBegins (a : TestStingArgs) (s : State) : State :=
  match a.point with
  | 0x01 => lolDeclares a.unit (forceLane a.unit (fun l => { l with losForced := true }) s)
  | 0x02 => forceLane a.unit (fun l => { l with lolForced := true }) s
  | 0x22 => s.onHive fun h => { h with withheld := true }
  | 0x28 => railExcursion a.unit false true (a.mode == 2) s
  | 0x29 => railExcursion a.unit true true (a.mode == 2) s
  | 0x2A => pfwAsserts s
  | _ => s

/-- What a sting forced ends. The LOL that followed a forced LOS clears under its own condition (R88). -/
def stingEnds (a : TestStingArgs) (s : State) : State :=
  match a.point with
  | 0x01 => forceLane a.unit (fun l => { l with losForced := false }) s
  | 0x02 => forceLane a.unit (fun l => { l with lolForced := false }) s
  | 0x22 => s.onHive fun h => { h with withheld := false }
  | 0x28 | 0x29 => railClears a.unit s
  | 0x2A => pfwReleases s
  | _ => s

/-- A slot or cell of a region (R189): which one the sting's error lies in is open. -/
def regionSpot (r k : Nat) : Nat :=
  match regionMemory r with
  | 0 => 192 * 53 * r + k % (192 * 53)
  | 1 => 192 * 53 * (r - 8) + k % (192 * 53)
  | 2 => 16704 * 4 * (r - 16) + k % (16704 * 4)
  | _ => 16704 * 4 * (r - 40) + k % (16704 * 4)

/-- One occurrence (R503): an error in memory is met as the real one is; the master and the address it is met by are open. -/
def stingActs (a : TestStingArgs) (s : State) : State :=
  let spot := Config.free 13 s.fresh
  let word := 0x20000000 + 65536 * a.unit + spot % 65536
  let masters := (List.range 14).filter fun m => connected s m (targetOf s word) && (worldBreach s m word).isNone
  let master := masters.getD (Config.free 12 s.fresh % masters.length) 0
  match a.point with
  | 0x10 => (sramEcc master word (a.sub == 1) [] s).draw
  | 0x11 =>
    if 4 ≤ a.unit then s
    else if a.sub = 0 then
      raise (76 + 4 * a.unit) (s.onChan a.unit fun c => { c with eccCorrected := satAdd 32 c.eccCorrected 1 })
    else uncError a.unit s
  | 0x12 => (combEcc a.unit (regionSpot a.unit spot) (a.sub % 2 == 0) s).draw
  | 0x18 => ((if a.sub = 0 then defaultTarget a.unit (spot % 2 ^ 40) none s else busTimeout a.unit (spot % 2 ^ 40) s)).draw
  | 0x20 => coreExpires a.unit s
  | 0x21 => clusterExpires s
  | _ => s

/-- Two sets of parameters name the same sting. -/
def sameSting (a b : TestStingArgs) : Bool := stingKey a == stingKey b

/-- A sting ends: source 299. -/
def endSting (a : TestStingArgs) (s : State) : State :=
  raise 299 (stingEnds a (s.onTest fun t => { t with stings := t.stings.filter fun x => !sameSting x.args a }))

/-- Applies a sting, in place of one that stands: source 298. While its unit's slice runs it waits (R505). -/
def applySting (a : TestStingArgs) (s : State) : State :=
  let wait := match stingUnit a with
    | some u => inSlice s u.1 u.2
    | none => false
  let n := if a.mode = 2 then 0 else if a.mode = 3 then a.count else 1
  let t := raise 298 (s.onTest fun t =>
    { t with stings := (t.stings.filter fun x => !sameSting x.args a) ++ [{ args := a, left := n, waits := wait }] })
  if wait then t else stingBegins a t

/-- STING_OCCURRENCE: the sting at `index` of the list acts once; its last occurrence ends it. An occurrence that forces what a frame
holds is on the next frame of its unit, and ends with that. A sting that waited for its unit's slice to end takes effect with its
first (R505). -/
def stingOccurs (index : Nat) (s : State) : State :=
  match s.test.stings[index]? with
  | some x =>
    if x.waits || x.due then s
    else
      let s := tick 170 noUnit 1 s
      let t := stingActs x.args (if x.args.point ≤ 2 then stingBegins x.args s else s)
      if x.args.mode = 2 then t
      else if onFrames x.args.point then t.onTest fun v =>
        { v with stings := v.stings.map fun y => if sameSting y.args x.args then { y with left := y.left - 1, due := true } else y }
      else if x.left ≤ 1 then endSting x.args t
      else t.onTest fun v => { v with stings := v.stings.map fun y => if sameSting y.args x.args then { y with left := y.left - 1 } else y }
  | none => s

def execStingOccurrence (index : Nat) (s : State) : Out := done s (stingOccurs index s)

end Sys2Proof.Machine
end

