-- ==== Sys2Proof/Machine/Apply.lean ====
section
/-!
DEFINITION. Machine/Apply.lean: the class C writes of a ticket and the class L writes of a command or mirror record, applied
to the units (02 R55-R66), and what a ticket does to a migration at its boundary (01 R30).
-/

namespace Sys2Proof.Machine

open Sys2Proof

/-- The boundary class of a write (R55, R59). -/
def Change.bclass : Change → Nat
  | .lane .. | .laneCal .. | .sdhPort _ | .sdhPath _ | .cpriPort _ | .super .. | .nurseC2 .. => 0
  | .axc _ | .axv _ | .bfn _ => 3
  | .brood _ _ axcKind => if axcKind then 3 else 1
  | .nurseVc _ | .nurseTu _ => 1
  | .pool c => match c with
    | .delay _ => 0
    | _ => 2
  | .prot a => if a.kind = 4 then 1 else if a.kind = 5 then 3 else 0
  | .pmDay _ | .pmMonitor _ | .pmProfile .. => 4

/-- The class of a ticket: the longest period among its fields (R59). -/
def classOf (cs : List Change) : Nat := (cs.map Change.bclass).foldl max 0

/-- Super slots and Brood cells that a list of writes changes, each write counted (R57, R187; log 111). -/
def supersOf (cs : List Change) : Nat := (cs.filter fun c => match c with | .super .. => true | _ => false).length
def broodsOf (cs : List Change) : Nat := (cs.filter fun c => match c with | .brood .. => true | _ => false).length

/-- Beats between boundaries of a class (R55). -/
def classPeriod (c : Nat) : Nat :=
  match c with
  | 0 => 1 | 1 => tuBeats | 2 => vcatBeats | 3 => radioBeats | _ => secondBeats

/-- The user offsets of a lane and rate group (R83). -/
def applyCal (n group : Nat) (c : UserCal) (s : State) : State := s.setCal n group c

/-- pm.config day_start. -/
def applyDay (d : Nat) (s : State) : State := s.onPm fun p => { p with dayStart := d }

/-- One class C write takes effect (R58). -/
def applyChange (c : Change) (s : State) : State :=
  match c with
  | .lane n enable loopback => laneChanges n enable loopback s
  | .laneCal n group swing pre post ctle => applyCal n group ⟨swing, pre, post, ctle⟩ s
  | .sdhPort a => applySdhPort a s
  | .sdhPath a => applySdhPath a s
  | .cpriPort a => applyCpriPort a s
  | .axc a => applyAxc a s
  | .super dst src => applySuper dst src s
  | .brood dst src axcKind => applyBrood dst src axcKind s
  | .nurseVc a => applyNurseVc a s
  | .nurseC2 b g c2 => applyC2 b g c2 s
  | .nurseTu a => applyNurseTu a s
  | .axv a => applyAxv a s
  | .pool c => applyPool c s
  | .prot a => applyProt a s
  | .pmDay d => applyDay d s
  | .pmMonitor a => applyMonitor a s
  | .pmProfile i thr => applyProfile i thr s
  | .bfn offset => applyBfn offset s

def applyChanges (cs : List Change) (s : State) : State := cs.foldl (fun s c => applyChange c s) s

/-- power.config (R550-R558): without AVS the setpoint is 0.80 V (R556). -/
def livePowerConfig (a : PowerConfigArgs) (s : State) : State :=
  s.onPower fun p =>
    { p with cfg := a, setpoint := if bit a.flags 2 then p.setpoint else 800, avsHigh := if bit a.flags 2 then p.avsHigh else 0 }

def liveHiveConfig (a : HiveConfigArgs) (s : State) : State := s.onHive fun h => { h with cfg := a }

def liveTrim (n : Nat) (t : Int) (s : State) : State := s.onLane n fun l => { l with trimTarget := t }

def livePmPort (port auto : Nat) (s : State) : State := s.onPm fun p => { p with port := port, auto := auto }

/-- One class L write takes effect (R64). -/
def applyLive (l : Live) (s : State) : State :=
  match l with
  | .now c => applyChange c s
  | .laneF n mode align polarity scramble => liveLaneF n mode align polarity scramble s
  | .lane n losThr dfeAdapt => liveLane n losThr dfeAdapt s
  | .prbs a => livePrbs a s
  | .trim n t => liveTrim n t s
  | .sdhOh a => liveSdhOh a s
  | .cpriFlags n flags => liveCpriFlags n flags s
  | .cpriCm a => liveCpriCm a s
  | .scoutInput a => liveScoutInput a s
  | .scoutSelect a => liveScoutSelect a s
  | .scoutDpll a => liveScoutDpll a s
  | .scoutOutput a => liveScoutOutput a s
  | .hiveConfig a => liveHiveConfig a s
  | .powerConfig a => livePowerConfig a s
  | .pmPort port auto => livePmPort port auto s
  | .stream a => liveStream a s

def applyLives (ls : List Live) (s : State) : State := ls.foldl (fun s l => applyLive l s) s

/-- Units that a connection of a Super output port or of a Brood port touches (R30, 06 R189): tile or nurse unit, regions. -/
def superUnits (p : Nat) : List (Nat × Nat) :=
  [(3, p / 53), (3, 8 + p / 53)] ++ (if p < 256 then [(1, p / 8)] else if p < 352 then [(2, (p - 256) / 4)] else [])
def broodUnits (b : Nat) : List (Nat × Nat) := [(2, b / 4), (3, 16 + b / 4), (3, 40 + b / 4)]

/-- Slice units that a write touches (R30): tiles, nurse units and Comb regions, as (kind, index). -/
def Change.touches (c : Change) : List (Nat × Nat) :=
  match c with
  | .lane n _ _ => [(1, n / 8)]
  | .laneCal n .. => [(1, n / 8)]
  | .sdhPort a => [(1, a.lane / 8)]
  | .sdhPath a => [(1, a.lane / 8)]
  | .cpriPort a => [(1, a.lane / 8)]
  | .axc a => [(1, a.lane / 8)]
  | .super dst _ => superUnits (dst / 192)
  | .brood dst _ _ => broodUnits (dst / 16704)
  | .nurseVc a => [(2, a.b / 4)]
  | .nurseC2 b _ _ => [(2, b / 4)]
  | .nurseTu a => [(2, a.b / 4)]
  | .axv a => [(2, a.b / 4)]
  | .prot a => match a.members with
    | .lines w p => [(1, w / 8), (1, p / 8)]
    | .cpri w p _ => [(1, w / 8), (1, p / 8)]
    | .sncpHo dp .. => superUnits dp
    | .sncpLo db .. => broodUnits db
  | _ => []

/-- A ticket applied at a handover beat of a rotating region moves it one beat (R30, 06 R191). -/
def moveRotation (touched : List (Nat × Nat)) (s : State) : State :=
  s.onComb fun c => { c with
    regions := tmap {} (fun r x =>
      if x.handovers.contains s.now && touched.contains (3, r) then { x with start := x.start + 1 } else x) c.regions }

/-- A ticket applied at a migration's handover beat moves the handover one beat (R30). -/
def moveHandover (cs : List Change) (s0 : State) : State :=
  let s := moveRotation (cs.flatMap Change.touches) s0
  match s.test.slice with
  | some x =>
    if x.stage ≠ 2 && x.handover = s.now && cs.any fun c => (Change.touches c).contains (x.kind, x.index) then
      s.onTest fun t => { t with slice := some { x with handover := x.handover + 1 } }
    else s
  | none => s

end Sys2Proof.Machine
end

