-- ==== Sys2Proof/Machine/Boot.lean ====
section
/-!
DEFINITION. Machine/Boot.lean: the boot ROM, the start of Grengon, restarts and the resumption of service (17 R530-R540,
14 R443-R444), DDR5 at boot (15 R484, 18 R543), and the ends of flash, OTP and clearing operations.
-/

namespace Sys2Proof.Machine

open Sys2Proof

/-! ### Boot control block and slots (R531-R533) -/

/-- Copy 1 is the one in force: its CRC passes, and copy 0's does not or its sequence is earlier, as a signed 32-bit
difference. -/
def block1InForce (s : State) : Bool :=
  let b0 := s.sec.boot0
  let b1 := s.sec.boot1
  b1.crcOk && (!b0.crcOk || (let d := (b1.seq + 2 ^ 32 - b0.seq) % 2 ^ 32; 0 < d && d < 2 ^ 31))

/-- The boot control block in force; with no valid copy, slot 0 and trial 0. -/
def bootBlock (s : State) : BootBlock :=
  if block1InForce s then s.sec.boot1 else if s.sec.boot0.crcOk then s.sec.boot0 else {}

/-- A write goes to the other copy with sequence + 1. -/
def writeBlock (preferred trial tries : Nat) (s : State) : State :=
  let b : BootBlock := ⟨((bootBlock s).seq + 1) % 2 ^ 32, preferred, trial, tries, true⟩
  s.onSec fun c => if block1InForce s then { c with boot0 := b } else { c with boot1 := b }

def State.slotOf (s : State) (k : Nat) : Slot := tget {} s.sec.slots k
def setSlot (k : Nat) (x : Slot) (s : State) : State := s.onSec fun c => { c with slots := tput {} c.slots k x }

/-- A slot is valid (R533); Grengon's check of the data segment counts as one of the body. -/
def slotValid (s : State) (k : Nat) : Bool :=
  let x := s.slotOf k
  x.headerOk && x.bodyOk && x.dataOk && s.sec.rollback ≤ x.rollback

/-- The number in some bytes of a header, least significant first. -/
def leAt (l : List Byte) (off n : Nat) : Nat := bytesNat ((l.drop off).take n)

/-- Numbers of the bits set in a field. -/
def setBits (w x : Nat) : List Nat := (List.range w).filter (bit x)

/-- The bytes that a number takes in a record, least significant first. -/
def numBytes (n x : Nat) : List Byte := (List.range n).map fun i => BitVec.ofNat 8 (x / 256 ^ i)

/-- SHA-384 of some bytes (log 23). -/
def sha384 (l : List Byte) : List Byte := Config.sha384 l.length ((l.zipIdx.filter (·.1 != 0)).map fun e => (e.2, e.1))

/-- The root key's hash is the one in OTP, and it signed the header's bytes 0-639 (R532, R533). -/
def headerSigned (l : List Byte) : Bool :=
  let key := (l.drop 128).take 97
  sha384 key == Config.rootHash && Config.ecdsa key (sha384 (l.take 640)) ((l.drop 640).take 96)

/-- n bytes of a slot's image from an offset on, each in its place. -/
def imageBytes (x : Slot) (off n : Nat) : List Byte := (List.range n).map fun i => memRead x.image (off + i)

/-- An image header as R532 lays it out. -/
def parseHeader (l : List Byte) (x : Slot) : Slot :=
  { x with
    headerOk := leAt l 0 4 == 0x4C514657 && leAt l 12 1 ≤ 64 && leAt l 13 1 ≤ 4 && headerSigned l
    fwVersion := leAt l 4 4, build := leAt l 8 4, rollback := leAt l 12 1, nKeys := leAt l 13 1
    sealBlocks := setBits 64 (leAt l 616 8), sealSram := setBits 64 (leAt l 624 8), sealDdr := setBits 32 (leAt l 632 4) }

/-- n bytes of a slot's image from an offset on. -/
def imagePart (x : Slot) (off n : Nat) : List Host.Cell :=
  (x.image.filter fun c => off ≤ c.1 && c.1 < off + n).map fun c => (c.1 - off, c.2)

/-- The hashes of body and data segment against those of the header (R532, R533). -/
def Slot.hashed (x : Slot) : Slot :=
  let head := (List.range 128).map (memRead x.image)
  let body := leAt head 16 4
  let data := leAt head 20 4
  let start := (4096 + body + 65535) / 65536 * 65536
  { x with
    bodyOk := Config.sha384 body (imagePart x 4096 body) == (head.drop 32).take 48
    dataOk := Config.sha384 data (imagePart x start data) == (head.drop 80).take 48 }

/-! ### The start of Grengon (R534, R426) -/

/-- The cores as Grengon starts on them: with four healthy ones K3 is the relief core (log 22). -/
def startedCores (failed : List Nat) : List Core :=
  (List.range 4).map fun c => if failed.contains c then .failed else if c = 3 && failed = [] then .relief else .working

/-- In Lean only the lowest-numbered working core runs (R551). -/
def leanCores (l : List Core) : List Core :=
  let keep := (List.range 4).find? fun c => l.getD c .held == .working
  (List.range 4).map fun c => if some c = keep then .working else if l.getD c .held == .failed then .failed else .held

/-- Grengon's event attributes at boot (R447, R441, log 7). -/
def bootEvents (s : State) : State :=
  let ws := workingCores s
  let core (n : Nat) : Nat := ws.getD (Config.bootCore n % max 1 ws.length) 0
  let t := (List.range 319).foldl (fun s n =>
    let x := s.src n
    let port := if 131 ≤ n && n ≤ 146 then some 4 else if 147 ≤ n && n ≤ 162 then some 5 else none
    setSrc n
      { x with
        edge := Config.bootEdge n, prio := if port.isSome then 8 else Config.bootPrio n % 16, target := port.getD (core n)
        signalled := false, fallen := false } s) s
  t.onEv fun e => { e with fallback := tput 7 e.fallback 9 4 }

/-- The world map of an image (R517); the blocks of bridge 0 stay sealed. -/
def applyWorldMap (x : Slot) (s : State) : State :=
  s.onSec fun c =>
    { c with
      blocks := (List.range 64).filter fun b => Config.bridge0 b || x.sealBlocks.contains b
      sram := (List.range 64).filter fun r => x.sealSram.contains r
      ddr := (List.range 32).foldl (fun t r =>
        let g : DdrRegion := tget {} t r
        tput {} t r { g with isSealed := x.sealDdr.contains r }) c.ddr }

/-- Boot tests (R501): failed lanes stay in mode 0; a failed tile or nurse unit leaves its work on a spare from Provision
on; a failed lane, PLL or Scout raises 301. -/
def bootTests (s : State) : State :=
  let lanes := (List.range 260).filter (Config.bootFails 12)
  let tiles := (List.range 34).filter (Config.bootFails 1)
  let nurses := (List.range 25).filter (Config.bootFails 2)
  let cores := (List.range 4).filter (Config.bootFails 5)
  let bad := tiles.filter (· < 32)
  let t := lanes.foldl (fun s n => s.onLane n fun l => { l with bootFailed := true }) s
  let t := t.onTest fun x =>
    { x with
      failedUnits := tiles.map (Prod.mk 1) ++ nurses.map (Prod.mk 2) ++ cores.map (Prod.mk 5)
      f32 := if tiles.contains 32 then none else bad[0]?
      f33 := if tiles.contains 33 then none else if tiles.contains 32 then bad[0]? else bad[1]?
      n24 := if nurses.contains 24 then none else (nurses.filter (· < 24))[0]? }
  raiseIf (lanes != [] || Config.bootFails 13 0) 301 (refreshSuspension t)

/-- What the device loads from flash at every boot: user calibration (R83, R434), the thermal model (R338), the user power
table into always-on retention (R549). -/
def bootFlash (s : State) : State :=
  let t := if s.sec.calOk then { s with userCal := s.sec.calFlash } else fault 0x0D 0 0 { s with userCal := [] }
  let t := modelLoads t
  if s.sec.ptableOk then t.onPower fun p => { p with table := s.sec.ptableFlash, userTable := true }
  else raise 289 (t.onPower fun p => { p with table := [], userTable := false })

/-- The slot that the boot ROM tries first, after its write of the control block (R534 step 2). -/
def chooseSlot (s : State) : Nat × State :=
  let b := bootBlock s
  let other := 1 - b.preferred
  if b.trial = 0 then (b.preferred, s)
  else if b.tries = 0 then (b.preferred, writeBlock b.preferred 1 1 s)
  else (other, writeBlock other 0 0 (s.onSec fun c => { c with updState := 0 }))

/-- The body of an image comes to the bottom of the keeper SRAM (R532, R534 step 4; where it lies there: log 117). -/
def loadBody (x : Slot) (s : State) : State :=
  let n := leAt ((List.range 20).map (memRead x.image)) 16 4
  s.onBus fun b => { b with
    sram := (x.image.filter fun c => 4096 ≤ c.1 && c.1 < 4096 + n).foldl (fun m c => tput 0 m (c.1 - 4096) c.2)
      (b.sram.filter fun c => n ≤ c.1)
    sramWrong := b.sramWrong.filter fun e => n ≤ 8 * e.1 }

/-- A slot starts (R534 step 4): body in SRAM, remap, cores, the cluster watchdog (R430). The world map is applied at the
boot after a reset; a later change by sec.world lasts until then (R517). -/
def startSlot (k : Nat) (s : State) : State :=
  let x := s.slotOf k
  let fromWake := s.mode == .boot
  let t := if fromWake then bootFlash (bootTests (applyWorldMap x s)) else s
  let failed := (List.range 4).filter fun c => t.test.failedUnits.contains (5, c)
  let full := startedCores failed
  let inForce := if t.mode = .lean then leanCores full else full
  let t := if t.mode = .lean then t.onPower fun p => { p with coresBefore := full } else t
  let t := (List.range 4).foldl (fun s c => setCore c (inForce.getD c .held) s) t
  let t := remapApplies true (loadBody x t)
  let t := t.onGuard fun g => { g with clusterRun := true }
  let t := t.onKeeper fun w =>
    { w with started := true, fwSlot := k, fwVersion := x.fwVersion, fwBuild := x.build, ifVer := 0x01000100 }
  if fromWake then bootEvents t else t

/-- Whether the boot ROM has to run: after Wake, in a restart attempt, or in the Quiesce of an update. -/
def romDue (s : State) : Bool :=
  !s.keeper.started && !s.keeper.serving && !s.sec.noSlot &&
    (s.mode == .boot || s.guard.attempting || s.mode == .quiesce || (s.mode == .lean && s.power.leanFrom == .quiesce))

/-- BOOT_ROM_START (R534). The Guard's self-check comes first at a boot; a Guard that fails it halts the device (01 R37, 14 R434). -/
def romStarts (guardOk : Bool) (s : State) : State :=
  if !romDue s then s
  else if s.mode = .boot && !guardOk then toHalt 1 (fault 0x11 0 0 s)
  else
    let c := chooseSlot s
    let k := c.1 % 2
    let t := c.2
    if slotValid t k then startSlot k t
    else
      let t := fault 0x14 10 k t
      if slotValid t (1 - k) then startSlot (1 - k) t
      else
        let t := fault 0x14 10 (1 - k) t
        if t.mode = .boot then t.onSec fun x => { x with noSlot := true } else t

/-- PROVISION_ENTRY (R535, R386): Grengon serves; the BAR2 window takes the lowest-numbered channel in service. -/
def provisionEnters (s : State) : State :=
  if s.mode = .boot && s.keeper.started then
    let t := s.onPool fun p => { p with window := (List.range 4).find? fun d => (s.chan d).state == 0 }
    enterMode .provision (t.onKeeper fun k => { k with present := true, serving := true })
  else s

/-! ### Restarts (R431, R442, R443) -/

/-- A restart attempt begins: source 226. -/
def beginAttempt (s : State) : State :=
  raise 226 (s.onGuard fun g => { g with attempting := true, attempts := min 15 (g.attempts + 1) })

def attemptMode (s : State) : Bool :=
  s.guard.keeperLost && !s.guard.attempting && s.mode ∈ [.autopilot, .maintenance, .isolate]

/-- RESTART_ATTEMPT: after a critical fault, up to restart_limit attempts in all (R443). -/
def restartAttempts (s : State) : State :=
  if attemptMode s && s.guard.apCause = 1 && s.guard.attempts < s.guard.restartLimit then beginAttempt s else s

/-- GD_CTRL restart (R443). -/
def gdRestarts (key : Nat) (s : State) : State :=
  if key % 256 = 0xA5 && attemptMode s && !s.guard.storm then beginAttempt s else s

/-- RESTART_TIMEOUT: 2 s passed without service (R431): an attempt ends, or the update's Quiesce does. -/
def restartExpires (s : State) : State :=
  if s.guard.attempting then
    let t := fault 0x04 10 s.keeper.fwSlot s
    let t := holdCores (t.onKeeper fun k => { k with started := false, present := false, serving := false })
    t.onGuard fun g => { g with attempting := false, clusterRun := false }
  else quiesceExpires s

/-- The Keeper takes in and releases the merged snapshot buffers (R28, R444 step 2). -/
def releaseMerged (s : State) : State :=
  let free (x : Snapshot) : Snapshot := if x.consumed then { x with unreleased := false } else x
  (beatHandler s).onClk fun c => { c with snapA := free c.snapA, snapB := free c.snapB }

/-- The mode that a resumed Keeper goes to (R444 step 4, R538, R440). -/
def resumeMode (s : State) : State :=
  let from' (m : Mode) : Mode := if m = .provision then .provision else if s.hive.token then .carry else .shadow
  match s.mode with
  | .autopilot => raise 218 (enterMode (from' s.apFrom) s)
  | .quiesce => enterMode s.quiesceFrom s
  | .lean =>
    if s.power.leanFrom = .quiesce then refreshHive (s.onPower fun p => { p with leanFrom := s.quiesceFrom })
    else if s.power.leanFrom = .autopilot then
      raise 218 (refreshHive (s.onPower fun p => { p with leanFrom := from' s.apFrom }))
    else s
  | _ => s

/-- Marks the commands that the queues hold as stored during an outage (13 R408). -/
def markLate (s : State) : State :=
  [0, 1].foldl (fun s p => [0, 1, 2, 3].foldl (fun s q => s.onCmdQ p q fun c => { c with late := c.words.length }) s) s

/-- KEEPER_RESUME (R444, R424, R429). -/
def keeperResumes (s : State) : State :=
  if s.keeper.started && !s.keeper.serving && s.mode ≠ .boot then
    let t := s.onKeeper fun k => { k with present := true, serving := true }
    let t := t.onGuard fun g => { g with keeperLost := false, autopilot := false, attempting := false }
    let t := resolveWhere true (fun x => x.cls == 4) (releaseMerged t)
    let t := markLate (resumeMode t)
    let t := notify 0x01 0x80 [(1, 1), (1, 0), (2, 0), (4, 0), (8, t.now)] (raise 192 t)
    answerAll t.clk.lost stTimeout 0 (t.onClk fun c => { c with lost := [] })
  else s

/-! ### DDR5 at boot (R484, R234, R543) -/

/-- The highest rate that every module supports (R234). -/
def commonRate (s : State) : Nat :=
  let rates := (List.range 4).filterMap fun d => if (s.chan d).size = 0 then none else some (s.chan d).maxRate
  rates.foldl min (rates.headD 0)

/-- DDR_BOOT_TRAINING_DONE: 0 passed, 1 failed (cause 6), 2 a module of another kind (cause 7) (R483, R484). Size 0 is an
empty channel. -/
def bootTrained (d size ranks rate outcome : Nat) (s : State) : State :=
  if 4 ≤ d || s.mode ≠ .boot || size = 0 || (s.chan d).size ≠ 0 then s
  else
    let t := s.onChan d fun c => { c with size := size, ranks := ranks, maxRate := rate }
    let t := if outcome = 0 then setChan d 0 0 t else fault 0x0B 4 d (setChan d 1 (if outcome = 2 then 7 else 6) t)
    t.onPool fun p => { p with rate := commonRate t }

/-- BAR2 bytes of a region read as zero from now on (R386: region r is segment r). -/
def zeroRegion (r : Nat) (s : State) : State :=
  s.onBus fun b => { b with bar2 := b.bar2.filter fun c => c.1 / 2 ^ 25 != r }

/-- Zero with valid ECC in the words of an SRAM region (R520). -/
def zeroSram (r : Nat) (s : State) : State :=
  s.onBus fun b => { b with
    sram := b.sram.filter fun c => c.1 / 2 ^ 16 != r, sramWrong := b.sramWrong.filter fun e => e.1 / 2 ^ 13 != r }

/-- DDR_REGION_CLEAR_DONE: the clear of a region starts when its channel finished its boot training (R543). -/
def regionCleared (r : Nat) (s : State) : State :=
  let g : DdrRegion := tget {} s.sec.ddr r
  if r < 32 && g.clearing && (s.chan g.channel).state == 0 && s.sec.worldWait.isNone then
    zeroRegion r (s.onSec fun c => { c with ddr := tput {} c.ddr r { g with clearing := false } })
  else s

/-! ### Changes of the world map (R517-R520, 15 R485) -/

def State.region' (s : State) (r : Nat) : DdrRegion := tget {} s.sec.ddr r

/-- Units of 32 MiB in the region area of a channel (15 R485). -/
def regionUnits (d : Nat) (s : State) : Nat := ((s.chan d).size * 1000000000 - 12884901888) / 2 ^ 25

/-- A DDR5 region that lies outside its channel's area or on another region. -/
def regionClash (a : SecWorldArgs) (s : State) : Bool :=
  a.size != 0 && (regionUnits a.channel s < a.base + a.size ||
    (List.range 32).any fun r =>
      let g := s.region' r
      r != a.index && g.size != 0 && g.channel == a.channel && meets a.base a.size g.base g.size)

/-- Class F fields of a region that has a size. -/
def regionFrozen (a : SecWorldArgs) (s : State) : Bool :=
  let g := s.region' a.index
  g.size != 0 && (g.channel != a.channel || g.base != a.base || g.size != a.size || g.clearOnWake != (a.clearOnWake == 1))

/-- A change starts: a region that opens is cleared first (R520). Answers the status of a command that ends at once. -/
def changeWorld (w : Waiter) (a : SecWorldArgs) (s : State) : Option Nat × State :=
  let clears (t : State) : Option Nat × State := (none, t.onSec fun c => { c with worldWait := some (w, a.kind, a.index) })
  match a.kind with
  | 0 => (some stOk, s.onSec fun c => { c with blocks := if a.world = 1 then insertNat a.index c.blocks else c.blocks.filter (· != a.index) })
  | 1 =>
    if a.world = 1 then (some stOk, s.onSec fun c => { c with sram := insertNat a.index c.sram })
    else if s.sec.sram.contains a.index then clears s
    else (some stOk, s)
  | _ =>
    let g := s.region' a.index
    let n : DdrRegion := { g with channel := a.channel, base := a.base, size := a.size, clearOnWake := a.clearOnWake == 1 }
    let put (x : DdrRegion) : State := s.onSec fun c => { c with ddr := tput {} c.ddr a.index x }
    if regionFrozen a s then (some stFrozen, s)
    else if regionClash a s then (some stBadArg, s)
    else if a.world = 1 then (some stOk, put { n with isSealed := true })
    else if g.isSealed && n.size ≠ 0 then clears (put { n with clearing := true })
    else (some stOk, put { n with isSealed := false })

/-- Commands that waited for a clear to end: each starts when the one before it has ended (log 120). -/
def changesNext (l : List (Waiter × SecWorldArgs)) (s : State) : State :=
  l.foldl (fun s x =>
    if s.sec.worldWait.isSome then s.onSec fun c => { c with worldQueue := c.worldQueue ++ [x] }
    else match changeWorld x.1 x.2 s with
      | (none, t) => t
      | (some st, t) => answer x.1 st 0 t) (s.onSec fun c => { c with worldQueue := [] })

/-- WORLD_CLEAR_DONE: the region opens and sec.world is answered (R520). -/
def worldCleared (s : State) : State :=
  match s.sec.worldWait with
  | some (w, kind, r) =>
    let t := s.onSec fun c => { c with worldWait := none }
    let t := if kind = 1 then zeroSram r (t.onSec fun c => { c with sram := c.sram.filter (· != r) })
      else
        let g : DdrRegion := tget {} t.sec.ddr r
        zeroRegion r (t.onSec fun c => { c with ddr := tput {} c.ddr r { g with clearing := false, isSealed := false } })
    changesNext s.sec.worldQueue (answer w stOk 0 t)
  | none => s

/-! ### OTP, flash and the update (R528, R536-R538) -/

/-- OTP_PROGRAM_DONE: not confirmed within 500 ms means that the state after it is either one (R528). -/
def otpDone (ok : Bool) (s : State) : State :=
  match s.sec.lifeWait with
  | some w =>
    let t := s.onSec fun c => { c with lifeWait := none }
    if ok then answer w stOk 0 t
    else
      let took := Config.free 14 s.fresh % 2 = 0
      answer w stTimeout 0 (t.onSec fun c => { c with lifePend := if took then c.lifePend else none }).draw
  | none => s

/-- What a finished save leaves in flash (R83, R338, R549). -/
def flashHolds (kind : Nat) (w : Waiter) (s : State) : State :=
  match kind, w.kind with
  | 1, .laneCal a => s.onSec fun c =>
    { c with
      calFlash := tput {} (if c.calOk then c.calFlash else []) (4 * a.lane + a.group) ⟨a.swing, a.pre, a.post, a.ctle⟩
      calOk := true }
  | 2, _ => s.onSec fun c => { c with modelFlash := some (savedModel s.scout) }
  | 3, .powerTable slot e => s.onSec fun c =>
    { c with ptableFlash := tput (factoryEntry slot) (if c.ptableOk then c.ptableFlash else []) slot e, ptableOk := true }
  | _, _ => s

/-- FLASH_WRITE_DONE: the oldest save in hand is written, or its 500 ms have passed (R83, R338, R549). -/
def flashDone (ok : Bool) (s : State) : State :=
  match s.sec.saving with
  | (kind, status, w) :: rest =>
    let t := s.onSec fun c => { c with saving := rest }
    if ok then answer w status 0 (flashHolds kind w t) else answer w stTimeout 0 t
  | [] => s

/-- UPDATE_DATA_DONE: the transfer lies in the target slot at its offset (R537), whose hashes are those of its bytes now (R533). -/
def dataDone (p offset : Nat) (bytes : List Byte) (s : State) : State :=
  match s.sec.dataWait with
  | some w =>
    if w.hdr.port ≠ p || s.sec.updState = 0 then s
    else
      let k := 1 - s.keeper.fwSlot
      let x := s.slotOf k
      let y := if offset = 0 then parseHeader bytes x else x
      let y := { y with image := memWrite y.image offset bytes, written := y.written + bytes.length }.hashed
      let t := (setSlot k y s).onSec fun c => { c with dataWait := none, updDirty := true, updState := 1, updBeat := s.now }
      answer w stOk 0 t
  | none => s

/-- The Keeper enters Quiesce for an update (R538): control block, notification, restart. Its answer goes out first. -/
def enterQuiesce (w : Waiter) (s : State) : State :=
  let t := writeBlock (1 - s.keeper.fwSlot) 1 0 s
  let t := t.onSec fun c => { c with activating := none, updState := 3, updBeat := s.now }
  let t := answer w stOk 0 t
  let t := notify 0x01 0x80 [(1, 3), (1, 0), (2, 0), (4, 0), (8, t.now)] t
  let t := { t with quiesceFrom := t.mode }
  let t := t.onKeeper fun k => { k with present := false, serving := false, started := false }
  enterMode .quiesce (t.onGuard fun g => { g with clusterRun := false })

/-- Activate proceeds once no batch is open and no complete ticket is left (R538). -/
def tryActivate (s : State) : State :=
  match s.sec.activating with
  | some w =>
    if s.clk.batchA.isNone && s.clk.batchB.isNone && s.clk.tickets.isEmpty && s.keeper.serving then enterQuiesce w s else s
  | none => s

/-- ACTIVATE_WAIT_EXPIRY: its 1 s has passed (R538). -/
def activateExpires (s : State) : State :=
  match s.sec.activating with
  | some w => answer w stBusy 0 (s.onSec fun c => { c with activating := none })
  | none => s

/-- NONCE_EXPIRY (R522). -/
def nonceExpires (p : Nat) (s : State) : State := if p < 2 then s.onChal p fun c => { c with nonce := none } else s

/-- CHALLENGE_LOCK_EXPIRY (R524). -/
def lockExpires (p : Nat) (s : State) : State :=
  if p < 2 then s.onChal p fun c => if c.locked then { c with locked := false, fails := 0 } else c else s

/-- CHANNEL_RETURN_DONE answers the pool.channel that asked for the return (R254). -/
def returnDone (d : Nat) (s : State) : State :=
  let t := channelReturned d s
  if (t.chan d).state = 0 then
    let ws := t.pool.waiters.filter fun w => w.1 == d
    answerAll (ws.map Prod.snd) stOk 0 (t.onPool fun p => { p with waiters := p.waiters.filter fun w => w.1 != d })
  else t

def execBootRomStart (guardOk : Bool) (s : State) : Out := done s (romStarts guardOk s)
def execProvisionEntry (s : State) : Out := done s (provisionEnters s)
def execRestartAttempt (s : State) : Out := done s (restartAttempts s)
def execGdRestart (key : Nat) (s : State) : Out := done s (gdRestarts key s)
def execRestartTimeout (s : State) : Out := done s (restartExpires s)
def execKeeperResume (s : State) : Out := done s (keeperResumes s)
def execDdrBootTrainingDone (d size ranks rate outcome : Nat) (s : State) : Out := done s (bootTrained d size ranks rate outcome s)
def execDdrRegionClearDone (r : Nat) (s : State) : Out := done s (regionCleared r s)
def execWorldClearDone (s : State) : Out := done s (worldCleared s)
def execOtpProgramDone (ok : Bool) (s : State) : Out := done s (otpDone ok s)
def execFlashWriteDone (ok : Bool) (s : State) : Out := done s (flashDone ok s)
def execUpdateDataDone (p offset : Nat) (bytes : List Byte) (s : State) : Out := done s (dataDone p offset bytes s)
def execActivateWaitExpiry (s : State) : Out := done s (activateExpires s)
def execNonceExpiry (p : Nat) (s : State) : Out := done s (nonceExpires p s)
def execChallengeLockExpiry (p : Nat) (s : State) : Out := done s (lockExpires p s)
def execChannelTrainingDone (d size ranks rate outcome : Nat) (s : State) : Out := done s (channelTrained d size ranks rate outcome s)
def execChannelReturnDone (d : Nat) (s : State) : Out := done s (returnDone d s)

end Sys2Proof.Machine
end

