-- ==== Sys2Proof/Machine/Mirror.lean ====
section
/-!
DEFINITION. Machine/Mirror.lean: the hive mirror engine: records of the active, gaps, late tickets, resynchronisation and the
snapshot of a join (12 R363-R366, R375, R376; 02 R33).
-/

namespace Sys2Proof.Machine

open Sys2Proof

/-- The first boundary of a class after beat `n` (R55). -/
def nextBoundary (cls n : Nat) : Nat := (n / classPeriod cls + 1) * classPeriod cls

/-- The close of a mirrored ticket: applied at its target, or, when it came too late, at the next boundary of its class,
whatever changes that boundary already holds (R33, R364; log 122). -/
def mirrorClose (t cls target : Nat) (s : State) : State :=
  let cs := (s.hive.incoming.filter fun e => e.1 == t).flatMap Prod.snd
  let late := target ≤ s.now
  let at_ := if late then nextBoundary cls s.now else target
  let k : Ticket := { id := t, bclass := cls, target := at_, changes := cs, armed := true, moved := late, mirrored := true }
  let u := s.onHive fun h => { h with incoming := h.incoming.filter fun e => e.1 != t }
  let u := u.onClk fun c => { c with tickets := c.tickets ++ [k] }
  if late then
    raise 124 ((u.onClk fun c => { c with ovHive := satAdd 32 c.ovHive 1 }).onHive fun h => { h with onTime := 0 })
  else u

/-- A group follows the mirrored request, selector and timers (09 R283). -/
def mirrorProt (n request : Nat) (selected : Bool) (holdW holdP wtr : Nat) (s : State) : State :=
  let left (x : Nat) : Option Nat := if x = 0 then none else some (x - 1)
  let p := match (s.group n).lanes with
    | some (_, p) => s.sdhOf p
    | none => {}
  let t := s.onGroup n fun g =>
    ({ g with request := request, holdW := left holdW, holdP := left holdP, wtrLeft := wtr } : ProtGroup).sendK p
  askMove n selected t

/-- The mirrored Scout state (11 R345, R346): a locked standby keeps its own word. -/
def mirrorScout (word phi : Int) (base : Option (Int × Int × Nat)) (aging : Int) (agingOk : Bool) (onsets : List (Nat × Nat))
    (s : State) : State :=
  let t := s.onScout fun x =>
    { x with
      word := if x.state == .locked then x.word else word
      phi := phi, base := base, aging := aging, agingOk := agingOk, agingAt := s.now }
  onsets.foldl (fun t e => t.onInp e.1 fun i => { i with onset := e.2 }) t

def mirrorBinsIn (first : Nat) (values : List (Int × Nat)) (s : State) : State :=
  s.onScout fun x => { x with
    model := (values.zipIdx first).foldl (fun m e => tput {} m e.2 ⟨e.1.1, e.1.2⟩) x.model }

/-- One record of the live stream is applied (R364). A fault entry of the active stays its own. -/
def applyMirror (r : MirrorRec) (s : State) : State :=
  match r with
  | .fill | .fault .. | .chunk .. | .snapEnd => s
  | .shadow t cs => s.onHive fun h => { h with incoming := h.incoming ++ [(t, cs)] }
  | .close t cls target => mirrorClose t cls target s
  | .live ls => s.onHive fun h => { h with pendLive := h.pendLive ++ ls }
  | .prot n request selected holdW holdP wtr => mirrorProt n request selected holdW holdP wtr s
  | .scout word phi base aging agingOk onsets => mirrorScout word phi base aging agingOk onsets s
  | .bins first values => mirrorBinsIn first values s

/-- Records held back until the snapshot is loaded (R375). -/
def heldBack : MirrorRec → Bool
  | .fill | .chunk .. | .snapEnd => false
  | _ => true

/-- Takes a record in order: a chunk in a loaded standby starts a full resynchronisation (R376). -/
def takeRecord (r : MirrorRec) (s : State) : State :=
  match r with
  | .chunk .. =>
    s.onHive fun h =>
      if h.loaded then { h with resync := true, loaded := false, snapSeen := false, chunks := [r], buffered := [] }
      else { h with chunks := h.chunks ++ [r] }
  | .snapEnd => s.onHive fun h => { h with snapSeen := !h.loaded }
  | _ =>
    if !s.hive.loaded && heldBack r then
      (if s.hive.chunks = [] then s else s.onHive fun h => { h with buffered := h.buffered ++ [r] })
    else applyMirror r s

def MirrorRec.isChunk : MirrorRec → Bool
  | .chunk .. => true
  | _ => false

/-- MIRROR_RECORD_RX: a record that fails its CRC, or out of sequence, opens a gap (R365); the one expected closes it. -/
def mirrorIn (seq : Nat) (crcOk : Bool) (r : MirrorRec) (s : State) : State :=
  let h := s.hive
  if h.token || !(h.halfA || h.halfB) then s
  else if !crcOk then openGap s
  else
    let expected := (h.rxSeq + 1) % 2 ^ 32
    let fresh : Bool := MirrorRec.isChunk r && h.chunks.isEmpty || MirrorRec.isChunk r && h.loaded || (!h.loaded && h.chunks.isEmpty)
    if seq = expected || fresh then
      let t := s.onHive fun h => { h with rxSeq := seq, gap := false }
      takeRecord r (raiseIf h.gap 123 t)
    else openGap s

/-- The snapshot's configuration is loaded at once: it is the configuration in force of the active (R375). -/
def loadChunk (r : MirrorRec) (s : State) : State :=
  match r with
  | .chunk cs ls => applyLives ls (applyChanges cs s)
  | _ => s

/-- A device that joins enters Shadow; hive.join or sys.mode 4 is answered (R375, 12 hive.config). -/
def joinEnds (s : State) : State :=
  if s.mode = .provision && (s.hive.joining.isSome || s.hive.joinMode) then
    let t := enterMode .shadow s
    let t := answerOpt t.hive.joining stOk 0 (t.onHive fun h => { h with joining := none, joinMode := false })
    match s.hive.joinMode, t.keeper.modeWait with
    | true, some (_, w) => answer w stOk 0 (t.onKeeper fun k => { k with modeWait := none })
    | _, _ => t
  else s

/-- SNAPSHOT_LOADED (R375, R376). The response's b_s is not in any record: it is a free value (log 4). -/
def snapshotLoads (s : State) : State :=
  let h := s.hive
  if h.snapSeen && !h.loaded then
    let b := Config.free 18 s.fresh % 2 ^ 48
    let t := h.chunks.foldl (fun s r => loadChunk r s) s
    let t := t.onHive fun h =>
      { h with
        loaded := true, resync := false, gap := false, snapSeen := false, chunks := [], buffered := [], generation := 0
        onTime := 0, joinSnap := b }
    let t := h.buffered.foldl (fun s r => applyMirror r s) t
    joinEnds (raise 125 t).draw
  else s

def execMirrorRecordRx (seq : Nat) (crcOk : Bool) (r : MirrorRec) (s : State) : Out := done s (mirrorIn seq crcOk r s)
def execSnapshotLoaded (s : State) : Out := done s (snapshotLoads s)

end Sys2Proof.Machine
end

