-- ==== Sys2Proof/Machine/Beat.lean ====
section
/-!
DEFINITION. Machine/Beat.lean: the beat strobe, the start of the beat, and tickets taking effect at their boundary
(02 R40-R68, 01 R24-R33).
-/

namespace Sys2Proof.Machine

open Sys2Proof

/-! ### Tickets (R24, R58-R66) -/

/-- Whether a ticket takes effect now: armed, or about to be armed by a serving Keeper, at its boundary (R61, R66). Before
the beat starts there are no boundaries (R592). -/
def ticketDue (s : State) (k : Ticket) : Bool := (k.armed || s.keeper.serving) && (!s.clk.started || k.target ≤ s.now)

/-- A ticket takes effect in every unit it touches, and what waits for it is answered (R24, R61, R592); source 74
says that it held connections (06 R196). A mirrored batch that was late starts the standby's readiness anew (01 R33). -/
def applyTicket (k : Ticket) (s : State) : State :=
  let t := moveHandover k.changes (applyChanges k.changes s)
  let t := raiseIf (0 < supersOf k.changes + broodsOf k.changes) 74 t
  let t := if k.mirrored then t.onHive fun h => { h with
    generation := (h.generation + 1) % 2 ^ 32, onTime := if k.moved then 0 else h.onTime } else t
  k.waiters.foldl (fun s w =>
    answerApplied w (if k.moved && s.clk.started then stCapMissed else stOk) (if s.clk.started then s.now else 0) s) t

/-- The tickets of a boundary, in the order in which they were completed (R65). -/
def applyDue (s : State) : State :=
  let due := s.clk.tickets.filter (ticketDue s)
  due.foldl (fun s k => applyTicket k s) (s.onClk fun c => { c with tickets := c.tickets.filter fun k => !ticketDue s k })

/-- TICKET_APPLY: a ticket whose boundary is the beat in hand. -/
def ticketApplies (id : Nat) (s : State) : State :=
  match s.clk.tickets.find? fun k => k.id == id && ticketDue s k with
  | some k => tryActivate (applyTicket k (s.onClk fun c => { c with tickets := c.tickets.filter fun x => x.id != id }))
  | none => s

/-- TICKET_ARM (R66). -/
def ticketArms (id : Nat) (s : State) : State :=
  if s.keeper.serving then
    s.onClk fun c => { c with tickets := c.tickets.map fun k => if k.id = id then { k with armed := true } else k }
  else s

/-! ### The beat (R44-R53) -/

/-- On a phase reference the strobe of beat 0 falls pps_comp before its next PPS edge (R339); where the phase domain then stands against
the frequency domain is a free value (log 8). -/
def startPhase (k : ReplyKind) (s : State) : State :=
  match k with
  | .start 2 => s
  | _ => (s.onScout fun x => { x with phi := freeInt 33 s.fresh (4000 * 10 ^ 10) }).draw

/-- BEAT_START (R44, R46, R339): once after reset, in Provision, at the epoch of scout.start or, on a joining device, at
the mate's beat. -/
def beatStarts (s : State) : State :=
  if s.clk.started || s.mode != .provision then s
  else
    match s.clk.startPend with
    | some w => answer w stOk 0 ((startPhase w.kind s).onClk fun c => { c with started := true, beat := 0, startPend := none })
    | none =>
      if s.hive.joining.isSome || s.hive.joinMode then
        s.onClk fun c => { c with started := true, beat := s.hive.mateBeat % 2 ^ 48 }
      else s

/-- UNIT_PIPELINE_OVERRUN (R52, R53): a tile, a nurse unit or a Comb region; the summary source of the unit. -/
def pipelineOverruns (kind index : Nat) (s : State) : State :=
  let ok : Bool := match kind with
    | 1 => index < 34
    | 2 => index < 25
    | 3 => index < 64
    | _ => false
  if ok && s.clk.started then
    let t := s.onClk fun c => { c with pipeLate := (kind, index) :: c.pipeLate, ovPipe := satAdd 32 c.ovPipe 1 }
    let t := t.onGuard fun g => { g with pipeOk := tput 0 g.pipeOk (kind * 4096 + index) 0 }
    raise (match kind with | 1 => index | 2 => 34 + index | _ => 69) (fault 0x06 kind index t)
  else s

/-- Fault 0x06 of a unit is resolved by 8,000 beats in a row without an overrun (14 R434). -/
def beatPipeline (s : State) : State :=
  (List.range 16).foldl (fun s e =>
    let x := s.fqe e
    if x.valid && x.code == 0x06 then
      let n := tget 0 s.guard.pipeOk x.unit + 1
      if 8000 ≤ n then resolveEntry e false (s.onGuard fun g => { g with pipeOk := tput 0 g.pipeOk x.unit 0 })
      else s.onGuard fun g => { g with pipeOk := tput 0 g.pipeOk x.unit n }
    else s) s

/-- Leases count down in ms (13 R413); in Quiesce they stand still (17 R539). -/
def beatLeases (s : State) : State :=
  if s.now % flightBeats = 0 && s.mode != .quiesce then
    { s with sems := tmap {} (fun _ m => { m with left := m.left - 1 }) s.sems }
  else s

/-- What the active device mirrors in a beat (12 R363): Scout state, and the whole model each hour. -/
def beatMirror (s : State) : State :=
  if s.hive.token then
    let t := mirrorSend (scoutRecord s) s
    if s.now % 28800000 = 0 then mirrorBins 0 540 t else t
  else s

/-- Class L writes of the mirror take effect at the boundary after their record (12 R364); so does a DMA enable (13 R416). -/
def beatPending (s : State) : State :=
  let t := applyLives s.hive.pendLive (s.onHive fun h => { h with pendLive := [] })
  { t with ports := tmap {} (fun _ w => { w with
      rings := tmap {} (fun _ r => match r.pendEnable with
        | some b => ringEnabled b r
        | none => r) w.rings }) t.ports }

/-- What a beat leaves behind: the overrun mark of the handler (R54), units that were late, margins, moved selectors. -/
def beatClears (s : State) : State :=
  let second := s.now % secondBeats = 0
  let t := s.onClk fun c => { c with handlerRun := if c.handlerLate then c.handlerRun else 0, handlerLate := false, pipeLate := [] }
  let t := t.onPool fun p => { p with
    channels := tmap {} (fun _ c => { c with uncSecond := if second then 0 else c.uncSecond }) p.channels }
  { t with prot := tmap {} beatGroup t.prot }

/-- Units in one beat, after its tickets. -/
def beatUnits (s : State) : State :=
  let t := beatFabric (beatLanes s)
  let t := { t with paths := tmap {} beatPath t.paths }
  let t := t.sdh.foldl (fun s e => beatSdh e.1 s) t
  let t := t.cpri.foldl (fun s e => beatCpri e.1 s) t
  let t := t.prot.foldl (fun s e => beatPair e.1 s) t
  if t.now % secondBeats = 0 then t.cpri.foldl (fun s e => frqCheck e.1 s) t else t

/-- The bulk read-outs in hand: every record is written or dropped, and the command is answered (10 R302). -/
def beatBulk (s : State) : State :=
  s.pm.bulk.foldl (fun t b =>
    let r := bulkWrite b.2 t
    answer { b.1 with kind := .bulk r.2.1 r.2.2 } stOk 0 r.1) (s.onPm fun p => { p with bulk := [] })

/-- Boundaries of the management plane in one beat. -/
def beatKeeping (s : State) : State :=
  let t := beatHive (beatMirror (beatOutputs (beatScout (beatBulk s))))
  let t := if t.now % secondBeats = 0 then secondBins t else t
  beatTracers (beatRails (beatLean (beatPipeline (beatLeases t))))

/-- BEAT: the snapshot of the beat that ends, then beat n with its tickets, its data plane and its timers (R47). -/
def beatNext (s : State) : State :=
  if !s.clk.started then s
  else
    let t := writeSnapshot s
    let t := tickIf s.keeper.serving 128 noUnit (t.onClk fun c => { c with beat := (c.beat + 1) % 2 ^ 48 })
    let t := leanTwins (beatMoves (tryActivate (beatPending (applyDue t))))
    beatClears (beatKeeping (beatUnits t))

def execBeat (s : State) : Out := done s (beatNext s)
def execBeatStart (s : State) : Out := done s (beatStarts s)
def execTicketArm (id : Nat) (s : State) : Out := done s (ticketArms id s)
def execTicketApply (id : Nat) (s : State) : Out := done s (ticketApplies id s)
def execUnitPipelineOverrun (kind index : Nat) (s : State) : Out := done s (pipelineOverruns kind index s)

end Sys2Proof.Machine
end

