-- ==== Sys2Proof/Machine/Capping.lean ====
section
/-!
DEFINITION. Machine/Capping.lean: what every service command has in common: its gates (13 R404, R410, R422; 02 R68, R371),
class L writes, joining a batch, and the ticket of a command or batch (02 R58-R67).
-/

namespace Sys2Proof.Machine

open Sys2Proof

/-- What a command's own rules make of it, once the gates let it pass. -/
inductive Act where
  /-- A refusal whose fields read 0 (R407). -/
  | refuse (status : Nat)
  /-- An answer now with these fields; the state after it. -/
  | ok (fs : Fields) (t : State)
  /-- A refusal that keeps its fields (R407). -/
  | refuseWith (status : Nat) (fs : Fields)
  /-- Class C changes: join the open batch or form a ticket. `t` holds the command's other effects. -/
  | cap (cs : List Change) (kind : ReplyKind) (t : State)
  /-- A refusal that changes the state (a spent nonce, a closed batch). -/
  | fails (status : Nat) (t : State)
  /-- Answered later by a step. -/
  | later (t : State)

/-- Zero fields of the given sizes, as a refused command answers (R407). -/
def zeros (sizes : List Nat) : Fields := sizes.map fun n => (n, 0)

/-- Modes in which no capping command is accepted (R68, R544). -/
def capBlocked (m : Mode) : Bool := m ∈ [.shadow, .halt, .isolate, .lean]

/-- A command that only its domain's session may send (R410). -/
def noDomain (h : Hdr) (svc : Nat) (s : State) : Bool := !holdsDomain s h.port svc

/-- The gates, in order: agreed version, session, mode, pending hive switch (R422, R410, R68, R371). -/
def gate (h : Hdr) (locked cap : Bool) (s : State) : Option Nat :=
  if (s.port h.port).version.isNone then some stVersion
  else if locked then some stLocked
  else if cap && capBlocked s.mode then some stNotInMode
  else if cap && s.hive.token && s.hive.switchPend.isSome then some stBusy
  else none

/-- A command that would join an open batch and is refused marks it failed; the first status stays (R63). -/
def failBatch (p status : Nat) (s : State) : State :=
  match s.batchOf p with
  | some b => if b.failed.isNone then s.setBatch p (some { b with failed := some status }) else s
  | none => s

/-- A refusal: nothing changes but the mark on a batch (R15, R63). -/
def refuseCommand (h : Hdr) (svc cmd : Nat) (cap : Bool) (status : Nat) (shape : Fields) (s : State) : State :=
  respondRaw h svc cmd status shape (if cap then failBatch h.port status s else s)

/-! ### Tickets (R57-R62, R67) -/

/-- Connections already due at a boundary. -/
def supersAt (s : State) (b : Nat) : Nat :=
  ((s.clk.tickets.filter fun k => k.target == b).map fun k => supersOf k.changes).sum
def broodsAt (s : State) (b : Nat) : Nat :=
  ((s.clk.tickets.filter fun k => k.target == b).map fun k => broodsOf k.changes).sum

/-- Moves a target to the next boundary of its class until it is in time and within the limits (R57, R61). -/
def fitTarget (s : State) (cls superN broodN us : Nat) : Nat → Nat → Bool → Nat × Bool
  | 0, target, moved => (target, moved)
  | k + 1, target, moved =>
    if (target = s.now + 1 && 117 < us) || 4096 < supersAt s target + superN || 65536 < broodsAt s target + broodN then
      fitTarget s cls superN broodN us k (target + classPeriod cls) true
    else (target, moved)

/-- A complete ticket: held for its boundary, or, before the beat starts, in effect at once (R60, R592). It is mirrored
when complete (12 R363). -/
def completeTicket (id : Nat) (cs : List Change) (target : Option Nat) (us : Nat) (w : Waiter) (s : State) : State :=
  let cls := classOf cs
  let t := fitTarget s cls (supersOf cs) (broodsOf cs) us 66 (target.getD (nextBoundary cls s.now)) false
  let k : Ticket := { id := id, bclass := cls, target := t.1, changes := cs, waiters := [w], superN := supersOf cs,
                      broodN := broodsOf cs, moved := t.2 }
  if !s.clk.started then tryActivate (applyTicket k s)
  else mirrorSend (.close id cls t.1) (s.onClk fun c => { c with tickets := c.tickets ++ [k] })

/-- Draws a ticket number. -/
def takeTicket (s : State) : Nat × State :=
  (s.clk.nextTicket, s.onClk fun c => { c with nextTicket := (c.nextTicket + 1) % 2 ^ 32 })

/-- Whether a ticket fits no boundary (R62). -/
def tooLarge (cs : List Change) : Bool := 4096 < supersOf cs || 65536 < broodsOf cs

/-- Class C changes of an accepted command (R58, R62, R63, R67). `s` is the state before it, `t` after its other effects. -/
def capture (h : Hdr) (svc cmd : Nat) (shape : Fields) (cs : List Change) (kind : ReplyKind) (t s : State) : State :=
  match s.batchOf h.port with
  | some b =>
    if tooLarge (b.changes ++ cs) then refuseCommand h svc cmd true stBadArg shape s
    else
      let t := mirrorSend (.shadow b.ticket cs) (renewLeases h.port t)
      let t := t.setBatch h.port (some { b with changes := b.changes ++ cs, services := b.services ||| 2 ^ svc })
      match kind with
      | .laneCal a =>
        if a.op = 2 then answerApplied ⟨h, svc, cmd, kind⟩ stOk 0 t else respond h svc cmd stOk (replyFields t 0 kind) t
      | _ => respond h svc cmd stOk (replyFields t 0 kind) t
  | none =>
    if tooLarge cs then refuseCommand h svc cmd false stBadArg shape s
    else if 64 ≤ s.clk.tickets.length then refuseCommand h svc cmd false stNoResource shape s
    else
      let r := takeTicket (renewLeases h.port t)
      completeTicket r.1 cs none h.us ⟨h, svc, cmd, kind⟩ (mirrorSend (.shadow r.1 cs) r.2)

/-! ### Serving a command -/

/-- Class L writes of an accepted command: at once, and mirrored (R26, R64, 12 R363). -/
def writeLive (ls : List Live) (s : State) : State :=
  if ls = [] then s else mirrorSend (.live ls) (applyLives ls s)

/-- A service command as a serving Keeper executes it (R402, R404). `locked`: it needs a session that its port lacks; `cap`:
it is a capping command (R68); `shape`: the fields of a refusal. -/
def serve (h : Hdr) (svc cmd : Nat) (locked cap : Bool) (shape : Fields) (act : Act) (s : State) : State :=
  if !s.keeper.serving || 2 ≤ h.port then s
  else match gate h locked cap s with
  | some st => refuseCommand h svc cmd (cap && svc != 1) st shape s
  | none => match act with
    | .refuse st => refuseCommand h svc cmd (cap && svc != 1) st shape s
    | .refuseWith st fs => refuseCommand h svc cmd (cap && svc != 1) st fs s
    | .ok fs t => respond h svc cmd stOk fs (renewLeases h.port t)
    | .cap cs kind t =>
      if cs = [] then respond h svc cmd stOk (replyFields t 0 kind) (renewLeases h.port t)
      else capture h svc cmd shape cs kind t s
    | .fails st t => respondRaw h svc cmd st shape t
    | .later t => renewLeases h.port t

/-! ### Class C values of a block (R13, R16, R56, R68, R136) -/

/-- The field group that a write sets: its kind and its unit. -/
def Change.key : Change → Nat × Nat
  | .lane n .. => (0, n)
  | .laneCal n group .. => (1, 4 * n + group)
  | .sdhPort a => (2, a.lane)
  | .sdhPath a => (3, 192 * a.lane + a.g)
  | .cpriPort a => (4, a.lane)
  | .axc a => (5, axcKey a.lane a.dir a.axc)
  | .super dst _ => (6, dst)
  | .brood dst .. => (7, dst)
  | .nurseVc a => (8, 192 * a.b + a.g)
  | .nurseC2 b g _ => (8, 192 * b + g)
  | .nurseTu a => (9, tuKey a.b a.g a.tu)
  | .axv a => (10, axvKey a.b a.dir a.g0)
  | .pool c => (11, c.first)
  | .prot a => (12, a.group)
  | .pmDay _ => (13, 0)
  | .pmMonitor a => (14, entKey a.ent)
  | .pmProfile i _ => (15, i)
  | .bfn _ => (16, 0)

/-- The writes that come before a new command of port `p` at a boundary of class `cls`: those of pending tickets whose
boundary is no later, then those of the port's open batch (R65, R136). With a batch open its boundary is not known yet, and
every pending ticket counts. -/
def upcoming (p cls : Nat) (s : State) : List Change :=
  let ks := s.clk.tickets.filter fun k => (s.batchOf p).isSome || !s.clk.started || k.target ≤ nextBoundary cls s.now
  (ks.flatMap fun k => k.changes) ++ (match s.batchOf p with | some b => b.changes | none => [])

/-- A pending ticket or the port's open batch already writes the field group of `c`. -/
def touched (p : Nat) (c : Change) (s : State) : Bool :=
  let all := (s.clk.tickets.flatMap fun k => k.changes) ++ (match s.batchOf p with | some b => b.changes | none => [])
  all.any fun d => Change.key d == Change.key c

/-- Whether a command changes the field group of `c`: its value differs from the one in force, or a change is pending. -/
def changes (p : Nat) (c : Change) (differs : Bool) (s : State) : Bool := differs || touched p c s

/-- The class C part of a command that sets one block. `on`: the block is enabled in force; `wants`: the command enables it;
`off`: the same settings with the block disabled, which a disabled block takes at once (R56). `live`: the command's other
writes. -/
def setBlock (p : Nat) (on wants differs : Bool) (off c : Change) (live : List Live) (kind : ReplyKind) (s : State) : Act :=
  if touched p c s || on then
    (if changes p c differs s then .cap [c] kind (writeLive live s) else .ok (replyFields s 0 kind) (writeLive live s))
  else
    let t := writeLive (live ++ (if differs then [.now off] else [])) s
    if wants then .cap [c] kind t else .ok (replyFields t 0 kind) t

/-- Answers OK with 6 reserved bytes. -/
def okStatus (t : State) : Act := .ok reserved6 t

end Sys2Proof.Machine
end

