-- ==== Sys2Proof/Machine/Flags.lean ====
section
/-!
DEFINITION. Machine/Flags.lean: how the host registers pack the state: every field of the ID_, WG_, SEM_, EV_, DMA_, TL_,
GD_, HV_ and PW_ blocks as a 64-bit value (13 R387-R394, R412, R416; 14 R460-R466; 16 R510-R512; 12 R378, R379; 18 R559-R561).
-/

namespace Sys2Proof.Machine

open Sys2Proof

/-- A signed value as a field of `w` bits. -/
def signedBits (w : Nat) (v : Int) : Nat := (v % (2 ^ w : Int)).toNat

/-! ### ID_ (13 R387, R388) -/

def idPart : Nat := 0xB09256

/-- ID_FW: the version of the running image, its slot and its build; 0 before an image runs. -/
def idFw (s : State) : Nat :=
  if s.keeper.fwVersion = 0 && s.keeper.fwBuild = 0 && s.keeper.ifVer = 0 then 0
  else s.keeper.fwVersion % 2 ^ 24 + at' 24 (s.keeper.fwSlot % 2) + at' 32 s.keeper.fwBuild

def idStatus (s : State) (p : Nat) : Nat :=
  modeNum s.mode + at' 4 (roleNum s.hive.role) + at' 6 (boolNat s.keeper.present) + at' 7 (boolNat s.keeper.serving) +
    at' 8 (boolNat s.clk.started) + at' 9 (boolNat (s.port p).version.isSome) +
    at' 10 (boolNat (s.mode == .quiesce || (s.mode == .lean && s.power.leanFrom == .quiesce))) + at' 16 (s.keeper.fwSlot % 2)

def idPort (s : State) (p : Nat) : Nat := p % 2 + at' 8 (boolNat (s.port (1 - p)).linkUp)

/-! ### WG_ (13 R389-R394) -/

def cmdStatus (c : CmdQueue) : Nat :=
  (8192 - c.words.length) + at' 16 (boolNat (8192 ≤ c.words.length)) + at' 17 (boolNat c.flush) + at' 32 c.dropped

def cmdCtrl (c : CmdQueue) : Nat := boolNat c.flush + at' 8 c.cutThrough

def cmdErr (c : CmdQueue) : Nat := boolNat c.overflow + at' 1 (boolNat c.broken)

def rspStatus (r : RspQueue) : Nat :=
  r.words.length + at' 16 (boolNat r.words.isEmpty) + at' 17 (boolNat r.flush) + at' 32 r.dropped

/-! ### SEM_ (13 R412) -/

/-- SEM_OWNED: this port's semaphores, then the other's. -/
def semOwned (s : State) (p : Nat) : Nat :=
  let mask (q : Nat) : Nat := ((List.range 32).map fun n => if (s.sem n).ownedBy q then 2 ^ n else 0).sum
  mask p + at' 32 (mask (1 - p))

/-! ### EV_ (14 R460-R463) -/

def evSrc (s : State) (n : Nat) : Nat :=
  let x := s.src n
  let own := if n = 319 then 0 else x.prio + at' 4 (boolNat x.edge) + at' 5 x.target
  own + at' 8 (boolNat x.asserted) + at' 9 (boolNat x.pends) + at' 10 (boolNat x.inService) + at' 11 (boolNat x.held) +
    at' 16 (groupOf n)

def evStackWord (s : State) (t : Nat) : Nat :=
  match s.stackOf t with
  | [] => 0
  | (n, prio) :: rest => (rest.length + 1) + at' 8 prio + at' 16 n

def evGrp (s : State) (p g : Nat) : Nat :=
  let c := s.coalOf p g
  c.count + at' 8 c.time + at' 24 (tget 7 s.ev.fallback g)

def evPend (s : State) (w : Nat) : Nat := ((List.range 64).map fun i => if (s.src (64 * w + i)).pends then 2 ^ i else 0).sum

def evErr (s : State) (p : Nat) : Nat := if p = 0 then s.ev.errA else s.ev.errB

/-! ### DMA_ (13 R416) -/

/-- A read shows the enable in force (R16). -/
def dmaCfg (r : Ring) : Nat := boolNat r.enable + at' 8 r.log2

def dmaStatus (r : Ring) : Nat := r.dropped + at' 32 (boolNat r.halted)

/-! ### TL_ (16 R510-R512) -/

def tlCnt (s : State) (n : Nat) : Nat := (s.counter n).count + at' 48 (s.now % 65536)

def tlOvf (s : State) : Nat := (s.tally.ovf.map fun n => 2 ^ n).sum

/-! ### GD_ (14 R464-R466) -/

def coreNum : Core → Nat
  | .working => 0 | .relief => 1 | .retired => 2 | .failed => 3 | .held => 4

def gdStatus (s : State) : Nat :=
  let g := s.guard
  boolNat g.keeperLost + at' 1 (boolNat g.autopilot) + at' 2 (boolNat g.storm) + at' 3 (boolNat g.isHalt) + at' 4 g.haltCause +
    at' 6 g.apCause + at' 8 g.attempts + at' 12 ((reliefCore s).getD 0) + at' 14 (boolNat (reliefCore s).isSome) +
    at' 16 s.faultTop + at' 19 s.faultsUsed

def gdCores (s : State) : Nat := ((List.range 4).map fun c => coreNum (s.coreOf c) * 2 ^ (4 * c)).sum

def gdFqInfo (s : State) : Nat := s.faultsUsed + at' 8 s.faultTop + at' 32 s.guard.overflow

def gdLast (s : State) : Nat := s.guard.lastBeat + at' 48 s.guard.lastCode + at' 56 s.guard.lastCls

def gdWdog (s : State) : Nat := s.guard.wdogCore + at' 8 s.guard.wdogCluster

def gdPolicy (s : State) : Nat := s.guard.stormPolicy + at' 1 s.guard.restartLimit

def gdFqLo (s : State) (e : Nat) : Nat :=
  let x := s.fqe e
  if x.valid then x.first + at' 48 x.code + at' 56 x.cls + at' 59 (boolNat x.isSealed) + at' 60 1 else 0

/-- A sealed entry shows no unit to an open port (R466). -/
def gdFqHi (s : State) (p e : Nat) : Nat :=
  let x := s.fqe e
  if x.valid then
    (if x.isSealed && !(s.chal p).isSealed then 0 else x.unit) + at' 16 x.repeats + at' 32 (x.last % 2 ^ 32)
  else 0

/-! ### HV_ (12 R378, R379) -/

def hvStatus (s : State) : Nat :=
  let h := s.hive
  roleNum h.role + at' 2 (boolNat h.token) + at' 3 (boolNat (h.lineFree && !h.token)) + at' 4 (boolNat h.side) +
    at' 5 (boolNat h.mateOk) + at' 6 (boolNat h.halfA) + at' 7 (boolNat h.halfB) + at' 8 (boolNat h.ready) +
    at' 9 (boolNat (mateReady s)) + at' 10 (boolNat h.bbOpen) + at' 11 (boolNat h.egressFault) +
    at' 12 (boolNat s.keeper.present) + at' 16 (modeNum s.mode) + at' 20 (field h.mateFlags 2 4) + at' 32 (h.hbMissed % 65536)

def hvTakeover (s : State) : Nat := s.hive.toBeat + at' 48 s.hive.toCause

def hvCounts (s : State) : Nat := s.hive.takeovers + at' 16 s.hive.bounces + at' 32 s.hive.hbLosses + at' 48 s.hive.gaps

/-! ### PW_ (18 R559-R561) -/

def pwStatus (s : State) : Nat :=
  let p := s.power
  p.seq + at' 4 (boolNat p.pfw) + at' 5 (boolNat p.isLean) + at' 6 (boolNat (avsOn s)) + at' 7 (boolNat p.userTable) +
    at' 8 (boolNat p.pmbusErr) + at' 16 ((p.railBad.map fun r => 2 ^ r).sum) + at' 32 p.offCause

def pwAvs (s : State) : Nat := s.power.setpoint + at' 16 (signedBits 16 s.power.avsM)

def pwPower (s : State) : Nat := s.power.mw % 2 ^ 32 + at' 32 (signedBits 16 s.power.tj)

def pwLean (s : State) : Nat := s.power.leanEntries + at' 16 s.power.leanOffs + at' 32 s.power.leanMs

def pwRail (s : State) (r : Nat) : Nat :=
  let x := s.rail r
  x.mv + at' 16 x.current + at' 32 (boolNat x.uv) + at' 33 (boolNat x.ov) + at' 34 (boolNat x.enabled) +
    at' 35 (boolNat x.good) + at' 40 ((railSlots s r).headD 0xFF)

end Sys2Proof.Machine
end

