-- ==== Sys2Proof/Machine/SvcLine.lean ====
section
/-!
DEFINITION. Machine/SvcLine.lean: the lane service (03 The lane service, R69-R96), the sdh service (04 The sdh service, R135,
R136) and the cpri service (05 The cpri service, R144, R157-R168).
-/

namespace Sys2Proof.Machine

open Sys2Proof

/-! ### What commands ask of lanes -/

/-- A lane's enable as it will be at the boundary of the command's ticket (R136). -/
def laneWill (p n : Nat) (s : State) : Bool :=
  (upcoming p 0 s).foldl (fun e c => match c with
    | .lane m en _ => if m = n then en == 1 else e
    | _ => e) ((s.lane n).enable == 1)

/-- An encoding outside the lane.config table, or a pairing that R70, R75 or R78 refuses. -/
def badLane (a : LaneArgs) : Bool :=
  259 < a.lane || 1 < a.enable || 12 < a.mode || 1 < a.align || 3 < a.polarity || 1 < a.scramble || 2 < a.loopback ||
  21 < a.losThr || 1 < a.dfeAdapt ||
  (isHiveLane a.lane && (!(a.mode ∈ [0, 12]) || a.align != 1)) || (isLineLane a.lane && a.mode == 12) ||
  (isLineLane a.lane && isSdhMode a.mode && a.align != 0) || (5 ≤ a.mode && a.mode ≤ 8 && a.scramble == 1)

/-- Class F fields of lane.config that differ from those in force. -/
def laneFDiffers (l : Lane) (a : LaneArgs) : Bool :=
  l.mode != a.mode || l.align != a.align || l.polarity != a.polarity || l.scramble != a.scramble

def laneChange (a : LaneArgs) : Change := .lane a.lane a.enable a.loopback
def laneDiffers (a : LaneArgs) (s : State) : Bool :=
  (s.lane a.lane).enable != a.enable || (s.lane a.lane).loopback != a.loopback

def laneConfigAct (p : Nat) (a : LaneArgs) (s : State) : Act :=
  let l := s.lane a.lane
  if badLane a then .refuse stBadArg
  else if l.bootFailed && a.enable = 1 then .refuse stNotInMode
  else if l.enable = 1 && laneFDiffers l a then .refuse stFrozen
  else
    let fs := if laneFDiffers l a then [Live.laneF a.lane a.mode a.align a.polarity a.scramble] else []
    setBlock p (l.enable == 1) (a.enable == 1) (laneDiffers a s) (.lane a.lane 0 a.loopback) (laneChange a)
      (fs ++ [.lane a.lane a.losThr a.dfeAdapt]) .status s

def laneConfig (h : Hdr) (a : LaneArgs) (s : State) : State :=
  serve h 2 1 (noDomain h 2 s) (changes h.port (laneChange a) (laneDiffers a s) s) reserved6 (laneConfigAct h.port a s) s

/-! ### lane.status, lane.prbs, lane.slip, lane.trim -/

def laneStatusFields (n : Nat) (s : State) : Fields :=
  let l := s.lane n
  [(2, boolNat (l.enable == 1) + 2 * boolNat l.los + 4 * boolNat l.lol + 8 * boolNat l.aligned +
      16 * boolNat l.commaSeen + 32 * boolNat l.prbsLocked + 64 * boolNat l.losForced + 128 * boolNat l.lolForced),
    (4, l.freqOffset), (4, l.cvInvalid), (4, l.cvDisparity), (4, l.slipCount), (4, l.losEvents), (8, s.now)]

def clearLane (n : Nat) (s : State) : State :=
  s.onLane n fun l => { l with cvInvalid := 0, cvDisparity := 0, slipCount := 0, losEvents := 0, commaSeen := false }

def laneStatus (h : Hdr) (n clear : Nat) (s : State) : State :=
  serve h 2 2 (clear == 1 && noDomain h 2 s) false (zeros [2, 4, 4, 4, 4, 4, 8])
    (if 259 < n || 1 < clear then .refuse stBadArg
     else .ok (laneStatusFields n s) (if clear = 1 then clearLane n s else s)) s

def prbsFields (n : Nat) (s : State) : Fields :=
  let l := s.lane n
  [(1, boolNat l.prbsLocked), (5, 0), (8, l.prbsBits), (4, l.prbsErrors)]

def lanePrbs (h : Hdr) (a : LanePrbsArgs) (s : State) : State :=
  let bad := 259 < a.lane || 4 < a.gen || 4 < a.chk || 3 < a.invert || 2 < a.action
  let t := writeLive [.prbs a] s
  serve h 2 4 (noDomain h 2 s) false (zeros [1, 5, 8, 4]) (if bad then .refuse stBadArg else .ok (prbsFields a.lane t) t) s

/-- One UI later: the boundary moves and a comma has yet to be seen there (R77). -/
def slipLane (n : Nat) (s : State) : State :=
  s.onLane n fun l => { l with position := (l.position + 1) % 10, aligned := false, commaSeen := false, skipGroups := 20 }

def laneSlip (h : Hdr) (n : Nat) (s : State) : State :=
  let l := s.lane n
  serve h 2 5 (noDomain h 2 s) false (zeros [1])
    (if 259 < n then .refuse stBadArg
     else if isHiveLane n then .refuse stLocked
     else if l.align = 0 || isSdhMode l.mode then .refuse stNotInMode
     else let t := slipLane n s; .ok [(1, (t.lane n).position)] t) s

/-- The hardware owns the trim: broad transport with rate recovery (R96, R157). -/
def trimOwned (n : Nat) (s : State) : Bool :=
  cpriUp s n && (s.cpriOf n).cfg.transport == 1 && bit (s.cpriOf n).cfg.flags 2

/-- A lane in mode 0 takes a trim that waits for its mode (R95, log 123). -/
def laneTrim (h : Hdr) (n : Nat) (trim : Int) (s : State) : State :=
  serve h 2 6 (noDomain h 2 s) false (zeros [2, 4, 4])
    (if !isLineLane n || trim < -200000 || 200000 < trim then .refuse stBadArg
     else if trimOwned n s then .refuse stLocked
     else if isSdhMode (s.lane n).mode && trim ≠ 0 then .refuse stNotInMode
     else let t := writeLive [.trim n trim] s; .ok [(2, 0), (4, (t.lane n).trimTarget), (4, (t.lane n).trim)] t) s

/-! ### lane.cal (R82-R84) -/

def calChange (a : LaneCalArgs) : Change := .laneCal a.lane a.group a.swing a.pre a.post a.ctle

/-- The group addressed is the one in use on an enabled lane. -/
def calActive (a : LaneCalArgs) (s : State) : Bool :=
  (s.lane a.lane).enable == 1 && rateGroup (s.lane a.lane).mode == some a.group

def badCal (a : LaneCalArgs) : Bool :=
  a.swing < -32 || 32 < a.swing || a.pre < -16 || 16 < a.pre || a.post < -32 || 32 < a.post || a.ctle < -15 || 15 < a.ctle

def calDiffers (a : LaneCalArgs) (s : State) : Bool := s.calOf a.lane a.group != ⟨a.swing, a.pre, a.post, a.ctle⟩

def laneCalAct (h : Hdr) (a : LaneCalArgs) (s : State) : Act :=
  if 259 < a.lane || 2 < a.op || 2 < a.group || badCal a then .refuse stBadArg
  else if a.op = 0 then .ok (calFields s a.lane a.group) s
  else if calActive a s && a.ctle ≠ (s.calOf a.lane a.group).ctle then .refuse stFrozen
  else if (calActive a s || touched h.port (calChange a) s) && changes h.port (calChange a) (calDiffers a s) s then
    .cap [calChange a] (.laneCal a) s
  else
    let t := if calDiffers a s then writeLive [.now (calChange a)] s else s
    if a.op = 2 then .later (answerApplied ⟨h, 2, 3, .laneCal a⟩ stOk 0 t) else .ok (calFields t a.lane a.group) t

def laneCal (h : Hdr) (a : LaneCalArgs) (s : State) : State :=
  serve h 2 3 (a.op != 0 && noDomain h 2 s) (a.op != 0 && changes h.port (calChange a) (calActive a s && calDiffers a s) s)
    (zeros [6, 4, 4, 4, 4]) (laneCalAct h a s) s

/-! ### sdh (04) -/

def outside (lo hi x : Nat) : Bool := x < lo || hi < x

/-- Characters whose bit 1 (the most significant, 04 R109) is 1. -/
def badChars (l : List Byte) : Bool := l.any fun b => b.msb

/-- Reserved flag bits are ignored (R17). -/
def sdhPortSeen (a : SdhPortArgs) : SdhPortArgs := { a with flags := a.flags % 32, txJ0 := a.txJ0.take 15, expJ0 := a.expJ0.take 15 }

def badSdhPort (a : SdhPortArgs) : Bool :=
  !isLineLane a.lane || 1 < a.enable || outside 4 5 a.oofCount || 809 < a.txPhase || 1 < a.j0Mode || field a.flags 2 2 == 3 ||
  2 < a.s1Mode || 15 < a.s1Value || outside 2 10 a.degM || outside 3 5 a.excK || outside 1 8000 a.degThr || outside 5 9 a.sdK ||
  badChars a.txJ0 || badChars a.expJ0

def sdhPortAct (p : Nat) (a : SdhPortArgs) (s : State) : Act :=
  let c := (s.sdhOf a.lane).cfg
  let m := (s.lane a.lane).mode
  if badSdhPort a then .refuse stBadArg
  else if !isSdhMode m || (a.enable = 1 && !laneWill p a.lane s) then .refuse stNotInMode
  else if c.enable = 1 && (c.oofCount ≠ a.oofCount || c.txPhase ≠ a.txPhase) then .refuse stFrozen
  else setBlock p (c.enable == 1) (a.enable == 1) ({ c with lane := a.lane } != a) (.sdhPort { a with enable := 0 }) (.sdhPort a) []
    .status s

def sdhPort (h : Hdr) (a0 : SdhPortArgs) (s : State) : State :=
  let a := sdhPortSeen a0
  serve h 3 1 (noDomain h 3 s) (changes h.port (.sdhPort a) ({ (s.sdhOf a.lane).cfg with lane := a.lane } != a) s) reserved6
    (sdhPortAct h.port a s) s

/-- A 16-byte trace uses the first 15 bytes; reserved flag bit 7 is ignored (R17, R111). -/
def sdhPathSeen (a : SdhPathArgs) : SdhPathArgs := { a with flags := a.flags % 128, expJ1 := a.expJ1.take 64, txJ1 := a.txJ1.take 64 }

def badSdhPath (a : SdhPathArgs) : Bool :=
  !isLineLane a.lane || 191 < a.g || outside 1 5 a.type || 1 < a.mode || 3 < a.j1Mode || 255 < a.expC2 || 255 < a.txC2 ||
  outside 2 10 a.degM || outside 3 5 a.excK || outside 1 8000 a.degThr || outside 5 9 a.sdK || field a.flags 1 2 == 3

/-- Where a path of a type may start, and that it lies below 3N (R101, R136). -/
def pathFits (a : SdhPathArgs) (top : Nat) : Bool :=
  a.g % (if a.type = 1 then 1 else pathWidth a.type) == 0 && a.g + pathWidth a.type ≤ top

def sdhPathAct (p : Nat) (a : SdhPathArgs) (s : State) : Act :=
  let c := (s.path a.lane a.g).cfg
  let m := (s.lane a.lane).mode
  let on := (s.sdhOf a.lane).cfg.enable == 1
  if badSdhPath a then .refuse stBadArg
  else if !isSdhMode m || !laneWill p a.lane s then .refuse stNotInMode
  else if !pathFits a (sdhGranules m) then .refuse stBadArg
  else if on && c.type ≠ a.type then .refuse stFrozen
  else setBlock p on false (c != a) (.sdhPath a) (.sdhPath a) [] .status s

def sdhPath (h : Hdr) (a0 : SdhPathArgs) (s : State) : State :=
  let a := sdhPathSeen a0
  serve h 3 2 (noDomain h 3 s) (changes h.port (.sdhPath a) ((s.path a.lane a.g).cfg != a) s) reserved6 (sdhPathAct h.port a s) s

/-- sdh.oh: the counts since the last one, then new settings (04). -/
def sdhOh (h : Hdr) (a0 : SdhOhArgs) (s : State) : State :=
  let a := { a0 with capture := a0.capture % 32, insert := a0.insert % 32 }
  let p := s.sdhOf a.lane
  serve h 3 3 (noDomain h 3 s) false (zeros [2, 4, 4, 4])
    (if !isLineLane a.lane || 255 < a.idleDcc || 255 < a.idleOw || 1 < a.port then .refuse stBadArg
     else if !isSdhMode (s.lane a.lane).mode || !laneWill h.port a.lane s then .refuse stNotInMode
     else .ok [(2, 0), (4, p.capDropped), (4, p.insUnderrun), (4, 0)] (writeLive [.sdhOh a] s)) s

/-- A lane as a command that only reads judges it (R136). -/
def sdhReadable (n : Nat) (s : State) : Bool := (s.lane n).enable == 1 && isSdhMode (s.lane n).mode

def ptrModeNum : PtrMode → Nat
  | .norm => 0 | .ais => 1 | .lop => 2

def sdhStatusFields (n g : Nat) (s : State) : Fields :=
  let p := s.sdhOf n
  let x : SdhPath := if g = 0xFFFF then { ptr := { mode := .norm } } else s.path n g
  [(2, 0), (4, (portDef s n).word), (4, if g = 0xFFFF then 0 else (pathDef s n g).word), (1, p.k1), (1, p.k2),
    (1, match p.s1 with | some v => v % 16 + 128 | none => 0), (1, x.c2.getD 0), (2, x.ptr.ptr + at' 12 (ptrModeNum x.ptr.mode)),
    (1, x.erdi), (1, x.n1), (4, p.b1), (4, p.b2), (4, p.msRei), (4, x.b3), (4, x.hpRei), (4, x.pjInInc), (4, x.pjInDec),
    (4, x.pjOutInc), (4, x.pjOutDec), (4, p.j0Crc), (4, 0), (8, s.now)]

def clearSdh (n g : Nat) (s : State) : State :=
  let t := s.onSdh n fun p => { p with b1 := 0, b2 := 0, msRei := 0, j0Crc := 0 }
  if g = 0xFFFF then t
  else t.onPath n g fun x => { x with b3 := 0, hpRei := 0, pjInInc := 0, pjInDec := 0, pjOutInc := 0, pjOutDec := 0 }

/-- A granule that names no path of the lane. -/
def noPath (n g : Nat) (s : State) : Bool := g != 0xFFFF && (191 < g || (s.path n g).cfg.type == 0)

def sdhStatus (h : Hdr) (n g clear : Nat) (s : State) : State :=
  serve h 3 4 (clear == 1 && noDomain h 3 s) false (zeroFields (sdhStatusFields n g s))
    (if !isLineLane n || (191 < g && g ≠ 0xFFFF) || 1 < clear then .refuse stBadArg
     else if !sdhReadable n s then .refuse stNotInMode
     else if noPath n g s then .refuse stBadArg
     else .ok (sdhStatusFields n g s) (if clear = 1 then clearSdh n g s else s)) s

/-- sdh.trace: the accepted message as received. -/
def traceFields (n g : Nat) (s : State) : Fields :=
  let long := g != 0xFFFF && 2 ≤ (s.path n g).cfg.j1Mode
  let acc := if g = 0xFFFF then (s.sdhOf n).j0.accepted else (s.path n g).j1.accepted
  let msg := acc.getD []
  let head : Fields := [(1, if long then 64 else 16), (1, boolNat acc.isSome), (4, 0)]
  head ++ bytesFields ((msg ++ List.replicate 64 0).take 64)

def sdhTrace (h : Hdr) (n g : Nat) (s : State) : State :=
  serve h 3 5 false false (zeroFields (traceFields n g s))
    (if !isLineLane n || (191 < g && g ≠ 0xFFFF) then .refuse stBadArg
     else if !sdhReadable n s then .refuse stNotInMode
     else if noPath n g s then .refuse stBadArg
     else .ok (traceFields n g s) s) s

/-! ### cpri (05) -/

def cpriPortSeen (a : CpriPortArgs) : CpriPortArgs := { a with flags := a.flags % 32 }

def badCpriPort (a : CpriPortArgs) : Bool :=
  !isLineLane a.lane || 1 < a.enable || 1 < a.role || 1 < a.transport || 2 < a.sdiMode || 7 < a.cmRate || 479 < a.txOffset ||
  (a.ethPtr != 0 && outside 20 63 a.ethPtr) || outside 1 0x7FFFFFFF a.txSeed || (bit a.flags 2 && a.transport == 0)

/-- The settings in force as a cpri.port command would state them; flags are class L. -/
def cpriNow (a : CpriPortArgs) (s : State) : CpriPortArgs := { (s.cpriOf a.lane).cfg with lane := a.lane, flags := a.flags }

def cpriPortAct (p : Nat) (a : CpriPortArgs) (s : State) : Act :=
  let c := (s.cpriOf a.lane).cfg
  if badCpriPort a then .refuse stBadArg
  else if !isCpriMode (s.lane a.lane).mode || !laneWill p a.lane s then .refuse stNotInMode
  else if c.enable = 1 && (c.role ≠ a.role || c.transport ≠ a.transport || c.txOffset ≠ a.txOffset || c.txSeed ≠ a.txSeed) then
    .refuse stFrozen
  else setBlock p (c.enable == 1) (a.enable == 1) (cpriNow a s != a) (.cpriPort { a with enable := 0 }) (.cpriPort a)
    [.cpriFlags a.lane a.flags] .status s

def cpriPort (h : Hdr) (a0 : CpriPortArgs) (s : State) : State :=
  let a := cpriPortSeen a0
  serve h 4 1 (noDomain h 4 s) (changes h.port (.cpriPort a) (cpriNow a s != a) s) reserved6 (cpriPortAct h.port a s) s

/-- An AxC's enabled settings as they will be at the boundary of the command's ticket. -/
def axcWill (p lane dir i : Nat) (s : State) : CpriAxcArgs :=
  (upcoming p 3 s).foldl (fun e c => match c with
    | .axc a => if a.lane = lane && a.dir = dir && a.axc = i then a else e
    | _ => e) (s.axc lane dir i).cfg

/-- R167: cells of one direction, and egress containers, of the port's enabled AxCs must not overlap. -/
def axcClash (p : Nat) (a : CpriAxcArgs) (s : State) : Bool :=
  (List.range 48).any fun i =>
    let b := axcWill p a.lane a.dir i s
    i != a.axc && b.enable == 1 &&
      (meets a.cellBase (axcCells a.nBits) b.cellBase (axcCells b.nBits) ||
        (a.dir == 1 && meets a.startBit a.nBits b.startBit b.nBits))

/-! ### Protection groups as they will be (09 R259, R275) -/

/-- The enabled protection groups as they will be, with every pending ticket and the port's open batch. -/
def groupsWill (p : Nat) (s : State) : List ProtGroupArgs :=
  let all := (s.clk.tickets.flatMap fun k => k.changes) ++ (match s.batchOf p with | some b => b.changes | none => [])
  let ups := all.filterMap fun c => match c with
    | .prot a => some a
    | _ => none
  let latest := ups.reverse.foldl (fun acc a => if acc.any fun b => b.group == a.group then acc else acc ++ [a]) ([] : List ProtGroupArgs)
  let old := s.prot.filterMap fun e => if latest.any fun b => b.group == e.1 then none else some { e.2.cfg with group := e.1 }
  (latest ++ old).filter fun a => a.enable == 1

/-- The lane is the protection port of an enabled CPRI 1+1 group (09 R275). -/
def cpriProtected (p lane : Nat) (s : State) : Bool :=
  (groupsWill p s).any fun a => match a.members with
    | .cpri _ q _ => q == lane
    | _ => false

/-- R160, R162: the container lies in the IQ block and its cells on the port. -/
def axcOutside (a : CpriAxcArgs) (top : Nat) : Bool :=
  top ≤ a.startBit || a.nBits == 0 || top < a.startBit + a.nBits || 16704 < a.cellBase + axcCells a.nBits

def cpriAxcAct (p : Nat) (a : CpriAxcArgs) (s : State) : Act :=
  let m := (s.lane a.lane).mode
  let c := (s.axc a.lane a.dir a.axc).cfg
  if !isLineLane a.lane || 47 < a.axc || 1 < a.dir || 1 < a.op || 1 < a.enable then .refuse stBadArg
  else if !isCpriMode m || !(if a.op = 1 then laneWill p a.lane s else (s.lane a.lane).enable == 1) then .refuse stNotInMode
  else if (s.cpriOf a.lane).cfg.transport = 1 then .refuse stNotInMode
  else if axcOutside a (iqBits (cpriOption m)) then .refuse stBadArg
  else if a.op = 0 then .ok (axcFields s a.lane a.axc a.dir) s
  else if axcClash p a s || cpriProtected p a.lane s then .refuse stBadArg
  else if c.enable = 1 && (c.startBit ≠ a.startBit || c.nBits ≠ a.nBits || c.cellBase ≠ a.cellBase) then .refuse stFrozen
  else setBlock p (c.enable == 1) (a.enable == 1) (c != a) (.axc { a with enable := 0 }) (.axc a) [] (.axc a.lane a.axc a.dir) s

def cpriAxc (h : Hdr) (a : CpriAxcArgs) (s : State) : State :=
  serve h 4 2 (a.op != 0 && noDomain h 4 s)
    (a.op != 0 && changes h.port (.axc a) ((s.axc a.lane a.dir a.axc).cfg != a) s) (zeros [2, 2, 1, 1, 4, 4, 4, 4, 4])
    (cpriAxcAct h.port a s) s

/-- cpri.cm: the counts since the last one, then new settings. -/
def cpriCm (h : Hdr) (a0 : CpriCmArgs) (s : State) : State :=
  let a := { a0 with capture := a0.capture % 8, insert := a0.insert % 8 }
  let p := s.cpriOf a.lane
  serve h 4 3 (noDomain h 4 s) false (zeros [2, 4, 4])
    (if !isLineLane a.lane || 255 < a.idleSlow || 255 < a.idleFast || 1 < a.port then .refuse stBadArg
     else if !isCpriMode (s.lane a.lane).mode || !laneWill h.port a.lane s then .refuse stNotInMode
     else if p.cfg.transport = 1 && a.insert ≠ 0 then .refuse stBadArg
     else .ok [(2, 0), (4, p.cmDropped), (4, p.cmUnderrun)] (writeLive [.cpriCm a] s)) s

/-- cpri.l1: a reset request of 16 hyperframes on a master port (R144). -/
def cpriL1 (h : Hdr) (n action : Nat) (s : State) : State :=
  let p := s.cpriOf n
  serve h 4 4 (noDomain h 4 s) false reserved6
    (if !isLineLane n || action ≠ 1 then .refuse stBadArg
     else if !isCpriMode (s.lane n).mode || !laneWill h.port n s then .refuse stNotInMode
     else if p.cfg.role = 1 then .refuse stBadArg
     else if p.resetLeft ≠ 0 then .refuse stBusy
     else okStatus (s.onCpri n fun p => { p with resetLeft := 16, resetRun := 0 })) s

def l1Num : L1State → Nat
  | .hunt => 0 | .verify => 1 | .hfnSync => 2 | .bfnSync => 3

def cpriStatusFields (n : Nat) (s : State) : Fields :=
  let p := s.cpriOf n
  [(1, l1Num p.state), (1, p.hfn), (2, p.bfn), (1, p.l1), (1, p.version),
    (4, (cpriDef s n).word + at' 11 (boolNat (cpriFails s n && p.cfg.transport == 0)) + at' 12 (boolNat p.rxValid) +
      at' 13 (boolNat (p.bfnValid && p.state == .bfnSync)) + at' 16 (l1Sent s n % 32)),
    (4, p.drift), (8, p.rxOffset), (4, p.hfSlips), (4, p.kMisplaced), (4, p.broadMismatch), (4, (s.lane n).trim), (4, p.storeSlips),
    (4, 0), (8, s.now)]

def clearCpri (n : Nat) (s : State) : State :=
  s.onCpri n fun p => { p with hfSlips := 0, kMisplaced := 0, broadMismatch := 0, storeSlips := 0 }

def cpriStatus (h : Hdr) (n clear : Nat) (s : State) : State :=
  serve h 4 5 (clear == 1 && noDomain h 4 s) false (zeroFields (cpriStatusFields n s))
    (if !isLineLane n || 1 < clear then .refuse stBadArg
     else if !isCpriMode (s.lane n).mode || (s.lane n).enable ≠ 1 then .refuse stNotInMode
     else .ok (cpriStatusFields n s) (if clear = 1 then clearCpri n s else s)) s

def execLaneConfig (h : Hdr) (a : LaneArgs) (s : State) : Out := done s (laneConfig h a s)
def execLaneStatus (h : Hdr) (n clear : Nat) (s : State) : Out := done s (laneStatus h n clear s)
def execLaneCal (h : Hdr) (a : LaneCalArgs) (s : State) : Out := done s (laneCal h a s)
def execLanePrbs (h : Hdr) (a : LanePrbsArgs) (s : State) : Out := done s (lanePrbs h a s)
def execLaneSlip (h : Hdr) (n : Nat) (s : State) : Out := done s (laneSlip h n s)
def execLaneTrim (h : Hdr) (n : Nat) (trim : Int) (s : State) : Out := done s (laneTrim h n trim s)
def execSdhPort (h : Hdr) (a : SdhPortArgs) (s : State) : Out := done s (sdhPort h a s)
def execSdhPath (h : Hdr) (a : SdhPathArgs) (s : State) : Out := done s (sdhPath h a s)
def execSdhOh (h : Hdr) (a : SdhOhArgs) (s : State) : Out := done s (sdhOh h a s)
def execSdhStatus (h : Hdr) (n g clear : Nat) (s : State) : Out := done s (sdhStatus h n g clear s)
def execSdhTrace (h : Hdr) (n g : Nat) (s : State) : Out := done s (sdhTrace h n g s)
def execCpriPort (h : Hdr) (a : CpriPortArgs) (s : State) : Out := done s (cpriPort h a s)
def execCpriAxc (h : Hdr) (a : CpriAxcArgs) (s : State) : Out := done s (cpriAxc h a s)
def execCpriCm (h : Hdr) (a : CpriCmArgs) (s : State) : Out := done s (cpriCm h a s)
def execCpriL1 (h : Hdr) (n action : Nat) (s : State) : Out := done s (cpriL1 h n action s)
def execCpriStatus (h : Hdr) (n clear : Nat) (s : State) : Out := done s (cpriStatus h n clear s)

end Sys2Proof.Machine
end

