-- ==== Sys2Proof/Machine/SvcComb.lean ====
section
/-!
DEFINITION. Machine/SvcComb.lean: the comb service (06 The comb service, R177-R195, 09 R259).
-/

namespace Sys2Proof.Machine

open Sys2Proof

/-! ### Outputs that a group owns (09 R259), and pool outputs (08 R231) -/

/-- The run G(port, g) … holds an output that an SNCP group owns, or lies on the protection lane of an MSP 1+1 group,
whose egress repeats the working lane's (09 R259, R267). -/
def superOwned (gs : List ProtGroupArgs) (port g width : Nat) : Bool :=
  gs.any fun a => match a.members with
    | .sncpHo dp dg w _ _ _ _ => dp == port && meets g width dg w
    | .lines _ prot => a.kind == 1 && prot == port
    | _ => false

/-- An SNCP group owns some output cell of a Brood port. -/
def broodOwned (gs : List ProtGroupArgs) (b : Nat) (named : Nat → Bool) : Bool :=
  gs.any fun a => match a.members with
    | .sncpLo db dg dtu type _ _ _ _ _ _ struct => db == b && (tuIndices (bit struct 0) type dg dtu).any named
    | _ => false

/-- A write-side slot of an entry enabled in force, by an earlier pending ticket, or in the same batch (R231). -/
def slotOpen (p slot : Nat) (s : State) : Bool :=
  (s.pool.entries.any fun e => e.2.used && e.2.cfg.isOn && e.2.cfg.writes slot) ||
    (upcoming p 0 s).any fun c => match c with
      | .pool q => q.isOn && q.writes slot
      | _ => false

/-! ### comb.connect (R181-R188) -/

def badConn (op : Nat) (e : ConnEntry) : Bool :=
  421 < e.dstPort || e.width == 0 || 192 < e.dstG + e.width || 1 < e.check ||
  (op == 0 && (421 < e.srcPort || 192 < e.srcG + e.width || !inputUsed e.srcPort e.srcG)) ||
  (e.check == 1 && (e.width % 3 != 0 || e.dstG % 3 != 0 || (op == 0 && e.srcG % 3 != 0))) ||
  !outputUsed e.dstPort (e.dstG + e.width - 1)

/-- Some two of the runs share an output (R187). -/
def runsClash {α : Type} (clash : α → α → Bool) : List α → Bool
  | [] => false
  | e :: t => t.any (clash e) || runsClash clash t

def connClash (a b : ConnEntry) : Bool := a.dstPort == b.dstPort && meets a.dstG a.width b.dstG b.width

def connWrites (op : Nat) (es : List ConnEntry) : List Change :=
  es.flatMap fun e => (List.range e.width).map fun k =>
    .super (slotOf e.dstPort (e.dstG + k)) (if op = 0 then some (slotOf e.srcPort (e.srcG + k)) else none)

/-- Outputs whose source differs from the value in force. -/
def differing (cs : List Change) (s : State) : Nat :=
  (cs.filter fun c => match c with
    | .super d src => s.superSrc d != src
    | .brood d src _ => (s.broodSrc d).src != src
    | _ => false).length

def combShape : Fields := zeros [2, 4, 8]

/-- A connection to a pool slot that no entry uses (R188, R231). -/
def connAdmission (p op : Nat) (es : List ConnEntry) (s : State) : Bool :=
  op == 0 && es.any fun e => 352 ≤ e.dstPort && e.dstPort < 416 &&
    (List.range e.width).any fun k => !slotOpen p (192 * (e.dstPort - 352) + e.dstG + k) s

/-- The limits count every output named, `changes` the outputs whose source differs (R187, log 128). -/
def combConnectAct (p op : Nat) (es : List ConnEntry) (s : State) : Act :=
  if es = [] || 512 < es.length || 1 < op || es.any (badConn op) || 4096 < (es.map fun e => e.width).sum || runsClash connClash es ||
      es.any fun e => superOwned (groupsWill p s) e.dstPort e.dstG e.width then .refuse stBadArg
  else if connAdmission p op es s then .refuse stAdmission
  else
    let cs := connWrites op es
    .cap cs (.comb (differing cs s)) s

def combConnect (h : Hdr) (op : Nat) (es : List ConnEntry) (s : State) : State :=
  serve h 5 1 (noDomain h 5 s) true combShape (combConnectAct h.port op es s) s

/-! ### comb.brood and comb.tu -/

def badBrood (op : Nat) (e : BroodEntry) : Bool :=
  95 < e.dstB || e.cells == 0 || 16704 < e.dstX + e.cells || (op == 0 && (95 < e.srcB || 16704 < e.srcX + e.cells))

def broodClash (a b : BroodEntry) : Bool := a.dstB == b.dstB && meets a.dstX a.cells b.dstX b.cells

def broodWrites (op kind : Nat) (es : List BroodEntry) : List Change :=
  es.flatMap fun e => (List.range e.cells).map fun k =>
    .brood (cellOf e.dstB (e.dstX + k)) (if op = 0 then some (cellOf e.srcB (e.srcX + k)) else none) (kind == 1)

def combBroodAct (p op kind : Nat) (es : List BroodEntry) (s : State) : Act :=
  if es = [] || 512 < es.length || 1 < op || 1 < kind || es.any (badBrood op) || 65536 < (es.map fun e => e.cells).sum ||
      runsClash broodClash es ||
      es.any (fun e => broodOwned (groupsWill p s) e.dstB fun x => e.dstX ≤ x && x < e.dstX + e.cells) then .refuse stBadArg
  else
    let cs := broodWrites op kind es
    .cap cs (.comb (differing cs s)) s

def combBrood (h : Hdr) (op kind : Nat) (es : List BroodEntry) (s : State) : State :=
  serve h 5 2 (noDomain h 5 s) true combShape (combBroodAct h.port op kind es s) s

/-- One end of a tributary connection (R180): its structure, granule and tributary byte. -/
def badEnd (au3 : Bool) (b g type tu : Nat) : Bool :=
  95 < b || 191 < g || (!au3 && g % 3 != 0) || !tuValid au3 type tu

def badTu (op : Nat) (e : TuEntry) : Bool :=
  outside 1 4 e.type || badEnd (bit e.struct 0) e.dstB e.dstG e.type e.dstTu ||
  (op == 0 && badEnd (bit e.struct 1) e.srcB e.srcG e.type e.srcTu)

def tuOutputs (e : TuEntry) : List Nat := tuIndices (bit e.struct 0) e.type e.dstG e.dstTu
def tuInputs (e : TuEntry) : List Nat := tuIndices (bit e.struct 1) e.type e.srcG e.srcTu

def tuClash (a b : TuEntry) : Bool := a.dstB == b.dstB && (tuOutputs a).any fun x => (tuOutputs b).contains x

def tuWrites (op : Nat) (es : List TuEntry) : List Change :=
  es.flatMap fun e => ((tuOutputs e).zip (tuInputs e)).map fun x =>
    .brood (cellOf e.dstB x.1) (if op = 0 then some (cellOf e.srcB x.2) else none) false

/-- A disconnect ignores the source fields. -/
def tuDrops (es : List TuEntry) : List Change :=
  es.flatMap fun e => (tuOutputs e).map fun x => .brood (cellOf e.dstB x) none false

def combTuAct (p op : Nat) (es : List TuEntry) (s : State) : Act :=
  if es = [] || 256 < es.length || 1 < op || es.any (badTu op) || runsClash tuClash es ||
      es.any (fun e => broodOwned (groupsWill p s) e.dstB fun x => (tuOutputs e).contains x) then .refuse stBadArg
  else
    let cs := if op = 0 then tuWrites op es else tuDrops es
    .cap cs (.comb (differing cs s)) s

def combTu (h : Hdr) (op : Nat) (es : List TuEntry) (s : State) : State :=
  serve h 5 3 (noDomain h 5 s) true combShape (combTuAct h.port op es s) s

/-! ### comb.read and comb.status -/

/-- A change of an output is pending (R16). -/
def connPending (c : Change) (s : State) : Bool :=
  let batches := [s.clk.batchA, s.clk.batchB].flatMap fun b => b.elim [] fun b => b.changes
  ((s.clk.tickets.flatMap fun k => k.changes) ++ batches).any fun d => Change.key d == Change.key c

def superEntry (slot : Nat) (s : State) : Fields :=
  let src := s.superSrc slot
  let x := src.getD 0
  [(2, (x / 192 : Nat)), (1, (x % 192 : Nat)), (1, (boolNat src.isSome + 2 * boolNat (connPending (.super slot none) s) : Nat))]

def broodEntry (cell : Nat) (s : State) : Fields :=
  let c := s.broodSrc cell
  let x := c.src.getD 0
  [(1, (x / 16704 : Nat)), (2, (x % 16704 : Nat)),
    (1, (boolNat c.src.isSome + 2 * boolNat (connPending (.brood cell none false) s) + 4 * boolNat c.axcKind : Nat))]

def combReadAct (a : CombReadArgs) (s : State) : Act :=
  let top := if a.tier = 0 then 192 else 16704
  if 1 < a.tier || (if a.tier = 0 then 423 else 95) < a.port || a.count = 0 || (if a.tier = 0 then 192 else 1024) < a.count ||
      top < a.start + a.count then .refuse stBadArg
  else
    let head : Fields := [(2, a.count), (4, 0)]
    .ok (head ++ (List.range a.count).flatMap fun i =>
      if a.tier = 0 then superEntry (slotOf a.port (a.start + i)) s else broodEntry (cellOf a.port (a.start + i)) s) s

def combRead (h : Hdr) (a : CombReadArgs) (s : State) : State := serve h 5 4 false false (zeros [2, 4]) (combReadAct a s) s

def combStatusFields (port : Nat) (s : State) : Fields :=
  let c := s.comb
  let all := port == 0xFFFF
  let count (f : PortCount → Nat) : Nat := if all then (c.ports.map fun e => f e.2).sum else f (tget {} c.ports port)
  let on := if all then 0 else ((List.range 192).filter fun g => (s.superSrc (slotOf port g)).isSome).length
  [(2, (on : Int)), (4, (min (count fun p => p.bip) (2 ^ 32 - 1) : Nat)), (4, (min (count fun p => p.late) (2 ^ 32 - 1) : Nat)),
    (4, (min (c.regions.map fun e => e.2.eccCorrected).sum (2 ^ 32 - 1) : Nat)),
    (4, (min (c.regions.map fun e => e.2.eccUncorrected).sum (2 ^ 32 - 1) : Nat)), (4, 0), (8, s.now)] ++
    (List.range 64).map fun r => (1, ((s.region r).state : Int))

def clearComb (port : Nat) (s : State) : State :=
  s.onComb fun c => { c with
    ports := tmap {} (fun p x => if port = 0xFFFF || p = port then { x with bip := 0, late := 0 } else x) c.ports
    regions := tmap {} (fun _ x => { x with eccCorrected := 0, eccUncorrected := 0 }) c.regions }

def combStatus (h : Hdr) (port clear : Nat) (s : State) : State :=
  serve h 5 7 (clear == 1 && noDomain h 5 s) false (zeroFields (combStatusFields port s))
    (if (423 < port && port ≠ 0xFFFF) || 1 < clear then .refuse stBadArg
     else .ok (combStatusFields port s) (if clear = 1 then clearComb port s else s)) s

/-! ### comb.test (R194) -/

def Stream.on (x : Stream) : Bool := bit x.pattern 4 || bit x.pattern 5

def streamFields (port stream : Nat) (s : State) : Fields :=
  let x := s.stream port stream
  [(1, boolNat x.locked), (5, 0), (8, x.bits), (4, x.errors), (4, x.unavailable)]

/-- Widths of a VC (R194): VC-3, VC-4, VC-4-Xc. -/
def vcWidths : List Nat := [1, 3, 12, 48, 192]

def badStream (a : CombTestArgs) : Bool :=
  a.width == 0 || 192 < a.firstG + a.width || 2 < a.mode || outside 1 4 (a.pattern % 8) || 63 < a.pattern || (a.mode == 1 && !vcWidths.contains a.width)

/-- Another stream of the port at work covers one of the granules. -/
def streamClash (a : CombTestArgs) (s : State) : Bool :=
  (bit a.pattern 4 || bit a.pattern 5) && (List.range 64).any fun k =>
    let x := s.stream a.port k
    k != a.stream && x.on && meets a.firstG a.width x.firstG x.width

def combTestAct (a : CombTestArgs) (s : State) : Act :=
  let x := s.stream a.port a.stream
  if outside 416 417 a.port || 63 < a.stream || 3 < a.op || badStream a then .refuse stBadArg
  else if a.op = 1 && ((x.on && (x.firstG ≠ a.firstG || x.width ≠ a.width || x.mode ≠ a.mode)) || streamClash a s) then .refuse stFrozen
  else
    let t := if a.op = 0 then s else writeLive [.stream a] s
    .ok (streamFields a.port a.stream t) t

def combTest (h : Hdr) (a : CombTestArgs) (s : State) : State :=
  serve h 5 5 (a.op != 0 && noDomain h 5 s) false (zeros [1, 5, 8, 4, 4]) (combTestAct a s) s

/-! ### comb.tap (R195) -/

def tapFields (s : State) : Fields :=
  let t := s.comb.tap
  [(1, t.state), (5, 0), (8, t.first), (4, t.written)]

/-- Bytes of the capture: 1,024 per selected granule and beat. -/
def tapSize (a : CombTapArgs) : Nat := 1024 * popCount 8 a.mask * a.beats

/-- The buffer touches a sealed region that an open port may not see (17 R519). -/
def tapDenied (p : Nat) (a : CombTapArgs) (s : State) : Bool :=
  !(s.chal p).isSealed && (List.range 8).any fun k =>
    (tget ({} : DdrRegion) s.sec.ddr k).isSealed && meets a.bar2 (tapSize a) (k * 2 ^ 25) (2 ^ 25)

def combTapAct (p : Nat) (a : CombTapArgs) (s : State) : Act :=
  let busy := s.comb.tap.state == 1 || s.comb.tap.state == 2
  if 2 < a.op || outside 1 8000 a.beats || a.bar2 % 1024 ≠ 0 then .refuse stBadArg
  else if a.op = 0 then .ok (tapFields s) s
  else if a.op = 2 then
    let t := s.onComb fun c => { c with tap := { c.tap with state := if busy then 0 else c.tap.state } }
    .ok (tapFields t) t
  else if 2 ^ 28 < a.bar2 + tapSize a then .refuse stBadArg
  else if tapDenied p a s then .refuse stWorldDenied
  else if busy then .refuse stBusy
  else
    let start := if a.startBeat % 2 ^ 48 = 0 then s.now + 1 else a.startBeat % 2 ^ 48
    let t := s.onComb fun c => { c with tap := ⟨1, a.mask % 256, a.beats, a.bar2, start, 0, 0, 0⟩ }
    .ok (tapFields t) t

def combTap (h : Hdr) (a : CombTapArgs) (s : State) : State :=
  serve h 5 6 (a.op != 0 && noDomain h 5 s) false (zeros [1, 5, 8, 4]) (combTapAct h.port a s) s

def execCombConnect (h : Hdr) (op : Nat) (es : List ConnEntry) (s : State) : Out := done s (combConnect h op es s)
def execCombBrood (h : Hdr) (op kind : Nat) (es : List BroodEntry) (s : State) : Out := done s (combBrood h op kind es s)
def execCombTu (h : Hdr) (op : Nat) (es : List TuEntry) (s : State) : Out := done s (combTu h op es s)
def execCombRead (h : Hdr) (a : CombReadArgs) (s : State) : Out := done s (combRead h a s)
def execCombTest (h : Hdr) (a : CombTestArgs) (s : State) : Out := done s (combTest h a s)
def execCombTap (h : Hdr) (a : CombTapArgs) (s : State) : Out := done s (combTap h a s)
def execCombStatus (h : Hdr) (port clear : Nat) (s : State) : Out := done s (combStatus h port clear s)

end Sys2Proof.Machine
end

