-- ==== Sys2Proof/Machine/SvcNurse.lean ====
section
/-!
DEFINITION. Machine/SvcNurse.lean: the nurse service (07 The nurse service, R197, R198, R208-R227).
-/

namespace Sys2Proof.Machine

open Sys2Proof

/-! ### Uses as they will be (R198) -/

/-- Entries with the pending ones of the same key in their place. -/
def overlay {α : Type} (key : α → Nat) (old new : List α) : List α :=
  let latest := new.reverse.foldl (fun acc a => if acc.any fun b => key b == key a then acc else acc ++ [a]) ([] : List α)
  (old.filter fun a => !(latest.any fun b => key b == key a)) ++ latest

/-- Enabled nurse.vc entries of a Brood port, with every pending ticket and the port's open batch. -/
def vcsWill (p b : Nat) (s : State) : List NurseVcArgs :=
  let new := (upcoming p 4 s).filterMap fun c => match c with
    | .nurseVc a => some a
    | _ => none
  (overlay (fun a => 192 * a.b + a.g) (s.nurse.vcs.map fun e => e.2.cfg) new).filter fun a => a.b == b && a.enable == 1

/-- Enabled AxC groups, likewise. -/
def axvsWill (p : Nat) (s : State) : List NurseAxvArgs :=
  let new := (upcoming p 4 s).filterMap fun c => match c with
    | .axv a => some a
    | _ => none
  (overlay (fun a => axvKey a.b a.dir a.g0) (s.nurse.axvs.map fun e => e.2.cfg) new).filter fun a => a.enable == 1

/-- Granules that a group's members occupy. -/
def axvSpan (a : NurseAxvArgs) : Nat := axvWidth a.type * a.members

/-! ### nurse.vc -/

def badVc (a : NurseVcArgs) : Bool :=
  95 < a.b || 191 < a.g || 1 < a.enable || 1 < a.mode || 255 < a.txC2 || 192 < a.g + vcWidth a ||
  (if a.mode == 1 && a.struct == 1 then 7 else 0) < a.tug3 ||
  (a.mode == 0 && (a.struct != 0 || a.width == 0)) ||
  (a.mode == 1 && (outside 1 2 a.struct || a.width != 0 || (a.struct == 1 && a.g % 3 != 0)))

/-- The granules of the entry have another use, or its cells another writer (R198). -/
def vcClash (p : Nat) (a : NurseVcArgs) (s : State) : Bool :=
  ((vcsWill p a.b s).any fun v => v.g != a.g && meets a.g (vcWidth a) v.g (vcWidth v)) ||
  (axvsWill p s).any fun v => v.b == a.b && (meets a.g (vcWidth a) v.g0 (axvSpan v) ||
    (v.dir == 1 && v.axcs.any fun e => meets (87 * a.g) (87 * vcWidth a) e.x (axcCells e.nBits)))

/-- Class F fields differ from those in force. -/
def vcFDiffers (c a : NurseVcArgs) : Bool := { c with enable := a.enable, txC2 := a.txC2, b := a.b, g := a.g } != a

/-- The write of a nurse.vc command: tx_c2 alone takes the beat (R59). -/
def vcChange (a : NurseVcArgs) (s : State) : Change :=
  let c := (s.vcOf a.b a.g).cfg
  if c.enable = 1 && a.enable = 1 && c.txC2 ≠ a.txC2 then .nurseC2 a.b a.g a.txC2 else .nurseVc a

def vcDiffers (a : NurseVcArgs) (s : State) : Bool := { (s.vcOf a.b a.g).cfg with b := a.b, g := a.g } != a

/-- A clash is judged of a command that gives a use (R198). -/
def nurseVcAct (p : Nat) (a : NurseVcArgs) (s : State) : Act :=
  let c := (s.vcOf a.b a.g).cfg
  if badVc a || (a.enable == 1 && vcClash p a s) then .refuse stBadArg
  else if c.enable = 1 && vcFDiffers c a then .refuse stFrozen
  else setBlock p (c.enable == 1) (a.enable == 1) (vcDiffers a s) (.nurseVc { a with enable := 0 }) (vcChange a s) [] .status s

def nurseVc (h : Hdr) (a : NurseVcArgs) (s : State) : State :=
  serve h 6 1 (noDomain h 6 s) (changes h.port (vcChange a s) (vcDiffers a s) s) reserved6 (nurseVcAct h.port a s) s

/-! ### nurse.tu -/

/-- A trace has 15 characters. -/
def tuSeen (a : NurseTuArgs) : NurseTuArgs := { a with expJ2 := a.expJ2.take 15, txJ2 := a.txJ2.take 15 }

def badTuArgs (tu3 : Bool) (a : NurseTuArgs) : Bool :=
  1 < a.mode || 1 < a.j2Mode || (if tu3 then 255 else 7) < a.expLabel || (if tu3 then 255 else 7) < a.txLabel ||
  63 < a.flags || field a.flags 1 2 == 3 || outside 2 10 a.degM || outside 3 5 a.excK || outside 1 (if tu3 then 8000 else 2000) a.degThr ||
  outside 5 9 a.sdK || 255 < a.expExt || 255 < a.txExt

def nurseTuAct (p : Nat) (a : NurseTuArgs) (s : State) : Act :=
  let v := (s.vcOf a.b a.g).cfg
  if 95 < a.b || 191 < a.g || (tuType v a.tu).isNone || badTuArgs (tuType v a.tu == some 4) a then .refuse stBadArg
  else setBlock p (v.enable == 1) false ((s.tuOf a.b a.g a.tu).cfg != a) (.nurseTu a) (.nurseTu a) [] .status s

def nurseTu (h : Hdr) (a0 : NurseTuArgs) (s : State) : State :=
  let a := tuSeen a0
  serve h 6 2 (noDomain h 6 s) (changes h.port (.nurseTu a) ((s.tuOf a.b a.g a.tu).cfg != a) s) reserved6 (nurseTuAct h.port a s) s

/-! ### nurse.axcvcat (R215, R216, R227) -/

def badAxv (a : NurseAxvArgs) : Bool :=
  95 < a.b || 1 < a.dir || 191 < a.g0 || outside 1 2 a.type || outside 1 (if a.type = 1 then 64 else 192) a.members ||
  1 < a.enable || (a.dir == 0 && 255 < a.txC2) || (a.dir == 1 && outside 1 7680 a.playOut) ||
  a.axcs.length != a.nAxc || 192 < a.g0 + axvSpan a ||
  a.axcs.any fun e => 16704 < e.x + axcCells e.nBits || meets e.x (axcCells e.nBits) (87 * a.g0) (87 * axvSpan a)

/-- Cells that a demap AxC writes are written by another use (R198). -/
def demapClash (a : NurseAxvArgs) (vs : List NurseVcArgs) (gs : List NurseAxvArgs) : Bool :=
  runsClash (fun e f => meets e.x (axcCells e.nBits) f.x (axcCells f.nBits)) a.axcs ||
  a.axcs.any fun e =>
    (vs.any fun v => meets e.x (axcCells e.nBits) (87 * v.g) (87 * vcWidth v)) ||
    gs.any fun v => v.dir == 1 && v.axcs.any fun f => meets e.x (axcCells e.nBits) f.x (axcCells f.nBits)

def axvClash (p : Nat) (a : NurseAxvArgs) (s : State) : Bool :=
  let vs := vcsWill p a.b s
  let gs := (axvsWill p s).filter fun v => v.b == a.b && !(v.dir == a.dir && v.g0 == a.g0)
  (vs.any fun v => meets a.g0 (axvSpan a) v.g (vcWidth v)) || (gs.any fun v => meets a.g0 (axvSpan a) v.g0 (axvSpan v)) ||
  (a.dir == 1 && demapClash a vs gs)

/-- The limits of R216; the sum in units of 1/5000 byte: 60 n (1 + 200 × 10⁻⁶) + 1 for each AxC against 9 bytes for each data cell. -/
def axvAdmits (a : NurseAxvArgs) : Bool :=
  1 ≤ a.nAxc && a.nAxc ≤ 16 && a.nAxc ≤ a.members && (a.axcs.all fun e => 1 ≤ e.nBits && e.nBits ≤ 1092) &&
    (a.axcs.map fun e => 60 * e.nBits * 5001 + 5000).sum ≤ 9 * axvDataCells a.type * a.members * 5000

/-- Bits of play-out buffer that a demap group takes (R227). -/
def playBits (a : NurseAxvArgs) : Nat := if a.dir = 1 then (a.axcs.map fun e => e.nBits * (a.playOut + 480)).sum else 0

/-- The play-out buffers of the group's nurse unit hold it (R227). -/
def playFits (p : Nat) (a : NurseAxvArgs) (s : State) : Bool :=
  let gs := (axvsWill p s).filter fun v => v.b / 4 == a.b / 4 && !(v.b == a.b && v.dir == a.dir && v.g0 == a.g0)
  ((gs.map playBits).sum + playBits a) ≤ 8 * 2 ^ 20

def axvDiffers (a : NurseAxvArgs) (s : State) : Bool := (s.axvOf a.b a.dir a.g0).cfg != a

def nurseAxvAct (p : Nat) (a : NurseAxvArgs) (s : State) : Act :=
  let c := (s.axvOf a.b a.dir a.g0).cfg
  if badAxv a || (a.enable == 1 && axvClash p a s) then .refuse stBadArg
  else if c.enable = 1 && { c with enable := a.enable } != a then .refuse stFrozen
  else if !axvAdmits a then .refuse stAdmission
  else if !playFits p a s then .refuse stNoResource
  else setBlock p (c.enable == 1) (a.enable == 1) (axvDiffers a s) (.axv { a with enable := 0 }) (.axv a) [] .status s

def nurseAxcvcat (h : Hdr) (a0 : NurseAxvArgs) (s : State) : State :=
  let a := { a0 with axcs := a0.axcs.take a0.nAxc }
  serve h 6 3 (noDomain h 6 s) (changes h.port (.axv a) (axvDiffers a s) s) reserved6 (nurseAxvAct h.port a s) s

/-! ### nurse.status -/

/-- The AxC group at a granule: the demap group, else the map group. -/
def axvAt (b g : Nat) (s : State) : Option (Nat × Axv) :=
  if (s.axvOf b 1 g).cfg.nAxc ≠ 0 then some (1, s.axvOf b 1 g)
  else if (s.axvOf b 0 g).cfg.nAxc ≠ 0 then some (0, s.axvOf b 0 g) else none

/-- The least margin of the AxC's containers over the last radio frame (R225). -/
def marginOf (a : NurseStatusArgs) (s : State) : Int :=
  match axvAt a.b a.g s with
  | some (1, v) => if a.axc < v.cfg.nAxc && v.cfg.enable = 1 then (v.axcOf a.axc).margin else 0
  | _ => 0

def nurseStatusFields (a : NurseStatusArgs) (s : State) : Fields :=
  let v := s.vcOf a.b a.g
  let on := v.cfg.enable == 1
  let t : NurseTu := if a.tu = 0 then { ptr := { mode := .norm } } else s.tuOf a.b a.g a.tu
  let x : AxvAxc := match axvAt a.b a.g s with
    | some (_, w) => if a.axc = 0xFF then {} else w.axcOf a.axc
    | none => {}
  let d := if a.tu = 0 then 0 else (tuDef s a.b a.g a.tu).word
  [(2, boolNat (on && v.lom.inSync) + 2 * boolNat (on && v.lom.dLom) + 4 * boolNat v.inAis + 8 * boolNat v.inSsf),
    (4, d + at' 16 (boolNat x.dPlay)), (2, t.ptr.ptr + at' 12 (ptrModeNum t.ptr.mode)), (1, t.label.getD 0), (1, t.ext.getD 0),
    (4, t.bip), (4, t.lpRei), (4, t.pjInDec + at' 16 t.pjInInc), (4, t.pjOutDec + at' 16 t.pjOutInc), (4, marginOf a s),
    (4, x.playSlips), (4, x.ctrlErrors), (8, s.now)]

def clearNurse (a : NurseStatusArgs) (s : State) : State :=
  let t := if a.tu = 0 then s else s.onTu a.b a.g a.tu fun t =>
    { t with bip := 0, lpRei := 0, pjInInc := 0, pjInDec := 0, pjOutInc := 0, pjOutDec := 0 }
  match axvAt a.b a.g s with
  | some (dir, _) =>
    if a.axc = 0xFF then t else t.onAxvAxc a.b dir a.g a.axc fun x => { x with playSlips := 0, ctrlErrors := 0 }
  | none => t

/-- The tributary or the AxC named is not there. -/
def nurseMissing (a : NurseStatusArgs) (s : State) : Bool :=
  (a.tu != 0 && (tuType (s.vcOf a.b a.g).cfg a.tu).isNone) ||
  (a.axc != 0xFF && (match axvAt a.b a.g s with | some (_, v) => v.cfg.nAxc ≤ a.axc | none => true))

def nurseStatus (h : Hdr) (a : NurseStatusArgs) (s : State) : State :=
  serve h 6 4 (a.clear == 1 && noDomain h 6 s) false (zeroFields (nurseStatusFields a s))
    (if 95 < a.b || 191 < a.g || 1 < a.clear || nurseMissing a s then .refuse stBadArg
     else .ok (nurseStatusFields a s) (if a.clear = 1 then clearNurse a s else s)) s

def execNurseVc (h : Hdr) (a : NurseVcArgs) (s : State) : Out := done s (nurseVc h a s)
def execNurseTu (h : Hdr) (a : NurseTuArgs) (s : State) : Out := done s (nurseTu h a s)
def execNurseAxcvcat (h : Hdr) (a : NurseAxvArgs) (s : State) : Out := done s (nurseAxcvcat h a s)
def execNurseStatus (h : Hdr) (a : NurseStatusArgs) (s : State) : Out := done s (nurseStatus h a s)

end Sys2Proof.Machine
end

