-- ==== Sys2Proof/Machine/SvcPool.lean ====
section
/-!
DEFINITION. Machine/SvcPool.lean: the pool service (08 The pool service, R228-R235, R245, R251-R257).
-/

namespace Sys2Proof.Machine

open Sys2Proof

/-! ### Entries as they will be -/

/-- Pool settings among changes. -/
def poolWrites (l : List Change) : List PoolCfg := l.filterMap fun c => match c with
  | .pool a => some a
  | _ => none

/-- Enabled entries as they stand when a command takes effect, and those that a pending ticket enables later: the slots of either are in
use (R229). -/
def poolsWill (p : Nat) (s : State) : List PoolCfg :=
  let old := (s.pool.entries.filter fun e => e.2.used).map fun e => e.2.cfg
  let later := s.clk.tickets.filter fun k => s.clk.started && nextBoundary 2 s.now < k.target
  (overlay PoolCfg.first old (poolWrites (upcoming p 2 s)) ++ poolWrites (later.flatMap fun k => k.changes)).filter PoolCfg.isOn

/-- The source of a Super output as it will be. -/
def superWill (p slot : Nat) (s : State) : Option Nat :=
  (upcoming p 2 s).foldl (fun src c => match c with
    | .super d x => if d = slot then x else src
    | _ => src) (s.superSrc slot)

/-- A run within one pool port that starts at a multiple of its width (R230). -/
def badRun (s0 w : Nat) : Bool := w == 0 || 12288 < s0 + w || s0 % 192 % w != 0 || 192 < s0 % 192 + w

end Sys2Proof.Machine

namespace Sys2Proof

open Sys2Proof.Machine

/-- Encodings outside the tables, whatever the op (R18). -/
def PoolCfg.unlisted : PoolCfg → Bool
  | .delay a => 12287 < a.s0 || 1 < a.enable || (3 < a.channel && a.channel != 0xFF) || 2 ≤ a.op || outside 1 192 a.width ||
      outside 1 2048 a.delay
  | .group a => 12287 < a.s0 || 1 < a.enable || (3 < a.channel && a.channel != 0xFF) || 3 ≤ a.op || outside 1 256 a.x ||
      outside 1 2 a.type || outside 1 2048 a.maxDiff || 1 < a.sqCheck
  | .twin a => 12287 < a.sA || 12287 < a.sB || 1 < a.enable || (3 < a.channel && a.channel != 0xFF) || 4 ≤ a.op ||
      !([1, 3, 12, 48, 192].contains a.width) || outside 1 2048 a.maxDiff || 1 < a.preferred

/-- A shape that R229 and R230 refuse. -/
def PoolCfg.bad : PoolCfg → Bool
  | .delay a => badRun a.s0 a.width
  | .group a => 12288 < a.s0 + memberWidth a.type * a.x
  | .twin a => badRun a.sA a.width || badRun a.sB a.width || meets a.sA a.width a.sB a.width

/-- Two entries share a write slot. -/
def PoolCfg.meets (c d : PoolCfg) : Bool := c.runs.any fun r => d.runs.any fun q => Machine.meets r.1 r.2 q.1 q.2

/-- A setting with its class C fields taken from another of its kind: what is left to differ is class F. -/
def PoolCfg.sameF : PoolCfg → PoolCfg → Bool
  | .delay a, .delay c => { c with enable := a.enable, op := a.op } == a
  | .group a, .group c => { c with enable := a.enable, op := a.op, sqCheck := a.sqCheck } == a
  | .twin a, .twin c => { c with enable := a.enable, op := a.op, preferred := a.preferred, flags := a.flags } == a
  | _, _ => false

/-- The setting as stored: op has done its work, and reserved flag bits are ignored (R17). -/
def PoolCfg.stored : PoolCfg → PoolCfg
  | .delay a => .delay { a with op := 1 }
  | .group a => .group { a with op := 1 }
  | .twin a => .twin { a with op := 1, flags := a.flags % 2 }

def PoolCfg.disabled : PoolCfg → PoolCfg
  | .delay a => .delay { a with enable := 0 }
  | .group a => .group { a with enable := 0 }
  | .twin a => .twin { a with enable := 0 }

def PoolCfg.op : PoolCfg → Nat
  | .delay a => a.op
  | .group a => a.op
  | .twin a => a.op

def PoolCfg.kind : PoolCfg → Nat
  | .delay _ => 1
  | .group _ => 2
  | .twin _ => 3

def PoolCfg.writeSlots (c : PoolCfg) : List Nat := c.runs.flatMap fun r => (List.range r.2).map fun k => r.1 + k

end Sys2Proof

namespace Sys2Proof.Machine

open Sys2Proof

/-! ### pool.delay, pool.group, pool.twin -/

/-- The channel that holds the entry: the one named, with 0xFF the one it has while enabled, else by placement (R235). -/
def poolChannel (p : Nat) (c : PoolCfg) (s : State) : Option Nat :=
  let e := s.entry c.first
  if c.chan ≠ 0xFF then some c.chan
  else if e.used && e.cfg.isOn then some e.cfg.chan
  else s.placeAuto p c

def poolSetAct (p : Nat) (c0 : PoolCfg) (s : State) : Act :=
  let e := s.entry c0.first
  let on := e.used && e.cfg.isOn
  let was := (poolsWill p s).any fun d => d.first == c0.first
  if c0.bad || (poolsWill p s).any (fun d => d.first != c0.first && d.meets c0) then .refuse stBadArg
  else if (on || was) && !c0.isOn && e.cfg.writeSlots.any (fun k => (superWill p (slotOf 352 0 + k) s).isSome) then .refuse stBadArg
  else match poolChannel p c0.stored s with
    | none => .refuse stAdmission
    | some d =>
      let c := c0.stored.setChan d
      if on && !c.sameF e.cfg then .refuse stFrozen
      else if !(on && was) && !((on || was) && !c.isOn) && !s.admits p c then .refuse stAdmission
      else setBlock p on c.isOn (!e.used || e.cfg != c) (.pool c.disabled) (.pool c) [] (.pool c.first) s

/-- An entry of the command's kind stands at its first slot. -/
def poolThere (c : PoolCfg) (s : State) : Bool := (s.entry c.first).used && (s.entry c.first).cfg.kind == c.kind

/-- Realign (R245, R250): an entry that is not aligned has nothing to move. -/
def poolRealign (k : Nat) (s : State) : State := if (s.entry k).state = 2 then realignEntry k s else s

def poolAct (p : Nat) (c : PoolCfg) (s : State) : Act :=
  let k := c.first
  let e := s.entry k
  if c.unlisted then .refuse stBadArg
  else if c.op = 1 then poolSetAct p c s
  else if !poolThere c s then .refuse stBadArg
  else if c.op = 0 then .ok (poolFields s k 0) s
  else if c.op = 2 then
    let t := poolRealign k s
    .ok (poolFields t k 0) t
  else if e.state ≠ 3 then .refuse stBadArg
  else
    let t := s.onEntry k fun e => { e with returning := true }
    .ok (poolFields t k 0) t

/-- What a setting would write, for the gate of capping commands. -/
def poolDiffers (p : Nat) (c : PoolCfg) (s : State) : Bool :=
  let e := s.entry c.first
  !e.used || c.stored.setChan ((poolChannel p c.stored s).getD 0) != e.cfg

def poolCommand (h : Hdr) (cmd : Nat) (c : PoolCfg) (s : State) : State :=
  serve h 7 cmd (c.op != 0 && noDomain h 7 s) (c.op == 1 && changes h.port (.pool c) (poolDiffers h.port c s) s) (zeros [1, 1, 4, 8])
    (poolAct h.port c s) s

def poolDelay (h : Hdr) (a : PoolDelayArgs) (s : State) : State := poolCommand h 1 (.delay a) s
def poolGroup (h : Hdr) (a : PoolGroupArgs) (s : State) : State := poolCommand h 2 (.group a) s
def poolTwin (h : Hdr) (a : PoolTwinArgs) (s : State) : State := poolCommand h 3 (.twin a) s

/-! ### pool.channel (R254) -/

/-- The RDIMM load switch of a channel closes or opens (R254; 18 R545). -/
def loadSwitch (d : Nat) (on : Bool) (s : State) : State := s.onRail (8 + d) fun x => { x with enabled := on, good := on }

/-- The state after an op on a channel; none where the op is not listed for its state. Return is answered when it is done. -/
def channelOp (d op : Nat) (s : State) : Option State :=
  let c := s.chan d
  match c.state, op with
  | 0, 1 => some (dropChannel d (setChan d 2 5 s))
  | 1, 1 => some (setChan d 2 5 s)
  | 2, 2 | 5, 2 => some (loadSwitch d false (setChan d 3 0 (s.onChan d fun c => { c with everOff := true })))
  | 2, 4 => if c.everOff then none else some s
  | 5, 4 => some s
  | 3, 3 => some (loadSwitch d true (setChan d 4 0 s))
  | _, _ => none

def poolChannelAct (h : Hdr) (d op : Nat) (s : State) : Act :=
  if 3 < d || 4 < op then .refuse stBadArg
  else if op = 0 then .ok (channelFields s d) s
  else if (s.chan d).state = 4 || s.pool.waiters.any (fun w => w.1 == d) then .refuse stBusy
  else match channelOp d op s with
    | none => .refuse stBadArg
    | some t =>
      if op = 4 then .later (t.onPool fun x => { x with waiters := x.waiters ++ [(d, ⟨h, 7, 4, .channel d⟩)] })
      else .ok (channelFields t d) t

def poolChannelCmd (h : Hdr) (d op : Nat) (s : State) : State :=
  serve h 7 4 (op != 0 && noDomain h 7 s) false (zeroFields (channelFields s d)) (poolChannelAct h d op s) s

/-! ### pool.status -/

/-- diff_delay: over the entry, or of one member after the earliest. -/
def poolDelayOf (e : PoolEntry) (member : Nat) : Nat :=
  if member = 0xFFFF then e.diffDelay else ((e.arrivals.getD member e.extremes.1) - e.extremes.1).toNat

def poolStatusFields (slot member : Nat) (s : State) : Fields :=
  match s.entryAt slot with
  | none => [(1, 0), (1, 0), (4, 0), (4, 0), (4, 0), (4, 0), (4, 0), (4, 0), (4, 0), (4, 0), (4, 0), (4, 0), (4, 0), (8, s.now)]
  | some k =>
    let e := s.entry k
    [(1, e.cfg.kind), (1, e.state), (4, e.defects member), (4, poolDelayOf e member), (4, e.latency), (4, e.framesA), (4, e.framesB),
      (4, e.neither), (4, e.realigns), (4, e.lateFrames), (4, e.singleFrames), (4, e.ptypeReject), (4, 0), (8, s.now)]

def clearPool (slot : Nat) (s : State) : State :=
  match s.entryAt slot with
  | none => s
  | some k => s.onEntry k fun e =>
    { e with framesA := 0, framesB := 0, neither := 0, realigns := 0, lateFrames := 0, singleFrames := 0, ptypeReject := 0 }

def poolStatus (h : Hdr) (slot member clear : Nat) (s : State) : State :=
  serve h 7 5 (clear == 1 && noDomain h 7 s) false (zeroFields (poolStatusFields slot member s))
    (if 12287 < slot || (255 < member && member ≠ 0xFFFF) || 1 < clear then .refuse stBadArg
     else .ok (poolStatusFields slot member s) (if clear = 1 then clearPool slot s else s)) s

def execPoolDelay (h : Hdr) (a : PoolDelayArgs) (s : State) : Out := done s (poolDelay h a s)
def execPoolGroup (h : Hdr) (a : PoolGroupArgs) (s : State) : Out := done s (poolGroup h a s)
def execPoolTwin (h : Hdr) (a : PoolTwinArgs) (s : State) : Out := done s (poolTwin h a s)
def execPoolChannel (h : Hdr) (d op : Nat) (s : State) : Out := done s (poolChannelCmd h d op s)
def execPoolStatus (h : Hdr) (slot member clear : Nat) (s : State) : Out := done s (poolStatus h slot member clear s)

end Sys2Proof.Machine
end

