-- ==== Sys2Proof/Machine/SvcProt.lean ====
section
/-!
DEFINITION. Machine/SvcProt.lean: the prot service (09 The prot service, R258-R265, R275, R285) and the pm service
(10 The pm service, R286-R303).
-/

namespace Sys2Proof.Machine

open Sys2Proof

/-! ### prot.group (R258-R260, R275) -/

/-- The members fit their kind. -/
def membersFit (a : ProtGroupArgs) : Bool :=
  match a.members with
  | .lines .. => a.kind == 1 || a.kind == 2
  | .sncpHo .. => a.kind == 3
  | .sncpLo .. => a.kind == 4
  | .cpri .. => a.kind == 5

/-- A source run of an SNCP group that no unit gives, or that does not start at a multiple of its width. -/
def badSource (port g width : Nat) : Bool := 421 < port || 191 < g || g % width != 0 || !inputUsed port g

/-- Members outside the tables of prot.group, or that R258 refuses by themselves. -/
def badMembers : Members → Bool
  | .lines w p => 255 < w || 255 < p || w == p
  | .sncpHo dp dg width wp wg pp pg =>
    !vcWidths.contains width || 421 < dp || 191 < dg || dg % width != 0 || !outputUsed dp (dg + width - 1) ||
      badSource wp wg width || badSource pp pg width || (wp == pp && wg == pg)
  | .sncpLo db dg dtu type wb wg wtu pb pg ptu struct =>
    outside 1 4 type || 7 < struct || badEnd (bit struct 0) db dg type dtu || badEnd (bit struct 1) wb wg type wtu ||
      badEnd (bit struct 2) pb pg type ptu || (wb == pb && wg == pg && wtu == ptu)
  | .cpri w p skew => 255 < w || 255 < p || w == p || w / 8 != p / 8 || 154 < skew

/-- Reserved bits of flags are ignored (R17). -/
def protSeen (a : ProtGroupArgs) : ProtGroupArgs := { a with flags := a.flags % 16 }

/-- MSP 1:1 runs only bidirectionally (R267). -/
def badProt (a : ProtGroupArgs) : Bool :=
  12287 < a.group || outside 1 5 a.kind || 1 < a.enable || 100 < a.holdoff || outside 1 12 a.wtr || !membersFit a ||
  badMembers a.members || (a.kind == 2 && !bit a.flags 1)

/-- The two members can form a group of the kind now (R258, R275). -/
def membersMatch (p : Nat) (a : ProtGroupArgs) (s : State) : Bool :=
  match a.members with
  | .lines w q =>
    isSdhMode (s.lane w).mode && (s.lane w).mode == (s.lane q).mode && bit (s.sdhOf w).cfg.flags 4 == bit (s.sdhOf q).cfg.flags 4
  | .cpri w q _ =>
    let c := (s.cpriOf w).cfg
    let d := (s.cpriOf q).cfg
    isCpriMode (s.lane w).mode && (s.lane w).mode == (s.lane q).mode && c.role == d.role && c.transport == 0 && d.transport == 0 &&
      (List.range 48).all fun i => (axcWill p q 0 i s).enable != 1 && (axcWill p q 1 i s).enable != 1
  | _ => true

/-- Two groups name one protected member (R259). -/
def sharesMember (a b : ProtGroupArgs) : Bool :=
  let lanes (m : Members) : List Nat := match m with
    | .lines w p => [w, p]
    | .cpri w p _ => [w, p]
    | _ => []
  match a.members, b.members with
  | .sncpHo dp dg w _ _ _ _, .sncpHo dq dh v _ _ _ _ => dp == dq && meets dg w dh v
  | .sncpLo db dg dtu type _ _ _ _ _ _ struct, .sncpLo eb eg etu etype _ _ _ _ _ _ estruct =>
    db == eb && (tuIndices (bit struct 0) type dg dtu).any fun x => (tuIndices (bit estruct 0) etype eg etu).contains x
  | m, n => (lanes m).any fun l => (lanes n).contains l

/-- The most enabled groups of a kind; MSP 1+1 and 1:1 share theirs (R258). -/
def groupsFull (a : ProtGroupArgs) (others : List ProtGroupArgs) : Bool :=
  let count (ks : List Nat) : Nat := (others.filter fun b => ks.contains b.kind).length
  12288 ≤ others.length ||
    (match a.kind with
     | 1 | 2 => 128 ≤ count [1, 2]
     | 3 => 4096 ≤ count [3]
     | 4 => 8192 ≤ count [4]
     | _ => 128 ≤ count [5])

def protDiffers (a : ProtGroupArgs) (s : State) : Bool := { (s.group a.group).cfg with group := a.group } != a

def protGroupAct (p : Nat) (a : ProtGroupArgs) (s : State) : Act :=
  let c := (s.group a.group).cfg
  let on := c.enable == 1
  let others := (groupsWill p s).filter fun b => b.group != a.group
  if badProt a then .refuse stBadArg
  else if on && (c.kind != a.kind || c.members != a.members) then .refuse stFrozen
  else if a.enable = 1 && ((!on && !membersMatch p a s) || others.any (sharesMember a)) then .refuse stBadArg
  else if a.enable = 1 && !on && groupsFull a others then .refuse stNoResource
  else setBlock p on (a.enable == 1) (protDiffers a s) (.prot { a with enable := 0 }) (.prot a) [] .status s

def protGroup (h : Hdr) (a0 : ProtGroupArgs) (s : State) : State :=
  let a := protSeen a0
  serve h 8 1 (noDomain h 8 s) (changes h.port (.prot a) (protDiffers a s) s) reserved6 (protGroupAct h.port a s) s

/-! ### prot.command and prot.status -/

def protCommandAct (n c : Nat) (s : State) : Act :=
  if 12287 < n || 5 < c || (s.group n).cfg.enable ≠ 1 then .refuse stBadArg
  else
    let r := protCommand c (s.group n)
    let shown := requestShown s r.2
    .ok [(1, if r.1 = 0 ∧ c ≠ 0 ∧ shown < commandRank c then 1 else r.1), (1, shown), (4, 0)] (mirrorGroup n (s.onGroup n fun _ => r.2))

def protCommandCmd (h : Hdr) (n c : Nat) (s : State) : State :=
  serve h 8 2 (noDomain h 8 s) false (zeros [1, 1, 4]) (protCommandAct n c s) s

/-- The accepted K bytes of the protection line. -/
def rxK (g : ProtGroup) (s : State) : Nat × Nat :=
  match g.isMsp, g.lanes with
  | true, some (_, q) => ((s.sdhOf q).k1, (s.sdhOf q).k2)
  | _, _ => (0, 0)

def protStatusFields (n : Nat) (s : State) : Fields :=
  let g := s.group n
  let k := rxK g s
  let hold := max (g.holdW.getD 0) (g.holdP.getD 0)
  [(1, g.cfg.kind), (1, boolNat g.sel), (1, requestShown s g), (1, g.command), (1, if g.isMsp then g.txK1 else 0),
    (1, if g.isMsp then g.txK2 else 0), (1, k.1), (1, k.2), (2, protFlags s g), (4, hold / 8), (4, (g.wtrLeft + 7999) / 8000),
    (4, g.switches), (8, g.lastSwitch), (8, s.now)]

def protStatus (h : Hdr) (n clear : Nat) (s : State) : State :=
  serve h 8 3 (clear == 1 && noDomain h 8 s) false (zeroFields (protStatusFields n s))
    (if 12287 < n || 1 < clear then .refuse stBadArg
     else .ok (protStatusFields n s) (if clear = 1 then s.onGroup n fun g => { g with switches := 0 } else s)) s

/-! ### pm.config, pm.monitor, pm.profile (10) -/

def pmConfigAct (p : Nat) (a : PmConfigArgs) (s : State) : Act :=
  if 95 < a.dayStart || 1 < a.port || 3 < a.auto then .refuse stBadArg
  else
    let t := writeLive [.pmPort a.port a.auto] s
    if changes p (.pmDay a.dayStart) (s.pm.dayStart != a.dayStart) s then .cap [.pmDay a.dayStart] .status t
    else okStatus t

def pmConfig (h : Hdr) (a : PmConfigArgs) (s : State) : State :=
  serve h 9 1 (noDomain h 9 s) (changes h.port (.pmDay a.dayStart) (s.pm.dayStart != a.dayStart) s) reserved6 (pmConfigAct h.port a s) s

/-- An entity that the tables of R299 can name and whose port, path or tributary is configured (pm.monitor). -/
def entityThere (e : Entity) (s : State) : Bool :=
  let m := (s.lane e.unit).mode
  match e.type with
  | 1 | 2 => isLineLane e.unit && e.g == 0 && e.tu == 0 && isSdhMode m && (s.sdhOf e.unit).everEnabled
  | 3 => isLineLane e.unit && e.g < 192 && e.tu == 0 && isSdhMode m && (s.path e.unit e.g).cfg.type != 0
  | 4 =>
    let v := (s.vcOf e.unit e.g).cfg
    e.unit < 96 && e.g < 192 && v.enable == 1 && (tuType v e.tu).isSome
  | 5 => isLineLane e.unit && e.g == 0 && e.tu == 0 && isCpriMode m && (s.cpriOf e.unit).cfg.enable == 1
  | _ => false

/-- Entities monitored as they will be, but for the one named. -/
def monitoredWill (p : Nat) (e : Entity) (s : State) : Nat :=
  let ups := (upcoming p 4 s).filterMap fun c => match c with
    | .pmMonitor a => some a
    | _ => none
  let old := s.pm.mons.map fun x => x.2.cfg
  ((overlay (fun a => entKey a.ent) old ups).filter fun a => a.enable == 1 && a.ent != e).length

def monDiffers (a : PmMonitorArgs) (s : State) : Bool := { (s.mon a.ent).cfg with ent := a.ent } != a

def pmMonitorAct (p : Nat) (a : PmMonitorArgs) (s : State) : Act :=
  let on := (s.mon a.ent).cfg.enable == 1
  if 1 < a.enable || 1 < a.bidir || (63 < a.profile && a.profile ≠ 0xFF) || !entityThere a.ent s then .refuse stBadArg
  else if a.enable = 1 && !on && 32768 ≤ monitoredWill p a.ent s then .refuse stNoResource
  else setBlock p on (a.enable == 1) (monDiffers a s) (.pmMonitor { a with enable := 0 }) (.pmMonitor a) [] .status s

def pmMonitor (h : Hdr) (a : PmMonitorArgs) (s : State) : State :=
  serve h 9 2 (noDomain h 9 s) (changes h.port (.pmMonitor a) (monDiffers a s) s) reserved6 (pmMonitorAct h.port a s) s

def profileDiffers (i : Nat) (thr : List Nat) (s : State) : Bool :=
  (List.range 16).any fun c => (tget [] s.pm.profiles i).getD c 0 != thr.getD c 0

def pmProfileAct (p i : Nat) (thr : List Nat) (s : State) : Act :=
  if 63 < i then .refuse stBadArg
  else if changes p (.pmProfile i thr) (profileDiffers i thr s) s then .cap [.pmProfile i thr] .status s
  else okStatus s

def pmProfile (h : Hdr) (i : Nat) (thr : List Nat) (s : State) : State :=
  serve h 9 3 (noDomain h 9 s) (changes h.port (.pmProfile i thr) (profileDiffers i thr s) s) reserved6 (pmProfileAct h.port i thr s) s

/-! ### pm.read and pm.bulk (R297-R302) -/

/-- The record of a bin; one that has not been completed yet reads all zero but for the entity. -/
def pmReadFields (e : Entity) (n : Nat) (s : State) : Fields := (6, 0) :: binFields e (((s.mon e).binAt n).getD {})

def pmReadAct (e : Entity) (n : Nat) (s : State) : Act :=
  if (s.mon e).cfg.enable ≠ 1 || (96 < n && outside 100 107 n) then .refuse stBadArg
  else .ok (pmReadFields e n s) s

def pmRead (h : Hdr) (e : Entity) (n : Nat) (s : State) : State :=
  serve h 9 4 false false (zeroFields (pmReadFields e n s)) (pmReadAct e n s) s

def pmBulkAct (h : Hdr) (a : PmBulkArgs) (s : State) : Act :=
  if outside 1 96 a.depth || 1 < a.port || 31 < a.types || 15 < a.bins then .refuse stBadArg
  else if s.pm.bulk.any fun b => b.2.port == a.port then .refuse stBusy
  else .later (s.onPm fun p => { p with bulk := p.bulk ++ [(⟨h, 9, 5, .bulk 0 0⟩, a)] })

def pmBulk (h : Hdr) (a : PmBulkArgs) (s : State) : State :=
  serve h 9 5 (noDomain h 9 s) false (zeros [2, 4, 4]) (pmBulkAct h a s) s

def execProtGroup (h : Hdr) (a : ProtGroupArgs) (s : State) : Out := done s (protGroup h a s)
def execProtCommand (h : Hdr) (n c : Nat) (s : State) : Out := done s (protCommandCmd h n c s)
def execProtStatus (h : Hdr) (n clear : Nat) (s : State) : Out := done s (protStatus h n clear s)
def execPmConfig (h : Hdr) (a : PmConfigArgs) (s : State) : Out := done s (pmConfig h a s)
def execPmMonitor (h : Hdr) (a : PmMonitorArgs) (s : State) : Out := done s (pmMonitor h a s)
def execPmProfile (h : Hdr) (i : Nat) (thr : List Nat) (s : State) : Out := done s (pmProfile h i thr s)
def execPmRead (h : Hdr) (e : Entity) (n : Nat) (s : State) : Out := done s (pmRead h e n s)
def execPmBulk (h : Hdr) (a : PmBulkArgs) (s : State) : Out := done s (pmBulk h a s)

end Sys2Proof.Machine
end

