-- ==== Sys2Proof/Machine/SvcScout.lean ====
section
/-!
DEFINITION. Machine/SvcScout.lean: the scout service (11 The scout service, R307, R311, R320-R345).
-/

namespace Sys2Proof.Machine

open Sys2Proof

/-- A command that sets a field: refused on a standby, whose settings come through the mirror (11 The scout service). -/
def settingScout (s : State) (act : Act) : Act := if s.hive.role = .standby then .refuse stNotInMode else act

/-! ### scout.input, scout.select, scout.dpll, scout.output -/

/-- nominal by the kind of input (R310). -/
def badNominal (input nominal : Nat) : Bool :=
  if 2 ≤ input && input ≤ 5 then outside 1000 200000000 nominal
  else if 6 ≤ input && input ≤ 17 then 255 < nominal
  else nominal != 0

def badScoutInput (a : ScoutInputArgs) : Bool :=
  19 < a.input || 1 < a.enable || 15 < a.priority || 1 < a.qlSource || (a.qlSource == 1 && outside 6 17 a.input) || 15 < a.ql ||
  12 < a.wtr || outside 1 60 a.qualTime || badNominal a.input a.nominal || outside 1 9999 a.softLimit ||
  outside 2 10000 a.hardLimit || a.hardLimit ≤ a.softLimit || outside 1 10000 a.driftLimit || outside 10 10000 a.ppsWindow ||
  1000000 < a.ppsComp.natAbs

/-- Another enabled recovered-clock input names the same lane (R311). -/
def sameLaneInput (a : ScoutInputArgs) (s : State) : Bool :=
  6 ≤ a.input && a.input ≤ 17 && (List.range 12).any fun k =>
    let c := (s.inp (k + 6)).cfg
    k + 6 != a.input && c.enable == 1 && c.nominal == a.nominal

def scoutInputAct (a : ScoutInputArgs) (s : State) : Act :=
  let c := (s.inp a.input).cfg
  settingScout s <|
    if badScoutInput a || sameLaneInput a s then .refuse stBadArg
    else if c.nominal ≠ a.nominal && s.clk.started && c.enable = 1 then .refuse stFrozen
    else okStatus (writeLive [.scoutInput a] s)

def scoutInput (h : Hdr) (a : ScoutInputArgs) (s : State) : State :=
  serve h 10 1 (noDomain h 10 s) false reserved6 (scoutInputAct { a with flags := a.flags % 16 } s) s

def badSelect (a : ScoutSelectArgs) : Bool :=
  4 < a.mode || 19 < a.input || outside 1 2 a.qlOption || 15 < a.holdoverQl || 15 < a.freerunQl || 3 < a.phaseMode || 3 < a.flags

/-- freq_input and phase_input, 0xFF for none. -/
def selectFields (s : State) : Fields := [(1, optNum s.scout.freq), (1, optNum s.scout.phase), (4, 0)]

def scoutSelectAct (a : ScoutSelectArgs) (s : State) : Act :=
  settingScout s <|
    if badSelect a || ((a.mode = 1 || a.mode = 2) && !isQualified s a.input) then .refuse stBadArg
    else if s.scout.sel.qlOption ≠ a.qlOption && s.clk.started then .refuse stFrozen
    else
      let t := writeLive [.scoutSelect a] s
      .ok (selectFields t) t

def scoutSelect (h : Hdr) (a : ScoutSelectArgs) (s : State) : State :=
  serve h 10 2 (noDomain h 10 s) false (zeros [1, 1, 4]) (scoutSelectAct a s) s

def badDpll (a : ScoutDpllArgs) : Bool :=
  outside 1 10000 a.bwFinal || outside 1 1000 a.slew || outside 10 120 a.learn || 60 < a.leadBack || outside 8 65535 a.steerTimeout ||
  (a.xoFreq != 0 && outside 10000000 50000000 a.xoFreq) || a.boundLimit == 0

def scoutDpllAct (a : ScoutDpllArgs) (s : State) : Act :=
  settingScout s <|
    if badDpll a then .refuse stBadArg
    else if a.xoFreq ≠ 0 && a.xoFreq ≠ s.scout.dpllCfg.xoFreq && s.clk.started then .refuse stFrozen
    else okStatus (writeLive [.scoutDpll a] s)

def scoutDpll (h : Hdr) (a : ScoutDpllArgs) (s : State) : State :=
  serve h 10 3 (noDomain h 10 s) false reserved6 (scoutDpllAct a s) s

/-- A pulse output has freq 0 and the phase domain (R342, R343). -/
def badOutput (a : ScoutOutputArgs) : Bool :=
  10 < a.output || 1 < a.enable || (if a.output < 8 then outside 1 12 a.freq || 1 < a.domain else a.freq != 0 || a.domain != 1) ||
  3 < a.squelch || 15 < a.squelchQl || (8 ≤ a.output && 500000000 < a.offset.natAbs) || outside 1 500000 a.width

def scoutOutputAct (a : ScoutOutputArgs) (s : State) : Act :=
  let c := (s.scoutOut a.output).cfg
  settingScout s <|
    if badOutput a then .refuse stBadArg
    else if (c.freq ≠ a.freq || c.domain ≠ a.domain) && s.clk.started && c.enable = 1 then .refuse stFrozen
    else okStatus (writeLive [.scoutOutput a] s)

def scoutOutput (h : Hdr) (a : ScoutOutputArgs) (s : State) : State :=
  serve h 10 7 (noDomain h 10 s) false reserved6 (scoutOutputAct a s) s

/-! ### scout.start and scout.tod (R339-R341) -/

/-- The epoch: the next PPS edge of the Qualified phase reference, else the moment of the command. -/
def startEpoch (s : State) : Nat :=
  match phaseTarget s with
  | some i => if i < 2 then i else 2
  | none => 2

def scoutStartAct (h : Hdr) (s : State) : Act :=
  if s.clk.started || s.clk.startPend.isSome then .refuse stBusy
  else if s.mode ≠ .provision || s.scout.dpllCfg.xoFreq = 0 || s.hive.role = .standby then .refuse stNotInMode
  else .later (s.onClk fun c => { c with startPend := some ⟨h, 10, 4, .start (startEpoch s)⟩ })

def scoutStart (h : Hdr) (s : State) : State := serve h 10 4 (noDomain h 10 s) false (zeros [1, 5]) (scoutStartAct h s) s

/-- Modes in which at_beat may lie (R340). -/
def todMode (m : Mode) : Bool := m ∈ [.carry, .provision, .autopilot]

def todOk (s : State) (at' : Nat) : Bool := at' % 8000 == 0 && s.now + 8 ≤ at' && at' ≤ s.now + 128000

def bfnDiffers (a : ScoutTodArgs) (s : State) : Bool := s.scout.bfnOffset != a.bfnOffset

def scoutTodAct (p : Nat) (a : ScoutTodArgs) (s : State) : Act :=
  let beat := a.atBeat % 2 ^ 48
  if 2 < a.op || 1 < a.bfnMode then .refuse stBadArg
  else if a.op = 0 then .ok (todFields s) s
  else settingScout s <|
    if a.op = 2 then
      if 4095 < a.bfnOffset then .refuse stBadArg
      else if changes p (.bfn a.bfnOffset) (bfnDiffers a s) s then .cap [.bfn a.bfnOffset] .tod s
      else .ok (todFields s) s
    else if !s.clk.started || !todMode s.mode then .refuse stNotInMode
    else if !todOk s beat then .refuse stBadArg
    else .ok (todFields s) (s.onScout fun x => { x with todPend := some (beat, a.todSec % 2 ^ 48, a.bfnMode) })

def scoutTod (h : Hdr) (a : ScoutTodArgs) (s : State) : State :=
  serve h 10 5 (a.op != 0 && noDomain h 10 s) (a.op == 2 && changes h.port (.bfn a.bfnOffset) (bfnDiffers a s) s)
    (zeroFields (todFields s)) (scoutTodAct h.port a s) s

/-! ### scout.steer (R330, R331) -/

/-- The newest samples; one that was never taken is not valid. -/
def steerFields (count : Nat) (s : State) : Fields :=
  let x := s.scout
  let head : Fields := [(1, dpllNum x.state), (1, count), (4, 0), (8, x.word)]
  let none' : Int × Nat × Bool := (0, 0, false)
  head ++ ((x.samples ++ List.replicate 64 none').take count).flatMap fun (e : Int × Nat × Bool) =>
    ([(4, e.1), (3, (e.2.1 : Int)), (1, (boolNat e.2.2 : Int))] : Fields)

/-- Opens the loop: the NCO keeps its word. -/
def openLoop (s : State) : State :=
  if s.scout.state = .hand then s
  else refreshQl (setDpll .hand (s.onScout fun x => { x with handBeats := 0, wordNext := none }))

def writeSteer (w : Int) (s : State) : State := s.onScout fun x => { x with wordNext := some w, handBeats := 0 }

/-- Closes the loop at bw_final, the phase error of the last sample as its build-out. A loop that is closed stays so. -/
def closeLoop (s : State) : State :=
  if s.scout.state = .hand then
    refreshQl (setDpll .locked (s.onScout fun x =>
      { x with buildOut := x.buildOut + (x.samples.head?.map fun e => e.1).getD 0, bw := x.dpllCfg.bwFinal, wordNext := none }))
  else s

def scoutSteerAct (a : ScoutSteerArgs) (s : State) : Act :=
  if 3 < a.op || outside 1 64 a.count then .refuse stBadArg
  else if a.op = 0 then .ok (steerFields a.count s) s
  else settingScout s <|
    if a.op = 2 && (s.scout.state ≠ .hand || 200000000000 < a.word.natAbs) then .refuse stBadArg
    else if s.scout.dpllCfg.xoFreq = 0 then .refuse stNotInMode
    else
      let t := if a.op = 1 then openLoop s else if a.op = 2 then writeSteer a.word s else closeLoop s
      .ok (steerFields a.count t) t

def scoutSteer (h : Hdr) (a : ScoutSteerArgs) (s : State) : State :=
  serve h 10 6 (a.op != 0 && noDomain h 10 s) false (zeroFields (steerFields (min a.count 64) s)) (scoutSteerAct a s) s

/-! ### scout.model (R338) -/

/-- The Keeper's flash is busy with the model. -/
def modelBusy (s : State) : Bool := s.sec.saving.any fun e => e.1 == 2

/-- Forgets what was learned: the bins and the aging slope. -/
def clearModel (s : State) : State :=
  mirrorBins 0 540 (s.onScout fun x => { x with model := [], aging := 0, agingOk := false, modelLoaded := false })

def scoutModelAct (h : Hdr) (a : ScoutModelArgs) (s : State) : Act :=
  let w : Waiter := ⟨h, 10, 8, .model a.op a.firstBin a.count⟩
  if 4 < a.op || 539 < a.firstBin || outside 1 64 a.count || (a.op = 4 && 540 < a.firstBin + a.count) then .refuse stBadArg
  else match a.op with
    | 1 =>
      if modelBusy s then .refuse stBusy
      else .later (s.onSec fun x => { x with saving := x.saving ++ [(2, stOk, w)] })
    | 2 | 3 => settingScout s <|
      if s.mode = .carry then .refuse stNotInMode
      else if modelBusy s then .refuse stBusy
      else
        let t := if a.op = 2 then modelLoads s else clearModel s
        .ok (modelFields t a.op a.firstBin a.count) t
    | _ => .ok (modelFields s a.op a.firstBin a.count) s

def scoutModel (h : Hdr) (a : ScoutModelArgs) (s : State) : State :=
  serve h 10 8 (a.op != 0 && a.op != 4 && noDomain h 10 s) false (zeroFields (modelFields s a.op 0 (min a.count 64)))
    (scoutModelAct h a s) s

/-! ### scout.status and scout.input_status -/

def scoutFlags (s : State) : Nat :=
  let x := s.scout
  boolNat s.clk.started + at' 1 (boolNat (x.stage != .idle)) + at' 2 (boolNat x.phTarget.isSome) + at' 3 (x.baseSource % 4) +
    at' 5 (boolNat x.boundOver) + at' 6 (boolNat x.oscFault)

def scoutStatusFields (s : State) : Fields :=
  let x := s.scout
  [(1, dpllNum x.state), (1, optNum x.freq), (1, optNum x.phase), (1, x.sysQl), (1, scoutFlags s), (1, 0), (8, x.word), (8, x.phi / 8000),
    (4, x.eBar), (4, x.holdSec), (4, x.bound), (2, x.xotemp), (2, x.bw), (8, x.tod), (8, s.now)]

def scoutStatus (h : Hdr) (s : State) : State :=
  serve h 10 9 false false (zeroFields (scoutStatusFields s)) (.ok (scoutStatusFields s) s) s

def inputStatusFields (i : Nat) (s : State) : Fields :=
  let x := s.inp i
  let flags := boolNat x.suspect + at' 1 (boolNat (x.onset != 0)) + at' 2 (boolNat (s.scout.freq == some i)) +
    at' 3 (boolNat (s.scout.phase == some i)) + at' 4 (boolNat (s.scout.standing == some i)) + at' 5 (boolNat x.lockout)
  [(1, inStateNum x.state), (1, flags), (1, inputQl s i), (1, x.cause), (2, (x.wtrLeft + 7999) / 8000), (4, x.offset), (4, x.drift),
    (8, x.onset), (4, x.phase), (4, x.failures), (8, s.now)]

def scoutInputStatus (h : Hdr) (i clear : Nat) (s : State) : State :=
  serve h 10 10 (clear == 1 && noDomain h 10 s) false (zeroFields (inputStatusFields i s))
    (if 19 < i || 1 < clear then .refuse stBadArg
     else .ok (inputStatusFields i s) (if clear = 1 then s.onInp i fun x => { x with failures := 0 } else s)) s

def execScoutInput (h : Hdr) (a : ScoutInputArgs) (s : State) : Out := done s (scoutInput h a s)
def execScoutSelect (h : Hdr) (a : ScoutSelectArgs) (s : State) : Out := done s (scoutSelect h a s)
def execScoutDpll (h : Hdr) (a : ScoutDpllArgs) (s : State) : Out := done s (scoutDpll h a s)
def execScoutStart (h : Hdr) (s : State) : Out := done s (scoutStart h s)
def execScoutTod (h : Hdr) (a : ScoutTodArgs) (s : State) : Out := done s (scoutTod h a s)
def execScoutSteer (h : Hdr) (a : ScoutSteerArgs) (s : State) : Out := done s (scoutSteer h a s)
def execScoutOutput (h : Hdr) (a : ScoutOutputArgs) (s : State) : Out := done s (scoutOutput h a s)
def execScoutModel (h : Hdr) (a : ScoutModelArgs) (s : State) : Out := done s (scoutModel h a s)
def execScoutStatus (h : Hdr) (s : State) : Out := done s (scoutStatus h s)
def execScoutInputStatus (h : Hdr) (i clear : Nat) (s : State) : Out := done s (scoutInputStatus h i clear s)

end Sys2Proof.Machine
end

