-- ==== Sys2Proof/Machine/SvcHive.lean ====
section
/-!
DEFINITION. Machine/SvcHive.lean: the hive service (12 The hive service, R358, R371-R375) and the power service (18 The power
service, R549-R560).
-/

namespace Sys2Proof.Machine

open Sys2Proof

/-! ### hive.config and hive.join -/

def hiveConfigAct (a : HiveConfigArgs) (s : State) : Act :=
  if s.hive.role = .standby then .refuse stNotInMode
  else if 100 < a.bbWindow || outside 1 256 a.bbLanes then .refuse stBadArg
  else okStatus (writeLive [.hiveConfig { a with flags := a.flags % 4 }] s)

def hiveConfig (h : Hdr) (a : HiveConfigArgs) (s : State) : State := serve h 11 1 (noDomain h 11 s) false reserved6 (hiveConfigAct a s) s

/-- hive.join op 2: the egress fault is cleared (R374), and with it fault 0x15 (14 R434). -/
def clearEgress (s : State) : State :=
  resolveCode 0x15 0 0 (s.onHive fun h => { h with egressFault := false, egressOk := h.egressOk || h.egressFault })

def joinFields (s : State) : Fields := [(6, 0), (8, s.hive.joinSnap)]

def hiveJoinAct (h : Hdr) (op : Nat) (s : State) : Act :=
  if outside 1 2 op then .refuse stBadArg
  else if op = 2 then
    let t := clearEgress s
    .ok (joinFields t) t
  else if s.mode ≠ .provision || s.clk.started || s.scout.dpllCfg.xoFreq = 0 then .refuse stNotInMode
  else if s.hive.joining.isSome || s.hive.joinMode then .refuse stBusy
  else .later (s.onHive fun v => { v with joining := some ⟨h, 11, 2, .join⟩ })

def hiveJoin (h : Hdr) (op : Nat) (s : State) : State := serve h 11 2 (noDomain h 11 s) false (zeros [6, 8]) (hiveJoinAct h op s) s

/-! ### hive.switch (R358, R371, R372) -/

/-- t0: 8 beats after acceptance, or the beat named, 8 to 80,000 beats ahead. -/
def switchBeat (s : State) (at_ : Nat) : Option Nat :=
  if at_ = 0 then some (s.now + 8)
  else if s.now + 8 ≤ at_ && at_ ≤ s.now + 80000 then some at_
  else none

/-- What the device makes of a switch: the op that it holds until t0, none where it cannot be done. The active needs a ready
standby and a link half for op 1; in Provision with no active device op 2 claims the free token; else the command goes to the
active in the header. Op 3 marks one that a device in Provision has passed on: it makes no claim of its own (R358). -/
def switchOp (op : Nat) (s : State) : Option Nat :=
  let half := s.hive.halfA || s.hive.halfB
  if s.hive.token then (if op = 1 && !(mateReady s && half) then none else some op)
  else if s.mode = .provision && s.hive.lineFree then (if op = 1 then none else some 2)
  else if half && s.mode = .provision then (if op = 1 then none else some 3)
  else if half && underMode s = .shadow then (if op = 1 && !s.hive.ready then none else some op)
  else none

def hiveSwitchAct (h : Hdr) (op at_ : Nat) (s : State) : Act :=
  match switchBeat s (at_ % 2 ^ 48) with
  | none => .refuse stBadArg
  | some b =>
    if outside 1 2 op then .refuse stBadArg
    else if s.hive.switchPend.isSome then .refuse stBusy
    else match switchOp op s with
      | none => .refuse stNotInMode
      | some k => .later (s.onHive fun v => { v with switchPend := some (k, b, some ⟨h, 11, 3, .hiveSwitch⟩) })

def hiveSwitch (h : Hdr) (op at_ : Nat) (s : State) : State :=
  serve h 11 3 (noDomain h 11 s) false (zeros [6, 8]) (hiveSwitchAct h op at_ s) s

/-! ### hive.status -/

def hiveStatusFields (s : State) : Fields :=
  let v := s.hive
  let head : Fields := [(6, 0), (8, hvStatus s), (8, hvTakeover s), (8, hvCounts s), (8, 0)]
  head ++ ((List.range 32).map fun k => ((1 : Nat), (v.heartbeat.getD k 0 : Int))) ++
    ([(4, v.generation), (4, v.collisions), (4, v.discarded), (4, 0), (8, s.now)] : Fields)

def hiveStatus (h : Hdr) (s : State) : State :=
  serve h 11 4 false false (zeroFields (hiveStatusFields s)) (.ok (hiveStatusFields s) s) s

/-! ### power.config, power.table, power.status (R549-R560) -/

def powerConfigAct (a : PowerConfigArgs) (s : State) : Act :=
  if outside 1 10000 a.leanMax || outside 10 10000 a.exitHold || outside 100 60000 a.wakeHold || 100000 < a.powerLimit then
    .refuse stBadArg
  else okStatus (writeLive [.powerConfig { a with flags := a.flags % 8 }] s)

def powerConfig (h : Hdr) (a : PowerConfigArgs) (s : State) : State :=
  serve h 12 1 (noDomain h 12 s) false reserved6 (powerConfigAct a s) s

def badPowerEntry (e : PowerEntry) : Bool :=
  (e.addr != 0 && outside 0x08 0x77 e.addr) || 15 < e.rail || (31 < e.page && e.page != 0xFF) || 3 < e.role || 100 < e.delay ||
  4 < e.uvRaise || 4 < e.ovLower

/-- What op 1 may not change of a slot in use. -/
def entryMoves (e old : PowerEntry) : Bool :=
  old.addr != 0 && (e.addr != old.addr || e.rail != old.rail || e.page != old.page || e.role != old.role || e.delay != old.delay)

def powerTableFields (slot : Nat) (s : State) : Fields := (6, 0) :: entryFields (s.powerEntry slot)

def powerTableAct (h : Hdr) (a : PowerTableArgs) (s : State) : Act :=
  if 2 < a.op || 15 < a.slot || badPowerEntry a.entry then .refuse stBadArg
  else match a.op with
    | 0 => .ok (powerTableFields a.slot s) s
    | 1 =>
      if entryMoves a.entry (s.powerEntry a.slot) then .refuse stFrozen
      else
        let t := s.onPower fun p => { p with table := tput (factoryEntry a.slot) p.table a.slot a.entry }
        .ok (powerTableFields a.slot t) t
    | _ =>
      if s.sec.saving ≠ [] then .refuse stBusy
      else .later (s.onSec fun c => { c with saving := c.saving ++ [(3, stOk, ⟨h, 12, 2, .powerTable a.slot a.entry⟩)] })

def powerTable (h : Hdr) (a : PowerTableArgs) (s : State) : State :=
  serve h 12 2 (a.op != 0 && noDomain h 12 s) false (zeroFields (powerTableFields a.slot s)) (powerTableAct h a s) s

def powerStatusFields (r : Nat) (s : State) : Fields :=
  [(6, 0), (8, pwStatus s), (8, pwAvs s), (8, s.power.energy), (8, pwPower s), (8, pwLean s), (8, pwRail s r), (8, s.now)]

def powerStatus (h : Hdr) (r clear : Nat) (s : State) : State :=
  serve h 12 3 (clear == 1 && noDomain h 12 s) false (zeros [6, 8, 8, 8, 8, 8, 8, 8])
    (if 15 < r || 1 < clear then .refuse stBadArg
     else .ok (powerStatusFields r s) (if clear = 1 then s.onPower fun p => { p with pmbusErr := false } else s)) s

def execHiveConfig (h : Hdr) (a : HiveConfigArgs) (s : State) : Out := done s (hiveConfig h a s)
def execHiveJoin (h : Hdr) (op : Nat) (s : State) : Out := done s (hiveJoin h op s)
def execHiveSwitch (h : Hdr) (op at_ : Nat) (s : State) : Out := done s (hiveSwitch h op at_ s)
def execHiveStatus (h : Hdr) (s : State) : Out := done s (hiveStatus h s)
def execPowerConfig (h : Hdr) (a : PowerConfigArgs) (s : State) : Out := done s (powerConfig h a s)
def execPowerTable (h : Hdr) (a : PowerTableArgs) (s : State) : Out := done s (powerTable h a s)
def execPowerStatus (h : Hdr) (r clear : Nat) (s : State) : Out := done s (powerStatus h r clear s)

end Sys2Proof.Machine
end

