-- ==== Sys2Proof/Machine/SvcTest.lean ====
section
/-!
DEFINITION. Machine/SvcTest.lean: the test and tally services (16 The test and tally services, R491-R515).
-/

namespace Sys2Proof.Machine

open Sys2Proof

/-! ### test.bist (R491-R500) -/

def bistState (s : State) : Nat :=
  match s.test.slice with
  | some x => x.stage
  | none => if s.test.suspended then 4 else 0

def bistFields (s : State) : Fields :=
  let x := s.test
  [(1, bistState s), (1, x.position), (2, x.f32.getD 0xFFFF), (2, x.f33.getD 0xFFFF), (2, x.n24.getD 0xFFFF), (2, 0), (4, x.slices),
    (4, x.failures), (4, x.skips), (4, x.aborts), (4, x.retries)]

def bistOk (t : State) : Act := .ok (bistFields t) t

/-- A unit that was marked failed is tested again where it stands (R497). -/
def retest (kind index : Nat) (s : State) : State :=
  raise 291 ((tick 164 noUnit 1 s).onTest fun x =>
    { x with slice := some { kind := kind, index := index, spare := none, stage := 2, handover := s.now } })

/-- op 2: the slice of a unit now. Sting points skip slots of the schedule, not this (R493). A failed unit that still carries its
work is tested once that has moved to a spare (01 R39). -/
def runSlice (kind index : Nat) (s : State) : Option State :=
  if (kind = 1 || kind = 2) && unitFailed s kind index then
    if unitBusy s kind index && (carrier s kind index).isNone then
      (freeSpare s kind).map fun sp => raise 291 (armMigration kind index sp true false (tick 164 noUnit 1 s))
    else if index = 32 && kind = 1 && s.test.f32.isSome || index = 33 && kind = 1 && s.test.f33.isSome ||
        index = 24 && kind = 2 && s.test.n24.isSome then none
    else some (retest kind index s)
  else (startSlice kind index (s.onTest fun x => { x with stings := [] })).map fun t => t.onTest fun x =>
    { x with stings := s.test.stings }

/-- op 5: to the spare, and kept there; a unit that a spare already carries is kept on it. -/
def holdOnSpare (kind index : Nat) (s : State) : Option State :=
  match carrier s kind index with
  | some _ => some (s.onTest fun x => { x with held := (kind, index) :: x.held.filter (· != (kind, index)) })
  | none => (freeSpare s kind).map fun sp => armMigration kind index sp true true s

def suspendBist (on : Bool) (s : State) : State := raiseIf (s.test.suspended != on) 296 (s.onTest fun x => { x with suspended := on })

/-- A unit that ops 5 and 6 can move. -/
def movable (a : TestBistArgs) : Bool := (a.kind == 1 && a.index < 32) || (a.kind == 2 && a.index < 24)

/-- An unlisted cycle or interval, whatever the op uses of it; kind and index count in the ops that the table names (log 44). -/
def badBist (a : TestBistArgs) : Bool := outside 1 48 a.cycleHours || outside 1 8000 a.sramInterval

def testBistAct (a : TestBistArgs) (s : State) : Act :=
  let busy := s.test.slice.isSome
  if badBist a then .refuse stBadArg
  else match a.op with
  | 0 => bistOk s
  | 1 => bistOk (s.onTest fun x => { x with cycleHours := a.cycleHours, sramInterval := a.sramInterval })
  | 2 =>
    if !unitExists a.kind a.index then .refuse stBadArg
    else if busy then .refuse stBusy
    else if !sliceMode s then .refuse stNotInMode
    else match runSlice a.kind a.index s with
      | some t => bistOk t
      | none => .refuse stNoResource
  | 3 => bistOk (suspendBist true s)
  | 4 => bistOk (suspendBist false s)
  | 5 =>
    if !movable a then .refuse stBadArg
    else if busy then .refuse stBusy
    else if !sliceMode s then .refuse stNotInMode
    else match holdOnSpare a.kind a.index s with
      | some t => bistOk t
      | none => .refuse stNoResource
  | 6 =>
    if !movable a || unitFailed s a.kind a.index then .refuse stBadArg
    else if busy then .refuse stBusy
    else if !sliceMode s then .refuse stNotInMode
    else match carrier s a.kind a.index with
      | some sp => bistOk (armMigration a.kind a.index sp false true s)
      | none => .refuse stBadArg
  | _ => .refuse stBadArg

def testBist (h : Hdr) (a : TestBistArgs) (s : State) : State :=
  serve h 13 1 (a.op != 0 && noDomain h 13 s) false (zeroFields (bistFields s)) (testBistAct a s) s

/-! ### test.sting (R503-R505) -/

/-- Points of class L: on a lane, path or tributary. -/
def stingClassL (point : Nat) : Bool := 1 ≤ point && point ≤ 0x0A

/-- unit, g and sub fit the point (R503). -/
def stingFits (a : TestStingArgs) : Bool :=
  match a.point with
  | 0x01 | 0x02 => a.unit < 260
  | 0x03 | 0x04 | 0x0A => a.unit < 256
  | 0x05 => a.unit < 256 && a.g < 192
  | 0x06 => a.unit < 256 && (a.g < 192 || a.g == 0xFF)
  | 0x07 => a.unit < 256 && a.sub ≤ 2 && (a.sub != 2 || a.g < 192)
  | 0x08 | 0x09 => a.unit < 96 && a.g < 192 && (tuValid false 1 a.tu || tuValid false 2 a.tu || tuValid false 3 a.tu ||
      tuValid false 4 a.tu || tuValid true 1 a.tu || tuValid true 2 a.tu || tuValid true 3 a.tu)
  | 0x10 => a.unit < 64 && a.sub ≤ 1
  | 0x11 => a.unit < 4 && a.sub ≤ 1
  | 0x12 => a.unit < 64 && a.sub ≤ 3
  | 0x18 => a.unit < 14 && a.sub ≤ 1
  | 0x20 => a.unit < 4
  | 0x21 | 0x22 | 0x2A => true
  | 0x28 | 0x29 => a.unit < 16
  | _ => false

/-- The modes that a point accepts (R505); mode 0 clears. -/
def stingMode (a : TestStingArgs) : Bool :=
  match a.mode with
  | 0 | 1 => true
  | 2 => stingClassL a.point || a.point == 0x22 || (0x28 ≤ a.point && a.point ≤ 0x2A)
  | 3 => stingClassL a.point && 1 ≤ a.count && a.count ≤ 8000000
  | _ => false

/-- In FIELD only class L is available (R504, R525). -/
def stingAllowed (a : TestStingArgs) (s : State) : Bool := stingClassL a.point || s.sec.life != 1

def stingFields (s : State) : Fields := [(2, s.test.stings.length), (4, 0)]

def testStingAct (a : TestStingArgs) (s : State) : Act :=
  let there := s.test.stings.any fun x => sameSting x.args a
  if !stingFits a || !stingMode a then .refuse stBadArg
  else if !stingAllowed a s then .refuse stNotInMode
  else if a.mode = 0 then
    let t := if there then endSting a s else s
    .ok (stingFields t) t
  else if !there && 64 ≤ s.test.stings.length then .refuse stNoResource
  else
    let t := applySting a s
    .ok (stingFields t) t

def testSting (h : Hdr) (a : TestStingArgs) (s : State) : State :=
  serve h 13 2 (noDomain h 13 s) false (zeros [2, 4]) (testStingAct a s) s

/-! ### test.tracer and tally.read -/

def tracerFields (s : State) : Fields :=
  let x := s.test
  [(6, 0), (4, x.tagged), (4, x.written), (4, x.dropped), (4, x.skipped)]

def testTracer (h : Hdr) (k p : Nat) (s : State) : State :=
  serve h 13 3 (noDomain h 13 s) false (zeros [6, 4, 4, 4, 4])
    (if (k ≠ 0 && outside 8 24 k) || 1 < p then .refuse stBadArg
     else .ok (tracerFields s) (s.onTest fun x => { x with tracerK := k, tracerPort := p })) s

/-- The counts of some counters; with a snapshot, those of the snapshot. -/
def tallyFields (first count : Nat) (snap : Bool) (s : State) : Fields :=
  let head : Fields := [(6, 0), (8, if snap then s.tally.snapBeat else s.now)]
  head ++ (List.range count).map fun i =>
    let c := s.counter (first + i)
    ((8 : Nat), ((if snap then c.snap else c.count : Nat) : Int))

def tallyReadAct (first count snap : Nat) (s : State) : Act :=
  if 63 < first || outside 1 64 count || 64 < first + count || 1 < snap then .refuse stBadArg
  else
    let t := if snap = 1 then tallySnap s else s
    .ok (tallyFields first count (snap == 1) t) t

def tallyRead (h : Hdr) (first count snap : Nat) (s : State) : State :=
  serve h 14 1 (snap == 1 && noDomain h 14 s) false (zeroFields (tallyFields first (min count 64) false s)) (tallyReadAct first count snap s) s

def execTestBist (h : Hdr) (a : TestBistArgs) (s : State) : Out := done s (testBist h a s)
def execTestSting (h : Hdr) (a : TestStingArgs) (s : State) : Out := done s (testSting h a s)
def execTestTracer (h : Hdr) (k p : Nat) (s : State) : Out := done s (testTracer h k p s)
def execTallyRead (h : Hdr) (first count snap : Nat) (s : State) : Out := done s (tallyRead h first count snap s)

end Sys2Proof.Machine
end

