-- ==== Sys2Proof/Machine/SvcSec.lean ====
section
/-!
DEFINITION. Machine/SvcSec.lean: the sec service (17 The sec service, R517-R540).
-/

namespace Sys2Proof.Machine

open Sys2Proof

def sealedPort (p : Nat) (s : State) : Bool := (s.chal p).isSealed

/-! ### sec.status, sec.challenge, sec.prove (R522-R524, R531) -/

def slotVersion (k : Nat) (s : State) : Nat := if slotValid s k then (s.slotOf k).fwVersion else 0

def secStatusFields (s : State) : Fields :=
  let b := bootBlock s
  [(1, s.sec.life), (1, s.sec.lifePend.getD 0xFF), (1, boolNat (sealedPort 0 s) + 2 * boolNat (sealedPort 1 s)), (1, s.sec.rollback),
    (1, 16 - s.sec.toggles), (1, s.keeper.fwSlot % 2 + 2 * (b.preferred % 2) + 4 * (b.trial % 2) + 8 * (b.tries % 2)),
    (4, slotVersion 0 s), (4, slotVersion 1 s), (16, Config.deviceId % 2 ^ 128)]

def secStatus (h : Hdr) (s : State) : State := serve h 15 1 false false (zeroFields (secStatusFields s)) (.ok (secStatusFields s) s) s

/-- A fresh nonce replaces the port's old one; its value is free. -/
def newNonce (p : Nat) (s : State) : State :=
  (s.onChal p fun c => { c with nonce := some (Config.free 21 s.fresh % 2 ^ 384) }).draw

def secChallengeAct (p : Nat) (s : State) : Act :=
  if (s.chal p).locked then .refuse stLocked
  else
    let t := newNonce p s
    .ok [(6, 0), (16, Config.deviceId % 2 ^ 128), (48, (t.chal p).nonce.getD 0)] t

def secChallenge (h : Hdr) (s : State) : State := serve h 15 2 false false (zeros [6, 16, 48]) (secChallengeAct h.port s) s

/-- Host keys of the running image; in RETURN they are ignored (R522, R525). -/
def hostKeys (s : State) : Nat := if s.sec.life = 3 then 0 else (s.slotOf s.keeper.fwSlot).nKeys

/-- The signature is over nonce, device_id and port number, by the private key of a host key of the running image (R522, R532). -/
def proofGood (p n key signature : Nat) (s : State) : Bool :=
  Config.ecdsa (imageBytes (s.slotOf s.keeper.fwSlot) (228 + 97 * key) 97)
    (sha384 (numBytes 48 n ++ numBytes 16 Config.deviceId ++ numBytes 1 p)) (numBytes 96 signature)

/-- A failed proof uses up the nonce; the eighth in a row locks the challenge of the port (R524). -/
def failProof (p : Nat) (s : State) : State :=
  s.onChal p fun c => { c with nonce := none, fails := c.fails + 1, locked := c.locked || 8 ≤ c.fails + 1 }

def secProveAct (p op key signature : Nat) (s : State) : Act :=
  if 1 < op || 3 < key then .refuse stBadArg
  else if op = 0 then okStatus (s.onChal p fun c => { c with isSealed := false })
  else if hostKeys s ≤ key then .refuse stBadArg
  else if (s.chal p).locked then .refuse stLocked
  else match (s.chal p).nonce with
    | none => .refuse stTimeout
    | some n =>
      if proofGood p n key signature s then okStatus (s.onChal p fun c => { c with nonce := none, fails := 0, isSealed := true })
      else .fails stWorldDenied (failProof p s)

def secProve (h : Hdr) (op key signature : Nat) (s : State) : State :=
  serve h 15 3 false false reserved6 (secProveAct h.port op key signature s) s

/-! ### sec.world (R517-R521, 15 R485) -/

/-- A value that the table does not list, whatever the op uses of it (log 44). -/
def badWorld (a : SecWorldArgs) : Bool :=
  2 < a.kind || 1 < a.world || (if a.kind = 2 then 31 else 63) < a.index || 3 < a.channel || 1 < a.clearOnWake || 368 < a.size

/-- A block of bridge 0 cannot be opened (R520). -/
def opensBridge0 (a : SecWorldArgs) : Bool := a.kind == 0 && a.world == 0 && Config.bridge0 a.index

/-- A change while a region is being cleared waits for its turn (log 120). -/
def secWorldAct (h : Hdr) (a : SecWorldArgs) (s : State) : Act :=
  if 1 < a.op || badWorld a then .refuse stBadArg
  else if a.op = 0 then .ok (worldFields s a) s
  else if !sealedPort h.port s then .refuse stWorldDenied
  else if opensBridge0 a then .refuse stBadArg
  else if s.sec.worldWait.isSome then .later (s.onSec fun c => { c with worldQueue := c.worldQueue ++ [(⟨h, 15, 4, .world a⟩, a)] })
  else match changeWorld ⟨h, 15, 4, .world a⟩ a s with
    | (none, t) => .later t
    | (some st, t) => if st = stOk then .ok (worldFields t a) t else .refuse st

def secWorld (h : Hdr) (a : SecWorldArgs) (s : State) : State :=
  serve h 15 4 (a.op != 0 && noDomain h 15 s) false (zeros [1, 1, 2, 1, 1, 1, 1, 2, 2, 4]) (secWorldAct h a s) s

/-! ### sec.lifecycle (R525-R528) -/

/-- The transitions of R526 from a state; the root key must be programmed to leave MANUFACTURE. -/
def lifeMoves (s : State) : List Nat :=
  match s.sec.life with
  | 0 => if s.sec.rootKey then [1, 3] else []
  | 1 => [2, 3]
  | 2 => [1, 3]
  | _ => []

/-- The count that a token must carry (R527). -/
def lifeToggle (target : Nat) (s : State) : Nat :=
  if target = 2 then s.sec.toggles else if target = 1 && s.sec.life = 2 then s.sec.toggles - 1 else 0

/-- The token's bytes 0-31, over which the root key of the running image signs (R527). -/
def tokenSigned (k : Token) (s : State) : Bool :=
  Config.ecdsa (imageBytes (s.slotOf s.keeper.fwSlot) 128 97)
    (sha384 (numBytes 2 k.magic ++ numBytes 2 k.target ++ numBytes 4 k.toggle ++ numBytes 16 k.deviceId ++ numBytes 8 0)) (numBytes 96 k.signature)

def tokenGood (k : Token) (s : State) : Bool :=
  k.magic == 0x4C54 && (lifeMoves s).contains k.target && k.toggle == lifeToggle k.target s && k.deviceId == Config.deviceId % 2 ^ 128 &&
    tokenSigned k s

def lifeFields (s : State) : Fields := [(1, s.sec.life), (1, s.sec.lifePend.getD 0xFF)]

/-- OTP is programmed at once; an entry into FIELD_DEBUG uses up its toggle (R526, R528). -/
def programToken (h : Hdr) (k : Token) (s : State) : State :=
  s.onSec fun c =>
    { c with
      lifePend := some k.target, lifeWait := some ⟨h, 15, 5, .lifecycle⟩
      toggles := if k.target = 2 then c.toggles + 1 else c.toggles }

def secLifecycleAct (h : Hdr) (op : Nat) (k : Token) (s : State) : Act :=
  if 1 < op then .refuse stBadArg
  else if op = 0 then .ok (lifeFields s) s
  else if s.sec.life ≠ 0 && !sealedPort h.port s then .refuse stWorldDenied
  else if s.sec.lifePend.isSome || s.sec.lifeWait.isSome then .refuse stBusy
  else if k.target = 2 && s.sec.life = 1 && 16 ≤ s.sec.toggles then .refuse stNoResource
  else if !tokenGood k s then .refuse stBadArg
  else .later (programToken h k s)

def secLifecycle (h : Hdr) (op : Nat) (k : Token) (s : State) : State :=
  serve h 15 5 (op != 0 && s.sec.life != 0 && noDomain h 15 s) false (zeros [1, 1]) (secLifecycleAct h op k s) s

/-! ### sec.update (R536-R540) -/

def updStep (f : Sec → Sec) (s : State) : State := s.onSec fun c => { f c with updBeat := s.now }

/-- Begin: the header of the slot that does not run is erased. -/
def beginUpdate (p : Nat) (s : State) : State :=
  updStep (fun c => { c with updState := 1, updPort := p, updDirty := false }) (setSlot (1 - s.keeper.fwSlot)
    { image := (s.slotOf (1 - s.keeper.fwSlot)).image.filter fun c => 4096 ≤ c.1 } s)

/-- Commit: trial 0, and the rollback counter of the new image (R540). -/
def commitUpdate (s : State) : State :=
  let k := s.keeper.fwSlot
  updStep (fun c => { c with updState := 0, rollback := max c.rollback (s.slotOf k).rollback }) (writeBlock k 0 0 s)

/-- The new image runs on trial. -/
def onTrial (s : State) : Bool := (bootBlock s).trial == 1 && (bootBlock s).preferred == s.keeper.fwSlot

/-- Modes in which activate is accepted (R538). -/
def activateMode (s : State) : Bool := s.mode ∈ [.carry, .shadow, .provision] && !s.guard.storm

def secUpdateAct (h : Hdr) (op offset : Nat) (s : State) : Act :=
  let st := s.sec.updState
  let x := s.slotOf (1 - s.keeper.fwSlot)
  let w : Waiter := ⟨h, 15, 6, .update⟩
  let okNow (t : State) : Act := .ok (updateFields t) t
  let writing := st = 1 || st = 2
  if op = 0 then okNow s
  else if 6 < op then .refuse stBadArg
  else if !sealedPort h.port s then .refuse stWorldDenied
  else if s.sec.dataWait.isSome || s.sec.activating.isSome then .refuse stBusy
  else match op with
    | 1 => if writing && s.sec.updPort ≠ h.port then .refuse stBusy else if st ≠ 0 then .refuse stBadArg else okNow (beginUpdate h.port s)
    | 2 =>
      if !writing || offset % 65536 ≠ 0 || 48 * 2 ^ 20 ≤ offset then .refuse stBadArg
      else .later (s.onSec fun c => { c with dataWait := some w })
    | 3 =>
      if !writing || x.written = 0 || !(x.headerOk && x.bodyOk && x.dataOk) then .refuse stBadArg
      else if x.rollback < s.sec.rollback then .refuse stVersion
      else okNow (updStep (fun c => { c with updState := 2, updDirty := false }) s)
    | 4 =>
      if st ≠ 2 || s.sec.updDirty then .refuse stBadArg
      else if !activateMode s then .refuse stNotInMode
      else .later (tryActivate (s.onSec fun c => { c with activating := some w }))
    | 5 => if st = 3 && onTrial s then okNow (commitUpdate s) else .refuse stBadArg
    | _ => if writing then okNow (updStep (fun c => { c with updState := 0 }) s) else .refuse stBadArg

def secUpdate (h : Hdr) (op offset : Nat) (s : State) : State :=
  serve h 15 6 (op != 0 && noDomain h 15 s) false (zeros [1, 1, 4, 8]) (secUpdateAct h op offset s) s

def execSecStatus (h : Hdr) (s : State) : Out := done s (secStatus h s)
def execSecChallenge (h : Hdr) (s : State) : Out := done s (secChallenge h s)
def execSecProve (h : Hdr) (op key signature : Nat) (s : State) : Out := done s (secProve h op key signature s)
def execSecWorld (h : Hdr) (a : SecWorldArgs) (s : State) : Out := done s (secWorld h a s)
def execSecLifecycle (h : Hdr) (op : Nat) (k : Token) (s : State) : Out := done s (secLifecycle h op k s)
def execSecUpdate (h : Hdr) (op offset : Nat) (s : State) : Out := done s (secUpdate h op offset s)

end Sys2Proof.Machine
end

