-- ==== Sys2Proof/Machine/SvcSys.lean ====
section
/-!
DEFINITION. Machine/SvcSys.lean: the sys service (13 R410, R422, 18 R542, 02 Batch commands, 15 sys.bus_status).
-/

namespace Sys2Proof.Machine

open Sys2Proof

/-! ### sys.hello (R422) -/

/-- This firmware offers version 1.0. A refusal leaves the agreed version and shows the device's highest. -/
def sysHello (h : Hdr) (a : HelloArgs) (s : State) : State :=
  if !s.keeper.serving || 2 ≤ h.port then s
  else if a.major = 1 then
    let t := renewLeases h.port (s.onPort h.port fun w => { w with version := some (1, min a.minor 0) })
    respond h 1 1 stOk [(1, 1), (1, (min a.minor 0 : Nat)), (1, h.port), (3, 0), (4, (idFw s % 2 ^ 32 : Nat)), (4, 16384)] t
  else respondRaw h 1 1 stVersion [(1, 1), (1, 0), (1, 0), (3, 0), (4, 0), (4, 0)] s

/-! ### sys.session (R410, R411) -/

/-- held, other, session_id, batch_id: in force whatever the status (R407). -/
def sessionFields (p : Nat) (s : State) : Fields :=
  [(2, domainsOf s p), (2, domainsOf s (1 - p)), (2, 0), (4, (s.port p).session), (4, ((s.batchOf p).map (·.id)).getD 0)]

/-- Named domains of a mask. -/
def domainList (m : Nat) : List Nat := (List.range 16).filter fun k => 1 ≤ k && bit m k

/-- Opens or extends the session of a port (sources 163, 164). -/
def openSession (p : Nat) (ks : List Nat) (s : State) : State :=
  let t := ks.foldl (fun s k => grantSem k p s) s
  let t := if ks != [] && (t.port p).session = 0 then
      { (t.onPort p fun w => { w with session := s.nextSession }) with nextSession := s.nextSession % (2 ^ 32 - 1) + 1 }
    else t
  raiseIf (ks != []) (163 + p) t

/-- Closes a port's session by command: source 165 (R414). -/
def closeSession (p : Nat) (s : State) : State := if (s.port p).session = 0 then s else raise 165 (endSession p s)

/-- Releases named domains; the last one closes the session. -/
def releaseDomains (p : Nat) (ks : List Nat) (s : State) : State :=
  let t := ks.foldl (fun s k => if (s.sem k).ownedBy p then freeSem k s else s) s
  if domainsOf t p = 0 then closeSession p t else t

/-- Domains of commands in the port's open batch. -/
def batchServices (p : Nat) (s : State) : Nat := ((s.batchOf p).map (·.services)).getD 0

def sessionAct (p : Nat) (a : SessionArgs) (s : State) : Act :=
  let ks := domainList a.domains
  if 3 < a.op || bit a.domains 0 then .refuseWith stBadArg (sessionFields p s)
  else match a.op with
    | 0 => .ok (sessionFields p s) s
    | 1 =>
      if ks.any fun k => (s.sem k).owner.isSome && !(s.sem k).ownedBy p then
        .refuseWith stLocked (sessionFields p s)
      else
        let t := openSession p ks s
        .ok (sessionFields p t) t
    | 2 =>
      if batchServices p s &&& a.domains != 0 then .refuseWith stBusy (sessionFields p s)
      else
        let t := releaseDomains p ks s
        .ok (sessionFields p t) t
    | _ =>
      let t := closeSession p s
      .ok (sessionFields p t) t

/-- A refusal with LOCKED raises source 168 (R414). -/
def sysSession (h : Hdr) (a : SessionArgs) (s : State) : State :=
  let act := sessionAct h.port a s
  let t := serve h 1 3 false false (sessionFields h.port s) act s
  let refused : Bool := match act with | .refuseWith st _ => st == stLocked | _ => false
  let lost := s.keeper.serving && h.port < 2 && (s.port h.port).version.isSome && refused
  raiseIf lost 168 (tickIf lost 141 noUnit t)

/-! ### sys.mode (18 R541, R542) -/

def modeFields (s : State) : Fields := [(1, modeNum s.mode), (5, 0)]

/-- A mode transition is running. -/
def modeRuns (s : State) : Bool :=
  s.keeper.modeWait.isSome || s.hive.joining.isSome || s.hive.joinMode || s.sec.activating.isSome

/-- Enters Isolate: from Lean every core returns; the Guard releases the token (R367, cause 2). -/
def toIsolate (s : State) : State :=
  let t := if s.mode = .lean then
      (List.range 4).foldl (fun t c => if t.coreOf c = .held then setCore c (s.power.coresBefore.getD c .held) t else t)
        (s.onPower fun p => { p with isLean := false, coresBefore := [] })
    else s
  releaseToken 2 true (enterMode .isolate t)

/-- Carry from Provision: with the token held at once; else, with claim at Carry, a claim of the free token or a join (R358,
12 hive.config). -/
def carryAct (h : Hdr) (s : State) : Act :=
  let w : Waiter := ⟨h, 1, 4, .mode⟩
  let hold := s.hive.token
  let claim := bit s.hive.cfg.flags 1
  let ready := s.clk.started && ((List.range 4).any fun d => (s.chan d).state == 0) && s.sec.life != 3
  if claim && !hold && !s.hive.lineFree then
    .later ((s.onKeeper fun k => { k with modeWait := some (5, w) }).onHive fun v => { v with joinMode := true })
  else if !ready then .refuseWith stNotInMode (modeFields s)
  else if hold then
    let t := enterMode .carry s
    .ok (modeFields t) t
  else if claim then .later (s.onKeeper fun k => { k with modeWait := some (4, w) })
  else .refuseWith stNotInMode (modeFields s)

/-- Answers with the mode entered. -/
def modeOk (t : State) : Act := .ok (modeFields t) t

def modeAct (h : Hdr) (m : Nat) (s : State) : Act :=
  if 11 < m then .refuseWith stBadArg (modeFields s)
  else if m = modeNum s.mode then modeOk s
  else if modeRuns s then .refuseWith stBusy (modeFields s)
  else match m, s.mode with
    | 4, .provision => carryAct h s
    | 9, .provision => if s.clk.started then modeOk (enterMode .maintenance s) else .refuseWith stNotInMode (modeFields s)
    | 3, .maintenance => modeOk (enterMode .provision s)
    | 10, .provision | 10, .carry | 10, .shadow | 10, .maintenance | 10, .lean => modeOk (toIsolate s)
    | 0, .provision | 0, .maintenance | 0, .isolate => .ok (modeFields s) (startPowerDown 1 s)
    | _, _ => .refuseWith stNotInMode (modeFields s)

def sysMode (h : Hdr) (m : Nat) (s : State) : State :=
  serve h 1 4 (noDomain h 1 s) false (modeFields s) (modeAct h m s) s

/-! ### Batches (02) -/

def batchOpenAct (p : Nat) (s : State) : Act :=
  if (s.batchOf p).isSome || s.sec.activating.isSome then .refuse stBusy
  else
    let id := s.clk.nextBatch
    let r := takeTicket (s.onClk fun c => { c with nextBatch := id % (2 ^ 32 - 1) + 1 })
    .ok [(2, 0), (4, id)] (r.2.setBatch p (some { id := id, ticket := r.1 }))

def sysBatchOpen (h : Hdr) (s : State) : State :=
  serve h 1 0x20 ((s.port h.port).session == 0) true (zeros [2, 4]) (batchOpenAct h.port s) s

/-- Whether a host may name a beat as the target of a class (R60). -/
def targetOk (s : State) (cls target : Nat) : Bool :=
  s.clk.started && s.now < target && target ≤ s.now + 8000000 && target % classPeriod cls == 0

def batchCloseAct (h : Hdr) (a : BatchCloseArgs) (s : State) : Act :=
  let target := a.target % 2 ^ 48
  match s.batchOf h.port with
  | none => .refuse stBadArg
  | some b =>
    let closed := s.setBatch h.port none
    if b.id ≠ a.batchId || 2 < a.mode then .refuse stBadArg
    else if a.mode = 2 then .ok (zeros [2, 4, 8, 4, 4]) closed
    else match b.failed with
      | some st => .fails st closed
      | none =>
        if a.mode = 1 && !targetOk s (classOf b.changes) target then .refuse stBadArg
        else if 64 ≤ s.clk.tickets.length then .refuse stNoResource
        else
          let w : Waiter := ⟨h, 1, 0x21, .batchClose (classOf b.changes) (supersOf b.changes) (broodsOf b.changes)⟩
          .later (completeTicket b.ticket b.changes (if a.mode = 1 then some target else none) h.us w closed)

/-- sys.batch_close: modes 0 and 1 are gated as capping commands (R68, R371), the abort is not. -/
def sysBatchClose (h : Hdr) (a : BatchCloseArgs) (s : State) : State :=
  serve h 1 0x21 ((s.port h.port).session == 0) (a.mode != 2) (zeros [2, 4, 8, 4, 4]) (batchCloseAct h a s) s

/-! ### Status (02, 15) -/

def beatStatusFields (s : State) : Fields :=
  let c := s.clk
  [(6, 0), (8, s.now), (4, c.ovSnap), (4, c.ovHandler), (4, c.ovSecond), (4, c.ovPipe), (4, c.ovPool), (4, c.ovHive)]

def sysBeatStatus (h : Hdr) (s : State) : State :=
  serve h 1 0x23 false false (zeros [6, 8, 4, 4, 4, 4, 4, 4]) (.ok (beatStatusFields s) s) s

/-- sys.bus_status: an open port sees no address of a sealed target. -/
def busStatusFields (p : Nat) (s : State) : Fields :=
  let b := s.bus
  let head : Fields := [(1, boolNat b.remap), (1, 0), (4, b.defaultHits), (4, b.timeouts), (4, b.sramCorrected), (4, b.sramUncorrected),
    (4, b.bgPasses), (8, ((b.fenced.map fun r => 2 ^ r).sum : Nat)), (1, b.lastMaster), (1, b.lastKind), (6, 0),
    (8, if b.lastSealed && !(s.chal p).isSealed then 0 else b.lastAddr)]
  head ++ ((List.range 4).flatMap fun d =>
    let c := s.chan d
    [(2, c.temp.getD 0x8000), (1, (boolNat c.doubleRefresh + 2 * boolNat c.scrubbing : Nat)), (1, 0), (4, (c.scrubUnc : Int))]) ++ [(8, (s.now : Int))]

def clearBus (s : State) : State :=
  let t := s.onBus fun b => { b with defaultHits := 0, timeouts := 0, sramCorrected := 0, sramUncorrected := 0, bgPasses := 0 }
  t.onPool fun p => { p with channels := tmap {} (fun _ c => { c with scrubUnc := 0 }) p.channels }

def busStatusAct (p clear : Nat) (s : State) : Act :=
  if 1 < clear then .refuse stBadArg
  else .ok (busStatusFields p s) (if clear = 1 then clearBus s else s)

def sysBusStatus (h : Hdr) (clear : Nat) (s : State) : State :=
  serve h 1 5 (clear == 1 && noDomain h 1 s) false (zeroFields (busStatusFields h.port s)) (busStatusAct h.port clear s) s

def execSysHello (h : Hdr) (a : HelloArgs) (s : State) : Out := done s (sysHello h a s)
def execSysSession (h : Hdr) (a : SessionArgs) (s : State) : Out := done s (sysSession h a s)
def execSysMode (h : Hdr) (m : Nat) (s : State) : Out := done s (sysMode h m s)
def execSysBatchOpen (h : Hdr) (s : State) : Out := done s (sysBatchOpen h s)
def execSysBatchClose (h : Hdr) (a : BatchCloseArgs) (s : State) : Out := done s (sysBatchClose h a s)
def execSysBeatStatus (h : Hdr) (s : State) : Out := done s (sysBeatStatus h s)
def execSysBusStatus (h : Hdr) (clear : Nat) (s : State) : Out := done s (sysBusStatus h clear s)

end Sys2Proof.Machine
end

