-- ==== Sys2Proof/Machine/Operands.lean ====
section
/-!
DEFINITION. Machine/Operands.lean: the operand forms of the Waggle commands: how long each command's parameters are, how long its
response is, and which command the bytes of a message spell (13 R403, R404; the parameter tables of 02-18).
-/

namespace Sys2Proof.Machine

open Sys2Proof

/-! ### Fields of a body, a little-endian number (R8) -/

/-- Field of `n` bytes at offset `off`. -/
def fld (b off n : Nat) : Nat := b / 256 ^ off % 256 ^ n

def sfld (b off n : Nat) : Int := signedOf (8 * n) (fld b off n)

/-- `n` bytes at offset `off`. -/
def byteList (b off n : Nat) : List Byte := (List.range n).map fun i => BitVec.ofNat 8 (fld b (off + i) 1)

/-- The number that a message's body words spell. -/
def bodyNat : List Word → Nat
  | [] => 0
  | w :: t => w.toNat + 2 ^ 64 * bodyNat t

/-- Entries of 8 bytes that follow the first `off` bytes. -/
def entries {α : Type} (f : Nat → α) (off n : Nat) : List α := (List.range n).map fun i => f (off + 8 * i)

/-! ### Command tables -/

/-- The commands of this firmware: service, command, bytes of the parameters' fixed part, bytes of the response after
status. A response with entries lists its fixed part. -/
def commandTable : List (Nat × Nat × Nat × Nat) :=
  [(1, 0x01, 8, 14), (1, 0x03, 8, 14), (1, 0x04, 8, 6), (1, 0x05, 8, 86), (1, 0x20, 8, 6), (1, 0x21, 16, 22), (1, 0x23, 8, 38)] ++
  [(2, 1, 16, 6), (2, 2, 8, 30), (2, 3, 8, 22), (2, 4, 8, 18), (2, 5, 8, 1), (2, 6, 8, 10)] ++
  [(3, 1, 48, 6), (3, 2, 144, 6), (3, 3, 8, 14), (3, 4, 8, 70), (3, 5, 8, 70)] ++
  [(4, 1, 16, 6), (4, 2, 16, 26), (4, 3, 8, 10), (4, 4, 8, 6), (4, 5, 8, 54)] ++
  [(5, 1, 8, 14), (5, 2, 8, 14), (5, 3, 8, 14), (5, 4, 8, 6), (5, 5, 8, 22), (5, 6, 16, 18), (5, 7, 8, 94)] ++
  [(6, 1, 16, 6), (6, 2, 48, 6), (6, 3, 16, 6), (6, 4, 8, 46)] ++
  [(7, 1, 8, 14), (7, 2, 16, 14), (7, 3, 16, 14), (7, 4, 8, 46), (7, 5, 8, 54)] ++
  [(8, 1, 32, 6), (8, 2, 8, 6), (8, 3, 8, 38)] ++
  [(9, 1, 8, 6), (9, 2, 8, 6), (9, 3, 72, 6), (9, 4, 8, 70), (9, 5, 8, 10)] ++
  [(10, 1, 24, 6), (10, 2, 8, 6), (10, 3, 24, 6), (10, 4, 8, 6), (10, 5, 24, 30), (10, 6, 16, 14), (10, 7, 16, 6), (10, 8, 8, 22),
    (10, 9, 8, 54), (10, 10, 8, 38)] ++
  [(11, 1, 8, 6), (11, 2, 8, 14), (11, 3, 16, 14), (11, 4, 8, 94)] ++
  [(12, 1, 16, 6), (12, 2, 24, 22), (12, 3, 8, 62)] ++
  [(13, 1, 8, 30), (13, 2, 12, 6), (13, 3, 8, 22)] ++
  [(14, 1, 8, 14)] ++
  [(15, 1, 8, 30), (15, 2, 8, 70), (15, 3, 104, 6), (15, 4, 16, 16), (15, 5, 136, 2), (15, 6, 8, 14)]

/-- Fixed parameter bytes and response bytes of a command; none: unknown service or command (R404). -/
def commandSizes (svc cmd : Nat) : Option (Nat × Nat) :=
  (commandTable.find? fun e => e.1 == svc && e.2.1 == cmd).map fun e => e.2.2

/-- Bytes that a command's table asks for; comb.connect, comb.brood, comb.tu and nurse.axcvcat carry entries of 8 bytes. -/
def tableBytes (svc cmd fixed b : Nat) : Nat :=
  if svc = 5 && (cmd = 1 || cmd = 2 || cmd = 3) then fixed + 8 * fld b 0 2
  else if svc = 6 && cmd = 3 then fixed + 8 * fld b 5 1
  else fixed

/-! ### Parameters -/

def parseMembers (kind b : Nat) : Members :=
  match kind with
  | 3 => .sncpHo (fld b 8 2) (fld b 10 1) (fld b 11 1) (fld b 12 2) (fld b 14 1) (fld b 16 2) (fld b 18 1)
  | 4 => .sncpLo (fld b 8 1) (fld b 9 1) (fld b 10 1) (fld b 11 1) (fld b 12 1) (fld b 13 1) (fld b 14 1) (fld b 15 1) (fld b 16 1)
      (fld b 17 1) (fld b 18 1)
  | 5 => .cpri (fld b 8 2) (fld b 10 2) (fld b 12 2)
  | _ => .lines (fld b 8 2) (fld b 10 2)

def parseEntity (b : Nat) : Entity := ⟨fld b 0 1, fld b 1 1, fld b 2 2, fld b 4 1⟩

def parsePowerEntry (b : Nat) : PowerEntry :=
  ⟨fld b 8 1, fld b 9 1, fld b 10 1, fld b 11 1, fld b 12 2, fld b 14 1, fld b 15 1⟩

/-- A life-cycle token at offset 8 (17 R527). -/
def parseToken (b : Nat) : Token := ⟨fld b 8 2, fld b 10 1, fld b 12 4, fld b 16 16, fld b 40 96⟩

def parseSys (cmd : Nat) (h : Hdr) (b : Nat) : Option Instr :=
  match cmd with
  | 0x01 => some (.sysHello h ⟨fld b 0 1, fld b 1 1⟩)
  | 0x03 => some (.sysSession h ⟨fld b 0 1, fld b 2 2⟩)
  | 0x04 => some (.sysMode h (fld b 0 1))
  | 0x05 => some (.sysBusStatus h (fld b 0 1))
  | 0x20 => some (.sysBatchOpen h)
  | 0x21 => some (.sysBatchClose h ⟨fld b 0 4, fld b 4 2, fld b 8 6⟩)
  | 0x23 => some (.sysBeatStatus h)
  | _ => none

def parseLane (cmd : Nat) (h : Hdr) (b : Nat) : Option Instr :=
  let n := fld b 0 2
  match cmd with
  | 1 => some (.laneConfig h ⟨n, fld b 2 1, fld b 3 1, fld b 4 1, fld b 5 1, fld b 6 1, fld b 7 1, fld b 8 1, fld b 9 1⟩)
  | 2 => some (.laneStatus h n (fld b 2 1))
  | 3 => some (.laneCal h ⟨n, fld b 2 1, fld b 3 1, sfld b 4 1, sfld b 5 1, sfld b 6 1, sfld b 7 1⟩)
  | 4 => some (.lanePrbs h ⟨n, fld b 2 1, fld b 3 1, fld b 4 1, fld b 5 1⟩)
  | 5 => some (.laneSlip h n)
  | 6 => some (.laneTrim h n (sfld b 4 4))
  | _ => none

def parseSdh (cmd : Nat) (h : Hdr) (b : Nat) : Option Instr :=
  let n := fld b 0 2
  match cmd with
  | 1 => some (.sdhPort h ⟨n, fld b 2 1, fld b 3 1, fld b 4 2, fld b 6 1, fld b 7 1, fld b 8 1, fld b 9 1, fld b 10 1, fld b 11 1,
      fld b 12 2, fld b 14 1, byteList b 16 15, byteList b 32 15⟩)
  | 2 => some (.sdhPath h ⟨n, fld b 2 1, fld b 3 1, fld b 4 1, fld b 5 1, fld b 6 1, fld b 7 1, fld b 8 1, fld b 9 1, fld b 10 2,
      fld b 12 1, fld b 13 1, byteList b 16 64, byteList b 80 64⟩)
  | 3 => some (.sdhOh h ⟨n, fld b 2 1, fld b 3 1, fld b 4 1, fld b 5 1, fld b 6 1⟩)
  | 4 => some (.sdhStatus h n (fld b 2 2) (fld b 4 1))
  | 5 => some (.sdhTrace h n (fld b 2 2))
  | _ => none

def parseCpri (cmd : Nat) (h : Hdr) (b : Nat) : Option Instr :=
  let n := fld b 0 2
  match cmd with
  | 1 => some (.cpriPort h ⟨n, fld b 2 1, fld b 3 1, fld b 4 1, fld b 5 1, fld b 6 1, fld b 7 1, fld b 8 2, fld b 10 1, fld b 12 4⟩)
  | 2 => some (.cpriAxc h ⟨n, fld b 2 1, fld b 3 1, fld b 4 1, fld b 5 1, fld b 6 2, fld b 8 2, fld b 10 2⟩)
  | 3 => some (.cpriCm h ⟨n, fld b 2 1, fld b 3 1, fld b 4 1, fld b 5 1, fld b 6 1⟩)
  | 4 => some (.cpriL1 h n (fld b 2 1))
  | 5 => some (.cpriStatus h n (fld b 2 1))
  | _ => none

def parseComb (cmd : Nat) (h : Hdr) (b : Nat) : Option Instr :=
  let n := fld b 0 2
  match cmd with
  | 1 => some (.combConnect h (fld b 2 1) (entries (fun o =>
      ⟨fld b o 2, fld b (o + 2) 1, fld b (o + 3) 1, fld b (o + 4) 2, fld b (o + 6) 1, fld b (o + 7) 1⟩) 8 n))
  | 2 => some (.combBrood h (fld b 2 1) (fld b 3 1) (entries (fun o =>
      ⟨fld b o 1, fld b (o + 1) 1, fld b (o + 2) 2, fld b (o + 4) 2, fld b (o + 6) 2⟩) 8 n))
  | 3 => some (.combTu h (fld b 2 1) (entries (fun o =>
      ⟨fld b o 1, fld b (o + 1) 1, fld b (o + 2) 1, fld b (o + 3) 1, fld b (o + 4) 1, fld b (o + 5) 1, fld b (o + 6) 1, fld b (o + 7) 1⟩)
      8 n))
  | 4 => some (.combRead h ⟨fld b 0 1, fld b 2 2, fld b 4 2, fld b 6 2⟩)
  | 5 => some (.combTest h ⟨n, fld b 2 1, fld b 3 1, fld b 4 1, fld b 5 1, fld b 6 1, fld b 7 1⟩)
  | 6 => some (.combTap h ⟨fld b 0 1, fld b 1 1, fld b 2 2, fld b 4 4, fld b 8 6⟩)
  | 7 => some (.combStatus h n (fld b 2 1))
  | _ => none

def parseNurse (cmd : Nat) (h : Hdr) (b : Nat) : Option Instr :=
  let p := fld b 0 1
  match cmd with
  | 1 => some (.nurseVc h ⟨p, fld b 1 1, fld b 2 1, fld b 3 1, fld b 4 1, fld b 5 1, fld b 6 1, fld b 7 1, fld b 8 6⟩)
  | 2 => some (.nurseTu h ⟨p, fld b 1 1, fld b 2 1, fld b 3 1, fld b 4 1, fld b 5 1, fld b 6 1, fld b 7 1, fld b 8 1, fld b 9 1,
      fld b 10 2, fld b 12 1, fld b 13 1, fld b 14 1, byteList b 16 15, byteList b 32 15⟩)
  | 3 => some (.nurseAxcvcat h ⟨p, fld b 1 1, fld b 2 1, fld b 3 1, fld b 4 1, fld b 5 1, fld b 6 1, fld b 7 1, fld b 8 2,
      entries (fun o => ⟨fld b o 2, fld b (o + 2) 2⟩) 16 (fld b 5 1)⟩)
  | 4 => some (.nurseStatus h ⟨p, fld b 1 1, fld b 2 1, fld b 3 1, fld b 4 1⟩)
  | _ => none

def parsePool (cmd : Nat) (h : Hdr) (b : Nat) : Option Instr :=
  match cmd with
  | 1 => some (.poolDelay h ⟨fld b 0 2, fld b 2 1, fld b 3 1, fld b 4 1, fld b 5 1, fld b 6 2⟩)
  | 2 => some (.poolGroup h ⟨fld b 0 2, fld b 2 2, fld b 4 1, fld b 5 1, fld b 6 1, fld b 7 1, fld b 8 2, fld b 10 1⟩)
  | 3 => some (.poolTwin h ⟨fld b 0 2, fld b 2 2, fld b 4 1, fld b 5 1, fld b 6 1, fld b 7 1, fld b 8 2, fld b 10 1, fld b 11 1⟩)
  | 4 => some (.poolChannel h (fld b 0 1) (fld b 1 1))
  | 5 => some (.poolStatus h (fld b 0 2) (fld b 2 2) (fld b 4 1))
  | _ => none

def parseProt (cmd : Nat) (h : Hdr) (b : Nat) : Option Instr :=
  match cmd with
  | 1 => some (.protGroup h ⟨fld b 0 2, fld b 2 1, fld b 3 1, fld b 4 1, fld b 5 1, fld b 6 1, parseMembers (fld b 2 1) b⟩)
  | 2 => some (.protCommand h (fld b 0 2) (fld b 2 1))
  | 3 => some (.protStatus h (fld b 0 2) (fld b 2 1))
  | _ => none

def parsePm (cmd : Nat) (h : Hdr) (b : Nat) : Option Instr :=
  match cmd with
  | 1 => some (.pmConfig h ⟨fld b 0 1, fld b 1 1, fld b 2 1⟩)
  | 2 => some (.pmMonitor h ⟨parseEntity b, fld b 5 1, fld b 6 1, fld b 7 1⟩)
  | 3 => some (.pmProfile h (fld b 0 1) ((List.range 16).map fun i => fld b (8 + 4 * i) 4))
  | 4 => some (.pmRead h (parseEntity b) (fld b 5 1))
  | 5 => some (.pmBulk h ⟨fld b 0 1, fld b 1 1, fld b 2 1, fld b 3 1⟩)
  | _ => none

def parseScout (cmd : Nat) (h : Hdr) (b : Nat) : Option Instr :=
  match cmd with
  | 1 => some (.scoutInput h ⟨fld b 0 1, fld b 1 1, fld b 2 1, fld b 3 1, fld b 4 1, fld b 5 1, fld b 6 1, fld b 7 1, fld b 8 4,
      fld b 12 2, fld b 14 2, fld b 16 2, fld b 18 2, sfld b 20 4⟩)
  | 2 => some (.scoutSelect h ⟨fld b 0 1, fld b 1 1, fld b 2 1, fld b 3 1, fld b 4 1, fld b 5 1, fld b 6 1⟩)
  | 3 => some (.scoutDpll h ⟨fld b 0 2, fld b 2 2, fld b 4 1, fld b 5 1, fld b 6 2, fld b 8 4, fld b 12 2, fld b 14 2, fld b 16 2,
      fld b 18 2⟩)
  | 4 => some (.scoutStart h)
  | 5 => some (.scoutTod h ⟨fld b 0 1, fld b 1 1, fld b 2 2, fld b 8 6, fld b 16 6⟩)
  | 6 => some (.scoutSteer h ⟨fld b 0 1, fld b 1 1, sfld b 8 8⟩)
  | 7 => some (.scoutOutput h ⟨fld b 0 1, fld b 1 1, fld b 2 1, fld b 3 1, fld b 4 1, fld b 5 1, sfld b 8 4, fld b 12 4⟩)
  | 8 => some (.scoutModel h ⟨fld b 0 1, fld b 2 2, fld b 4 2⟩)
  | 9 => some (.scoutStatus h)
  | 10 => some (.scoutInputStatus h (fld b 0 1) (fld b 1 1))
  | _ => none

def parseHive (cmd : Nat) (h : Hdr) (b : Nat) : Option Instr :=
  match cmd with
  | 1 => some (.hiveConfig h ⟨fld b 0 1, fld b 1 1, fld b 2 2⟩)
  | 2 => some (.hiveJoin h (fld b 0 1))
  | 3 => some (.hiveSwitch h (fld b 0 1) (fld b 8 6))
  | 4 => some (.hiveStatus h)
  | _ => none

def parsePower (cmd : Nat) (h : Hdr) (b : Nat) : Option Instr :=
  match cmd with
  | 1 => some (.powerConfig h ⟨fld b 0 2, fld b 2 2, fld b 4 2, fld b 6 1, fld b 8 4⟩)
  | 2 => some (.powerTable h ⟨fld b 0 1, fld b 1 1, parsePowerEntry b⟩)
  | 3 => some (.powerStatus h (fld b 0 1) (fld b 1 1))
  | _ => none

def parseTest (cmd : Nat) (h : Hdr) (b : Nat) : Option Instr :=
  match cmd with
  | 1 => some (.testBist h ⟨fld b 0 1, fld b 1 1, fld b 2 2, fld b 4 1, fld b 6 2⟩)
  | 2 => some (.testSting h ⟨fld b 0 1, fld b 1 1, fld b 2 2, fld b 4 1, fld b 5 1, fld b 6 1, fld b 8 4⟩)
  | 3 => some (.testTracer h (fld b 0 1) (fld b 1 1))
  | _ => none

def parseSec (cmd : Nat) (h : Hdr) (b : Nat) : Option Instr :=
  match cmd with
  | 1 => some (.secStatus h)
  | 2 => some (.secChallenge h)
  | 3 => some (.secProve h (fld b 0 1) (fld b 1 1) (fld b 8 96))
  | 4 => some (.secWorld h ⟨fld b 0 1, fld b 1 1, fld b 2 2, fld b 4 1, fld b 5 1, fld b 6 1, fld b 8 2, fld b 10 2⟩)
  | 5 => some (.secLifecycle h (fld b 0 1) (parseToken b))
  | 6 => some (.secUpdate h (fld b 0 1) (fld b 4 4))
  | _ => none

/-- The command that a message's service, command and body spell. -/
def parseCommand (svc cmd : Nat) (h : Hdr) (b : Nat) : Option Instr :=
  match svc with
  | 1 => parseSys cmd h b
  | 2 => parseLane cmd h b
  | 3 => parseSdh cmd h b
  | 4 => parseCpri cmd h b
  | 5 => parseComb cmd h b
  | 6 => parseNurse cmd h b
  | 7 => parsePool cmd h b
  | 8 => parseProt cmd h b
  | 9 => parsePm cmd h b
  | 10 => parseScout cmd h b
  | 11 => parseHive cmd h b
  | 12 => parsePower cmd h b
  | 13 => parseTest cmd h b
  | 14 => if cmd = 1 then some (.tallyRead h (fld b 0 1) (fld b 1 1) (fld b 2 1)) else none
  | 15 => parseSec cmd h b
  | _ => none

/-! ### Running a parsed command -/

/-- What a serving Keeper does with a service command: the same operation as the command's own row. -/
def runCommand (i : Instr) (s : State) : State :=
  match i with
  | .sysHello h a => sysHello h a s
  | .sysSession h a => sysSession h a s
  | .sysMode h m => sysMode h m s
  | .sysBatchOpen h => sysBatchOpen h s
  | .sysBatchClose h a => sysBatchClose h a s
  | .sysBeatStatus h => sysBeatStatus h s
  | .sysBusStatus h c => sysBusStatus h c s
  | .laneConfig h a => laneConfig h a s
  | .laneStatus h n c => laneStatus h n c s
  | .laneCal h a => laneCal h a s
  | .lanePrbs h a => lanePrbs h a s
  | .laneSlip h n => laneSlip h n s
  | .laneTrim h n t => laneTrim h n t s
  | .sdhPort h a => sdhPort h a s
  | .sdhPath h a => sdhPath h a s
  | .sdhOh h a => sdhOh h a s
  | .sdhStatus h n g c => sdhStatus h n g c s
  | .sdhTrace h n g => sdhTrace h n g s
  | .cpriPort h a => cpriPort h a s
  | .cpriAxc h a => cpriAxc h a s
  | .cpriCm h a => cpriCm h a s
  | .cpriL1 h n a => cpriL1 h n a s
  | .cpriStatus h n c => cpriStatus h n c s
  | .combConnect h op es => combConnect h op es s
  | .combBrood h op k es => combBrood h op k es s
  | .combTu h op es => combTu h op es s
  | .combRead h a => combRead h a s
  | .combTest h a => combTest h a s
  | .combTap h a => combTap h a s
  | .combStatus h p c => combStatus h p c s
  | .nurseVc h a => nurseVc h a s
  | .nurseTu h a => nurseTu h a s
  | .nurseAxcvcat h a => nurseAxcvcat h a s
  | .nurseStatus h a => nurseStatus h a s
  | .poolDelay h a => poolDelay h a s
  | .poolGroup h a => poolGroup h a s
  | .poolTwin h a => poolTwin h a s
  | .poolChannel h d op => poolChannelCmd h d op s
  | .poolStatus h n m c => poolStatus h n m c s
  | .protGroup h a => protGroup h a s
  | .protCommand h n c => protCommandCmd h n c s
  | .protStatus h n c => protStatus h n c s
  | .pmConfig h a => pmConfig h a s
  | .pmMonitor h a => pmMonitor h a s
  | .pmProfile h i t => pmProfile h i t s
  | .pmRead h e n => pmRead h e n s
  | .pmBulk h a => pmBulk h a s
  | .scoutInput h a => scoutInput h a s
  | .scoutSelect h a => scoutSelect h a s
  | .scoutDpll h a => scoutDpll h a s
  | .scoutStart h => scoutStart h s
  | .scoutTod h a => scoutTod h a s
  | .scoutSteer h a => scoutSteer h a s
  | .scoutOutput h a => scoutOutput h a s
  | .scoutModel h a => scoutModel h a s
  | .scoutStatus h => scoutStatus h s
  | .scoutInputStatus h i c => scoutInputStatus h i c s
  | .hiveConfig h a => hiveConfig h a s
  | .hiveJoin h op => hiveJoin h op s
  | .hiveSwitch h op b => hiveSwitch h op b s
  | .hiveStatus h => hiveStatus h s
  | .powerConfig h a => powerConfig h a s
  | .powerTable h a => powerTable h a s
  | .powerStatus h r c => powerStatus h r c s
  | .testBist h a => testBist h a s
  | .testSting h a => testSting h a s
  | .testTracer h k p => testTracer h k p s
  | .tallyRead h f c n => tallyRead h f c n s
  | .secStatus h => secStatus h s
  | .secChallenge h => secChallenge h s
  | .secProve h op k g => secProve h op k g s
  | .secWorld h a => secWorld h a s
  | .secLifecycle h op t => secLifecycle h op t s
  | .secUpdate h op o => secUpdate h op o s
  | _ => s

/-- Answers a command that its own rules do not reach: no agreed version, unknown, or too short (R404, R422). Its fields read 0 but
for those that report the state (R407). -/
def refuseMessage (h : Hdr) (svc cmd status size : Nat) (s : State) : State :=
  let fs : Fields :=
    if svc = 1 && cmd = 3 then sessionFields h.port s
    else if svc = 1 && cmd = 4 then modeFields s
    else [(size, 0)]
  respondRaw h svc cmd status fs s

/-- The command of a whole message, as a serving Keeper takes it (R404, R422): first the agreed version, then whether this
firmware knows the command, then its length, then the command itself. `bytes`: body bytes of the message. -/
def runMessage (h : Hdr) (svc cmd b bytes : Nat) (s : State) : State :=
  match commandSizes svc cmd with
  | none =>
    if (s.port h.port).version.isNone then refuseMessage h svc cmd stVersion 6 s else refuseMessage h svc cmd stUnsupported 6 s
  | some (fixed, size) =>
    if (s.port h.port).version.isNone && !(svc == 1 && cmd == 1) then refuseMessage h svc cmd stVersion size s
    else if bytes < tableBytes svc cmd fixed b then refuseMessage h svc cmd stBadArg size s
    else match parseCommand svc cmd h b with
      | some i => runCommand i s
      | none => refuseMessage h svc cmd stUnsupported size s

end Sys2Proof.Machine
end

