-- ==== Sys2Proof/Machine/Waggle.lean ====
section
/-!
DEFINITION. Machine/Waggle.lean: the Waggle queues of a host port: pushes and pops, breaks, flushes, and the Keeper taking the
commands that the queues hold (13 R389-R402, R408, R590).
-/

namespace Sys2Proof.Machine

open Sys2Proof

/-! ### Pushes (R390, R397, R590) -/

/-- Puts the break mark on the last stored word. -/
def markBreak : List QWord → List QWord
  | [] => []
  | [w] => [{ w with brk := true }]
  | w :: t => w :: markBreak t

/-- Whether a length field makes a message (R403, R404). -/
def lengthOk (n : Nat) : Bool := 16 ≤ n && n ≤ 16384 && n % 8 == 0

/-- A push that the queue refuses: counted, overflow set (R397, R590). -/
def dropPush (p q : Nat) (f : CmdQueue → CmdQueue) (s : State) : State :=
  raise (portSrc p 6) (s.onCmdQ p q fun c => { f c with dropped := satAdd 32 c.dropped 1, overflow := true })

/-- Stores a word; a queue that it fills remembers it for source k = 7 (R421). -/
def storeWord (w : QWord) (msg : OpenMsg) (c : CmdQueue) : CmdQueue :=
  { c with words := c.words ++ [w], msg := msg, wasFull := c.wasFull || 8191 ≤ c.words.length }

/-- The queue after a START closed its open message as broken (R590). -/
def closeOpen (c : CmdQueue) : CmdQueue := if c.msg = .closed then c else { c with words := markBreak c.words, msg := .closed }

/-- A whole word written to START. -/
def startWord (p q : Nat) (d : Word) (s : State) : State :=
  let c := (s.port p).cmdOf q
  if c.flush then s
  else if 8192 ≤ c.words.length then dropPush p q closeOpen s
  else
    let n := d.toNat % 65536
    s.onCmdQ p q fun c => storeWord { data := d, start := true } (if lengthOk n then .counted (n / 8 - 1) else .endless) (closeOpen c)

/-- A whole word written to PUSH. -/
def pushWord (p q : Nat) (d : Word) (s : State) : State :=
  let c := (s.port p).cmdOf q
  if c.flush then s
  else if c.msg = .closed then dropPush p q id s
  else if 8192 ≤ c.words.length then dropPush p q closeOpen s
  else
    let m := match c.msg with
      | .counted k => if k ≤ 1 then OpenMsg.closed else .counted (k - 1)
      | m => m
    s.onCmdQ p q fun c => storeWord { data := d } m c

/-- Joins two halves, the lower one first. -/
def joinHalves (lo hi : Word) : Word := BitVec.ofNat 64 (lo.toNat % 2 ^ 32 + 2 ^ 32 * (hi.toNat % 2 ^ 32))

def wgStart (p q : Nat) (half : Half) (d : Word) (s : State) : State :=
  if !s.portUp p || 4 ≤ q then s
  else match half with
    | .whole => startWord p q d (s.onCmdQ p q fun c => { c with startLo := none })
    | .lo => s.onCmdQ p q fun c => { c with startLo := some d }
    | .hi =>
      match ((s.port p).cmdOf q).startLo with
      | some l => startWord p q (joinHalves l d) (s.onCmdQ p q fun c => { c with startLo := none })
      | none => setIdErr 1 s

def wgPush (p q : Nat) (half : Half) (d : Word) (s : State) : State :=
  if !s.portUp p || 4 ≤ q then s
  else match half with
    | .whole => pushWord p q d (s.onCmdQ p q fun c => { c with pushLo := none })
    | .lo => s.onCmdQ p q fun c => { c with pushLo := some d }
    | .hi =>
      match ((s.port p).cmdOf q).pushLo with
      | some l => pushWord p q (joinHalves l d) (s.onCmdQ p q fun c => { c with pushLo := none })
      | none => setIdErr 1 s

/-! ### Pops (R390, R399) -/

def emptyWord : Word := 0xFFFFFFFFFFFFFFFE

/-- A queue of the host: response queues 0-3, or the notification queue, 4. -/
def hostQueue (w : WgPort) (r : Nat) : RspQueue := if r < 4 then w.rspOf r else w.ntf

def onHostQueue (p r : Nat) (f : RspQueue → RspQueue) (s : State) : State :=
  if r < 4 then s.onRspQ p r f else s.onPort p fun w => { w with ntf := f w.ntf }

/-- The words that a pop may take: once a flush is requested, only those of the message that the host has begun (R400). -/
def poppable (x : RspQueue) : List QWord := if x.flush && (x.words.head?.map fun w => w.start).getD false then [] else x.words

/-- Takes one word, or EMPTY, which removes nothing (R399). -/
def popWord (p r : Nat) (s : State) : Word × State :=
  match poppable (hostQueue (s.port p) r) with
  | [] => (emptyWord, tick 118 p 1 s)
  | w :: t =>
    let u := onHostQueue p r (fun x => { x with words := t }) s
    (w.data, if t = [] then driveSrc (portSrc p r) false u else u)

def popHost (p r : Nat) (half : Half) (s : State) : State :=
  if !s.portUp p || 5 ≤ r then s
  else match half with
    | .hi => setRead p (BitVec.ofNat 64 (hostQueue (s.port p) r).upper) s
    | .whole =>
      let t := popWord p r s
      setRead p t.1 t.2
    | .lo =>
      let t := popWord p r s
      setRead p (BitVec.ofNat 64 (t.1.toNat % 2 ^ 32)) (onHostQueue p r (fun x => { x with upper := t.1.toNat / 2 ^ 32 }) t.2)

/-! ### Messages at the head of a command queue -/

/-- The stored words of the oldest message: its first word and those up to the next start mark. -/
def headMessage : List QWord → List QWord
  | [] => []
  | w :: t => w :: t.takeWhile fun x => !x.start

def messageLength (m : List QWord) : Nat := (m.headD { data := 0 }).data.toNat % 65536

/-- A break mark stands in the message (R397). -/
def isBroken (m : List QWord) : Bool := m.any fun w => w.brk

/-- The whole message is stored. -/
def isWhole (m : List QWord) : Bool := lengthOk (messageLength m) && messageLength m / 8 ≤ m.length

/-- The Keeper can take the message: it is whole, or it ends in a break mark (R397, R398). -/
def isReady (m : List QWord) : Bool := m != [] && (isBroken m || isWhole m)

/-- The Keeper has begun a message that is not whole, under cut-through (R401). -/
def isBegun (c : CmdQueue) : Bool :=
  let m := headMessage c.words
  0 < c.cutThrough && m != [] && !isReady m && 64 * c.cutThrough ≤ 8 * m.length

/-- Removes the oldest message; source k = 7 when space rises above half after the queue had been full (R421). -/
def dropHead (p q : Nat) (s : State) : State :=
  let c := (s.port p).cmdOf q
  let n := (headMessage c.words).length
  let rest := c.words.drop n
  let rises := c.wasFull && rest.length < 4096
  raiseIf rises (portSrc p 7) (s.onCmdQ p q fun c =>
    { c with words := rest, late := c.late - n, wasFull := c.wasFull && !rises })

/-- The header of a message (R403). -/
def headerOf (p q : Nat) (late : Bool) (us : Nat) (m : List QWord) : Hdr :=
  let w := (m.headD { data := 0 }).data.toNat
  { port := p, queue := q, seq := field w 16 16, tag := ((m.drop 1).headD { data := 0 }).data.toNat, late := late, us := us }

def serviceOf (m : List QWord) : Nat := field (m.headD { data := 0 }).data.toNat 32 8
def commandOf (m : List QWord) : Nat := field (m.headD { data := 0 }).data.toNat 40 8

/-- A broken message: discarded, and answered BUSY with flags bit 2 when its header was stored (R397, R398). -/
def discardBroken (h : Hdr) (m : List QWord) (s : State) : State :=
  let t := raise (portSrc h.port 6) ((tick 117 h.port 1 s).onCmdQ h.port h.queue fun c => { c with broken := true })
  if m.length < 2 then t
  else
    let svc := serviceOf m
    let cmd := commandOf m
    let fs : Fields :=
      if svc = 1 && cmd = 3 then sessionFields h.port t
      else if svc = 1 && cmd = 4 then modeFields t
      else [(((commandSizes svc cmd).map Prod.snd).getD 6, 0)]
    publishRsp h.port h.queue (message h.seq svc cmd (5 + 8 * boolNat h.late) h.tag ((2, 1) :: fs)) t

/-- A ready message, taken and executed (R402). -/
def takeMessage (p q us : Nat) (s : State) : State :=
  let c := (s.port p).cmdOf q
  let m := headMessage c.words
  let h := headerOf p q (0 < c.late) us m
  let t := dropHead p q (tick 112 p 1 s)
  if isBroken m then discardBroken h m t
  else runMessage h (serviceOf m) (commandOf m) (bodyNat ((m.drop 2).map fun w => w.data)) (messageLength m - 16) t

/-- Whether the Keeper can start a command of a queue: one is ready, no flush waits, and the response queue has room for
16,384 bytes (R400, R402). -/
def canServe (s : State) (p q : Nat) : Bool :=
  let c := (s.port p).cmdOf q
  isReady (headMessage c.words) && !c.flush && ((s.port p).rspOf q).words.length + 2048 ≤ 8192

/-- The queues in service order: strict priority, the ports in turn (R402). -/
def serveOrder (turn : Nat) : List (Nat × Nat) := [3, 2, 1, 0].flatMap fun q => [(turn % 2, q), (1 - turn % 2, q)]

/-- COMMAND_SERVE: the Keeper takes the next command; `us` is when its last word arrived in the beat (R61). -/
def commandServes (us : Nat) (s : State) : State :=
  if !s.keeper.serving then s
  else match (serveOrder s.keeper.serveTurn).find? fun e => canServe s e.1 e.2 with
    | none => s
    | some (p, q) => takeMessage p q us (s.onKeeper fun k => { k with serveTurn := 1 - p })

/-- QUEUE_READ_STALL_TIMEOUT: only under cut-through (R398). The words that follow find no open message. -/
def stallEnds (p q : Nat) (s : State) : State :=
  let c := (s.port p).cmdOf q
  if p < 2 && q < 4 && s.keeper.serving && isBegun c then
    let m := headMessage c.words
    let h := headerOf p q (0 < c.late) 0 m
    discardBroken h m (dropHead p q (s.onCmdQ p q fun c => { c with msg := .closed }))
  else s

/-! ### Flushes (R400) -/

/-- A flush request; queues 0-3 of commands, 4-7 of responses, 8 of notifications. -/
def requestFlush (p k : Nat) (s : State) : State :=
  if k < 4 then s.onCmdQ p k fun c => { c with flush := true }
  else if k < 8 then s.onRspQ p (k - 4) fun r => { r with flush := true }
  else s.onPort p fun w => { w with ntf := { w.ntf with flush := true } }

def hostFlush (p k lo n : Nat) (s : State) : State := if s.portUp p && k < n then requestFlush p (lo + k) s else s

/-- The host stands at a message boundary of its queue. -/
def atBoundary (r : RspQueue) : Bool := (r.words.head?.map fun w => w.start).getD true

/-- FLUSH_DONE: at the consumer's message boundary the stored words go; a command queue has no message open then. -/
def flushEnds (p k : Nat) (s : State) : State :=
  if 2 ≤ p || 9 ≤ k then s
  else if k < 4 then
    let c := (s.port p).cmdOf k
    if c.flush && !isBegun c then
      let rises := c.wasFull
      raiseIf rises (portSrc p 7) (s.onCmdQ p k fun c => { c with words := [], msg := .closed, flush := false, late := 0, wasFull := false })
    else s
  else
    let r := hostQueue (s.port p) (k - 4)
    if r.flush && atBoundary r then
      driveSrc (portSrc p (k - 4)) false (onHostQueue p (k - 4) (fun r => { r with words := [], flush := false }) s)
    else s

def execWgCmdStart (p q : Nat) (half : Half) (d : Word) (s : State) : Out := done s (barAccess p (0x1000 + 0x40 * q) (wgStart p q half d) s)
def execWgCmdPush (p q : Nat) (half : Half) (d : Word) (s : State) : Out := done s (barAccess p (0x1008 + 0x40 * q) (wgPush p q half d) s)
def execWgRspPop (p r : Nat) (half : Half) (s : State) : Out :=
  done s (if r < 4 then barAccess p (0x1100 + 0x40 * r) (popHost p r half) s else s)
def execWgNtfPop (p : Nat) (half : Half) (s : State) : Out := done s (barAccess p 0x1200 (popHost p 4 half) s)
def execCmdQueueFlush (p q : Nat) (s : State) : Out := done s (barAccess p (0x1018 + 0x40 * q) (hostFlush p q 0 4) s)
def execRspQueueFlush (p r : Nat) (s : State) : Out := done s (barAccess p (0x1118 + 0x40 * r) (hostFlush p r 4 4) s)
def execNtfQueueFlush (p : Nat) (s : State) : Out := done s (barAccess p 0x1218 (hostFlush p 0 8 1) s)
def execFlushDone (p k : Nat) (s : State) : Out := done s (flushEnds p k s)
def execCommandServe (us : Nat) (s : State) : Out := done s (commandServes us s)
def execQueueReadStallTimeout (p q : Nat) (s : State) : Out := done s (stallEnds p q s)

end Sys2Proof.Machine
end

