-- ==== Sys2Proof/Machine/Host.lean ====
section
/-!
DEFINITION. Machine/Host.lean: the registers of BAR0 as the host reads and writes them, and the DMA rings (13 R384-R388, R416-R420;
00 R10-R18; the register tables of 12, 13, 14, 16 and 18).
-/

namespace Sys2Proof.Machine

open Sys2Proof

/-! ### Where an offset lies -/

/-- Offset `off` of the 8-byte register at `base` with `n` copies `step` apart: which copy. -/
def regIndex (base step n off : Nat) : Option Nat :=
  if base ≤ off && (off - base) % step == 0 && (off - base) / step < n then some ((off - base) / step) else none

/-- The registers of BAR0, by what they are; `off` is a multiple of 8 (R385). -/
inductive Reg where
  | idPart | idFw | idIfver | idStatus | idBeat | idPort | idScratch | idErr
  | cmdStart (q : Nat) | cmdPush (q : Nat) | cmdStatus (q : Nat) | cmdCtrl (q : Nat) | cmdErr (q : Nat)
  | hostPop (r : Nat) | hostStatus (r : Nat) | hostCtrl (r : Nat)
  | sem (n : Nat) | semRenew | semLease | semOwned
  | evSrc (n : Nat) | evClaim | evComplete | evStack | evReset | evErr | evGrp (g : Nat) | evPend (w : Nat) | evRedirect
  | dmaBase (n : Nat) | dmaCfg (n : Nat) | dmaTail (n : Nat) | dmaHead (n : Nat) | dmaStatus (n : Nat) | dmaErr (n : Nat)
  | tlCnt (n : Nat) | tlCfg (n : Nat) | tlReload (n : Nat) | tlSnap (n : Nat) | tlCtrl | tlSnapBeat | tlFreezeBeat | tlOvf
  | tlClear | tlPreset
  | gdStatus | gdCores | gdFqInfo | gdLast | gdWdog | gdPolicy | gdCtrl | gdResolve | gdEvents | gdApBeat
  | gdFqLo (e : Nat) | gdFqHi (e : Nat)
  | hvStatus | hvTakeover | hvCounts | hvEvents | hvCtrl
  | pwStatus | pwAvs | pwEnergy | pwPower | pwLean | pwEvents | pwRail (r : Nat)
  | msixTable (i : Nat) | msixPba
  deriving DecidableEq, Repr

def idRegs : List (Nat × Reg) :=
  [(0x0, .idPart), (0x8, .idFw), (0x10, .idIfver), (0x18, .idStatus), (0x20, .idBeat), (0x28, .idPort), (0x30, .idScratch), (0x38, .idErr)]
def wgSemRegs : List (Nat × Reg) :=
  [(0x1200, .hostPop 4), (0x1210, .hostStatus 4), (0x1218, .hostCtrl 4), (0x4100, .semRenew), (0x4108, .semLease), (0x4110, .semOwned)]
def evRegs : List (Nat × Reg) :=
  [(0x5A00, .evClaim), (0x5A08, .evComplete), (0x5A10, .evStack), (0x5A18, .evReset), (0x5A20, .evErr), (0x5B40, .evRedirect)]
def tlRegs : List (Nat × Reg) :=
  [(0x8800, .tlCtrl), (0x8808, .tlSnapBeat), (0x8810, .tlFreezeBeat), (0x8818, .tlOvf), (0x8820, .tlClear), (0x8828, .tlPreset)]
def gdRegs : List (Nat × Reg) :=
  [(0x9000, .gdStatus), (0x9008, .gdCores), (0x9010, .gdFqInfo), (0x9018, .gdLast), (0x9020, .gdWdog), (0x9028, .gdPolicy),
    (0x9030, .gdCtrl), (0x9038, .gdResolve), (0x9040, .gdEvents), (0x9048, .gdApBeat)]
def hvRegs : List (Nat × Reg) :=
  [(0xA000, .hvStatus), (0xA008, .hvTakeover), (0xA010, .hvCounts), (0xA018, .hvEvents), (0xA020, .hvCtrl)]
def pwRegs : List (Nat × Reg) :=
  [(0xC000, .pwStatus), (0xC008, .pwAvs), (0xC010, .pwEnergy), (0xC018, .pwPower), (0xC020, .pwLean), (0xC028, .pwEvents)]
def msixRegs : List (Nat × Reg) :=
  [(0xF1000, .msixPba)]

/-- Registers at a fixed offset. -/
def fixedRegs : List (Nat × Reg) := List.flatten [idRegs, wgSemRegs, evRegs, tlRegs, gdRegs, hvRegs, pwRegs, msixRegs]

def wgRows : List (Nat × Nat × Nat × (Nat → Reg)) :=
  [(0x1000, 0x40, 4, .cmdStart), (0x1008, 0x40, 4, .cmdPush), (0x1010, 0x40, 4, .cmdStatus), (0x1018, 0x40, 4, .cmdCtrl),
    (0x1020, 0x40, 4, .cmdErr), (0x1100, 0x40, 4, .hostPop), (0x1110, 0x40, 4, .hostStatus), (0x1118, 0x40, 4, .hostCtrl)]
def evRows : List (Nat × Nat × Nat × (Nat → Reg)) :=
  [(0x4000, 8, 32, .sem), (0x5000, 8, 320, .evSrc), (0x5A40, 8, 14, .evGrp), (0x5B00, 8, 5, .evPend)]
def dmaRows : List (Nat × Nat × Nat × (Nat → Reg)) :=
  [(0x6000, 0x40, 8, .dmaBase), (0x6008, 0x40, 8, .dmaCfg), (0x6010, 0x40, 8, .dmaTail), (0x6018, 0x40, 8, .dmaHead),
    (0x6020, 0x40, 8, .dmaStatus), (0x6028, 0x40, 8, .dmaErr)]
def tlRows : List (Nat × Nat × Nat × (Nat → Reg)) :=
  [(0x8000, 8, 64, .tlCnt), (0x8200, 8, 64, .tlCfg), (0x8400, 8, 64, .tlReload), (0x8600, 8, 64, .tlSnap)]
def otherRows : List (Nat × Nat × Nat × (Nat → Reg)) :=
  [(0x9100, 16, 16, .gdFqLo), (0x9108, 16, 16, .gdFqHi), (0xC100, 8, 16, .pwRail), (0xF0000, 8, 64, .msixTable)]

/-- Registers in rows: base, step, copies. -/
def rowRegs : List (Nat × Nat × Nat × (Nat → Reg)) := List.flatten [wgRows, evRows, dmaRows, tlRows, otherRows]

/-- The register at an offset; none: undecoded (R384). -/
def regAt (off : Nat) : Option Reg :=
  match fixedRegs.find? fun e => e.1 == off with
  | some e => some e.2
  | none => rowRegs.findSome? fun e => (regIndex e.1 e.2.1 e.2.2.1 off).map e.2.2.2

/-- The debug window as FIELD_DEBUG opens it to a sealed port (17 R529). -/
def inDebug (s : State) (p off : Nat) : Bool := 0x10000 ≤ off && off < 0xF0000 && s.sec.life == 2 && (s.chal p).isSealed

/-! ### Reads -/

/-- What a register holds, without what its read does. A WO register reads 0 (R10). -/
def regValue (s : State) (p : Nat) : Reg → Nat
  | .idPart => idPart
  | .idFw => idFw s
  | .idIfver => s.keeper.ifVer
  | .idStatus => idStatus s p
  | .idBeat => s.now
  | .idPort => idPort s p
  | .idScratch => (s.port p).scratch.toNat
  | .idErr => s.bus.idErr
  | .cmdStatus q => cmdStatus ((s.port p).cmdOf q)
  | .cmdCtrl q => cmdCtrl ((s.port p).cmdOf q)
  | .cmdErr q => cmdErr ((s.port p).cmdOf q)
  | .hostStatus r => rspStatus (hostQueue (s.port p) r)
  | .hostCtrl r => boolNat (hostQueue (s.port p) r).flush
  | .sem n => (semWord s n).toNat
  | .semLease => (s.port p).lease
  | .semOwned => semOwned s p
  | .evSrc n => evSrc s n
  | .evClaim => 0x8000
  | .evStack => evStackWord s (4 + p)
  | .evErr => evErr s p
  | .evGrp g => evGrp s p g
  | .evPend w => evPend s w
  | .evRedirect => s.ev.redirect
  | .dmaBase n => ((s.port p).ringOf n).base
  | .dmaCfg n => dmaCfg ((s.port p).ringOf n)
  | .dmaTail n => ((s.port p).ringOf n).tail
  | .dmaHead n => ((s.port p).ringOf n).head
  | .dmaStatus n => dmaStatus ((s.port p).ringOf n)
  | .dmaErr n => ((s.port p).ringOf n).err
  | .tlCnt n => tlCnt s n
  | .tlCfg n => (s.counter n).cfg.toNat
  | .tlReload n => (s.counter n).reload
  | .tlSnap n => (s.counter n).snap
  | .tlCtrl => boolNat s.tally.freeze
  | .tlSnapBeat => s.tally.snapBeat
  | .tlFreezeBeat => s.tally.freezeBeat
  | .tlOvf => tlOvf s
  | .gdStatus => gdStatus s
  | .gdCores => gdCores s
  | .gdFqInfo => gdFqInfo s
  | .gdLast => gdLast s
  | .gdWdog => gdWdog s
  | .gdPolicy => gdPolicy s
  | .gdEvents => s.guard.events
  | .gdApBeat => s.guard.apBeat
  | .gdFqLo e => gdFqLo s e
  | .gdFqHi e => gdFqHi s p e
  | .hvStatus => hvStatus s
  | .hvTakeover => hvTakeover s
  | .hvCounts => hvCounts s
  | .hvEvents => s.hive.events
  | .pwStatus => pwStatus s
  | .pwAvs => pwAvs s
  | .pwEnergy => s.power.energy
  | .pwPower => pwPower s
  | .pwLean => pwLean s
  | .pwEvents => s.power.events
  | .pwRail r => pwRail s r
  | .msixTable i => (s.port p).msixWord (2 * i) + 2 ^ 32 * (s.port p).msixWord (2 * i + 1)
  | .msixPba => ((List.range 32).map fun v => if (s.port p).msixPba.contains v then 2 ^ v else 0).sum
  | _ => 0

/-- A half of a 64-bit value. -/
def halfOf (half : Half) (v : Nat) : Nat :=
  match half with
  | .whole => v % 2 ^ 64
  | .lo => v % 2 ^ 32
  | .hi => v / 2 ^ 32 % 2 ^ 32

def returns (p : Nat) (v : Nat) (s : State) : State := setRead p (BitVec.ofNat 64 v) s

/-- A read of a register whose lower half latches its upper half; `latched` is what was latched (R387, R508, R559). -/
def latchRead (p : Nat) (half : Half) (v latched : Nat) (latch : Nat → State → State) (s : State) : State :=
  match half with
  | .hi => returns p latched s
  | .lo => returns p (v % 2 ^ 32) (latch (v / 2 ^ 32 % 2 ^ 32) s)
  | .whole => returns p v s

/-- A host read of a register (R12). -/
def regRead (p : Nat) (r : Reg) (half : Half) (s : State) : State :=
  match r with
  | .hostPop q => popHost p q half s
  | .sem n => semAcquire p n half false s
  | .semRenew => semRenew p half s
  | .evClaim => evClaim p half s
  | .idBeat => latchRead p half (regValue s p r) (s.port p).beatHi (fun v t => t.onPort p fun w => { w with beatHi := v }) s
  | .pwEnergy => latchRead p half (regValue s p r) s.power.energyHi (fun v t => t.onPower fun w => { w with energyHi := v }) s
  | .tlCnt n => latchRead p half (regValue s p r) (s.counter n).upper (fun v t => t.onCounter n fun c => { c with upper := v }) s
  | _ => returns p (halfOf half (regValue s p r)) s

/-! ### Writes -/

/-- The 64 bits that a write of a half leaves of a register that holds `old` (R12). -/
def mergeHalf (half : Half) (old v : Nat) : Nat :=
  match half with
  | .whole => v % 2 ^ 64
  | .lo => old / 2 ^ 32 * 2 ^ 32 + v % 2 ^ 32
  | .hi => old % 2 ^ 32 + v % 2 ^ 32 * 2 ^ 32

/-- DMA_n_CFG enable: in force at the next beat, at once before the beat starts (R13, R416, 02 R592). -/
def setRingEnable (p n : Nat) (on : Bool) (s : State) : State :=
  s.onRing p n fun r =>
    if r.enable == on then { r with pendEnable := none }
    else if s.clk.started then { r with pendEnable := some on }
    else ringEnabled on r

/-- The class F fields of a ring: no effect while it is enabled (R14, R416). -/
def setRingBase (p n v : Nat) (s : State) : State :=
  s.onRing p n fun r => if r.enable || v % 32 != 0 then r else { r with base := v }

def setRingLog2 (p n v : Nat) (s : State) : State :=
  s.onRing p n fun r => if r.enable || v < 3 || 12 < v then r else { r with log2 := v }

def setRingTail (p n v : Nat) (s : State) : State := s.onRing p n fun r => { r with tail := v % 4096 }

/-- TL_CFGn: an event code above 191 leaves that field (R18, R511). -/
def tlCfgValue (old v : Nat) : Nat :=
  let event := if v % 256 ≤ 191 then v % 256 else old % 256
  event + at' 8 (field v 8 16) + at' 32 (field v 32 16)

def setTlCfg (n v : Nat) (s : State) : State :=
  s.onCounter n fun c => { c with cfg := BitVec.ofNat 64 (tlCfgValue c.cfg.toNat v) }

/-- WG_CMDq_CTRL (R393): an unlisted cut_through leaves that field. -/
def setCmdCtrl (p q v : Nat) (s : State) : State :=
  let t := if bit v 0 then requestFlush p q s else s
  let c := field v 8 8
  if c ≤ 128 then t.onCmdQ p q fun x => { x with cutThrough := c } else t

def clearCmdErr (p q m : Nat) (s : State) : State :=
  s.onCmdQ p q fun c => { c with overflow := c.overflow && !bit m 0, broken := c.broken && !bit m 1 }

def clearEvErr (p m : Nat) (s : State) : State :=
  s.onEv fun e => if p = 0 then { e with errA := clearBits e.errA m } else { e with errB := clearBits e.errB m }

/-- The word of a write, other half 0, for a register whose bits act each by itself. -/
def actingBits (half : Half) (v : Nat) : Nat := mergeHalf half 0 v

/-- A host write of a register (R10): RW fields take the value, RW1C bits clear, WO registers act, RO fields do not change. -/
def regWrite (p : Nat) (r : Reg) (half : Half) (d : Nat) (s : State) : State :=
  let v := mergeHalf half (regValue s p r) d
  let m := actingBits half d
  match r with
  | .idScratch => s.onPort p fun w => { w with scratch := BitVec.ofNat 64 v }
  | .idErr => s.onBus fun x => { x with idErr := clearBits x.idErr m }
  | .cmdStart q => wgStart p q half (BitVec.ofNat 64 d) s
  | .cmdPush q => wgPush p q half (BitVec.ofNat 64 d) s
  | .cmdCtrl q => setCmdCtrl p q (if half = .hi then at' 8 ((s.port p).cmdOf q).cutThrough else v) s
  | .cmdErr q => clearCmdErr p q m s
  | .hostCtrl q => if bit m 0 then requestFlush p (4 + q) s else s
  | .sem n => semRelease p n s
  | .semLease => if 10 ≤ v % 65536 && v % 65536 ≤ 60000 then s.onPort p fun w => { w with lease := v % 65536 } else s
  | .evSrc n => evSrcWrite p n v s
  | .evComplete => if half = .hi then s else evComplete p d s
  | .evReset => if half = .hi then s else evReset p d s
  | .evErr => clearEvErr p m s
  | .evGrp g => evGrpWrite p g v s
  | .evRedirect => if 1 ≤ v % 1024 && v % 1024 ≤ 1000 then s.onEv fun e => { e with redirect := v % 1024 } else s
  | .dmaBase n => setRingBase p n v s
  | .dmaCfg n => setRingEnable p n (if half = .hi then ((s.port p).ringOf n).pendEnable.getD ((s.port p).ringOf n).enable else bit v 0)
      (setRingLog2 p n (field v 8 4) s)
  | .dmaTail n => setRingTail p n v s
  | .dmaErr n => s.onRing p n fun r => { r with err := clearBits r.err m }
  | .tlCfg n => setTlCfg n v s
  | .tlReload n => s.onCounter n fun c => { c with reload := v % 2 ^ 48 }
  | .tlCtrl =>
    let t := tallyFreeze (bit v 0) s
    if bit m 1 then tallySnap t else t
  | .tlOvf => setOvf (s.tally.ovf.filter fun n => !bit m n) s
  | .tlClear => tallyClear m s
  | .tlPreset => tallyPreset m s
  | .gdPolicy => s.onGuard fun g => { g with stormPolicy := v % 2, restartLimit := field v 1 3 }
  | .gdCtrl =>
    if m % 256 = 0xA5 then
      let t := if bit m 8 then clearStorm 0xA5 s else s
      if bit m 9 then gdRestarts 0xA5 t else t
    else s
  | .gdResolve => gdResolve (field m 0 4) (field m 8 8) s
  | .gdEvents => s.onGuard fun g => { g with events := clearBits g.events m }
  | .hvEvents => s.onHive fun h => { h with events := clearBits h.events m }
  | .hvCtrl => hvCtrl half d s
  | .pwEvents => s.onPower fun x => { x with events := clearBits x.events m }
  | .msixTable i => s.onPort p fun w => w.writeVector i (v % 2 ^ 32) (v / 2 ^ 32 % 2 ^ 32)
  | _ => s

/-- REGISTER_WRITE: `off` is the register's offset, `half` what of it is written. -/
def hostWrite (p off : Nat) (half : Half) (d : Nat) (s : State) : State :=
  if off % 8 ≠ 0 then setIdErr 1 s
  else match regAt off with
    | some r => regWrite p r half d s
    | none => setIdErr 0 s

/-- A BAR0 access of a size at an offset (R384); a good read is the register's read, a good write is REGISTER_WRITE's. -/
def bar0Access (p off size : Nat) (write : Bool) (s : State) : State :=
  if (size ≠ 4 && size ≠ 8) || off % size ≠ 0 then setIdErr 1 s
  else match regAt (off / 8 * 8) with
    | none => if write then setIdErr 0 s else returns p 0 (setIdErr 0 s)
    | some r => if write then s else regRead p r (if size = 8 then .whole else if off % 8 = 0 then .lo else .hi) s

/-! ### DMA descriptors (R417-R420) -/

def descOk (d : DescView) : Bool := 64 ≤ d.bufLen && d.bufLen ≤ 65536 && d.bufLen % 8 == 0

/-- Splits records into those that fit a buffer of `n` bytes and the rest. -/
def packed : Nat → List (List Byte) → List (List Byte) × List (List Byte)
  | _, [] => ([], [])
  | n, r :: t =>
    if r.length ≤ n then
      let q := packed (n - r.length) t
      (r :: q.1, q.2)
    else ([], r :: t)

/-- A bad descriptor or a PCIe error: written back with error, ring halted, its records dropped and counted (R420). -/
def haltRing (p n b : Nat) (s : State) : State :=
  raise (portSrc p (8 + n)) (s.onRing p n fun r =>
    { r with
      halted := true, err := withBit r.err b, dropped := satAdd 32 r.dropped r.cur.length, cur := [], wroteNow := false
      backs := ⟨r.head, 0, 8, 0, 0⟩ :: r.backs })

/-- The next descriptor index. -/
def nextIndex (r : Ring) : Nat := (r.head + 1) % 2 ^ r.log2

/-- The descriptor at HEAD is written back and HEAD advances: bytes and number of its records, and on a ring that the device writes the
beat that the first of them carries (R417, R418). -/
def Ring.writeBack (r : Ring) (recs : List (List Byte)) (capture : Bool) : Ring :=
  { r with
    backs := ⟨r.head, (recs.map List.length).sum, 0, recs.length, if capture then bytesNat ((recs.headD []).take 6) else 0⟩ :: r.backs
    head := nextIndex r }

/-- A capture ring closes its buffer: the records that fit go out, larger ones than the buffer are dropped (R419). -/
def closeCapture (p n : Nat) (d : DescView) (s : State) : State :=
  let r := (s.port p).ringOf n
  let big := r.cur.filter fun x => d.bufLen < x.length
  let q := packed d.bufLen (r.cur.filter fun x => x.length ≤ d.bufLen)
  let t := s.onRing p n fun r =>
    { (if q.1 = [] then r else r.writeBack q.1 true) with
      dropped := satAdd 32 r.dropped big.length, err := if big = [] then r.err else withBit r.err 2
      cur := q.2, wroteNow := q.2 != [], out := if q.1 = [] then r.out else q.1 :: r.out }
  raise (portSrc p (8 + n)) t

/-- Bytes of a record's head: lane, channel or group (R125, R150). -/
def recLane (x : List Byte) : Nat := (x.getD 8 0).toNat + 256 * (x.getD 9 0).toNat
def recKind (x : List Byte) : Nat := (x.getD 10 0).toNat

/-- Whether an insert record of ring `n` names a channel or group that a lane of this port inserts (R127, R151). -/
def recNamed (s : State) (p n : Nat) (x : List Byte) : Bool :=
  16 ≤ x.length && recLane x < 256 &&
    (if n = 1 then (s.sdhOf (recLane x)).oh.port == p && bit (s.sdhOf (recLane x)).oh.insert (recKind x)
     else (s.cpriOf (recLane x)).cm.port == p && bit (s.cpriOf (recLane x)).cm.insert (recKind x))

def recQueue (s : State) (n : Nat) (x : List Byte) : List (List Byte) :=
  if n = 1 then tget [] (s.sdhOf (recLane x)).ohQueue (recKind x) else tget [] (s.cpriOf (recLane x)).cmQueue (recKind x)

def queueRec (n : Nat) (x : List Byte) (s : State) : State :=
  let q := recQueue s n x ++ [x]
  if n = 1 then s.onSdh (recLane x) fun l => { l with ohQueue := tput [] l.ohQueue (recKind x) q }
  else s.onCpri (recLane x) fun l => { l with cmQueue := tput [] l.cmQueue (recKind x) q }

/-- Takes insert records from the front while their queues have room for them; a record that names no inserting channel of the
port goes nowhere. What is left stays in the buffer. -/
def takeRecs (p n : Nat) : List (List Byte) → State → List (List Byte) × State
  | [], s => ([], s)
  | x :: t, s =>
    if !recNamed s p n x then takeRecs p n t s
    else if (recQueue s n x).length < 2 then takeRecs p n t (queueRec n x s)
    else (x :: t, s)

/-- A ring that the device reads: the buffer closes when every record has been taken (R127, R418). -/
def closeInsert (p n : Nat) (d : DescView) (s : State) : State :=
  let r := (s.port p).ringOf n
  let q := takeRecs p n (if r.cur = [] then d.recs else r.cur) s
  if q.1 = [] then raise (portSrc p (8 + n)) (q.2.onRing p n fun r => { r.writeBack d.recs false with cur := [] })
  else q.2.onRing p n fun r => { r with cur := q.1 }

/-- DESCRIPTOR_CLOSE: the device is done with the descriptor at HEAD, which it owns while HEAD is not TAIL (R418). -/
def descriptorCloses (p n : Nat) (d : DescView) (s : State) : State :=
  let r := (s.port p).ringOf n
  if !s.portUp p || 8 ≤ n || !r.enable || r.halted || r.head = r.tail then s
  else if !descOk d || d.addr % 8 ≠ 0 then haltRing p n 0 s
  else if d.pcieError then haltRing p n 1 (tick 110 (10 + p) 1 s)
  else if n = 1 || n = 3 then closeInsert p n d s
  else if n = 7 then raise (portSrc p 15) (s.onRing p n fun r => r.writeBack d.recs false)
  else if r.cur = [] then s
  else closeCapture p n d s

/-! ### The commands -/

def execRegisterWrite (p off : Nat) (half : Half) (v : Word) (s : State) : Out :=
  if s.portUp p && inDebug s p off then .refused .debugWindow
  else done s (if s.portUp p then barAccess p off (hostWrite p off half v.toNat) s else s)

def execBar0BadAccess (p off size : Nat) (write : Bool) (s : State) : Out :=
  if s.portUp p && inDebug s p off && (size == 4 || size == 8) && off % size == 0 then .refused .debugWindow
  else done s (if s.portUp p then barAccess p off (bar0Access p off size write) s else s)

def execEvClaim (p : Nat) (half : Half) (s : State) : Out := done s (barAccess p 0x5A00 (evClaim p half) s)
def execEvComplete (p n : Nat) (s : State) : Out := done s (barAccess p 0x5A08 (evComplete p n) s)
def execEvReset (p key : Nat) (s : State) : Out := done s (barAccess p 0x5A18 (evReset p key) s)
def execEvSrcWrite (p n : Nat) (v : Word) (s : State) : Out := done s (barAccess p (0x5000 + 8 * n) (evSrcWrite p n v.toNat) s)
def execEvGrpWrite (p g : Nat) (v : Word) (s : State) : Out := done s (barAccess p (0x5A40 + 8 * g) (evGrpWrite p g v.toNat) s)
def execSemAcquire (p n : Nat) (half : Half) (tie : Bool) (s : State) : Out :=
  done s (barAccess p (0x4000 + 8 * n) (semAcquire p n half tie) s)
def execSemRelease (p n : Nat) (s : State) : Out := done s (barAccess p (0x4000 + 8 * n) (semRelease p n) s)
def execSemRenew (p : Nat) (half : Half) (s : State) : Out := done s (barAccess p 0x4100 (semRenew p half) s)
def execDmaTailWrite (p n v : Nat) (s : State) : Out :=
  done s (if s.portUp p && n < 8 then barAccess p (0x6010 + 0x40 * n) (setRingTail p n v) s else s)
def execDmaRingEnable (p n : Nat) (on : Bool) (s : State) : Out :=
  done s (if s.portUp p && n < 8 then barAccess p (0x6008 + 0x40 * n) (setRingEnable p n on) s else s)
def execDescriptorClose (p n : Nat) (d : DescView) (s : State) : Out := done s (descriptorCloses p n d s)
def execTlFreeze (on : Bool) (s : State) : Out := done s (tallyFreeze on s)
def execTlSnap (s : State) : Out := done s (tallySnap s)
def execTlClear (mask : Word) (s : State) : Out := done s (tallyClear mask.toNat s)
def execTlPreset (mask : Word) (s : State) : Out := done s (tallyPreset mask.toNat s)

end Sys2Proof.Machine
end

