-- ==== Sys2Proof/Machine/Dispatch.lean ====
section
/-!
DEFINITION. Machine/Dispatch.lean: one arm per command, each one call of its meaning.
-/

namespace Sys2Proof.Machine

open Sys2Proof

/-- The effect of a command on everything but the queue. -/
def exec (i : Instr) (s : State) : Host.Outcome State Fault Refusal :=
  match i with
  | .sysHello h a => Sys2Proof.Machine.execSysHello h a s
  | .sysSession h a => Sys2Proof.Machine.execSysSession h a s
  | .sysMode h mode => Sys2Proof.Machine.execSysMode h mode s
  | .sysBatchOpen h => Sys2Proof.Machine.execSysBatchOpen h s
  | .sysBatchClose h a => Sys2Proof.Machine.execSysBatchClose h a s
  | .sysBeatStatus h => Sys2Proof.Machine.execSysBeatStatus h s
  | .sysBusStatus h clear => Sys2Proof.Machine.execSysBusStatus h clear s
  | .laneConfig h a => Sys2Proof.Machine.execLaneConfig h a s
  | .laneStatus h lane clear => Sys2Proof.Machine.execLaneStatus h lane clear s
  | .laneCal h a => Sys2Proof.Machine.execLaneCal h a s
  | .lanePrbs h a => Sys2Proof.Machine.execLanePrbs h a s
  | .laneSlip h lane => Sys2Proof.Machine.execLaneSlip h lane s
  | .laneTrim h lane trim => Sys2Proof.Machine.execLaneTrim h lane trim s
  | .sdhPort h a => Sys2Proof.Machine.execSdhPort h a s
  | .sdhPath h a => Sys2Proof.Machine.execSdhPath h a s
  | .sdhOh h a => Sys2Proof.Machine.execSdhOh h a s
  | .sdhStatus h lane g clear => Sys2Proof.Machine.execSdhStatus h lane g clear s
  | .sdhTrace h lane g => Sys2Proof.Machine.execSdhTrace h lane g s
  | .cpriPort h a => Sys2Proof.Machine.execCpriPort h a s
  | .cpriAxc h a => Sys2Proof.Machine.execCpriAxc h a s
  | .cpriCm h a => Sys2Proof.Machine.execCpriCm h a s
  | .cpriL1 h lane action => Sys2Proof.Machine.execCpriL1 h lane action s
  | .cpriStatus h lane clear => Sys2Proof.Machine.execCpriStatus h lane clear s
  | .combConnect h op es => Sys2Proof.Machine.execCombConnect h op es s
  | .combBrood h op kind es => Sys2Proof.Machine.execCombBrood h op kind es s
  | .combTu h op es => Sys2Proof.Machine.execCombTu h op es s
  | .combRead h a => Sys2Proof.Machine.execCombRead h a s
  | .combTest h a => Sys2Proof.Machine.execCombTest h a s
  | .combTap h a => Sys2Proof.Machine.execCombTap h a s
  | .combStatus h port clear => Sys2Proof.Machine.execCombStatus h port clear s
  | .nurseVc h a => Sys2Proof.Machine.execNurseVc h a s
  | .nurseTu h a => Sys2Proof.Machine.execNurseTu h a s
  | .nurseAxcvcat h a => Sys2Proof.Machine.execNurseAxcvcat h a s
  | .nurseStatus h a => Sys2Proof.Machine.execNurseStatus h a s
  | .poolDelay h a => Sys2Proof.Machine.execPoolDelay h a s
  | .poolGroup h a => Sys2Proof.Machine.execPoolGroup h a s
  | .poolTwin h a => Sys2Proof.Machine.execPoolTwin h a s
  | .poolChannel h channel op => Sys2Proof.Machine.execPoolChannel h channel op s
  | .poolStatus h slot member clear => Sys2Proof.Machine.execPoolStatus h slot member clear s
  | .protGroup h a => Sys2Proof.Machine.execProtGroup h a s
  | .protCommand h group command => Sys2Proof.Machine.execProtCommand h group command s
  | .protStatus h group clear => Sys2Proof.Machine.execProtStatus h group clear s
  | .pmConfig h a => Sys2Proof.Machine.execPmConfig h a s
  | .pmMonitor h a => Sys2Proof.Machine.execPmMonitor h a s
  | .pmProfile h profile thr => Sys2Proof.Machine.execPmProfile h profile thr s
  | .pmRead h ent bin => Sys2Proof.Machine.execPmRead h ent bin s
  | .pmBulk h a => Sys2Proof.Machine.execPmBulk h a s
  | .scoutInput h a => Sys2Proof.Machine.execScoutInput h a s
  | .scoutSelect h a => Sys2Proof.Machine.execScoutSelect h a s
  | .scoutDpll h a => Sys2Proof.Machine.execScoutDpll h a s
  | .scoutStart h => Sys2Proof.Machine.execScoutStart h s
  | .scoutTod h a => Sys2Proof.Machine.execScoutTod h a s
  | .scoutSteer h a => Sys2Proof.Machine.execScoutSteer h a s
  | .scoutOutput h a => Sys2Proof.Machine.execScoutOutput h a s
  | .scoutModel h a => Sys2Proof.Machine.execScoutModel h a s
  | .scoutStatus h => Sys2Proof.Machine.execScoutStatus h s
  | .scoutInputStatus h input clear => Sys2Proof.Machine.execScoutInputStatus h input clear s
  | .hiveConfig h a => Sys2Proof.Machine.execHiveConfig h a s
  | .hiveJoin h op => Sys2Proof.Machine.execHiveJoin h op s
  | .hiveSwitch h op atBeat => Sys2Proof.Machine.execHiveSwitch h op atBeat s
  | .hiveStatus h => Sys2Proof.Machine.execHiveStatus h s
  | .powerConfig h a => Sys2Proof.Machine.execPowerConfig h a s
  | .powerTable h a => Sys2Proof.Machine.execPowerTable h a s
  | .powerStatus h rail clear => Sys2Proof.Machine.execPowerStatus h rail clear s
  | .testBist h a => Sys2Proof.Machine.execTestBist h a s
  | .testSting h a => Sys2Proof.Machine.execTestSting h a s
  | .testTracer h k port => Sys2Proof.Machine.execTestTracer h k port s
  | .tallyRead h first count snap => Sys2Proof.Machine.execTallyRead h first count snap s
  | .secStatus h => Sys2Proof.Machine.execSecStatus h s
  | .secChallenge h => Sys2Proof.Machine.execSecChallenge h s
  | .secProve h op key signature => Sys2Proof.Machine.execSecProve h op key signature s
  | .secWorld h a => Sys2Proof.Machine.execSecWorld h a s
  | .secLifecycle h op token => Sys2Proof.Machine.execSecLifecycle h op token s
  | .secUpdate h op offset => Sys2Proof.Machine.execSecUpdate h op offset s
  | .wgCmdStart port q half data => Sys2Proof.Machine.execWgCmdStart port q half data s
  | .wgCmdPush port q half data => Sys2Proof.Machine.execWgCmdPush port q half data s
  | .wgRspPop port r half => Sys2Proof.Machine.execWgRspPop port r half s
  | .wgNtfPop port half => Sys2Proof.Machine.execWgNtfPop port half s
  | .cmdQueueFlush port q => Sys2Proof.Machine.execCmdQueueFlush port q s
  | .rspQueueFlush port r => Sys2Proof.Machine.execRspQueueFlush port r s
  | .ntfQueueFlush port => Sys2Proof.Machine.execNtfQueueFlush port s
  | .flushDone port queue => Sys2Proof.Machine.execFlushDone port queue s
  | .commandServe us => Sys2Proof.Machine.execCommandServe us s
  | .queueReadStallTimeout port q => Sys2Proof.Machine.execQueueReadStallTimeout port q s
  | .semAcquire port n half tie => Sys2Proof.Machine.execSemAcquire port n half tie s
  | .semRelease port n => Sys2Proof.Machine.execSemRelease port n s
  | .semRenew port half => Sys2Proof.Machine.execSemRenew port half s
  | .leaseExpiry n => Sys2Proof.Machine.execLeaseExpiry n s
  | .evClaim port half => Sys2Proof.Machine.execEvClaim port half s
  | .evComplete port source => Sys2Proof.Machine.execEvComplete port source s
  | .evReset port key => Sys2Proof.Machine.execEvReset port key s
  | .evSrcWrite port n value => Sys2Proof.Machine.execEvSrcWrite port n value s
  | .evGrpWrite port g value => Sys2Proof.Machine.execEvGrpWrite port g value s
  | .gdClearStorm key => Sys2Proof.Machine.execGdClearStorm key s
  | .gdRestart key => Sys2Proof.Machine.execGdRestart key s
  | .gdResolve entry key => Sys2Proof.Machine.execGdResolve entry key s
  | .hvCtrlRelease half value => Sys2Proof.Machine.execHvCtrlRelease half value s
  | .tlFreeze on => Sys2Proof.Machine.execTlFreeze on s
  | .tlSnap => Sys2Proof.Machine.execTlSnap s
  | .tlClear mask => Sys2Proof.Machine.execTlClear mask s
  | .tlPreset mask => Sys2Proof.Machine.execTlPreset mask s
  | .dmaTailWrite port ring value => Sys2Proof.Machine.execDmaTailWrite port ring value s
  | .dmaRingEnable port ring on => Sys2Proof.Machine.execDmaRingEnable port ring on s
  | .descriptorClose port ring d => Sys2Proof.Machine.execDescriptorClose port ring d s
  | .registerWrite port off half value => Sys2Proof.Machine.execRegisterWrite port off half value s
  | .bar0BadAccess port off size write => Sys2Proof.Machine.execBar0BadAccess port off size write s
  | .bar2Access port off write len uncorrectable => Sys2Proof.Machine.execBar2Access port off write len uncorrectable s
  | .pcieFlr port => Sys2Proof.Machine.execPcieFlr port s
  | .pcieLinkDown port => Sys2Proof.Machine.execPcieLinkDown port s
  | .pcieLinkUp port => Sys2Proof.Machine.execPcieLinkUp port s
  | .perstAssert port => Sys2Proof.Machine.execPerstAssert port s
  | .beat => Sys2Proof.Machine.execBeat s
  | .beatStart => Sys2Proof.Machine.execBeatStart s
  | .ticketArm id => Sys2Proof.Machine.execTicketArm id s
  | .ticketApply id => Sys2Proof.Machine.execTicketApply id s
  | .snapshotRelease buf => Sys2Proof.Machine.execSnapshotRelease buf s
  | .perBeatHandler => Sys2Proof.Machine.execPerBeatHandler s
  | .perBeatHandlerOverrun => Sys2Proof.Machine.execPerBeatHandlerOverrun s
  | .keeperHandlerLost => Sys2Proof.Machine.execKeeperHandlerLost s
  | .perSecondWork => Sys2Proof.Machine.execPerSecondWork s
  | .perSecondOverrun => Sys2Proof.Machine.execPerSecondOverrun s
  | .unitPipelineOverrun kind index => Sys2Proof.Machine.execUnitPipelineOverrun kind index s
  | .pmAutoWrite ent day => Sys2Proof.Machine.execPmAutoWrite ent day s
  | .losDeclare lane => Sys2Proof.Machine.execLosDeclare lane s
  | .losClear lane => Sys2Proof.Machine.execLosClear lane s
  | .lolDeclare lane => Sys2Proof.Machine.execLolDeclare lane s
  | .lolClear lane => Sys2Proof.Machine.execLolClear lane s
  | .commaAlign lane pos => Sys2Proof.Machine.execCommaAlign lane pos s
  | .alignmentLost lane => Sys2Proof.Machine.execAlignmentLost lane s
  | .prbsLock u rx left => Sys2Proof.Machine.execPrbsLock u rx left s
  | .prbsUnlock u bits errs => Sys2Proof.Machine.execPrbsUnlock u bits errs s
  | .loopbackSlip lane drop => Sys2Proof.Machine.execLoopbackSlip lane drop s
  | .trimServoUpdate lane => Sys2Proof.Machine.execTrimServoUpdate lane s
  | .sdhFrameRx lane bits => Sys2Proof.Machine.execSdhFrameRx lane bits s
  | .lofDeclare lane => Sys2Proof.Machine.execLofDeclare lane s
  | .lofClear lane => Sys2Proof.Machine.execLofClear lane s
  | .internalJustification lane g inc => Sys2Proof.Machine.execInternalJustification lane g inc s
  | .sdhEgressFrame lane => Sys2Proof.Machine.execSdhEgressFrame lane s
  | .degSecondEnd u => Sys2Proof.Machine.execDegSecondEnd u s
  | .berSubwindowEnd u exc => Sys2Proof.Machine.execBerSubwindowEnd u exc s
  | .ohCaptureRecord lane channel => Sys2Proof.Machine.execOhCaptureRecord lane channel s
  | .ohInsertFlight lane channel => Sys2Proof.Machine.execOhInsertFlight lane channel s
  | .hyperframeRx lane codes t => Sys2Proof.Machine.execHyperframeRx lane codes t s
  | .cpriLofChange lane => Sys2Proof.Machine.execCpriLofChange lane s
  | .rxOffsetUpdate lane => Sys2Proof.Machine.execRxOffsetUpdate lane s
  | .cmCaptureRecord lane group => Sys2Proof.Machine.execCmCaptureRecord lane group s
  | .cmInsertFlight lane group => Sys2Proof.Machine.execCmInsertFlight lane group s
  | .l1ResetEnd lane => Sys2Proof.Machine.execL1ResetEnd lane s
  | .axcSlip lane axc => Sys2Proof.Machine.execAxcSlip lane axc s
  | .axcRealign lane axc => Sys2Proof.Machine.execAxcRealign lane axc s
  | .rotationStep region marchOk => Sys2Proof.Machine.execRotationStep region marchOk s
  | .combEccError region unit corrected => Sys2Proof.Machine.execCombEccError region unit corrected s
  | .tapRecord => Sys2Proof.Machine.execTapRecord s
  | .tuPointerInterpret b g tu => Sys2Proof.Machine.execTuPointerInterpret b g tu s
  | .tuEgressBuild b g tu => Sys2Proof.Machine.execTuEgressBuild b g tu s
  | .mapRateUpdate b g0 axc => Sys2Proof.Machine.execMapRateUpdate b g0 axc s
  | .playSlip b g0 axc late => Sys2Proof.Machine.execPlaySlip b g0 axc late s
  | .playDefectChange b g0 axc => Sys2Proof.Machine.execPlayDefectChange b g0 axc s
  | .memberMfiChange s0 member => Sys2Proof.Machine.execMemberMfiChange s0 member s
  | .loaChange s0 => Sys2Proof.Machine.execLoaChange s0 s
  | .groupRealign s0 => Sys2Proof.Machine.execGroupRealign s0 s
  | .outputLagAdjust s0 => Sys2Proof.Machine.execOutputLagAdjust s0 s
  | .twinSelect s0 => Sys2Proof.Machine.execTwinSelect s0 s
  | .refreshPlace channel rank inMargin retrain => Sys2Proof.Machine.execRefreshPlace channel rank inMargin retrain s
  | .poolEccError slot => Sys2Proof.Machine.execPoolEccError slot s
  | .ddrRequestTimeout channel => Sys2Proof.Machine.execDdrRequestTimeout channel s
  | .channelFail channel cause => Sys2Proof.Machine.execChannelFail channel cause s
  | .channelTrainingDone channel size ranks rate outcome => Sys2Proof.Machine.execChannelTrainingDone channel size ranks rate outcome s
  | .channelReturnDone channel => Sys2Proof.Machine.execChannelReturnDone channel s
  | .bypassRevert s0 => Sys2Proof.Machine.execBypassRevert s0 s
  | .twinBypassReturn s0 => Sys2Proof.Machine.execTwinBypassReturn s0 s
  | .protEvaluate => Sys2Proof.Machine.execProtEvaluate s
  | .holdoffExpiry group prot => Sys2Proof.Machine.execHoldoffExpiry group prot s
  | .wtrExpiry group => Sys2Proof.Machine.execWtrExpiry group s
  | .fopCmExpiry group => Sys2Proof.Machine.execFopCmExpiry group s
  | .cpriHitlessSwitch group => Sys2Proof.Machine.execCpriHitlessSwitch group s
  | .oscillatorFault => Sys2Proof.Machine.execOscillatorFault s
  | .xotempRead reading => Sys2Proof.Machine.execXotempRead reading s
  | .inputOffsetUpdate input raw => Sys2Proof.Machine.execInputOffsetUpdate input raw s
  | .inputFail input cause => Sys2Proof.Machine.execInputFail input cause s
  | .ppsEdge input edge => Sys2Proof.Machine.execPpsEdge input edge s
  | .inputQualify input => Sys2Proof.Machine.execInputQualify input s
  | .inputWtrExpiry input => Sys2Proof.Machine.execInputWtrExpiry input s
  | .suspectChange input => Sys2Proof.Machine.execSuspectChange input s
  | .driftUpdate input => Sys2Proof.Machine.execDriftUpdate input s
  | .freqSelect => Sys2Proof.Machine.execFreqSelect s
  | .switchMeasureDone delta freqDiff => Sys2Proof.Machine.execSwitchMeasureDone delta freqDiff s
  | .switchClose => Sys2Proof.Machine.execSwitchClose s
  | .phaseChangeClose => Sys2Proof.Machine.execPhaseChangeClose s
  | .dpllStep => Sys2Proof.Machine.execDpllStep s
  | .dpllLockLoss => Sys2Proof.Machine.execDpllLockLoss s
  | .steerWordApply => Sys2Proof.Machine.execSteerWordApply s
  | .steerTimeout => Sys2Proof.Machine.execSteerTimeout s
  | .modelUpdate => Sys2Proof.Machine.execModelUpdate s
  | .agingRecompute => Sys2Proof.Machine.execAgingRecompute s
  | .holdoverBoundUpdate => Sys2Proof.Machine.execHoldoverBoundUpdate s
  | .modelSave => Sys2Proof.Machine.execModelSave s
  | .todApply => Sys2Proof.Machine.execTodApply s
  | .squelchChange output => Sys2Proof.Machine.execSquelchChange output s
  | .tokenClaim => Sys2Proof.Machine.execTokenClaim s
  | .tokenReclaim => Sys2Proof.Machine.execTokenReclaim s
  | .tokenRelease cause => Sys2Proof.Machine.execTokenRelease cause s
  | .heldTokenClaim => Sys2Proof.Machine.execHeldTokenClaim s
  | .mateOkChange level => Sys2Proof.Machine.execMateOkChange level s
  | .hiveFrameRx lane skew codes => Sys2Proof.Machine.execHiveFrameRx lane skew codes s
  | .heartbeatMiss => Sys2Proof.Machine.execHeartbeatMiss s
  | .mirrorRecordRx seq crcOk rec => Sys2Proof.Machine.execMirrorRecordRx seq crcOk rec s
  | .halfStateChange b up => Sys2Proof.Machine.execHalfStateChange b up s
  | .hiveSwitchExecute => Sys2Proof.Machine.execHiveSwitchExecute s
  | .egressFaultDeclare far => Sys2Proof.Machine.execEgressFaultDeclare far s
  | .bbWindowClose => Sys2Proof.Machine.execBbWindowClose s
  | .snapshotLoaded => Sys2Proof.Machine.execSnapshotLoaded s
  | .coreWatchdogPreExpiry core => Sys2Proof.Machine.execCoreWatchdogPreExpiry core s
  | .coreWatchdogExpiry core => Sys2Proof.Machine.execCoreWatchdogExpiry core s
  | .clusterWatchdogExpiry => Sys2Proof.Machine.execClusterWatchdogExpiry s
  | .guardStepTimeout => Sys2Proof.Machine.execGuardStepTimeout s
  | .coreRetire core => Sys2Proof.Machine.execCoreRetire core s
  | .faultRecord code kind index detail => Sys2Proof.Machine.execFaultRecord code kind index detail s
  | .autopilotEntry storm => Sys2Proof.Machine.execAutopilotEntry storm s
  | .keeperLostInPlace storm => Sys2Proof.Machine.execKeeperLostInPlace storm s
  | .haltEntry storm => Sys2Proof.Machine.execHaltEntry storm s
  | .restartAttempt => Sys2Proof.Machine.execRestartAttempt s
  | .restartTimeout => Sys2Proof.Machine.execRestartTimeout s
  | .keeperResume => Sys2Proof.Machine.execKeeperResume s
  | .sourceAssert source level => Sys2Proof.Machine.execSourceAssert source level s
  | .eventArbitrate => Sys2Proof.Machine.execEventArbitrate s
  | .coalesceRelease port g => Sys2Proof.Machine.execCoalesceRelease port g s
  | .redirectTimeout source => Sys2Proof.Machine.execRedirectTimeout source s
  | .busTransactionTimeout master addr => Sys2Proof.Machine.execBusTransactionTimeout master addr s
  | .defaultTargetResponse master addr => Sys2Proof.Machine.execDefaultTargetResponse master addr s
  | .remapApply value => Sys2Proof.Machine.execRemapApply value s
  | .sramEccError master addr double write => Sys2Proof.Machine.execSramEccError master addr double write s
  | .sramBackgroundStep corrected passed => Sys2Proof.Machine.execSramBackgroundStep corrected passed s
  | .patrolScrubLine channel line outcome last => Sys2Proof.Machine.execPatrolScrubLine channel line outcome last s
  | .ddrThermalRead channel temp => Sys2Proof.Machine.execDdrThermalRead channel temp s
  | .sliceSlot => Sys2Proof.Machine.execSliceSlot s
  | .migrationShadow => Sys2Proof.Machine.execMigrationShadow s
  | .migrationHandover => Sys2Proof.Machine.execMigrationHandover s
  | .migrationAbort => Sys2Proof.Machine.execMigrationAbort s
  | .sliceTestDone first second => Sys2Proof.Machine.execSliceTestDone first second s
  | .stingOccurrence index => Sys2Proof.Machine.execStingOccurrence index s
  | .tracerTag lane g => Sys2Proof.Machine.execTracerTag lane g s
  | .tracerRecord id txLane mask flags dts => Sys2Proof.Machine.execTracerRecord id txLane mask flags dts s
  | .tallyOverflow n => Sys2Proof.Machine.execTallyOverflow n s
  | .nonceExpiry port => Sys2Proof.Machine.execNonceExpiry port s
  | .challengeLockExpiry port => Sys2Proof.Machine.execChallengeLockExpiry port s
  | .vddaoPowerOn pfwHigh => Sys2Proof.Machine.execVddaoPowerOn pfwHigh s
  | .sequencingStep => Sys2Proof.Machine.execSequencingStep s
  | .rampLimitExpiry => Sys2Proof.Machine.execRampLimitExpiry s
  | .powerDown cause => Sys2Proof.Machine.execPowerDown cause s
  | .wakeNFall => Sys2Proof.Machine.execWakeNFall s
  | .resetNAssert => Sys2Proof.Machine.execResetNAssert s
  | .wakeClearDone => Sys2Proof.Machine.execWakeClearDone s
  | .bootRomStart guardOk => Sys2Proof.Machine.execBootRomStart guardOk s
  | .ddrBootTrainingDone channel size ranks rate outcome => Sys2Proof.Machine.execDdrBootTrainingDone channel size ranks rate outcome s
  | .ddrRegionClearDone region => Sys2Proof.Machine.execDdrRegionClearDone region s
  | .provisionEntry => Sys2Proof.Machine.execProvisionEntry s
  | .updateDataDone port offset bytes => Sys2Proof.Machine.execUpdateDataDone port offset bytes s
  | .quiesceTimeout => Sys2Proof.Machine.execQuiesceTimeout s
  | .pfwAssert => Sys2Proof.Machine.execPfwAssert s
  | .pfwRelease => Sys2Proof.Machine.execPfwRelease s
  | .leanExit => Sys2Proof.Machine.execLeanExit s
  | .leanMaxExpiry => Sys2Proof.Machine.execLeanMaxExpiry s
  | .autoWake => Sys2Proof.Machine.execAutoWake s
  | .railExcursion rail isOv long held => Sys2Proof.Machine.execRailExcursion rail isOv long held s
  | .railClear rail => Sys2Proof.Machine.execRailClear rail s
  | .pmbAlert status => Sys2Proof.Machine.execPmbAlert status s
  | .pmbusFailure => Sys2Proof.Machine.execPmbusFailure s
  | .avsSample m => Sys2Proof.Machine.execAvsSample m s
  | .energyRead readings tj => Sys2Proof.Machine.execEnergyRead readings tj s
  | .resetNRelease side flashSlow testEn => Sys2Proof.Machine.execResetNRelease side flashSlow testEn s
  | .inputFailClear input => Sys2Proof.Machine.execInputFailClear input s
  | .hiveJoinTimeout => Sys2Proof.Machine.execHiveJoinTimeout s
  | .activateWaitExpiry => Sys2Proof.Machine.execActivateWaitExpiry s
  | .flashWriteDone ok => Sys2Proof.Machine.execFlashWriteDone ok s
  | .otpProgramDone ok => Sys2Proof.Machine.execOtpProgramDone ok s
  | .worldClearDone => Sys2Proof.Machine.execWorldClearDone s
  | .hostPortPowerState port d3hot msixEnable => Sys2Proof.Machine.execHostPortPowerState port d3hot msixEnable s

end Sys2Proof.Machine
end

