-- ==== Sys2Proof/Machine/Body.lean ====
section
/-!
DEFINITION. Machine/Body.lean: how a service command is laid out as a Waggle message: its service, its command and the
fields of its parameter table in order (13 R403, R404; the parameter tables of 02-18). Reserved bytes are 0.
-/

namespace Sys2Proof.Machine

open Sys2Proof

def connFields (e : ConnEntry) : Fields :=
  [(2, e.dstPort), (1, e.dstG), (1, e.width), (2, e.srcPort), (1, e.srcG), (1, e.check)]

def broodFields (e : BroodEntry) : Fields := [(1, e.dstB), (1, e.srcB), (2, e.dstX), (2, e.srcX), (2, e.cells)]

def tuEntryFields (e : TuEntry) : Fields :=
  [(1, e.dstB), (1, e.dstG), (1, e.dstTu), (1, e.srcB), (1, e.srcG), (1, e.srcTu), (1, e.type), (1, e.struct)]

def axvFields (e : AxvEntry) : Fields := [(2, e.nBits), (2, e.x), (4, 0)]

/-- The members of a protection group, from byte 8 to byte 31 (09 R258). -/
def memberFields : Members → Fields
  | .lines w p => [(2, w), (2, p), (20, 0)]
  | .sncpHo dp dg w wp wg pp pg => [(2, dp), (1, dg), (1, w), (2, wp), (1, wg), (1, 0), (2, pp), (1, pg), (13, 0)]
  | .sncpLo db dg dt ty wb wg wt pb pg pt st =>
    [(1, db), (1, dg), (1, dt), (1, ty), (1, wb), (1, wg), (1, wt), (1, pb), (1, pg), (1, pt), (1, st), (13, 0)]
  | .cpri w p k => [(2, w), (2, p), (2, k), (18, 0)]

/-- Service, command, header and parameters of a service command; none: the command does not come as a message. -/
def bodyOf (i : Instr) : Option (Nat × Nat × Hdr × Fields) :=
  match i with
  | .sysHello h a => some (1, 1, h, [(1, a.major), (1, a.minor), (6, 0)])
  | .sysSession h a => some (1, 3, h, [(1, a.op), (1, 0), (2, a.domains), (4, 0)])
  | .sysMode h mode => some (1, 4, h, [(1, mode), (7, 0)])
  | .sysBusStatus h clear => some (1, 5, h, [(1, clear), (7, 0)])
  | .sysBatchOpen h => some (1, 32, h, [(8, 0)])
  | .sysBatchClose h a => some (1, 33, h,
      [(4, a.batchId), (2, a.mode), (2, 0), (6, a.target), (2, 0)])
  | .sysBeatStatus h => some (1, 35, h, [(8, 0)])
  | .laneConfig h a => some (2, 1, h,
      [(2, a.lane), (1, a.enable), (1, a.mode), (1, a.align), (1, a.polarity),
      (1, a.scramble), (1, a.loopback), (1, a.losThr), (1, a.dfeAdapt), (6, 0)])
  | .laneStatus h lane clear => some (2, 2, h, [(2, lane), (1, clear), (5, 0)])
  | .laneCal h a => some (2, 3, h,
      [(2, a.lane), (1, a.op), (1, a.group), (1, a.swing), (1, a.pre), (1, a.post), (1, a.ctle)])
  | .lanePrbs h a => some (2, 4, h,
      [(2, a.lane), (1, a.gen), (1, a.chk), (1, a.invert), (1, a.action), (2, 0)])
  | .laneSlip h lane => some (2, 5, h, [(2, lane), (6, 0)])
  | .laneTrim h lane trim => some (2, 6, h, [(2, lane), (2, 0), (4, trim)])
  | .sdhPort h a => some (3, 1, h,
      ([(2, a.lane), (1, a.enable), (1, a.oofCount), (2, a.txPhase),
      (1, a.j0Mode), (1, a.flags), (1, a.s1Mode), (1, a.s1Value), (1, a.degM),
      (1, a.excK), (2, a.degThr), (1, a.sdK), (1, 0)] : Fields) ++ bytesFields a.txJ0 ++
      ([(1, 0)] : Fields) ++ bytesFields a.expJ0 ++ ([(1, 0)] : Fields))
  | .sdhPath h a => some (3, 2, h,
      ([(2, a.lane), (1, a.g), (1, a.type), (1, a.mode), (1, a.j1Mode),
      (1, a.expC2), (1, a.txC2), (1, a.degM), (1, a.excK), (2, a.degThr),
      (1, a.sdK), (1, a.flags), (2, 0)] : Fields) ++ bytesFields a.expJ1 ++ bytesFields a.txJ1)
  | .sdhOh h a => some (3, 3, h,
      [(2, a.lane), (1, a.capture), (1, a.insert), (1, a.idleDcc), (1, a.idleOw),
      (1, a.port), (1, 0)])
  | .sdhStatus h lane g clear => some (3, 4, h, [(2, lane), (2, g), (1, clear), (3, 0)])
  | .sdhTrace h lane g => some (3, 5, h, [(2, lane), (2, g), (4, 0)])
  | .cpriPort h a => some (4, 1, h,
      [(2, a.lane), (1, a.enable), (1, a.role), (1, a.transport), (1, a.sdiMode),
      (1, a.flags), (1, a.cmRate), (2, a.txOffset), (1, a.ethPtr), (1, 0),
      (4, a.txSeed)])
  | .cpriAxc h a => some (4, 2, h,
      [(2, a.lane), (1, a.axc), (1, a.dir), (1, a.op), (1, a.enable),
      (2, a.startBit), (2, a.nBits), (2, a.cellBase), (4, 0)])
  | .cpriCm h a => some (4, 3, h,
      [(2, a.lane), (1, a.capture), (1, a.insert), (1, a.idleSlow),
      (1, a.idleFast), (1, a.port), (1, 0)])
  | .cpriL1 h lane action => some (4, 4, h, [(2, lane), (1, action), (5, 0)])
  | .cpriStatus h lane clear => some (4, 5, h, [(2, lane), (1, clear), (5, 0)])
  | .combConnect h op es => some (5, 1, h,
      ([(2, es.length), (1, op), (1, 0), (1, 0), (1, 0), (1, 0), (1, 0)] : Fields) ++
      es.flatMap connFields)
  | .combBrood h op kind es => some (5, 2, h,
      ([(2, es.length), (1, op), (1, kind), (1, 0), (1, 0), (1, 0), (1, 0)] : Fields) ++
      es.flatMap broodFields)
  | .combTu h op es => some (5, 3, h,
      ([(2, es.length), (1, op), (1, 0), (1, 0), (1, 0), (1, 0), (1, 0)] : Fields) ++
      es.flatMap tuEntryFields)
  | .combRead h a => some (5, 4, h,
      [(1, a.tier), (1, 0), (2, a.port), (2, a.start), (2, a.count)])
  | .combTest h a => some (5, 5, h,
      [(2, a.port), (1, a.stream), (1, a.op), (1, a.firstG), (1, a.width),
      (1, a.mode), (1, a.pattern)])
  | .combTap h a => some (5, 6, h,
      [(1, a.op), (1, a.mask), (2, a.beats), (4, a.bar2), (6, a.startBeat),
      (2, 0)])
  | .combStatus h port clear => some (5, 7, h, [(2, port), (1, clear), (5, 0)])
  | .nurseVc h a => some (6, 1, h,
      [(1, a.b), (1, a.g), (1, a.enable), (1, a.struct), (1, a.mode),
      (1, a.width), (1, a.tug3), (1, a.txC2), (6, a.tug2), (2, 0)])
  | .nurseTu h a => some (6, 2, h,
      ([(1, a.b), (1, a.g), (1, a.tu), (1, a.mode), (1, a.j2Mode),
      (1, a.expLabel), (1, a.txLabel), (1, a.flags), (1, a.degM), (1, a.excK),
      (2, a.degThr), (1, a.sdK), (1, a.expExt), (1, a.txExt), (1, 0)] : Fields) ++
      bytesFields a.expJ2 ++ ([(1, 0)] : Fields) ++ bytesFields a.txJ2 ++ ([(1, 0)] : Fields))
  | .nurseAxcvcat h a => some (6, 3, h,
      ([(1, a.b), (1, a.dir), (1, a.g0), (1, a.members), (1, a.type),
      (1, a.nAxc), (1, a.enable), (1, a.txC2), (2, a.playOut), (6, 0)] : Fields) ++
      a.axcs.flatMap axvFields)
  | .nurseStatus h a => some (6, 4, h,
      [(1, a.b), (1, a.g), (1, a.tu), (1, a.axc), (1, a.clear), (3, 0)])
  | .poolDelay h a => some (7, 1, h,
      [(2, a.s0), (1, a.width), (1, a.enable), (1, a.channel), (1, a.op),
      (2, a.delay)])
  | .poolGroup h a => some (7, 2, h,
      [(2, a.s0), (2, a.x), (1, a.type), (1, a.enable), (1, a.channel),
      (1, a.op), (2, a.maxDiff), (1, a.sqCheck), (5, 0)])
  | .poolTwin h a => some (7, 3, h,
      [(2, a.sA), (2, a.sB), (1, a.width), (1, a.enable), (1, a.channel),
      (1, a.op), (2, a.maxDiff), (1, a.preferred), (1, a.flags), (4, 0)])
  | .poolChannel h channel op => some (7, 4, h, [(1, channel), (1, op), (6, 0)])
  | .poolStatus h slot member clear => some (7, 5, h, [(2, slot), (2, member), (1, clear), (3, 0)])
  | .protGroup h a => some (8, 1, h,
      ([(2, a.group), (1, a.kind), (1, a.enable), (1, a.flags), (1, a.holdoff),
      (1, a.wtr), (1, 0)] : Fields) ++ memberFields a.members)
  | .protCommand h group command => some (8, 2, h, [(2, group), (1, command), (5, 0)])
  | .protStatus h group clear => some (8, 3, h, [(2, group), (1, clear), (5, 0)])
  | .pmConfig h a => some (9, 1, h, [(1, a.dayStart), (1, a.port), (1, a.auto), (5, 0)])
  | .pmMonitor h a => some (9, 2, h,
      [(1, a.ent.type), (1, a.ent.g), (2, a.ent.unit), (1, a.ent.tu),
      (1, a.enable), (1, a.bidir), (1, a.profile)])
  | .pmProfile h profile thr => some (9, 3, h, ([(1, profile), (7, 0)] : Fields) ++ thr.map fun x => (4, (x : Int)))
  | .pmRead h ent bin => some (9, 4, h,
      [(1, ent.type), (1, ent.g), (2, ent.unit), (1, ent.tu), (1, bin), (2, 0)])
  | .pmBulk h a => some (9, 5, h,
      [(1, a.types), (1, a.bins), (1, a.depth), (1, a.port), (4, 0)])
  | .scoutInput h a => some (10, 1, h,
      [(1, a.input), (1, a.enable), (1, a.priority), (1, a.qlSource), (1, a.ql),
      (1, a.wtr), (1, a.qualTime), (1, a.flags), (4, a.nominal),
      (2, a.softLimit), (2, a.hardLimit), (2, a.driftLimit), (2, a.ppsWindow),
      (4, a.ppsComp)])
  | .scoutSelect h a => some (10, 2, h,
      [(1, a.mode), (1, a.input), (1, a.qlOption), (1, a.flags),
      (1, a.holdoverQl), (1, a.freerunQl), (1, a.phaseMode), (1, 0)])
  | .scoutDpll h a => some (10, 3, h,
      [(2, a.bwFinal), (2, a.slew), (1, a.learn), (1, a.leadBack),
      (2, a.steerTimeout), (4, a.xoFreq), (2, a.agingErr), (2, a.tempRes),
      (2, a.baseErr), (2, a.boundLimit), (4, 0)])
  | .scoutStart h => some (10, 4, h, [(8, 0)])
  | .scoutTod h a => some (10, 5, h,
      [(1, a.op), (1, a.bfnMode), (2, a.bfnOffset), (4, 0), (6, a.atBeat), (2, 0),
      (6, a.todSec), (2, 0)])
  | .scoutSteer h a => some (10, 6, h, [(1, a.op), (1, a.count), (6, 0), (8, a.word)])
  | .scoutOutput h a => some (10, 7, h,
      [(1, a.output), (1, a.enable), (1, a.freq), (1, a.domain), (1, a.squelch),
      (1, a.squelchQl), (2, 0), (4, a.offset), (4, a.width)])
  | .scoutModel h a => some (10, 8, h, [(1, a.op), (1, 0), (2, a.firstBin), (2, a.count), (2, 0)])
  | .scoutStatus h => some (10, 9, h, [(8, 0)])
  | .scoutInputStatus h input clear => some (10, 10, h, [(1, input), (1, clear), (6, 0)])
  | .hiveConfig h a => some (11, 1, h, [(1, a.bbWindow), (1, a.flags), (2, a.bbLanes), (4, 0)])
  | .hiveJoin h op => some (11, 2, h, [(1, op), (7, 0)])
  | .hiveSwitch h op atBeat => some (11, 3, h, [(1, op), (7, 0), (6, atBeat), (2, 0)])
  | .hiveStatus h => some (11, 4, h, [(8, 0)])
  | .powerConfig h a => some (12, 1, h,
      [(2, a.leanMax), (2, a.exitHold), (2, a.wakeHold), (1, a.flags), (1, 0),
      (4, a.powerLimit), (4, 0)])
  | .powerTable h a => some (12, 2, h,
      [(1, a.op), (1, a.slot), (6, 0), (1, a.entry.addr), (1, a.entry.rail),
      (1, a.entry.page), (1, a.entry.role), (2, a.entry.delay), (1, a.entry.uvRaise),
      (1, a.entry.ovLower), (8, 0)])
  | .powerStatus h rail clear => some (12, 3, h, [(1, rail), (1, clear), (6, 0)])
  | .testBist h a => some (13, 1, h,
      [(1, a.op), (1, a.kind), (2, a.index), (1, a.cycleHours), (1, 0),
      (2, a.sramInterval)])
  | .testSting h a => some (13, 2, h,
      [(1, a.point), (1, a.mode), (2, a.unit), (1, a.g), (1, a.tu),
      (1, a.sub), (1, 0), (4, a.count)])
  | .testTracer h k port => some (13, 3, h, [(1, k), (1, port), (6, 0)])
  | .secStatus h => some (15, 1, h, [(8, 0)])
  | .secChallenge h => some (15, 2, h, [(8, 0)])
  | .secProve h op key signature => some (15, 3, h, [(1, op), (1, key), (6, 0), (96, signature)])
  | .secWorld h a => some (15, 4, h,
      [(1, a.op), (1, a.kind), (2, a.index), (1, a.world), (1, a.clearOnWake),
      (1, a.channel), (1, 0), (2, a.base), (2, a.size), (4, 0)])
  | .secLifecycle h op token => some (15, 5, h,
      [(1, op), (7, 0), (2, token.magic), (1, token.target), (1, 0), (4, token.toggle),
      (16, token.deviceId), (8, 0), (96, token.signature)])
  | .secUpdate h op offset => some (15, 6, h, [(1, op), (3, 0), (4, offset)])
  | .tallyRead h first count snap => some (14, 1, h, [(1, first), (1, count), (1, snap), (5, 0)])
  | _ => none

/-- The words of a service command's message (13 R403). -/
def commandWords (i : Instr) : List QWord :=
  match bodyOf i with
  | some (svc, cmd, h, fs) => message h.seq svc cmd 0 h.tag fs
  | none => []

end Sys2Proof.Machine
end

