-- ==== Sys2Proof/Safety.lean ====
section
/-!
DEFINITION. Safety.lean: what statements say about runs: the parts of State, which of them a step leaves alone, and the invariants of
the device.
-/

namespace Sys2Proof.Machine

open Sys2Proof

/-- The parts of State, one for each of its fields. -/
inductive Part where
  | pending | fresh | mode | apFrom | quiesceFrom | clk | lanes | userCal | sdh | paths | cpri | axcs | comb | nurse | pool | prot | pm
  | scout | hive | ports | sems | nextSession | ev | guard | keeper | bus | test | tally | sec | power
  deriving DecidableEq, Repr

/-- A part of `t` is that of `s`. -/
def Part.same (s t : State) : Part → Prop
  | .pending => t.pending = s.pending
  | .fresh => t.fresh = s.fresh
  | .mode => t.mode = s.mode
  | .apFrom => t.apFrom = s.apFrom
  | .quiesceFrom => t.quiesceFrom = s.quiesceFrom
  | .clk => t.clk = s.clk
  | .lanes => t.lanes = s.lanes
  | .userCal => t.userCal = s.userCal
  | .sdh => t.sdh = s.sdh
  | .paths => t.paths = s.paths
  | .cpri => t.cpri = s.cpri
  | .axcs => t.axcs = s.axcs
  | .comb => t.comb = s.comb
  | .nurse => t.nurse = s.nurse
  | .pool => t.pool = s.pool
  | .prot => t.prot = s.prot
  | .pm => t.pm = s.pm
  | .scout => t.scout = s.scout
  | .hive => t.hive = s.hive
  | .ports => t.ports = s.ports
  | .sems => t.sems = s.sems
  | .nextSession => t.nextSession = s.nextSession
  | .ev => t.ev = s.ev
  | .guard => t.guard = s.guard
  | .keeper => t.keeper = s.keeper
  | .bus => t.bus = s.bus
  | .test => t.test = s.test
  | .tally => t.tally = s.tally
  | .sec => t.sec = s.sec
  | .power => t.power = s.power

/-- Every part outside `ps` is as before. -/
def onlyChanges (ps : List Part) (s t : State) : Prop := ∀ x : Part, x ∉ ps → x.same s t

/-! ### Event sources -/

/-- What a source's unit and registers give it, without what the controller remembers of its deliveries (14 R450-R452). -/
def Src.line (x : Src) : Src := { x with held := false, signalled := false, fallen := false }

/-- The event of a source stands: its latch is set, or its line is asserted (14 R450). -/
def Src.up (x : Src) : Bool := if x.edge then x.latch else x.asserted

/-- Source `n` shows its event. -/
abbrev State.shows (s : State) (n : Nat) : Prop := (s.src n).up = true

/-! ### Error-rate detectors -/

/-- The lane or Brood port of the unit is one that the device has (03 R69, 06 R169). -/
def detReal : DetUnit → Bool
  | .ms n | .hp n _ => n < 256
  | .lp b _ _ => b < 96

/-- The degraded-signal detector of a unit and its defect (04 R130, 07 R212). -/
def degOf (s : State) : DetUnit → Deg × Bool
  | .ms n => ((s.sdhOf n).deg, (s.sdhOf n).dDeg)
  | .hp n g => ((s.path n g).deg, (s.path n g).dDeg)
  | .lp b g tu => ((s.tuOf b g tu).deg, (s.tuOf b g tu).dDeg)

/-- Its threshold and its number of seconds. -/
def degLimits (s : State) : DetUnit → Nat × Nat
  | .ms n => ((s.sdhOf n).cfg.degThr, (s.sdhOf n).cfg.degM)
  | .hp n g => ((s.path n g).cfg.degThr, (s.path n g).cfg.degM)
  | .lp b g tu => ((s.tuOf b g tu).cfg.degThr, (s.tuOf b g tu).cfg.degM)

/-- The excessive-error detector of a unit (`isExc`) or its signal-degrade detector, and the defect (04 R131, 07 R212). -/
def berOf (s : State) (isExc : Bool) : DetUnit → Ber × Bool
  | .ms n => if isExc then ((s.sdhOf n).exc, (s.sdhOf n).dExc) else ((s.sdhOf n).sd, (s.sdhOf n).dSd)
  | .hp n g => if isExc then ((s.path n g).exc, (s.path n g).dExc) else ((s.path n g).sd, (s.path n g).dSd)
  | .lp b g tu => if isExc then ((s.tuOf b g tu).exc, (s.tuOf b g tu).dExc) else ((s.tuOf b g tu).sd, (s.tuOf b g tu).dSd)

/-- The exponent of a detector, and the bits W × b and m of its unit (04 R131, 07 R212). -/
def berLimits (s : State) (isExc : Bool) : DetUnit → Nat × Nat × Nat
  | .ms n => (if isExc then (s.sdhOf n).cfg.excK else (s.sdhOf n).cfg.sdK, 640 * sdhGranules (s.lane n).mode, 801)
  | .hp n g => (if isExc then (s.path n g).cfg.excK else (s.path n g).cfg.sdK, 640, vcSize (s.path n g).cfg.type)
  | .lp b g tu =>
    let type := (tuType (s.vcOf b g).cfg tu).getD 2
    (if isExc then (s.tuOf b g tu).cfg.excK else (s.tuOf b g tu).cfg.sdK, lpWb type, lpSize type)

/-- The errors of the last ten sub-windows, the one that ends among them. -/
def Ber.total (d : Ber) : Nat := ((d.cur :: d.subs).take 10).foldl (· + ·) 0

/-! ### Frames on the lines -/

/-- The bytes that stand before the bits in hand and with them, from the bit at which the alignment of the lane stands (04 R102, R103). -/
abbrev frameBits (s : State) (n : Nat) (bits : List Byte) : List Byte :=
  bitDrop (s.sdhOf n).skip ((s.sdhOf n).held ++ lineIn s n bits)

/-- The code groups of one hyperframe of a lane, decoded, filled up with empty ones where fewer came (05 R138, R140). -/
abbrev hyperGroups (s : State) (n : Nat) (codes : List Nat) : List Group :=
  padTo {} (4096 * cpriW (cpriOption (s.lane n).mode)) (laneGroups n false codes s).1

/-! ### BAR2 -/

/-- The region of a byte of BAR2 is not being cleared, and if it is sealed the port holds a sealed session (13 R386; 17 R519). -/
abbrev bar2Open (s : State) (p off : Nat) : Prop :=
  (tget ({} : DdrRegion) s.sec.ddr (off / 2 ^ 25)).clearing = false ∧
    ((tget ({} : DdrRegion) s.sec.ddr (off / 2 ^ 25)).isSealed = true → (s.chal p).isSealed = true)

/-! ### Service commands -/

/-- A serving Keeper hears the command: it comes through a host port that agreed a version, and the response queue takes words. -/
abbrev heard (h : Hdr) (s : State) : Prop :=
  s.keeper.serving = true ∧ h.port < 2 ∧ h.queue < 4 ∧ (s.port h.port).version.isSome = true ∧
    ((s.port h.port).rspOf h.queue).flush = false

/-- The port's session holds the domain of a service (13 R410). -/
abbrev owns (h : Hdr) (svc : Nat) (s : State) : Prop := noDomain h svc s = false

/-- The words that wait in the command's response queue. -/
abbrev rspWords (h : Hdr) (s : State) : List QWord := ((s.port h.port).rspOf h.queue).words

/-- `t` has, after the words of `s`, the response to the command with this status and these fields (13 R402, R405). -/
abbrev answered (h : Hdr) (svc cmd status : Nat) (fs : Fields) (s t : State) : Prop :=
  rspWords h t = rspWords h s ++ message h.seq svc cmd (1 + 8 * boolNat h.late) h.tag ((2, (status : Int)) :: fs)

/-- A capping command of the port forms a ticket of its own: the mode takes one, no hive switch is pending, no batch is open and
the beat runs with room for a ticket (02 R62, R63, R68; 12 R371; 02 R592). -/
abbrev mayTicket (h : Hdr) (s : State) : Prop :=
  capBlocked s.mode = false ∧ (s.hive.token && s.hive.switchPend.isSome) = false ∧ s.batchOf h.port = none ∧ s.clk.started = true ∧
    s.clk.tickets.length < 64

/-- `t` has one more ticket than `s`: the changes of the command, which is answered when they take effect (02 R58-R61). -/
def ticketed (h : Hdr) (svc cmd : Nat) (kind : ReplyKind) (cs : List Change) (s t : State) : Prop :=
  ∃ k : Ticket, t.clk.tickets = s.clk.tickets ++ [k] ∧ k.changes = cs ∧ k.waiters = [⟨h, svc, cmd, kind⟩] ∧ k.bclass = classOf cs ∧
    s.now < k.target

/-- The parts that every answered command may change: queues, leases, event sources and tally counters. -/
def replyParts : List Part := [.ports, .sems, .ev, .tally]

/-- The parts that a command which forms a ticket may change besides: the ticket list, and the mirror stream. -/
def ticketParts : List Part := [.sems, .tally, .ev, .clk, .hive]

end Sys2Proof.Machine
end

