-- ==== Sys2Proof/WellFormed.lean ====
section
/-!
DEFINITION. WellFormed.lean: which terms of `Instr` a command can be: every field of a Waggle command fits the bytes its table
gives it (02-18), and every other step names a unit the device has. A well-formed command may still be refused with BAD_ARG: the ranges
of its table are its meaning's to check (00 R18).
-/

namespace Sys2Proof.WellFormed

open Sys2Proof

/-! ### Fields -/

/-- An unsigned field of `n` bytes. -/
def u (n x : Nat) : Bool := x < 256 ^ n

/-- A signed field of `n` bytes. -/
def i (n : Nat) (x : Int) : Bool := -(2 ^ (8 * n - 1) : Int) ≤ x && x < 2 ^ (8 * n - 1)

/-- Each of `xs` fits one byte. -/
def bytes (xs : List Nat) : Bool := xs.all (u 1)

/-- Each of `xs` fits two bytes. -/
def halves (xs : List Nat) : Bool := xs.all (u 2)

/-- A trace of `n` characters. -/
def trace (n : Nat) (l : List Byte) : Bool := l.length == n

/-- A beat number, 48 bits. -/
def beat (b : Nat) : Bool := b < 2 ^ 48

/-! ### Units -/

def port (p : Nat) : Bool := p < 2
def queue (q : Nat) : Bool := q < 4
def ring (n : Nat) : Bool := n < 8
def sem (n : Nat) : Bool := n < 32
def source (n : Nat) : Bool := n < 320
def anyLane (n : Nat) : Bool := n < 260
def lineLane (n : Nat) : Bool := n < 256
def granule (g : Nat) : Bool := g < 192
def axc (a : Nat) : Bool := a < 48
def brood (b : Nat) : Bool := b < 96
def slot (s0 : Nat) : Bool := s0 < 12288
def channel (d : Nat) : Bool := d < 4
def group (g : Nat) : Bool := g < 12288
def input (n : Nat) : Bool := n < 20
def core (c : Nat) : Bool := c < 4
def master (m : Nat) : Bool := m < 14
def rail (r : Nat) : Bool := r < 16
def word32 (half : Half) (w : Word) : Bool := half == .whole || w.toNat < 2 ^ 32

/-- The header of a command (13 R403); `us` is a time in the beat (02 R61). -/
def hdr (h : Hdr) : Bool := port h.port && queue h.queue && u 2 h.seq && u 8 h.tag && h.us ≤ 125

/-! ### Parameters -/

def lane (a : LaneArgs) : Bool :=
  u 2 a.lane && bytes [a.enable, a.mode, a.align, a.polarity, a.scramble, a.loopback, a.losThr, a.dfeAdapt]
def laneCal (a : LaneCalArgs) : Bool := u 2 a.lane && bytes [a.op, a.group] && [a.swing, a.pre, a.post, a.ctle].all (i 1)
def lanePrbs (a : LanePrbsArgs) : Bool := u 2 a.lane && bytes [a.gen, a.chk, a.invert, a.action]
def sdhPort (a : SdhPortArgs) : Bool :=
  halves [a.lane, a.txPhase, a.degThr] && bytes [a.enable, a.oofCount, a.j0Mode, a.flags, a.s1Mode, a.s1Value, a.degM, a.excK, a.sdK] &&
    trace 15 a.txJ0 && trace 15 a.expJ0
def sdhPath (a : SdhPathArgs) : Bool :=
  halves [a.lane, a.degThr] && bytes [a.g, a.type, a.mode, a.j1Mode, a.expC2, a.txC2, a.degM, a.excK, a.sdK, a.flags] &&
    trace 64 a.expJ1 && trace 64 a.txJ1
def sdhOh (a : SdhOhArgs) : Bool := u 2 a.lane && bytes [a.capture, a.insert, a.idleDcc, a.idleOw, a.port]
def cpriPort (a : CpriPortArgs) : Bool :=
  halves [a.lane, a.txOffset] && bytes [a.enable, a.role, a.transport, a.sdiMode, a.flags, a.cmRate, a.ethPtr] && u 4 a.txSeed
def cpriAxc (a : CpriAxcArgs) : Bool := halves [a.lane, a.startBit, a.nBits, a.cellBase] && bytes [a.axc, a.dir, a.op, a.enable]
def cpriCm (a : CpriCmArgs) : Bool := u 2 a.lane && bytes [a.capture, a.insert, a.idleSlow, a.idleFast, a.port]
def conn (e : ConnEntry) : Bool := halves [e.dstPort, e.srcPort] && bytes [e.dstG, e.width, e.srcG, e.check]
def broodEntry (e : BroodEntry) : Bool := bytes [e.dstB, e.srcB] && halves [e.dstX, e.srcX, e.cells]
def tuEntry (e : TuEntry) : Bool := bytes [e.dstB, e.dstG, e.dstTu, e.srcB, e.srcG, e.srcTu, e.type, e.struct]
def combRead (a : CombReadArgs) : Bool := u 1 a.tier && halves [a.port, a.start, a.count]
def combTest (a : CombTestArgs) : Bool := u 2 a.port && bytes [a.stream, a.op, a.firstG, a.width, a.mode, a.pattern]
def combTap (a : CombTapArgs) : Bool := bytes [a.op, a.mask] && u 2 a.beats && u 4 a.bar2 && beat a.startBeat
def nurseVc (a : NurseVcArgs) : Bool := bytes [a.b, a.g, a.enable, a.struct, a.mode, a.width, a.tug3, a.txC2] && u 6 a.tug2
def nurseTu (a : NurseTuArgs) : Bool :=
  bytes [a.b, a.g, a.tu, a.mode, a.j2Mode, a.expLabel, a.txLabel, a.flags, a.degM, a.excK, a.sdK, a.expExt, a.txExt] && u 2 a.degThr &&
    trace 15 a.expJ2 && trace 15 a.txJ2
def nurseAxv (a : NurseAxvArgs) : Bool :=
  bytes [a.b, a.dir, a.g0, a.members, a.type, a.nAxc, a.enable, a.txC2] && u 2 a.playOut && a.axcs.length == a.nAxc &&
    a.axcs.all fun e => halves [e.nBits, e.x]
def nurseStatus (a : NurseStatusArgs) : Bool := bytes [a.b, a.g, a.tu, a.axc, a.clear]
def poolDelay (a : PoolDelayArgs) : Bool := halves [a.s0, a.delay] && bytes [a.width, a.enable, a.channel, a.op]
def poolGroup (a : PoolGroupArgs) : Bool := halves [a.s0, a.x, a.maxDiff] && bytes [a.type, a.enable, a.channel, a.op, a.sqCheck]
def poolTwin (a : PoolTwinArgs) : Bool :=
  halves [a.sA, a.sB, a.maxDiff] && bytes [a.width, a.enable, a.channel, a.op, a.preferred, a.flags]

/-- The members fit their fields and their kind (09). -/
def members (kind : Nat) : Members → Bool
  | .lines w p => halves [w, p] && kind != 3 && kind != 4 && kind != 5
  | .sncpHo dp dg w wp wg pp pg => halves [dp, wp, pp] && bytes [dg, w, wg, pg] && kind == 3
  | .sncpLo db dg dt ty wb wg wt pb pg pt st => bytes [db, dg, dt, ty, wb, wg, wt, pb, pg, pt, st] && kind == 4
  | .cpri w p k => halves [w, p, k] && kind == 5

def protGroup (a : ProtGroupArgs) : Bool :=
  u 2 a.group && bytes [a.kind, a.enable, a.flags, a.holdoff, a.wtr] && members a.kind a.members
def entity (e : Entity) : Bool := bytes [e.type, e.g, e.tu] && u 2 e.unit
def pmConfig (a : PmConfigArgs) : Bool := bytes [a.dayStart, a.port, a.auto]
def pmMonitor (a : PmMonitorArgs) : Bool := entity a.ent && bytes [a.enable, a.bidir, a.profile]
def pmProfile (p : Nat) (thr : List Nat) : Bool := u 1 p && thr.length == 16 && thr.all (u 4)
def pmBulk (a : PmBulkArgs) : Bool := bytes [a.types, a.bins, a.depth, a.port]
def scoutInput (a : ScoutInputArgs) : Bool :=
  bytes [a.input, a.enable, a.priority, a.qlSource, a.ql, a.wtr, a.qualTime, a.flags] && u 4 a.nominal &&
    halves [a.softLimit, a.hardLimit, a.driftLimit, a.ppsWindow] && i 4 a.ppsComp
def scoutSelect (a : ScoutSelectArgs) : Bool :=
  bytes [a.mode, a.input, a.qlOption, a.flags, a.holdoverQl, a.freerunQl, a.phaseMode]
def scoutDpll (a : ScoutDpllArgs) : Bool :=
  halves [a.bwFinal, a.slew, a.steerTimeout, a.agingErr, a.tempRes, a.baseErr, a.boundLimit] && bytes [a.learn, a.leadBack] &&
    u 4 a.xoFreq
def scoutTod (a : ScoutTodArgs) : Bool := bytes [a.op, a.bfnMode] && u 2 a.bfnOffset && beat a.atBeat && beat a.todSec
def scoutSteer (a : ScoutSteerArgs) : Bool := bytes [a.op, a.count] && i 8 a.word
def scoutOutput (a : ScoutOutputArgs) : Bool :=
  bytes [a.output, a.enable, a.freq, a.domain, a.squelch, a.squelchQl] && i 4 a.offset && u 4 a.width
def scoutModel (a : ScoutModelArgs) : Bool := u 1 a.op && halves [a.firstBin, a.count]
def hiveConfig (a : HiveConfigArgs) : Bool := bytes [a.bbWindow, a.flags] && u 2 a.bbLanes
def powerConfig (a : PowerConfigArgs) : Bool := halves [a.leanMax, a.exitHold, a.wakeHold] && u 1 a.flags && u 4 a.powerLimit
def powerEntry (e : PowerEntry) : Bool := bytes [e.addr, e.rail, e.page, e.role, e.uvRaise, e.ovLower] && u 2 e.delay
def powerTable (a : PowerTableArgs) : Bool := bytes [a.op, a.slot] && powerEntry a.entry
def testBist (a : TestBistArgs) : Bool := bytes [a.op, a.kind, a.cycleHours] && halves [a.index, a.sramInterval]
def testSting (a : TestStingArgs) : Bool := bytes [a.point, a.mode, a.g, a.tu, a.sub] && u 2 a.unit && u 4 a.count
def secWorld (a : SecWorldArgs) : Bool :=
  bytes [a.op, a.kind, a.world, a.clearOnWake, a.channel] && halves [a.index, a.base, a.size]
def token (k : Token) : Bool := u 2 k.magic && u 1 k.target && u 4 k.toggle && u 16 k.deviceId && u 96 k.signature

/-! ### What units observe -/

def detUnit : DetUnit → Bool
  | .ms l => lineLane l
  | .hp l g => lineLane l && granule g
  | .lp b g tu => brood b && granule g && u 1 tu

def prbsUnit : PrbsUnit → Bool
  | .lane n => anyLane n
  | .comb p k => (p == 416 || p == 417) && k < 64

/-- Code groups of ten bits as received (03 R74). -/
def codeGroups (l : List Nat) : Bool := l.all (· < 1024)
def descView (d : DescView) : Bool := u 8 d.addr && u 4 d.bufLen

/-! ### Commands -/

/-- The rows of the Waggle services. -/
def service : Instr → Bool
  | .sysHello h a => hdr h && bytes [a.major, a.minor]
  | .sysSession h a => hdr h && u 1 a.op && u 2 a.domains
  | .sysMode h m => hdr h && u 1 m
  | .sysBatchOpen h | .sysBeatStatus h | .scoutStart h | .scoutStatus h | .hiveStatus h | .secStatus h | .secChallenge h => hdr h
  | .sysBatchClose h a => hdr h && u 4 a.batchId && u 2 a.mode && beat a.target
  | .sysBusStatus h c => hdr h && u 1 c
  | .laneConfig h a => hdr h && lane a
  | .laneStatus h n c => hdr h && u 2 n && u 1 c
  | .laneCal h a => hdr h && laneCal a
  | .lanePrbs h a => hdr h && lanePrbs a
  | .laneSlip h n => hdr h && u 2 n
  | .laneTrim h n t => hdr h && u 2 n && i 4 t
  | .sdhPort h a => hdr h && sdhPort a
  | .sdhPath h a => hdr h && sdhPath a
  | .sdhOh h a => hdr h && sdhOh a
  | .sdhStatus h n g c => hdr h && halves [n, g] && u 1 c
  | .sdhTrace h n g => hdr h && halves [n, g]
  | .cpriPort h a => hdr h && cpriPort a
  | .cpriAxc h a => hdr h && cpriAxc a
  | .cpriCm h a => hdr h && cpriCm a
  | .cpriL1 h n a => hdr h && u 2 n && u 1 a
  | .cpriStatus h n c => hdr h && u 2 n && u 1 c
  | .combConnect h op es => hdr h && u 1 op && u 2 es.length && es.all conn
  | .combBrood h op k es => hdr h && bytes [op, k] && u 2 es.length && es.all broodEntry
  | .combTu h op es => hdr h && u 1 op && u 2 es.length && es.all tuEntry
  | .combRead h a => hdr h && combRead a
  | .combTest h a => hdr h && combTest a
  | .combTap h a => hdr h && combTap a
  | .combStatus h p c => hdr h && u 2 p && u 1 c
  | .nurseVc h a => hdr h && nurseVc a
  | .nurseTu h a => hdr h && nurseTu a
  | .nurseAxcvcat h a => hdr h && nurseAxv a
  | .nurseStatus h a => hdr h && nurseStatus a
  | .poolDelay h a => hdr h && poolDelay a
  | .poolGroup h a => hdr h && poolGroup a
  | .poolTwin h a => hdr h && poolTwin a
  | .poolChannel h d op => hdr h && bytes [d, op]
  | .poolStatus h n m c => hdr h && halves [n, m] && u 1 c
  | .protGroup h a => hdr h && protGroup a
  | .protCommand h n c => hdr h && u 2 n && u 1 c
  | .protStatus h n c => hdr h && u 2 n && u 1 c
  | .pmConfig h a => hdr h && pmConfig a
  | .pmMonitor h a => hdr h && pmMonitor a
  | .pmProfile h p t => hdr h && pmProfile p t
  | .pmRead h e b => hdr h && entity e && u 1 b
  | .pmBulk h a => hdr h && pmBulk a
  | .scoutInput h a => hdr h && scoutInput a
  | .scoutSelect h a => hdr h && scoutSelect a
  | .scoutDpll h a => hdr h && scoutDpll a
  | .scoutTod h a => hdr h && scoutTod a
  | .scoutSteer h a => hdr h && scoutSteer a
  | .scoutOutput h a => hdr h && scoutOutput a
  | .scoutModel h a => hdr h && scoutModel a
  | .scoutInputStatus h n c => hdr h && bytes [n, c]
  | .hiveConfig h a => hdr h && hiveConfig a
  | .hiveJoin h op => hdr h && u 1 op
  | .hiveSwitch h op b => hdr h && u 1 op && beat b
  | .powerConfig h a => hdr h && powerConfig a
  | .powerTable h a => hdr h && powerTable a
  | .powerStatus h r c => hdr h && bytes [r, c]
  | .testBist h a => hdr h && testBist a
  | .testSting h a => hdr h && testSting a
  | .testTracer h k p => hdr h && bytes [k, p]
  | .tallyRead h f c n => hdr h && bytes [f, c, n]
  | .secProve h op k g => hdr h && bytes [op, k] && u 96 g
  | .secWorld h a => hdr h && secWorld a
  | .secLifecycle h op k => hdr h && u 1 op && token k
  | .secUpdate h op o => hdr h && u 1 op && u 4 o
  | _ => true

/-- The host's accesses and what happens on its ports. -/
def hostStep : Instr → Bool
  | .wgCmdStart p q half d | .wgCmdPush p q half d => port p && queue q && word32 half d
  | .wgRspPop p r _ => port p && queue r
  | .wgNtfPop p _ | .ntfQueueFlush p | .semRenew p _ | .evClaim p _ | .pcieFlr p | .pcieLinkDown p | .pcieLinkUp p | .perstAssert p
  | .nonceExpiry p | .challengeLockExpiry p | .hostPortPowerState p _ _ => port p
  | .cmdQueueFlush p q | .rspQueueFlush p q | .queueReadStallTimeout p q => port p && queue q
  | .flushDone p k => port p && k < 9
  | .commandServe us => us ≤ 125
  | .semAcquire p n _ _ | .semRelease p n => port p && sem n
  | .leaseExpiry n => sem n
  | .evComplete p n => port p && n < 512
  | .evReset p k => port p && u 1 k
  | .evSrcWrite p n _ => port p && source n
  | .evGrpWrite p g _ => port p && g < 14
  | .gdClearStorm k | .gdRestart k => u 1 k
  | .gdResolve e k => e < 16 && u 1 k
  | .hvCtrlRelease half v => word32 half v
  | .dmaTailWrite p n v => port p && ring n && v < 4096
  | .dmaRingEnable p n _ => port p && ring n
  | .descriptorClose p n d => port p && ring n && descView d
  | .registerWrite p o half v => port p && o < 2 ^ 20 && word32 half v
  | .bar0BadAccess p o _ _ => port p && o < 2 ^ 20
  | .bar2Access p o _ _ _ => port p && o < 2 ^ 28
  | _ => true

/-- The steps of the data plane, the Scout and the hive. -/
def planeStep : Instr → Bool
  | .losDeclare n | .losClear n | .lolDeclare n | .lolClear n | .alignmentLost n | .loopbackSlip n _ => anyLane n
  | .commaAlign n pos => anyLane n && pos < 10
  | .prbsLock x _ _ | .prbsUnlock x _ _ => prbsUnit x
  | .trimServoUpdate n | .lofDeclare n | .lofClear n | .sdhEgressFrame n | .cpriLofChange n | .rxOffsetUpdate n | .l1ResetEnd n =>
    lineLane n
  | .sdhFrameRx n _ => lineLane n
  | .internalJustification n g _ => lineLane n && granule g
  | .degSecondEnd x | .berSubwindowEnd x _ => detUnit x
  | .ohCaptureRecord n ch => lineLane n && ch < 5
  | .ohInsertFlight n ch => lineLane n && ch < 5
  | .hyperframeRx n codes _ => lineLane n && codeGroups codes
  | .cmCaptureRecord n g => lineLane n && g < 3
  | .cmInsertFlight n g => lineLane n && g < 3
  | .axcSlip n a | .axcRealign n a => lineLane n && axc a
  | .rotationStep r _ | .combEccError r _ _ => r < 64
  | .tuPointerInterpret b g tu | .tuEgressBuild b g tu => brood b && granule g && u 1 tu
  | .mapRateUpdate b g a | .playSlip b g a _ | .playDefectChange b g a => brood b && granule g && a < 16
  | .memberMfiChange n m => slot n && m < 256
  | .loaChange n | .groupRealign n | .outputLagAdjust n | .twinSelect n | .poolEccError n | .bypassRevert n
  | .twinBypassReturn n => slot n
  | .refreshPlace d _ _ _ | .ddrRequestTimeout d | .channelFail d _ | .channelTrainingDone d _ _ _ _ | .channelReturnDone d
  | .ddrThermalRead d _ | .ddrBootTrainingDone d _ _ _ _ => channel d
  | .patrolScrubLine d l o _ => channel d && l < 2 ^ 30 && o ≤ 3
  | .holdoffExpiry n _ | .wtrExpiry n | .fopCmExpiry n | .cpriHitlessSwitch n => group n
  | .inputOffsetUpdate n _ | .inputFail n _ | .ppsEdge n _ | .inputQualify n | .inputWtrExpiry n | .suspectChange n | .driftUpdate n
  | .inputFailClear n => input n
  | .squelchChange n => n < 11
  | .hiveFrameRx x _ codes => x < 4 && codeGroups codes
  | .mirrorRecordRx q _ _ => u 4 q
  | .pmAutoWrite e _ => entity e
  | _ => true

/-- The steps of the clock, the Keeper, the Guard, memory, test and power. -/
def systemStep : Instr → Bool
  | .ticketArm k | .ticketApply k => u 4 k
  | .snapshotRelease b => b < 2
  | .unitPipelineOverrun k n => u 1 k && u 2 n
  | .coreWatchdogPreExpiry c => (c.map core).getD true
  | .coreWatchdogExpiry c | .coreRetire c => core c
  | .faultRecord c k n _ => bytes [c] && k < 16 && n < 4096
  | .sourceAssert n _ | .redirectTimeout n => source n
  | .coalesceRelease p g => port p && g < 14
  | .busTransactionTimeout m a => master m && a < 2 ^ 40
  | .defaultTargetResponse m a => master m && a < 2 ^ 40
  | .sramEccError m a _ w => master m && a < 2 ^ 40 && w.length ≤ 64
  | .stingOccurrence n => n < 64
  | .sliceTestDone a b => u 8 a.signature && u 8 b.signature
  | .tracerTag n g => lineLane n && granule g
  | .tallyOverflow n => n < 64
  | .ddrRegionClearDone r => r < 32
  | .updateDataDone p o _ => port p && u 4 o
  | .railExcursion r _ _ _ | .railClear r => rail r
  | .tokenRelease c => c < 16
  | _ => true

/-- A well-formed command. -/
def ok (c : Instr) : Bool := service c && hostStep c && planeStep c && systemStep c

end Sys2Proof.WellFormed
end

