-- ==== Sys2Proof/Certificates/Slice0/Obligations.lean ====
section
/-!
DEFINITION. Certificates/Slice0/Obligations.lean: the statements for the provers, from the numbered rules of the spec.
-/

open Sys2Proof Sys2Proof.Machine

/-! ### The block -/

/-- A step takes the command at the front of the queue and runs it on the state with the queue's rest; on an empty queue the block
idles, which is the model's choice (log 25). -/
def Obligations.StepRunsFront : Prop :=
  (∀ (c : Instr) (rest : List Instr) (s : State), step { s with pending := c :: rest } = exec c { s with pending := rest }) ∧
    ∀ s : State, s.pending = [] → step s = .next s

/-- No command faults. A refusal is that of the debug window (NOTES.md, Stops), by REGISTER_WRITE or BAR0_BAD_ACCESS, from a sealed port
whose host port is up, in life cycle FIELD_DEBUG. -/
def Obligations.OnlyDebugWindowStops : Prop :=
  ∀ (i : Instr) (s : State),
    (∃ t, exec i s = .next t) ∨
      exec i s = .refused .debugWindow ∧
        ∃ p off, s.portUp p = true ∧ inDebug s p off = true ∧
          ((∃ half v, i = .registerWrite p off half v) ∨ ∃ size write, i = .bar0BadAccess p off size write)

/-! ### Reads of the services -/

/-- The reads of the sys, line, Scout, hive, power, tally and security services answer OK with the fields of their tables and change
nothing else. -/
def Obligations.StatusReadsAnswer : Prop :=
  (∀ (h : Hdr) (s : State), heard h s →
    (∃ t, exec (.sysBeatStatus h) s = .next t ∧ answered h 1 0x23 stOk (beatStatusFields s) s t ∧ onlyChanges replyParts s t) ∧
    (∃ t, exec (.sysBusStatus h 0) s = .next t ∧ answered h 1 5 stOk (busStatusFields h.port s) s t ∧ onlyChanges replyParts s t) ∧
    (∀ n, n ≤ 259 → ∃ t, exec (.laneStatus h n 0) s = .next t ∧
      answered h 2 2 stOk (laneStatusFields n s) s t ∧ onlyChanges replyParts s t) ∧
    (∀ n, n ≤ 255 → (s.lane n).enable = 1 → isSdhMode (s.lane n).mode = true → ∀ g,
      g = 0xFFFF ∨ g ≤ 191 ∧ (s.path n g).cfg.type ≠ 0 →
      (∃ t, exec (.sdhStatus h n g 0) s = .next t ∧ answered h 3 4 stOk (sdhStatusFields n g s) s t ∧ onlyChanges replyParts s t) ∧
      ∃ t, exec (.sdhTrace h n g) s = .next t ∧ answered h 3 5 stOk (traceFields n g s) s t ∧ onlyChanges replyParts s t) ∧
    (∀ n, n ≤ 255 → (s.lane n).enable = 1 → isCpriMode (s.lane n).mode = true →
      ∃ t, exec (.cpriStatus h n 0) s = .next t ∧ answered h 4 5 stOk (cpriStatusFields n s) s t ∧ onlyChanges replyParts s t)) ∧
  (∀ (h : Hdr) (s : State), heard h s →
    (∃ t, exec (.scoutStatus h) s = .next t ∧ answered h 10 9 stOk (scoutStatusFields s) s t ∧ onlyChanges replyParts s t) ∧
    (∀ i, i ≤ 19 → ∃ t, exec (.scoutInputStatus h i 0) s = .next t ∧
      answered h 10 10 stOk (inputStatusFields i s) s t ∧ onlyChanges replyParts s t) ∧
    (∃ t, exec (.hiveStatus h) s = .next t ∧ answered h 11 4 stOk (hiveStatusFields s) s t ∧ onlyChanges replyParts s t) ∧
    (∀ r, r ≤ 15 → ∃ t, exec (.powerStatus h r 0) s = .next t ∧
      answered h 12 3 stOk (powerStatusFields r s) s t ∧ onlyChanges replyParts s t) ∧
    (∀ first count, 1 ≤ count → first + count ≤ 64 → ∃ t, exec (.tallyRead h first count 0) s = .next t ∧
      answered h 14 1 stOk (tallyFields first count false s) s t ∧ onlyChanges replyParts s t) ∧
    (∃ t, exec (.secStatus h) s = .next t ∧ answered h 15 1 stOk (secStatusFields s) s t ∧ onlyChanges replyParts s t))

/-- The reads of the Comb, nurse, pool, protection and performance services. -/
def Obligations.FabricReadsAnswer : Prop :=
  ∀ (h : Hdr) (s : State), heard h s →
    (∀ port, port ≤ 423 ∨ port = 0xFFFF → ∃ t, exec (.combStatus h port 0) s = .next t ∧
      answered h 5 7 stOk (combStatusFields port s) s t ∧ onlyChanges replyParts s t) ∧
    (∀ a : CombReadArgs, a.tier = 0 → a.port ≤ 423 → 1 ≤ a.count → a.start + a.count ≤ 192 → ∃ t, exec (.combRead h a) s = .next t ∧
      answered h 5 4 stOk ((2, a.count) :: (4, 0) :: (List.range a.count).flatMap fun i => superEntry (slotOf a.port (a.start + i)) s) s t ∧
      onlyChanges replyParts s t) ∧
    (∀ a : CombReadArgs, a.tier = 1 → a.port ≤ 95 → 1 ≤ a.count → a.count ≤ 1024 → a.start + a.count ≤ 16704 →
      ∃ t, exec (.combRead h a) s = .next t ∧
        answered h 5 4 stOk ((2, a.count) :: (4, 0) :: (List.range a.count).flatMap fun i => broodEntry (cellOf a.port (a.start + i)) s) s t ∧
        onlyChanges replyParts s t) ∧
    (∀ a : NurseStatusArgs, a.b ≤ 95 → a.g ≤ 191 → a.clear = 0 → nurseMissing a s = false → ∃ t, exec (.nurseStatus h a) s = .next t ∧
      answered h 6 4 stOk (nurseStatusFields a s) s t ∧ onlyChanges replyParts s t) ∧
    (∀ slot member, slot ≤ 12287 → member ≤ 255 ∨ member = 0xFFFF → ∃ t, exec (.poolStatus h slot member 0) s = .next t ∧
      answered h 7 5 stOk (poolStatusFields slot member s) s t ∧ onlyChanges replyParts s t) ∧
    (∀ n, n ≤ 12287 → ∃ t, exec (.protStatus h n 0) s = .next t ∧
      answered h 8 3 stOk (protStatusFields n s) s t ∧ onlyChanges replyParts s t) ∧
    (∀ e n, (s.mon e).cfg.enable = 1 → n ≤ 96 ∨ 100 ≤ n ∧ n ≤ 107 → ∃ t, exec (.pmRead h e n) s = .next t ∧
      answered h 9 4 stOk (pmReadFields e n s) s t ∧ onlyChanges replyParts s t)

/-- Op 0 of the commands that also set answers what is in force, needs no session and changes nothing. -/
def Obligations.OpZeroReadsAnswer : Prop :=
  ∀ (h : Hdr) (s : State), heard h s →
    (∀ a : CpriAxcArgs, a.op = 0 → a.lane ≤ 255 → a.axc ≤ 47 → a.dir ≤ 1 → a.enable ≤ 1 → isCpriMode (s.lane a.lane).mode = true →
      (s.lane a.lane).enable = 1 → (s.cpriOf a.lane).cfg.transport = 0 →
      axcOutside a (iqBits (cpriOption (s.lane a.lane).mode)) = false → ∃ t, exec (.cpriAxc h a) s = .next t ∧
        answered h 4 2 stOk (axcFields s a.lane a.axc a.dir) s t ∧ onlyChanges replyParts s t) ∧
    (∀ a : CombTestArgs, a.op = 0 → 416 ≤ a.port → a.port ≤ 417 → a.stream ≤ 63 → badStream a = false → ∃ t, exec (.combTest h a) s = .next t ∧
      answered h 5 5 stOk (streamFields a.port a.stream s) s t ∧ onlyChanges replyParts s t) ∧
    (∀ a : CombTapArgs, a.op = 0 → 1 ≤ a.beats → a.beats ≤ 8000 → a.bar2 % 1024 = 0 → ∃ t, exec (.combTap h a) s = .next t ∧
      answered h 5 6 stOk (tapFields s) s t ∧ onlyChanges replyParts s t) ∧
    (∀ ch, ch ≤ 3 → ∃ t, exec (.poolChannel h ch 0) s = .next t ∧
      answered h 7 4 stOk (channelFields s ch) s t ∧ onlyChanges replyParts s t) ∧
    (∀ a : ScoutTodArgs, a.op = 0 → a.bfnMode ≤ 1 → ∃ t, exec (.scoutTod h a) s = .next t ∧
      answered h 10 5 stOk (todFields s) s t ∧ onlyChanges replyParts s t) ∧
    (∀ a : ScoutSteerArgs, a.op = 0 → 1 ≤ a.count → a.count ≤ 64 → ∃ t, exec (.scoutSteer h a) s = .next t ∧
      answered h 10 6 stOk (steerFields a.count s) s t ∧ onlyChanges replyParts s t) ∧
    (∀ a : ScoutModelArgs, a.op = 0 → a.firstBin ≤ 539 → 1 ≤ a.count → a.count ≤ 64 → ∃ t, exec (.scoutModel h a) s = .next t ∧
      answered h 10 8 stOk (modelFields s 0 a.firstBin a.count) s t ∧ onlyChanges replyParts s t) ∧
    (∀ a : PowerTableArgs, a.op = 0 → a.slot ≤ 15 → badPowerEntry a.entry = false → ∃ t, exec (.powerTable h a) s = .next t ∧
      answered h 12 2 stOk (powerTableFields a.slot s) s t ∧ onlyChanges replyParts s t) ∧
    (∀ a : TestBistArgs, a.op = 0 → badBist a = false → ∃ t, exec (.testBist h a) s = .next t ∧
      answered h 13 1 stOk (bistFields s) s t ∧ onlyChanges replyParts s t) ∧
    (∀ a : SecWorldArgs, a.op = 0 → badWorld a = false → ∃ t, exec (.secWorld h a) s = .next t ∧
      answered h 15 4 stOk (worldFields s a) s t ∧ onlyChanges replyParts s t) ∧
    (∀ k, ∃ t, exec (.secLifecycle h 0 k) s = .next t ∧ answered h 15 5 stOk (lifeFields s) s t ∧ onlyChanges replyParts s t) ∧
    (∀ off, ∃ t, exec (.secUpdate h 0 off) s = .next t ∧ answered h 15 6 stOk (updateFields s) s t ∧ onlyChanges replyParts s t)

/-! ### What the line services set -/

/-- A change of an enable, or of a class C field of an enabled unit, takes a ticket (02 R56, R58): lane.config, sdh.port, sdh.path,
cpri.port, cpri.axc and lane.cal in use. Class L and class F fields of lane.config go to the lane at once. -/
def Obligations.LineSettingsTakeTickets : Prop :=
  ∀ (h : Hdr) (s : State), heard h s → mayTicket h s →
    (∀ a : LaneArgs, owns h 2 s → badLane a = false → (s.lane a.lane).bootFailed = false → laneFDiffers (s.lane a.lane) a = false →
      ¬((s.lane a.lane).enable = 1 ↔ a.enable = 1) → ∃ t, exec (.laneConfig h a) s = .next t ∧
        ticketed h 2 1 .status [.lane a.lane a.enable a.loopback] s t ∧ onlyChanges (.lanes :: ticketParts) s t ∧
        (t.lane a.lane).losThr = a.losThr ∧ (t.lane a.lane).dfeAdapt = a.dfeAdapt ∧ ∀ n, n ≠ a.lane → t.lane n = s.lane n) ∧
    (∀ a : SdhPortArgs, owns h 3 s → badSdhPort (sdhPortSeen a) = false → isSdhMode (s.lane a.lane).mode = true → a.enable = 1 →
      (s.sdhOf a.lane).cfg.enable = 0 → laneWill h.port a.lane s = true → ∃ t, exec (.sdhPort h a) s = .next t ∧
        ticketed h 3 1 .status [.sdhPort (sdhPortSeen a)] s t ∧ onlyChanges (.sdh :: ticketParts) s t ∧
        ∀ n, n ≠ a.lane → t.sdhOf n = s.sdhOf n) ∧
    (∀ a : SdhPathArgs, owns h 3 s → badSdhPath (sdhPathSeen a) = false → isSdhMode (s.lane a.lane).mode = true →
      laneWill h.port a.lane s = true → pathFits (sdhPathSeen a) (sdhGranules (s.lane a.lane).mode) = true →
      (s.sdhOf a.lane).cfg.enable = 1 → (s.path a.lane a.g).cfg.type = a.type → (s.path a.lane a.g).cfg ≠ sdhPathSeen a →
      ∃ t, exec (.sdhPath h a) s = .next t ∧ ticketed h 3 2 .status [.sdhPath (sdhPathSeen a)] s t ∧ onlyChanges ticketParts s t) ∧
    (∀ a : CpriPortArgs, owns h 4 s → badCpriPort (cpriPortSeen a) = false → isCpriMode (s.lane a.lane).mode = true → a.enable = 1 →
      (s.cpriOf a.lane).cfg.enable = 0 → laneWill h.port a.lane s = true → ∃ t, exec (.cpriPort h a) s = .next t ∧
        ticketed h 4 1 .status [.cpriPort (cpriPortSeen a)] s t ∧ onlyChanges (.cpri :: ticketParts) s t ∧
        (t.cpriOf a.lane).cfg.flags = a.flags % 32 ∧ ∀ n, n ≠ a.lane → t.cpriOf n = s.cpriOf n) ∧
    (∀ a : CpriAxcArgs, owns h 4 s → a.op = 1 → a.lane ≤ 255 → a.axc ≤ 47 → a.dir ≤ 1 → a.enable = 1 →
      isCpriMode (s.lane a.lane).mode = true → laneWill h.port a.lane s = true → (s.cpriOf a.lane).cfg.transport = 0 →
      axcOutside a (iqBits (cpriOption (s.lane a.lane).mode)) = false → axcClash h.port a s = false →
      cpriProtected h.port a.lane s = false → (s.axc a.lane a.dir a.axc).cfg.enable = 0 → ∃ t, exec (.cpriAxc h a) s = .next t ∧
        ticketed h 4 2 (.axc a.lane a.axc a.dir) [.axc a] s t ∧ onlyChanges (.axcs :: .fresh :: ticketParts) s t) ∧
    (∀ a : LaneCalArgs, owns h 2 s → a.op = 1 → a.lane ≤ 259 → a.group ≤ 2 → badCal a = false → calActive a s = true → a.ctle = (s.calOf a.lane a.group).ctle →
      calDiffers a s = true → ∃ t, exec (.laneCal h a) s = .next t ∧ ticketed h 2 3 (.laneCal a) [calChange a] s t ∧
        onlyChanges ticketParts s t)

/-- A disabled lane or port takes its settings at once (02 R56), and lane.cal stores the offsets of a group not in use. -/
def Obligations.DisabledUnitsTakeSettingsAtOnce : Prop :=
  ∀ (h : Hdr) (s : State), heard h s → mayTicket h s →
    (∀ a : LaneArgs, owns h 2 s → badLane a = false → (s.lane a.lane).enable = 0 → a.enable = 0 →
      touched h.port (.lane a.lane a.enable a.loopback) s = false → ∃ t, exec (.laneConfig h a) s = .next t ∧
        answered h 2 1 stOk reserved6 s t ∧ onlyChanges (.lanes :: .hive :: replyParts) s t ∧
        (t.lane a.lane).mode = a.mode ∧ (t.lane a.lane).align = a.align ∧ (t.lane a.lane).polarity = a.polarity ∧
        (t.lane a.lane).scramble = a.scramble ∧ (t.lane a.lane).loopback = a.loopback ∧ (t.lane a.lane).losThr = a.losThr ∧
        (t.lane a.lane).dfeAdapt = a.dfeAdapt ∧ ∀ n, n ≠ a.lane → t.lane n = s.lane n) ∧
    (∀ a : SdhPortArgs, owns h 3 s → badSdhPort (sdhPortSeen a) = false → isSdhMode (s.lane a.lane).mode = true → a.enable = 0 →
      (s.sdhOf a.lane).cfg.enable = 0 → touched h.port (.sdhPort (sdhPortSeen a)) s = false → ∃ t, exec (.sdhPort h a) s = .next t ∧
        answered h 3 1 stOk reserved6 s t ∧ onlyChanges (.sdh :: .hive :: replyParts) s t ∧
        { (t.sdhOf a.lane).cfg with lane := a.lane } = sdhPortSeen a ∧ ∀ n, n ≠ a.lane → t.sdhOf n = s.sdhOf n) ∧
    (∀ a : LaneCalArgs, owns h 2 s → a.op = 1 → a.lane ≤ 259 → a.group ≤ 2 → badCal a = false → calActive a s = false → touched h.port (calChange a) s = false →
      ∃ t, exec (.laneCal h a) s = .next t ∧ answered h 2 3 stOk (calFields t a.lane a.group) s t ∧
        onlyChanges (.userCal :: .hive :: replyParts) s t ∧ t.calOf a.lane a.group = ⟨a.swing, a.pre, a.post, a.ctle⟩)

/-- Class L settings of the line services take effect at once, and are answered so (02 R64). -/
def Obligations.LineActionsAtOnce : Prop :=
  ∀ (h : Hdr) (s : State), heard h s →
    (∀ a : LanePrbsArgs, owns h 2 s → a.lane ≤ 259 → a.gen ≤ 4 → a.chk ≤ 4 → a.invert ≤ 3 → a.action ≤ 2 →
      ∃ t, exec (.lanePrbs h a) s = .next t ∧ answered h 2 4 stOk (prbsFields a.lane t) s t ∧
        onlyChanges (.lanes :: .hive :: replyParts) s t ∧ (t.lane a.lane).prbsGen = a.gen ∧ (t.lane a.lane).prbsChk = a.chk ∧
        (t.lane a.lane).prbsInv = a.invert ∧ (a.action = 2 → (t.lane a.lane).prbsBits = 0 ∧ (t.lane a.lane).prbsErrors = 0) ∧
        ∀ n, n ≠ a.lane → t.lane n = s.lane n) ∧
    (∀ n, owns h 2 s → n ≤ 255 → (s.lane n).align ≠ 0 → isSdhMode (s.lane n).mode = false → ∃ t, exec (.laneSlip h n) s = .next t ∧
      answered h 2 5 stOk [(1, ((s.lane n).position + 1) % 10)] s t ∧ onlyChanges (.lanes :: replyParts) s t ∧
      (t.lane n).position = ((s.lane n).position + 1) % 10 ∧ (t.lane n).commaSeen = false ∧ ∀ m, m ≠ n → t.lane m = s.lane m) ∧
    (∀ n trim, owns h 2 s → n ≤ 255 → -200000 ≤ trim → trim ≤ 200000 → trimOwned n s = false →
      isSdhMode (s.lane n).mode = false ∨ trim = 0 → ∃ t, exec (.laneTrim h n trim) s = .next t ∧
        answered h 2 6 stOk [(2, 0), (4, trim), (4, (s.lane n).trim)] s t ∧ onlyChanges (.lanes :: .hive :: replyParts) s t ∧
        (t.lane n).trimTarget = trim ∧ ∀ m, m ≠ n → t.lane m = s.lane m) ∧
    (∀ a : SdhOhArgs, owns h 3 s → a.lane ≤ 255 → a.idleDcc ≤ 255 → a.idleOw ≤ 255 → a.port ≤ 1 → isSdhMode (s.lane a.lane).mode = true →
      laneWill h.port a.lane s = true → ∃ t, exec (.sdhOh h a) s = .next t ∧
        answered h 3 3 stOk [(2, 0), (4, (s.sdhOf a.lane).capDropped), (4, (s.sdhOf a.lane).insUnderrun), (4, 0)] s t ∧
        onlyChanges (.sdh :: .hive :: replyParts) s t ∧
        (t.sdhOf a.lane).oh = { a with capture := a.capture % 32, insert := a.insert % 32 } ∧ (t.sdhOf a.lane).capDropped = 0 ∧
        (t.sdhOf a.lane).insUnderrun = 0 ∧ ∀ n, n ≠ a.lane → t.sdhOf n = s.sdhOf n) ∧
    (∀ a : CpriCmArgs, owns h 4 s → a.lane ≤ 255 → a.idleSlow ≤ 255 → a.idleFast ≤ 255 → a.port ≤ 1 →
      isCpriMode (s.lane a.lane).mode = true → laneWill h.port a.lane s = true → (s.cpriOf a.lane).cfg.transport = 0 →
      ∃ t, exec (.cpriCm h a) s = .next t ∧
        answered h 4 3 stOk [(2, 0), (4, (s.cpriOf a.lane).cmDropped), (4, (s.cpriOf a.lane).cmUnderrun)] s t ∧
        onlyChanges (.cpri :: .hive :: replyParts) s t ∧
        (t.cpriOf a.lane).cm = { a with capture := a.capture % 8, insert := a.insert % 8 } ∧
        ∀ n, n ≠ a.lane → t.cpriOf n = s.cpriOf n) ∧
    (∀ n, owns h 4 s → n ≤ 255 → isCpriMode (s.lane n).mode = true → laneWill h.port n s = true → (s.cpriOf n).cfg.role ≠ 1 →
      (s.cpriOf n).resetLeft = 0 → ∃ t, exec (.cpriL1 h n 1) s = .next t ∧ answered h 4 4 stOk reserved6 s t ∧
        onlyChanges (.cpri :: replyParts) s t ∧ (t.cpriOf n).resetLeft = 16 ∧ ∀ m, m ≠ n → t.cpriOf m = s.cpriOf m)

/-- A status read with clear answers the counts as they stood and leaves them at zero. -/
def Obligations.ClearingReadsAnswer : Prop :=
  ∀ (h : Hdr) (s : State), heard h s →
    (∀ n, owns h 2 s → n ≤ 259 → ∃ t, exec (.laneStatus h n 1) s = .next t ∧ answered h 2 2 stOk (laneStatusFields n s) s t ∧
      onlyChanges (.lanes :: replyParts) s t ∧ (t.lane n).cvInvalid = 0 ∧ (t.lane n).cvDisparity = 0 ∧ (t.lane n).slipCount = 0 ∧
      (t.lane n).losEvents = 0 ∧ (t.lane n).commaSeen = false ∧ ∀ m, m ≠ n → t.lane m = s.lane m) ∧
    (∀ n, owns h 3 s → n ≤ 255 → (s.lane n).enable = 1 → isSdhMode (s.lane n).mode = true → ∃ t, exec (.sdhStatus h n 0xFFFF 1) s = .next t ∧
      answered h 3 4 stOk (sdhStatusFields n 0xFFFF s) s t ∧ onlyChanges (.sdh :: replyParts) s t ∧ (t.sdhOf n).b1 = 0 ∧
      (t.sdhOf n).b2 = 0 ∧ (t.sdhOf n).msRei = 0 ∧ (t.sdhOf n).j0Crc = 0 ∧ ∀ m, m ≠ n → t.sdhOf m = s.sdhOf m) ∧
    (∀ n, owns h 4 s → n ≤ 255 → (s.lane n).enable = 1 → isCpriMode (s.lane n).mode = true → ∃ t, exec (.cpriStatus h n 1) s = .next t ∧
      answered h 4 5 stOk (cpriStatusFields n s) s t ∧ onlyChanges (.cpri :: replyParts) s t ∧ (t.cpriOf n).hfSlips = 0 ∧
      (t.cpriOf n).kMisplaced = 0 ∧ (t.cpriOf n).broadMismatch = 0 ∧ (t.cpriOf n).storeSlips = 0 ∧
      ∀ m, m ≠ n → t.cpriOf m = s.cpriOf m) ∧
    (∀ n, owns h 8 s → n ≤ 12287 → ∃ t, exec (.protStatus h n 1) s = .next t ∧ answered h 8 3 stOk (protStatusFields n s) s t ∧
      onlyChanges (.prot :: replyParts) s t ∧ t.group n = { s.group n with switches := 0 } ∧ ∀ m, m ≠ n → t.group m = s.group m) ∧
    (∀ i, owns h 10 s → i ≤ 19 → ∃ t, exec (.scoutInputStatus h i 1) s = .next t ∧ answered h 10 10 stOk (inputStatusFields i s) s t ∧
      onlyChanges (.scout :: replyParts) s t ∧ t.inp i = { s.inp i with failures := 0 } ∧ ∀ m, m ≠ i → t.inp m = s.inp m) ∧
    (∀ r, owns h 12 s → r ≤ 15 → ∃ t, exec (.powerStatus h r 1) s = .next t ∧ answered h 12 3 stOk (powerStatusFields r s) s t ∧
      onlyChanges (.power :: replyParts) s t ∧ t.power = { s.power with pmbusErr := false }) ∧
    (owns h 1 s → ∃ t, exec (.sysBusStatus h 1) s = .next t ∧ answered h 1 5 stOk (busStatusFields h.port s) s t ∧
      onlyChanges (.bus :: .pool :: replyParts) s t ∧ t.bus.defaultHits = 0 ∧ t.bus.timeouts = 0 ∧ t.bus.sramCorrected = 0 ∧
      t.bus.sramUncorrected = 0 ∧ t.bus.bgPasses = 0)

/-! ### Comb, nurse, pool, protection and performance settings -/

/-- comb.connect, comb.brood and comb.tu take a ticket that writes each output named; nurse.vc and nurse.axcvcat that enable a unit, and
nurse.tu on an enabled one, take a ticket (06 R181-R188; 07 R197, R215; 02 R56). -/
def Obligations.FabricSettingsTakeTickets : Prop :=
  (∀ (h : Hdr) (s : State), heard h s → mayTicket h s → owns h 5 s →
    (∀ op (es : List ConnEntry), es ≠ [] → es.length ≤ 512 → op ≤ 1 → es.any (badConn op) = false → (es.map fun e => e.width).sum ≤ 4096 →
      runsClash connClash es = false → (es.any fun e => superOwned (groupsWill h.port s) e.dstPort e.dstG e.width) = false →
      connAdmission h.port op es s = false → ∃ t, exec (.combConnect h op es) s = .next t ∧
        ticketed h 5 1 (.comb (differing (connWrites op es) s)) (connWrites op es) s t ∧ onlyChanges ticketParts s t) ∧
    (∀ op kind (es : List BroodEntry), es ≠ [] → es.length ≤ 512 → op ≤ 1 → kind ≤ 1 → es.any (badBrood op) = false →
      (es.map fun e => e.cells).sum ≤ 65536 → runsClash broodClash es = false →
      (es.any fun e => broodOwned (groupsWill h.port s) e.dstB fun x => e.dstX ≤ x && x < e.dstX + e.cells) = false →
      ∃ t, exec (.combBrood h op kind es) s = .next t ∧
        ticketed h 5 2 (.comb (differing (broodWrites op kind es) s)) (broodWrites op kind es) s t ∧ onlyChanges ticketParts s t) ∧
    (∀ es : List TuEntry, es ≠ [] → es.length ≤ 256 → es.any (badTu 0) = false → runsClash tuClash es = false →
      (es.any fun e => broodOwned (groupsWill h.port s) e.dstB fun x => (tuOutputs e).contains x) = false → tuWrites 0 es ≠ [] →
      tooLarge (tuWrites 0 es) = false → ∃ t, exec (.combTu h 0 es) s = .next t ∧
        ticketed h 5 3 (.comb (differing (tuWrites 0 es) s)) (tuWrites 0 es) s t ∧ onlyChanges ticketParts s t) ∧
    (∀ es : List TuEntry, es ≠ [] → es.length ≤ 256 → es.any (badTu 1) = false → runsClash tuClash es = false →
      (es.any fun e => broodOwned (groupsWill h.port s) e.dstB fun x => (tuOutputs e).contains x) = false → tuDrops es ≠ [] →
      tooLarge (tuDrops es) = false → ∃ t, exec (.combTu h 1 es) s = .next t ∧
        ticketed h 5 3 (.comb (differing (tuDrops es) s)) (tuDrops es) s t ∧ onlyChanges ticketParts s t)) ∧
  (∀ (h : Hdr) (s : State), heard h s → mayTicket h s → owns h 6 s →
    (∀ a : NurseVcArgs, badVc a = false → vcClash h.port a s = false → (s.vcOf a.b a.g).cfg.enable = 0 → a.enable = 1 →
      ∃ t, exec (.nurseVc h a) s = .next t ∧ ticketed h 6 1 .status [.nurseVc a] s t ∧ onlyChanges (.nurse :: ticketParts) s t) ∧
    (∀ a : NurseTuArgs, a.b ≤ 95 → a.g ≤ 191 → (tuType (s.vcOf a.b a.g).cfg a.tu).isSome = true →
      badTuArgs (tuType (s.vcOf a.b a.g).cfg a.tu == some 4) (tuSeen a) = false → (s.vcOf a.b a.g).cfg.enable = 1 →
      (s.tuOf a.b a.g a.tu).cfg ≠ tuSeen a → ∃ t, exec (.nurseTu h a) s = .next t ∧
        ticketed h 6 2 .status [.nurseTu (tuSeen a)] s t ∧ onlyChanges ticketParts s t) ∧
    (∀ a : NurseAxvArgs, a.axcs.length = a.nAxc → badAxv a = false → axvClash h.port a s = false → axvAdmits a = true →
      playFits h.port a s = true → (s.axvOf a.b a.dir a.g0).cfg.enable = 0 → a.enable = 1 → ∃ t, exec (.nurseAxcvcat h a) s = .next t ∧
        ticketed h 6 3 .status [.axv a] s t ∧ onlyChanges (.nurse :: ticketParts) s t))

/-- comb.test sets a stream at work, injects and clears; comb.tap arms and stops the tap (06 R194, R195). -/
def Obligations.CombTestsAtOnce : Prop :=
  ∀ (h : Hdr) (s : State), heard h s → owns h 5 s →
    (∀ a : CombTestArgs, a.op = 1 → 416 ≤ a.port → a.port ≤ 417 → a.stream ≤ 63 → badStream a = false → streamClash a s = false →
      (s.stream a.port a.stream).on = false → ∃ t, exec (.combTest h a) s = .next t ∧
        answered h 5 5 stOk (streamFields a.port a.stream t) s t ∧ onlyChanges (.comb :: .hive :: replyParts) s t ∧
        (t.stream a.port a.stream).firstG = a.firstG ∧ (t.stream a.port a.stream).width = a.width ∧
        (t.stream a.port a.stream).mode = a.mode ∧ (t.stream a.port a.stream).pattern = a.pattern % 64) ∧
    (∀ a : CombTestArgs, a.op = 3 → 416 ≤ a.port → a.port ≤ 417 → a.stream ≤ 63 → badStream a = false → ∃ t, exec (.combTest h a) s = .next t ∧
      answered h 5 5 stOk (streamFields a.port a.stream t) s t ∧ onlyChanges (.comb :: .hive :: replyParts) s t ∧
      (t.stream a.port a.stream).bits = 0 ∧ (t.stream a.port a.stream).errors = 0 ∧ (t.stream a.port a.stream).unavailable = 0) ∧
    (∀ a : CombTapArgs, a.op = 1 → 1 ≤ a.beats → a.beats ≤ 8000 → a.bar2 % 1024 = 0 → a.bar2 + tapSize a ≤ 2 ^ 28 →
      tapDenied h.port a s = false → s.comb.tap.state ≠ 1 → s.comb.tap.state ≠ 2 → ∃ t, exec (.combTap h a) s = .next t ∧
        answered h 5 6 stOk (tapFields t) s t ∧ onlyChanges (.comb :: replyParts) s t ∧ t.comb.tap.state = 1 ∧
        t.comb.tap.mask = a.mask % 256 ∧ t.comb.tap.beats = a.beats ∧ t.comb.tap.bar2 = a.bar2 ∧ t.comb.tap.written = 0) ∧
    (∀ a : CombTapArgs, a.op = 2 → 1 ≤ a.beats → a.beats ≤ 8000 → a.bar2 % 1024 = 0 → s.comb.tap.state = 1 ∨ s.comb.tap.state = 2 → ∃ t, exec (.combTap h a) s = .next t ∧
      answered h 5 6 stOk (tapFields t) s t ∧ onlyChanges (.comb :: replyParts) s t ∧ t.comb.tap = { s.comb.tap with state := 0 }) ∧
    (∀ port, port ≤ 423 → ∃ t, exec (.combStatus h port 1) s = .next t ∧ answered h 5 7 stOk (combStatusFields port s) s t ∧
      onlyChanges (.comb :: replyParts) s t ∧ (tget {} t.comb.ports port).bip = 0 ∧ (tget {} t.comb.ports port).late = 0)

/-- pool.delay, pool.group and pool.twin that enable an entry take a ticket that names the channel holding it; an entry there is read at
once; pool.status clears; pool.channel isolates, powers off and on and returns, each from the states that the spec lists for it
(08 R228-R235, R245, R254). -/
def Obligations.PoolCommands : Prop :=
  (∀ (h : Hdr) (s : State), heard h s →
    (∀ (c : PoolCfg) (i : Instr) (cmd d : Nat), owns h 7 s → mayTicket h s →
      (match c with
        | .delay a => i = .poolDelay h a ∧ cmd = 1
        | .group a => i = .poolGroup h a ∧ cmd = 2
        | .twin a => i = .poolTwin h a ∧ cmd = 3) →
      c.op = 1 → c.unlisted = false → c.bad = false → c.isOn = true → (s.entry c.first).used = false →
      (poolsWill h.port s).any (fun e => e.first != c.first && e.meets c) = false →
      poolChannel h.port c.stored s = some d → s.admits h.port (c.stored.setChan d) = true →
      ((poolsWill h.port s).any fun e => e.first == c.first) = false →
      ∃ t, exec i s = .next t ∧ ticketed h 7 cmd (.pool c.first) [.pool (c.stored.setChan d)] s t ∧
        onlyChanges (.pool :: ticketParts) s t) ∧
    (∀ (c : PoolCfg) (i : Instr) (cmd : Nat),
      (match c with
        | .delay a => i = .poolDelay h a ∧ cmd = 1
        | .group a => i = .poolGroup h a ∧ cmd = 2
        | .twin a => i = .poolTwin h a ∧ cmd = 3) →
      c.op = 0 → c.unlisted = false → poolThere c s = true → ∃ t, exec i s = .next t ∧
        answered h 7 cmd stOk (poolFields s c.first 0) s t ∧ onlyChanges replyParts s t) ∧
    (∀ slot member, owns h 7 s → slot ≤ 12287 → member ≤ 255 ∨ member = 0xFFFF → ∃ t, exec (.poolStatus h slot member 1) s = .next t ∧
      answered h 7 5 stOk (poolStatusFields slot member s) s t ∧ onlyChanges (.pool :: replyParts) s t ∧
      ∀ k, s.entryAt slot = some k → (t.entry k).realigns = 0 ∧ (t.entry k).framesA = 0 ∧ (t.entry k).framesB = 0)) ∧
  (∀ (h : Hdr) (s : State) (d : Nat), heard h s → owns h 7 s → d ≤ 3 → (s.pool.waiters.any fun w => w.1 == d) = false →
    ((s.chan d).state = 0 ∨ (s.chan d).state = 1 → ∃ t, exec (.poolChannel h d 1) s = .next t ∧
      answered h 7 4 stOk (channelFields t d) s t ∧ (t.chan d).state = 2 ∧ (t.chan d).cause = 5 ∧ t.shows (75 + 4 * d)) ∧
    ((s.chan d).state = 2 ∨ (s.chan d).state = 5 → ∃ t, exec (.poolChannel h d 2) s = .next t ∧
      answered h 7 4 stOk (channelFields t d) s t ∧ onlyChanges (.pool :: .pm :: .power :: replyParts) s t ∧
      t.chan d = { s.chan d with state := 3, cause := 0, everOff := true, retrainSince := none, postponed := [] } ∧
      t.rail (8 + d) = { s.rail (8 + d) with enabled := false, good := false } ∧ ∀ e, e ≠ d → t.chan e = s.chan e) ∧
    ((s.chan d).state = 3 → ∃ t, exec (.poolChannel h d 3) s = .next t ∧
      answered h 7 4 stOk (channelFields t d) s t ∧ onlyChanges (.pool :: .pm :: .power :: replyParts) s t ∧
      t.chan d = { s.chan d with state := 4, cause := 0, retrainSince := none, postponed := [] } ∧
      t.rail (8 + d) = { s.rail (8 + d) with enabled := true, good := true } ∧ ∀ e, e ≠ d → t.chan e = s.chan e) ∧
    ((s.chan d).state = 5 ∨ (s.chan d).state = 2 ∧ (s.chan d).everOff = false → ∃ t, exec (.poolChannel h d 4) s = .next t ∧
      onlyChanges [.pool, .sems, .ev, .tally] s t ∧ t.pool.waiters = s.pool.waiters ++ [(d, ⟨h, 7, 4, .channel d⟩)]))

/-- prot.group that enables a group takes a ticket; a lockout and a clear take effect at once; pm.config, pm.monitor and pm.profile that
change a value take a ticket at a second boundary; pm.bulk waits for the next beat, which is the model's choice (09 R258-R264;
10 R294-R302). -/
def Obligations.ProtectionAndPmSettings : Prop :=
  (∀ (h : Hdr) (s : State), heard h s → owns h 8 s →
    (∀ a : ProtGroupArgs, mayTicket h s → badProt (protSeen a) = false → a.enable = 1 → (s.group a.group).cfg.enable = 0 →
      membersMatch h.port (protSeen a) s = true →
      ((groupsWill h.port s).filter fun b => b.group != a.group).any (sharesMember (protSeen a)) = false →
      groupsFull (protSeen a) ((groupsWill h.port s).filter fun b => b.group != a.group) = false →
      ∃ t, exec (.protGroup h a) s = .next t ∧ ticketed h 8 1 .status [.prot (protSeen a)] s t ∧
        onlyChanges (.prot :: ticketParts) s t) ∧
    (∀ n, n ≤ 12287 → (s.group n).cfg.enable = 1 → ∃ t fs, exec (.protCommand h n 1) s = .next t ∧
      answered h 8 2 stOk ((1, 0) :: fs) s t ∧ onlyChanges (.prot :: .hive :: replyParts) s t ∧
      (t.group n).command = 1 ∧ (t.group n).request = 1 ∧ ∀ m, m ≠ n → t.group m = s.group m) ∧
    (∀ n, n ≤ 12287 → (s.group n).cfg.enable = 1 → ∃ t fs, exec (.protCommand h n 0) s = .next t ∧
      answered h 8 2 stOk ((1, 0) :: fs) s t ∧ onlyChanges (.prot :: .hive :: replyParts) s t ∧
      (t.group n).command = 0 ∧ (t.group n).wtrLeft = 0 ∧ ∀ m, m ≠ n → t.group m = s.group m)) ∧
  (∀ (h : Hdr) (s : State), heard h s → owns h 9 s → mayTicket h s →
    (∀ a : PmConfigArgs, a.dayStart ≤ 95 → a.port ≤ 1 → a.auto ≤ 3 → a.dayStart ≠ s.pm.dayStart → ∃ t, exec (.pmConfig h a) s = .next t ∧
      ticketed h 9 1 .status [.pmDay a.dayStart] s t ∧ onlyChanges (.pm :: ticketParts) s t ∧ t.pm.port = a.port ∧ t.pm.auto = a.auto) ∧
    (∀ a : PmMonitorArgs, a.enable = 1 → a.bidir ≤ 1 → a.profile ≤ 63 ∨ a.profile = 0xFF → entityThere a.ent s = true →
      (s.mon a.ent).cfg.enable = 0 → monitoredWill h.port a.ent s < 32768 → ∃ t, exec (.pmMonitor h a) s = .next t ∧
        ticketed h 9 2 .status [.pmMonitor a] s t ∧ onlyChanges (.pm :: ticketParts) s t) ∧
    (∀ i thr, i ≤ 63 → profileDiffers i thr s = true → ∃ t, exec (.pmProfile h i thr) s = .next t ∧
      ticketed h 9 3 .status [.pmProfile i thr] s t ∧ onlyChanges ticketParts s t) ∧
    (∀ a : PmBulkArgs, 1 ≤ a.depth → a.depth ≤ 96 → a.port ≤ 1 → a.types ≤ 31 → a.bins ≤ 15 → (s.pm.bulk.any fun b => b.2.port == a.port) = false →
      ∃ t, exec (.pmBulk h a) s = .next t ∧ onlyChanges [.pm, .sems, .ev, .tally] s t ∧
        t.pm = { s.pm with bulk := s.pm.bulk ++ [(⟨h, 9, 5, .bulk 0 0⟩, a)] }))
/-! ### Scout, hive and power settings -/

/-- The settings of the Scout take effect at once on a device that is no standby (11 R307-R345, class L). -/
def Obligations.ScoutSettingsAtOnce : Prop :=
  ∀ (h : Hdr) (s : State), heard h s → owns h 10 s → s.hive.role ≠ .standby →
    (∀ a : ScoutInputArgs, badScoutInput { a with flags := a.flags % 16 } = false → sameLaneInput { a with flags := a.flags % 16 } s = false →
      s.clk.started = false ∨ (s.inp a.input).cfg.nominal = a.nominal → ∃ t, exec (.scoutInput h a) s = .next t ∧
        answered h 10 1 stOk reserved6 s t ∧ onlyChanges (.scout :: .hive :: replyParts) s t ∧
        (t.inp a.input).cfg = { a with flags := a.flags % 8 } ∧ ∀ i, i ≠ a.input → (t.inp i).cfg = (s.inp i).cfg) ∧
    (∀ a : ScoutSelectArgs, badSelect a = false → a.mode ≠ 1 → a.mode ≠ 2 →
      s.clk.started = false ∨ s.scout.sel.qlOption = a.qlOption → ∃ t, exec (.scoutSelect h a) s = .next t ∧
        answered h 10 2 stOk (selectFields s) s t ∧ onlyChanges (.scout :: .hive :: replyParts) s t ∧
        t.scout = { s.scout with sel := a }) ∧
    (∀ a : ScoutDpllArgs, badDpll a = false → a.xoFreq = 0 ∨ s.clk.started = false → ∃ t, exec (.scoutDpll h a) s = .next t ∧
      answered h 10 3 stOk reserved6 s t ∧ onlyChanges (.scout :: .hive :: replyParts) s t ∧
      t.scout = { s.scout with dpllCfg := { a with xoFreq := if a.xoFreq = 0 then s.scout.dpllCfg.xoFreq else a.xoFreq } }) ∧
    (∀ a : ScoutOutputArgs, badOutput a = false → (s.scoutOut a.output).cfg.enable ≠ 1 → ∃ t, exec (.scoutOutput h a) s = .next t ∧
      answered h 10 7 stOk reserved6 s t ∧ onlyChanges (.scout :: .hive :: replyParts) s t ∧ (t.scoutOut a.output).cfg = a ∧
      ∀ o, o ≠ a.output → t.scoutOut o = s.scoutOut o)

/-- scout.start waits for its epoch; scout.tod waits for its beat or takes a ticket; scout.steer opens the loop and steers it;
scout.model saves through the flash (11 R330-R341). -/
def Obligations.ScoutActions : Prop :=
  ∀ (h : Hdr) (s : State), heard h s → owns h 10 s → s.hive.role ≠ .standby →
    (s.clk.started = false → s.clk.startPend = none → s.mode = .provision → s.scout.dpllCfg.xoFreq ≠ 0 →
      ∃ t, exec (.scoutStart h) s = .next t ∧ onlyChanges [.clk, .sems, .ev, .tally] s t ∧
        t.clk = { s.clk with startPend := some ⟨h, 10, 4, .start (startEpoch s)⟩ }) ∧
    (∀ a : ScoutTodArgs, a.op = 1 → s.clk.started = true → todMode s.mode = true → a.bfnMode ≤ 1 → todOk s (a.atBeat % 2 ^ 48) = true →
      ∃ t, exec (.scoutTod h a) s = .next t ∧ answered h 10 5 stOk (todFields s) s t ∧ onlyChanges (.scout :: replyParts) s t ∧
        t.scout = { s.scout with todPend := some (a.atBeat % 2 ^ 48, a.todSec % 2 ^ 48, a.bfnMode) }) ∧
    (∀ a : ScoutTodArgs, a.op = 2 → mayTicket h s → a.bfnMode ≤ 1 → a.bfnOffset ≤ 4095 → a.bfnOffset ≠ s.scout.bfnOffset →
      ∃ t, exec (.scoutTod h a) s = .next t ∧ ticketed h 10 5 .tod [.bfn a.bfnOffset] s t ∧ onlyChanges ticketParts s t) ∧
    (∀ a : ScoutSteerArgs, a.op = 1 → 1 ≤ a.count → a.count ≤ 64 → s.scout.dpllCfg.xoFreq ≠ 0 → ∃ t, exec (.scoutSteer h a) s = .next t ∧
      answered h 10 6 stOk (steerFields a.count t) s t ∧ onlyChanges (.scout :: replyParts) s t ∧ t.scout.state = .hand ∧
      t.scout.word = s.scout.word) ∧
    (∀ a : ScoutSteerArgs, a.op = 2 → 1 ≤ a.count → a.count ≤ 64 → s.scout.dpllCfg.xoFreq ≠ 0 → s.scout.state = .hand →
      a.word.natAbs ≤ 200000000000 → ∃ t, exec (.scoutSteer h a) s = .next t ∧
        answered h 10 6 stOk (steerFields a.count s) s t ∧ onlyChanges (.scout :: replyParts) s t ∧
        t.scout = { s.scout with wordNext := some a.word, handBeats := 0 }) ∧
    (∀ a : ScoutModelArgs, a.op = 1 → a.firstBin ≤ 539 → 1 ≤ a.count → a.count ≤ 64 → modelBusy s = false → ∃ t, exec (.scoutModel h a) s = .next t ∧
      onlyChanges [.sec, .sems, .ev, .tally] s t ∧ t.sec = { s.sec with saving := s.sec.saving ++ [(2, stOk, ⟨h, 10, 8, .model 1 a.firstBin a.count⟩)] }) ∧
    (∀ a : ScoutModelArgs, a.op = 3 → a.firstBin ≤ 539 → 1 ≤ a.count → a.count ≤ 64 → modelBusy s = false → s.mode ≠ .carry → ∃ t, exec (.scoutModel h a) s = .next t ∧
      answered h 10 8 stOk (modelFields t 3 a.firstBin a.count) s t ∧ onlyChanges (.scout :: .hive :: replyParts) s t ∧
      t.scout.model = [] ∧ t.scout.aging = 0 ∧ t.scout.agingOk = false)

/-- The settings and commands of the hive and power services (12 R358-R374, 18 R549-R560). -/
def Obligations.HiveAndPowerCommands : Prop :=
  ∀ (h : Hdr) (s : State), heard h s →
    (∀ a : HiveConfigArgs, owns h 11 s → s.hive.role ≠ .standby → a.bbWindow ≤ 100 → 1 ≤ a.bbLanes → a.bbLanes ≤ 256 →
      ∃ t, exec (.hiveConfig h a) s = .next t ∧ answered h 11 1 stOk reserved6 s t ∧ onlyChanges (.hive :: replyParts) s t ∧
        t.hive.cfg = { a with flags := a.flags % 4 } ∧ t.hive.token = s.hive.token ∧ t.hive.role = s.hive.role) ∧
    (owns h 11 s → s.mode = .provision → s.clk.started = false → s.scout.dpllCfg.xoFreq ≠ 0 → s.hive.joining = none → s.hive.joinMode = false →
      ∃ t, exec (.hiveJoin h 1) s = .next t ∧ onlyChanges [.hive, .sems, .ev, .tally] s t ∧
        t.hive = { s.hive with joining := some ⟨h, 11, 2, .join⟩ }) ∧
    (owns h 11 s → ∃ t, exec (.hiveJoin h 2) s = .next t ∧ answered h 11 2 stOk (joinFields s) s t ∧ t.hive.egressFault = false ∧
      ∀ e, e < 16 → (t.fqe e).valid = true → (t.fqe e).code = 0x15 → (t.fqe e).unit ≠ 0) ∧
    (owns h 11 s → s.hive.switchPend = none → s.hive.token = true → ∃ t, exec (.hiveSwitch h 2 0) s = .next t ∧
      onlyChanges [.hive, .sems, .ev, .tally] s t ∧
      t.hive = { s.hive with switchPend := some (2, s.now + 8, some ⟨h, 11, 3, .hiveSwitch⟩) }) ∧
    (∀ a : PowerConfigArgs, owns h 12 s → 1 ≤ a.leanMax → a.leanMax ≤ 10000 → 10 ≤ a.exitHold → a.exitHold ≤ 10000 → 100 ≤ a.wakeHold →
      a.wakeHold ≤ 60000 → a.powerLimit ≤ 100000 → ∃ t, exec (.powerConfig h a) s = .next t ∧
        answered h 12 1 stOk reserved6 s t ∧ onlyChanges (.power :: .hive :: replyParts) s t ∧
        t.power.cfg = { a with flags := a.flags % 8 } ∧ (bit a.flags 2 = false → t.power.setpoint = 800) ∧
        t.power.table = s.power.table ∧ t.power.rails = s.power.rails) ∧
    (∀ a : PowerTableArgs, owns h 12 s → a.op = 1 → a.slot ≤ 15 → badPowerEntry a.entry = false →
      entryMoves a.entry (s.powerEntry a.slot) = false → ∃ t, exec (.powerTable h a) s = .next t ∧
        answered h 12 2 stOk ((6, 0) :: entryFields a.entry) s t ∧ onlyChanges (.power :: replyParts) s t ∧
        t.powerEntry a.slot = a.entry ∧ t.power.rails = s.power.rails) ∧
    (∀ a : PowerTableArgs, owns h 12 s → a.op = 2 → a.slot ≤ 15 → badPowerEntry a.entry = false → s.sec.saving = [] →
      ∃ t, exec (.powerTable h a) s = .next t ∧ onlyChanges [.sec, .sems, .ev, .tally] s t ∧
        t.sec = { s.sec with saving := [(3, stOk, ⟨h, 12, 2, .powerTable a.slot a.entry⟩)] })

/-! ### Test, tally and security commands -/

/-- The test and tally services (16 R491-R508). -/
def Obligations.TestCommands : Prop :=
  ∀ (h : Hdr) (s : State), heard h s →
    (∀ a : TestBistArgs, owns h 13 s → a.op = 1 → 1 ≤ a.cycleHours → a.cycleHours ≤ 48 → 1 ≤ a.sramInterval → a.sramInterval ≤ 8000 →
      ∃ t, exec (.testBist h a) s = .next t ∧ answered h 13 1 stOk (bistFields s) s t ∧ onlyChanges (.test :: replyParts) s t ∧
        t.test = { s.test with cycleHours := a.cycleHours, sramInterval := a.sramInterval }) ∧
    (∀ a : TestBistArgs, owns h 13 s → a.op = 3 ∨ a.op = 4 → badBist a = false → ∃ t, exec (.testBist h a) s = .next t ∧
      answered h 13 1 stOk (bistFields t) s t ∧ onlyChanges (.test :: replyParts) s t ∧
      t.test = { s.test with suspended := a.op == 3 } ∧ (s.test.suspended ≠ (a.op == 3) → t.shows 296)) ∧
    (∀ a : TestStingArgs, owns h 13 s → a.point = 0x10 → a.unit < 64 → a.sub ≤ 1 → a.mode = 1 → s.sec.life ≠ 1 →
      s.test.stings.length < 64 → ∃ t, exec (.testSting h a) s = .next t ∧ answered h 13 2 stOk (stingFields t) s t ∧
        onlyChanges (.test :: replyParts) s t ∧ (t.test.stings.any fun x => sameSting x.args a) = true) ∧
    (∀ k p, owns h 13 s → k = 0 ∨ 8 ≤ k ∧ k ≤ 24 → p ≤ 1 → ∃ t, exec (.testTracer h k p) s = .next t ∧
      answered h 13 3 stOk (tracerFields s) s t ∧ onlyChanges (.test :: replyParts) s t ∧
      t.test = { s.test with tracerK := k, tracerPort := p }) ∧
    (∀ first count, owns h 14 s → 1 ≤ count → first + count ≤ 64 → ∃ t, exec (.tallyRead h first count 1) s = .next t ∧
      answered h 14 1 stOk (tallyFields first count true (tallySnap s)) s t ∧ onlyChanges replyParts s t ∧ t.shows 302)

/-- Challenges and proofs (17 R524, and 17 R522, R523): a challenge gives a fresh nonce, whatever its value; a good proof seals the port;
a failed one answers WORLD_DENIED and uses up the nonce, and the eighth failure in a row locks the challenge of the port, which answers
LOCKED until its 60 s end; op 0 opens the port. -/
def Obligations.ChallengeAndProof : Prop :=
  ∀ (h : Hdr) (s : State), heard h s →
    ((s.chal h.port).locked = false → ∃ t n, exec (.secChallenge h) s = .next t ∧
      answered h 15 2 stOk [(6, 0), (16, (Config.deviceId % 2 ^ 128 : Nat)), (48, (n : Nat))] s t ∧
      onlyChanges (.sec :: .fresh :: replyParts) s t ∧ t.chal h.port = { s.chal h.port with nonce := some n } ∧
      ∀ p, p ≠ h.port → t.chal p = s.chal p) ∧
    (∀ key sig, key ≤ 3 → ∃ t, exec (.secProve h 0 key sig) s = .next t ∧ answered h 15 3 stOk reserved6 s t ∧
      onlyChanges (.sec :: replyParts) s t ∧ t.chal h.port = { s.chal h.port with isSealed := false }) ∧
    (∀ key sig n, key ≤ 3 → key < hostKeys s → (s.chal h.port).locked = false → (s.chal h.port).nonce = some n →
      ∃ t, exec (.secProve h 1 key sig) s = .next t ∧ onlyChanges (.sec :: replyParts) s t ∧
        (proofGood h.port n key sig s = true → answered h 15 3 stOk reserved6 s t ∧
          t.chal h.port = { s.chal h.port with nonce := none, fails := 0, isSealed := true }) ∧
        (proofGood h.port n key sig s = false → answered h 15 3 stWorldDenied reserved6 s t ∧
          (t.chal h.port).nonce = none ∧ (t.chal h.port).isSealed = (s.chal h.port).isSealed ∧
          (t.chal h.port).fails = (s.chal h.port).fails + 1 ∧ (7 ≤ (s.chal h.port).fails → (t.chal h.port).locked = true))) ∧
    ((s.chal h.port).locked = true → ∃ t, exec (.secChallenge h) s = .next t ∧ answered h 15 2 stLocked (zeros [6, 16, 48]) s t ∧
      onlyChanges replyParts s t ∧ t.chal h.port = s.chal h.port) ∧
    ((s.chal h.port).locked = true → ∃ t, exec (.challengeLockExpiry h.port) s = .next t ∧ onlyChanges [.sec, .ev, .tally] s t ∧
      t.chal h.port = { s.chal h.port with locked := false, fails := 0 })

/-- Worlds and the life cycle change only from a sealed port (17 R517-R528). sec.update: begin erases the slot that does not run; data
waits for its bytes; abort answers at once; activate waits (17 R536-R540). -/
def Obligations.SecurityCommands : Prop :=
  (∀ (h : Hdr) (s : State), heard h s →
    (∀ a : SecWorldArgs, owns h 15 s → a.op = 1 → a.kind = 0 → badWorld a = false → opensBridge0 a = false → (s.chal h.port).isSealed = true → s.sec.worldWait = none →
      ∃ t, exec (.secWorld h a) s = .next t ∧ answered h 15 4 stOk (worldFields t a) s t ∧ onlyChanges (.sec :: replyParts) s t ∧
        (a.index ∈ t.sec.blocks ↔ a.world = 1) ∧ t.sec.life = s.sec.life) ∧
    (∀ a : SecWorldArgs, owns h 15 s → a.op = 1 → badWorld a = false → (s.chal h.port).isSealed = false → ∃ t, exec (.secWorld h a) s = .next t ∧
      answered h 15 4 stWorldDenied (zeros [1, 1, 2, 1, 1, 1, 1, 2, 2, 4]) s t ∧ onlyChanges replyParts s t) ∧
    (∀ k : Token, owns h 15 s → (s.chal h.port).isSealed = true → s.sec.lifePend = none → s.sec.lifeWait = none →
      s.sec.toggles < 16 → ∃ t, exec (.secLifecycle h 1 k) s = .next t ∧
        (tokenGood k s = true → onlyChanges [.sec, .sems, .ev, .tally] s t ∧ t.sec.lifePend = some k.target ∧ t.sec.life = s.sec.life ∧
          t.sec.toggles = if k.target = 2 then s.sec.toggles + 1 else s.sec.toggles) ∧
        (tokenGood k s = false → answered h 15 5 stBadArg (zeros [1, 1]) s t ∧ onlyChanges replyParts s t))) ∧
  (∀ (h : Hdr) (s : State) (off : Nat), heard h s → owns h 15 s → (s.chal h.port).isSealed = true → s.sec.dataWait = none →
    s.sec.activating = none →
    (s.sec.updState = 0 → ∃ t, exec (.secUpdate h 1 off) s = .next t ∧ answered h 15 6 stOk (updateFields t) s t ∧
      onlyChanges (.sec :: replyParts) s t ∧ t.sec.updState = 1 ∧ t.sec.updPort = h.port ∧
      t.slotOf (1 - s.keeper.fwSlot) = { image := (s.slotOf (1 - s.keeper.fwSlot)).image.filter fun c => 4096 ≤ c.1 }) ∧
    (s.sec.updState = 1 ∨ s.sec.updState = 2 → off % 65536 = 0 → off < 48 * 2 ^ 20 → ∃ t, exec (.secUpdate h 2 off) s = .next t ∧
      onlyChanges [.sec, .sems, .ev, .tally] s t ∧ t.sec = { s.sec with dataWait := some ⟨h, 15, 6, .update⟩ }) ∧
    (s.sec.updState = 1 ∨ s.sec.updState = 2 → ∃ t, exec (.secUpdate h 6 off) s = .next t ∧
      answered h 15 6 stOk (updateFields t) s t ∧ onlyChanges (.sec :: replyParts) s t ∧
      t.sec = { s.sec with updState := 0, updBeat := s.now }) ∧
    (s.sec.updState = 2 → s.sec.updDirty = false → activateMode s = true → s.clk.tickets ≠ [] → ∃ t, exec (.secUpdate h 4 off) s = .next t ∧
      onlyChanges [.sec, .sems, .ev, .tally] s t ∧ t.sec = { s.sec with activating := some ⟨h, 15, 6, .update⟩ }))

/-! ### Sessions, modes and batches -/

/-- sys.hello agrees version 1.0; sys.session opens a session on free domains and shows what is held (13 R410, R422). -/
def Obligations.HelloAndSession : Prop :=
  ∀ (h : Hdr) (s : State), s.keeper.serving = true → h.port < 2 → h.queue < 4 → ((s.port h.port).rspOf h.queue).flush = false →
    (∀ minor, ∃ t, exec (.sysHello h ⟨1, minor⟩) s = .next t ∧
      answered h 1 1 stOk [(1, 1), (1, 0), (1, h.port), (3, 0), (4, (idFw s % 2 ^ 32 : Nat)), (4, 16384)] s t ∧
      onlyChanges replyParts s t ∧ (t.port h.port).version = some (1, 0)) ∧
    (∀ a : HelloArgs, a.major ≠ 1 → ∃ t, exec (.sysHello h a) s = .next t ∧
      answered h 1 1 stVersion [(1, 1), (1, 0), (1, 0), (3, 0), (4, 0), (4, 0)] s t ∧ onlyChanges replyParts s t ∧
      (t.port h.port).version = (s.port h.port).version) ∧
    (∀ i svc cmd fs, bodyOf i = some (svc, cmd, h, fs) → ¬(svc = 1 ∧ cmd = 1) → (s.port h.port).version = none →
      ∃ t zs, exec i s = .next t ∧ answered h svc cmd stVersion zs s t ∧ onlyChanges (.clk :: replyParts) s t) ∧
    ((s.port h.port).version.isSome = true → (∃ t, exec (.sysSession h ⟨0, 0⟩) s = .next t ∧
        answered h 1 3 stOk (sessionFields h.port s) s t ∧ onlyChanges replyParts s t) ∧
      ∀ k, 1 ≤ k → k < 16 → (s.sem k).owner = none → (s.port h.port).session = 0 → s.nextSession ≠ 0 →
        ∃ t, exec (.sysSession h ⟨1, 2 ^ k⟩) s = .next t ∧ answered h 1 3 stOk (sessionFields h.port t) s t ∧
          onlyChanges (.nextSession :: replyParts) s t ∧ (t.sem k).owner = some (ownerOf h.port) ∧
          (t.port h.port).session = s.nextSession ∧ t.shows (163 + h.port) ∧ ∀ n, n ≠ k → (t.sem n).owner = (s.sem n).owner)

/-- sys.mode: the moves between Provision, Maintenance and Carry that take effect at once (18 R541, R542). -/
def Obligations.ModeCommands : Prop :=
  ∀ (h : Hdr) (s : State), heard h s → owns h 1 s → modeRuns s = false →
    (∃ t, exec (.sysMode h (modeNum s.mode)) s = .next t ∧ answered h 1 4 stOk (modeFields s) s t ∧ onlyChanges replyParts s t) ∧
    (s.mode = .provision → s.clk.started = true → ∃ t, exec (.sysMode h 9) s = .next t ∧
      answered h 1 4 stOk [(1, 9), (5, 0)] s t ∧ t.mode = .maintenance ∧ t.shows 290) ∧
    (s.mode = .maintenance → ∃ t, exec (.sysMode h 3) s = .next t ∧
      answered h 1 4 stOk [(1, 3), (5, 0)] s t ∧ t.mode = .provision ∧ t.shows 290) ∧
    (s.mode = .provision → s.hive.token = true → s.clk.started = true → (s.chan 0).state = 0 → s.sec.life ≠ 3 →
      ∃ t, exec (.sysMode h 4) s = .next t ∧ answered h 1 4 stOk [(1, 4), (5, 0)] s t ∧ t.mode = .carry ∧ t.shows 290)

/-- A batch: open, join, close and abort (02 R58, R63, R67). A command that joins is answered at once. -/
def Obligations.Batches : Prop :=
  ∀ (h : Hdr) (s : State), heard h s → (s.port h.port).session ≠ 0 →
    (mayTicket h s → s.sec.activating = none → ∃ t, exec (.sysBatchOpen h) s = .next t ∧
      answered h 1 0x20 stOk [(2, 0), (4, s.clk.nextBatch)] s t ∧ onlyChanges (.clk :: replyParts) s t ∧
      t.batchOf h.port = some { id := s.clk.nextBatch, ticket := s.clk.nextTicket } ∧ t.clk.tickets = s.clk.tickets) ∧
    (∀ b, s.batchOf h.port = some b → capBlocked s.mode = false → (s.hive.token && s.hive.switchPend.isSome) = false →
      (∀ i thr, owns h 9 s → i ≤ 63 → profileDiffers i thr s = true → tooLarge (b.changes ++ [.pmProfile i thr]) = false →
        ∃ t, exec (.pmProfile h i thr) s = .next t ∧ answered h 9 3 stOk reserved6 s t ∧
          onlyChanges (.clk :: .hive :: replyParts) s t ∧
          t.batchOf h.port = some { b with changes := b.changes ++ [.pmProfile i thr], services := b.services ||| 2 ^ 9 } ∧
          t.clk.tickets = s.clk.tickets) ∧
      (∀ target, ∃ t, exec (.sysBatchClose h ⟨b.id, 2, target⟩) s = .next t ∧
        answered h 1 0x21 stOk (zeros [2, 4, 8, 4, 4]) s t ∧ onlyChanges (.clk :: replyParts) s t ∧ t.batchOf h.port = none ∧
        t.clk.tickets = s.clk.tickets) ∧
      (∀ target, b.failed = none → s.clk.started = true → s.clk.tickets.length < 64 → ∃ t k,
        exec (.sysBatchClose h ⟨b.id, 0, target⟩) s = .next t ∧ onlyChanges [.clk, .hive, .sems, .ev, .tally] s t ∧
        t.batchOf h.port = none ∧ t.clk.tickets = s.clk.tickets ++ [k] ∧ k.id = b.ticket ∧ k.changes = b.changes ∧
        k.bclass = classOf b.changes ∧ s.now < k.target))

/-- What every service command meets first: a Keeper that does not serve takes none of it; without an agreed version it answers VERSION,
and without a session of the domain LOCKED, with no effect but the answer (13 R404, R410, R422; 00 R15). -/
def Obligations.GatesRefuse : Prop :=
  ∀ (h : Hdr) (s : State) (n : Nat) (a : LanePrbsArgs),
    (s.keeper.serving = false → exec (.laneSlip h n) s = .next s ∧ exec (.lanePrbs h a) s = .next s ∧ exec (.sysBeatStatus h) s = .next s) ∧
    (s.keeper.serving = true → h.port < 2 → h.queue < 4 → ((s.port h.port).rspOf h.queue).flush = false →
      (s.port h.port).version = none → ∃ t, exec (.lanePrbs h a) s = .next t ∧
        answered h 2 4 stVersion (zeros [1, 5, 8, 4]) s t ∧ onlyChanges replyParts s t) ∧
    (heard h s → noDomain h 2 s = true → (∃ t, exec (.lanePrbs h a) s = .next t ∧
        answered h 2 4 stLocked (zeros [1, 5, 8, 4]) s t ∧ onlyChanges replyParts s t) ∧
      ∃ t, exec (.laneSlip h n) s = .next t ∧ answered h 2 5 stLocked (zeros [1]) s t ∧ onlyChanges replyParts s t)

/-! ### Messages -/

/-- A service command laid out as a Waggle message is read back as itself: no bit of its parameters is dropped (13 R403, R404). -/
def Obligations.MessageRoundTrip : Prop :=
  ∀ (i : Instr) (svc cmd : Nat) (h : Hdr) (fs : Fields), WellFormed.service i = true → bodyOf i = some (svc, cmd, h, fs) →
    parseCommand svc cmd h (bodyNat (((commandWords i).drop 2).map fun w => w.data)) = some i

/-- COMMAND_SERVE runs the command whose message stands first in the queue that is served next: the same operation as the command's own
row, on the state without the message (13 R397, R402-R404). -/
def Obligations.StoredMessageRuns : Prop :=
  ∀ (i : Instr) (svc cmd p q us : Nat) (h : Hdr) (fs : Fields) (rest : List QWord) (s : State),
    WellFormed.service i = true → bodyOf i = some (svc, cmd, h, fs) → fieldsSize fs ≤ 16368 →
    s.keeper.serving = true → (serveOrder s.keeper.serveTurn).find? (fun e => canServe s e.1 e.2) = some (p, q) →
    ((s.port p).cmdOf q).words = commandWords i ++ rest → (rest.head?.map fun w => w.start).getD true = true →
    (s.port p).version.isSome = true →
    h = { port := p, queue := q, seq := h.seq, tag := h.tag, late := decide (0 < ((s.port p).cmdOf q).late), us := us } →
    exec (.commandServe us) s = .next (counted s (runCommand i (dropHead p q (tick 112 p 1 (s.onKeeper fun k => { k with serveTurn := 1 - p })))))

/-- TICKET_APPLY: at its boundary a ticket's changes take effect in every unit it names, and it is gone; TICKET_ARM arms it
(02 R58, R61, R66). -/
def Obligations.TicketsTakeEffect : Prop :=
  ∀ (s : State) (k : Ticket), s.sec.activating = none → k ∈ s.clk.tickets → (∀ x ∈ s.clk.tickets, x.id = k.id → x = k) →
    (s.keeper.serving = true → ∃ t, exec (.ticketArm k.id) s = .next t ∧ onlyChanges [.clk, .ev, .tally] s t ∧
      { k with armed := true } ∈ t.clk.tickets ∧ t.clk.tickets.length = s.clk.tickets.length) ∧
    (ticketDue s k = true →
      (∀ n en lb, k.changes = [.lane n en lb] → ∃ t, exec (.ticketApply k.id) s = .next t ∧ k ∉ t.clk.tickets ∧
        (t.lane n).enable = en ∧ (t.lane n).loopback = lb ∧ ∀ m, m ≠ n → t.lane m = s.lane m) ∧
      (∀ d src, k.changes = [.super d src] → ∃ t, exec (.ticketApply k.id) s = .next t ∧ k ∉ t.clk.tickets ∧ t.superSrc d = src ∧
        (∀ e, e ≠ d → t.superSrc e = s.superSrc e) ∧ t.shows 74) ∧
      (∀ i thr, k.changes = [.pmProfile i thr] → ∃ t, exec (.ticketApply k.id) s = .next t ∧ k ∉ t.clk.tickets ∧
        tget [] t.pm.profiles i = thr ∧ ∀ j, j ≠ i → tget [] t.pm.profiles j = tget [] s.pm.profiles j))

/-! ### Waggle queues, semaphores and registers -/

/-- Whole writes to START and PUSH store a word; a push without an open message, or into a full queue, is dropped and counted
(13 R390, R397, R590). -/
def Obligations.CommandQueueWrites : Prop :=
  ∀ (p q : Nat) (d : Word) (s : State), s.portUp p = true → barOpen s p = true → q < 4 → ((s.port p).cmdOf q).flush = false →
    (((s.port p).cmdOf q).words.length < 8192 → ((s.port p).cmdOf q).msg = .closed → ∃ t, exec (.wgCmdStart p q .whole d) s = .next t ∧
      onlyChanges replyParts s t ∧ ((t.port p).cmdOf q).words = ((s.port p).cmdOf q).words ++ [{ data := d, start := true }] ∧
      ((t.port p).cmdOf q).msg = if lengthOk (d.toNat % 65536) then .counted (d.toNat % 65536 / 8 - 1) else .endless) ∧
    (∀ k, ((s.port p).cmdOf q).words.length < 8192 → ((s.port p).cmdOf q).msg = .counted k → ∃ t,
      exec (.wgCmdPush p q .whole d) s = .next t ∧ onlyChanges replyParts s t ∧
      ((t.port p).cmdOf q).words = ((s.port p).cmdOf q).words ++ [{ data := d }] ∧
      ((t.port p).cmdOf q).msg = if k ≤ 1 then .closed else .counted (k - 1)) ∧
    (((s.port p).cmdOf q).msg = .closed → ∃ t, exec (.wgCmdPush p q .whole d) s = .next t ∧ onlyChanges replyParts s t ∧
      ((t.port p).cmdOf q).words = ((s.port p).cmdOf q).words ∧ ((t.port p).cmdOf q).overflow = true ∧
      ((t.port p).cmdOf q).dropped = satAdd 32 ((s.port p).cmdOf q).dropped 1 ∧ t.shows (portSrc p 6))

/-- A pop takes one word, in order, and a pop of an empty queue returns EMPTY and removes nothing (13 R390, R399); a flush is requested
by CTRL and done at the consumer's message boundary, when the stored words go (13 R400); a message stalled under cut-through is
discarded (13 R398). -/
def Obligations.QueueReadsAndFlushes : Prop :=
  (∀ (p : Nat) (s : State), s.portUp p = true → barOpen s p = true →
    (∀ r w rest, r < 4 → ((s.port p).rspOf r).flush = false → ((s.port p).rspOf r).words = w :: rest → ∃ t,
      exec (.wgRspPop p r .whole) s = .next t ∧ onlyChanges replyParts s t ∧ (t.port p).readData = w.data ∧
      ((t.port p).rspOf r).words = rest ∧ (t.port p).ntf = (s.port p).ntf) ∧
    (∀ w rest, (s.port p).ntf.flush = false → (s.port p).ntf.words = w :: rest → ∃ t, exec (.wgNtfPop p .whole) s = .next t ∧
      onlyChanges replyParts s t ∧ (t.port p).readData = w.data ∧ (t.port p).ntf.words = rest) ∧
    (∀ r, r < 4 → ((s.port p).rspOf r).words = [] → ∃ t, exec (.wgRspPop p r .whole) s = .next t ∧ onlyChanges replyParts s t ∧
      (t.port p).readData = 0xFFFFFFFFFFFFFFFE ∧ (t.port p).rspOf r = (s.port p).rspOf r)) ∧
  (∀ (p : Nat) (s : State), s.portUp p = true →
    (∀ q, barOpen s p = true → q < 4 → ∃ t, exec (.cmdQueueFlush p q) s = .next t ∧ onlyChanges replyParts s t ∧
      (t.port p).cmdOf q = { (s.port p).cmdOf q with flush := true }) ∧
    (∀ r, barOpen s p = true → r < 4 → ∃ t, exec (.rspQueueFlush p r) s = .next t ∧ onlyChanges replyParts s t ∧
      (t.port p).rspOf r = { (s.port p).rspOf r with flush := true }) ∧
    (barOpen s p = true → ∃ t, exec (.ntfQueueFlush p) s = .next t ∧ onlyChanges replyParts s t ∧ (t.port p).ntf = { (s.port p).ntf with flush := true }) ∧
    (∀ q, q < 4 → ((s.port p).cmdOf q).flush = true → isBegun ((s.port p).cmdOf q) = false → ∃ t,
      exec (.flushDone p q) s = .next t ∧ onlyChanges replyParts s t ∧ ((t.port p).cmdOf q).words = [] ∧
      ((t.port p).cmdOf q).flush = false ∧ ((t.port p).cmdOf q).msg = .closed) ∧
    (∀ r, r < 4 → ((s.port p).rspOf r).flush = true → atBoundary ((s.port p).rspOf r) = true → ∃ t,
      exec (.flushDone p (4 + r)) s = .next t ∧ onlyChanges replyParts s t ∧
      (t.port p).rspOf r = { (s.port p).rspOf r with words := [], flush := false }) ∧
    (∀ q, q < 4 → s.keeper.serving = true → isBegun ((s.port p).cmdOf q) = true → ∃ t,
      exec (.queueReadStallTimeout p q) s = .next t ∧ onlyChanges replyParts s t ∧ ((t.port p).cmdOf q).broken = true ∧
      ((t.port p).cmdOf q).words = ((s.port p).cmdOf q).words.drop (headMessage ((s.port p).cmdOf q).words).length))

/-- Semaphores: a read acquires a free one and reads 0, shows the owner of another's, a write by its owner frees it, SEM_RENEW
renews every lease of the port, and a lease that ends frees it (13 R411-R413). -/
def Obligations.Semaphores : Prop :=
  ∀ (p n : Nat) (s : State), s.portUp p = true → 16 ≤ n → n < 32 →
    (barOpen s p = true → (s.sem n).owner = none ∨ (s.sem n).owner = some (ownerOf p) → ∃ t, exec (.semAcquire p n .whole false) s = .next t ∧
      onlyChanges replyParts s t ∧ (t.port p).readData = 0 ∧ (t.sem n).owner = some (ownerOf p) ∧ (t.sem n).left = (s.port p).lease ∧
      ∀ m, m ≠ n → t.sem m = s.sem m) ∧
    (barOpen s p = true → (s.sem n).owner ≠ none → (s.sem n).owner ≠ some (ownerOf p) → ∃ t, exec (.semAcquire p n .whole false) s = .next t ∧
      onlyChanges [.ports, .ev, .tally] s t ∧ (t.port p).readData = semWord s n) ∧
    (barOpen s p = true → (s.sem n).owner = some (ownerOf p) → ∃ t, exec (.semRelease p n) s = .next t ∧ onlyChanges [.sems, .ev, .tally] s t ∧
      (t.sem n).owner = none ∧ ∀ m, m ≠ n → t.sem m = s.sem m) ∧
    (barOpen s p = true → (s.sem n).owner ≠ some (ownerOf p) → ∃ t, exec (.semRelease p n) s = .next t ∧ onlyChanges [.ev, .tally] s t) ∧
    (barOpen s p = true → ∃ t, exec (.semRenew p .whole) s = .next t ∧ onlyChanges [.ports, .sems, .ev, .tally] s t ∧
      ∀ m, (t.sem m).owner = (s.sem m).owner ∧
        (t.sem m).left = if (s.sem m).owner = some (ownerOf p) then (s.port p).lease else (s.sem m).left) ∧
    ((s.sem n).owner = some (ownerOf p) → (s.sem n).left = 0 → s.mode ≠ .quiesce → ∃ t, exec (.leaseExpiry n) s = .next t ∧
      onlyChanges [.sems, .ev, .tally] s t ∧ (t.sem n).owner = none ∧ t.shows 169 ∧ ∀ m, m ≠ n → t.sem m = s.sem m)

/-- Register accesses: a write of ID_SCRATCH takes; an access of a wrong size or place, and one that decodes to no register, only show in
ID_ERR, an undecoded read returning 0 (13 R384-R388); an access to a block that is sealed to the port is answered as the default target
answers (15 R474, 17 R519; which block a register lies in is open, log 149); the power state of a port's endpoint (14 R458). -/
def Obligations.RegisterAccesses : Prop :=
  ∀ (p : Nat) (s : State), s.portUp p = true →
    (∀ v : Word, barOpen s p = true → ∃ t, exec (.registerWrite p 0x30 .whole v) s = .next t ∧ onlyChanges [.ports, .ev, .tally] s t ∧
      t.port p = { s.port p with scratch := v } ∧ ∀ r, r ≠ p → t.port r = s.port r) ∧
    (∀ off size write, barOpen s p = true → size ≠ 4 → size ≠ 8 → ∃ t, exec (.bar0BadAccess p off size write) s = .next t ∧
      onlyChanges [.bus, .ev, .tally] s t ∧ t.bus = { s.bus with idErr := withBit s.bus.idErr 1 }) ∧
    (∀ off, barOpen s p = true → off % 8 = 0 → regAt off = none → inDebug s p off = false → ∃ t, exec (.bar0BadAccess p off 8 false) s = .next t ∧
      onlyChanges [.ports, .bus, .ev, .tally] s t ∧ t.bus = { s.bus with idErr := withBit s.bus.idErr 0 } ∧
      t.port p = { s.port p with readData := 0 } ∧ ∀ r, r ≠ p → t.port r = s.port r) ∧
    (∀ i off b, barSealed s p off = some b → inDebug s p off = false →
      (∃ half v, i = .registerWrite p off half v) ∨ (∃ size write, i = .bar0BadAccess p off size write) →
      ∃ t, exec i s = .next t ∧ onlyChanges [.bus, .guard, .hive, .ports, .ev, .tally] s t ∧ bit t.bus.idErr 3 = true ∧
        t.bus.lastKind = 4 ∧ (∀ r, (t.port r).readData = (s.port r).readData) ∧ t.shows 317) ∧
    (∀ d3hot msix, ∃ t, exec (.hostPortPowerState p d3hot msix) s = .next t ∧ onlyChanges [.ports, .ev, .tally] s t ∧
      t.port p = { s.port p with d3hot := d3hot, msix := msix })

/-- The BAR2 window: where the window's channel is in service and the port may reach every byte's region, a write stores exactly its
bytes and a read returns them, unless an uncorrectable error or poison lies there, which ends the read. Every other byte is as before.
An access with a byte that is denied stores and returns nothing and sets ID_ERR bit 2; in a sealed segment it is answered as the default
target answers a breach of the worlds (13 R386; 15 R474, R487, R488; 17 R519). -/
def Obligations.Bar2Accesses : Prop :=
  ∀ (p d off : Nat) (s : State), s.portUp p = true →
    (∀ (l : List Byte) len unc, l ≠ [] → off + l.length ≤ 2 ^ 28 → s.pool.window = some d → (s.chan d).state = 0 →
      (∀ k, k < l.length → bar2Open s p (off + k)) →
      ∃ t, exec (.bar2Access p off (some l) len unc) s = .next t ∧ onlyChanges [.bus, .pool, .ev, .tally] s t ∧
        (∀ a, a < off ∨ off + l.length ≤ a → memRead t.bus.bar2 a = memRead s.bus.bar2 a) ∧
        (∀ k, k < l.length → memRead t.bus.bar2 (off + k) = l.getD k 0) ∧
        (∀ x, x ∈ bar2Lines s off l.length → x ∉ (t.chan d).poison) ∧ t.bus.idErr = s.bus.idErr) ∧
    (∀ n unc, 1 ≤ n → n ≤ 8 → off + n ≤ 2 ^ 28 → s.pool.window = some d → (s.chan d).state = 0 → (∀ k, k < n → bar2Open s p (off + k)) →
      (unc = false → (∀ x, x ∈ bar2Lines s off n → x ∉ (s.chan d).poison) →
        ∃ t, exec (.bar2Access p off none n unc) s = .next t ∧ onlyChanges [.ports, .ev, .tally] s t ∧
          (t.port p).readData = BitVec.ofNat 64 (bytesNat ((List.range n).map fun i => memRead s.bus.bar2 (off + i)))) ∧
      (unc = true ∨ (∃ x, x ∈ bar2Lines s off n ∧ x ∈ (s.chan d).poison) →
        ∃ t, exec (.bar2Access p off none n unc) s = .next t ∧ t.bus.bar2 = s.bus.bar2 ∧ t.bus.lastMaster = 8 + p ∧ t.bus.lastKind = 3 ∧
          (t.port p).readData = (s.port p).readData ∧ t.shows 313 ∧ t.shows (76 + 4 * d))) ∧
    (∀ write len unc n, (match write with | some l => l.length | none => min len 8) = n → off + n ≤ 2 ^ 28 →
      (∃ k, k < n ∧ bar2Denied s p (off + k) ≠ 0) →
      ∃ t, exec (.bar2Access p off write len unc) s = .next t ∧ onlyChanges [.bus, .guard, .hive, .ports, .ev, .tally] s t ∧
        t.bus.bar2 = s.bus.bar2 ∧ bit t.bus.idErr 2 = true ∧ ∀ r, (t.port r).readData = (s.port r).readData) ∧
    (∀ write len unc, bar2Denied s p off = 1 → (match write with | some l => l.length | none => min len 8) = 1 → off + 1 ≤ 2 ^ 28 →
      ∃ t, exec (.bar2Access p off write len unc) s = .next t ∧ onlyChanges [.bus, .ev, .tally] s t ∧
        t.bus = { s.bus with idErr := withBit s.bus.idErr 2 }) ∧
    (∀ write len unc, bar2Denied s p off = 2 → (match write with | some l => l.length | none => min len 8) = 1 → off + 1 ≤ 2 ^ 28 →
      ∃ t, exec (.bar2Access p off write len unc) s = .next t ∧ onlyChanges [.bus, .guard, .hive, .ports, .ev, .tally] s t ∧
        t.bus = { s.bus with
          defaultHits := satAdd 32 s.bus.defaultHits 1
          lastMaster := 8 + p
          lastKind := 4
          lastAddr := bar2Addr s off % 2 ^ 40
          lastSealed := true
          idErr := withBit (withBit s.bus.idErr 3) 2 } ∧ (∀ r, (t.port r).readData = (s.port r).readData) ∧ t.shows 317)

/-- DMA rings: TAIL takes its value, the enable waits for the next beat or, before the beat starts, acts at once, and a descriptor
that the device is done with advances HEAD (13 R416-R420). -/
def Obligations.DmaRings : Prop :=
  ∀ (p n : Nat) (s : State), s.portUp p = true → n < 8 →
    (∀ v, barOpen s p = true → ∃ t, exec (.dmaTailWrite p n v) s = .next t ∧ onlyChanges [.ports, .ev, .tally] s t ∧
      (t.port p).ringOf n = { (s.port p).ringOf n with tail := v % 4096 }) ∧
    (barOpen s p = true → s.clk.started = false → ((s.port p).ringOf n).enable = false → ∃ t, exec (.dmaRingEnable p n true) s = .next t ∧
      onlyChanges [.ports, .ev, .tally] s t ∧ ((t.port p).ringOf n).enable = true ∧ ((t.port p).ringOf n).head = 0) ∧
    (∀ on, barOpen s p = true → s.clk.started = true → ((s.port p).ringOf n).enable ≠ on → ∃ t, exec (.dmaRingEnable p n on) s = .next t ∧
      onlyChanges [.ports, .ev, .tally] s t ∧ (t.port p).ringOf n = { (s.port p).ringOf n with pendEnable := some on }) ∧
    (∀ d : DescView, n = 7 → ((s.port p).ringOf n).enable = true → ((s.port p).ringOf n).halted = false →
      ((s.port p).ringOf n).head ≠ ((s.port p).ringOf n).tail → descOk d = true → d.addr % 8 = 0 → d.pcieError = false →
      ∃ t, exec (.descriptorClose p n d) s = .next t ∧ onlyChanges [.ports, .ev, .tally] s t ∧
        (t.port p).ringOf n = { (s.port p).ringOf n with
          head := nextIndex ((s.port p).ringOf n)
          backs := ⟨((s.port p).ringOf n).head, (d.recs.map List.length).sum, 0, d.recs.length, 0⟩ :: ((s.port p).ringOf n).backs } ∧ t.shows (portSrc p 15)) ∧
    (∀ d : DescView, ((s.port p).ringOf n).enable = true → ((s.port p).ringOf n).halted = false →
      ((s.port p).ringOf n).head ≠ ((s.port p).ringOf n).tail → descOk d = false → ∃ t, exec (.descriptorClose p n d) s = .next t ∧
        onlyChanges [.ports, .ev, .tally] s t ∧ ((t.port p).ringOf n).halted = true ∧ bit ((t.port p).ringOf n).err 0 = true ∧
        t.shows (portSrc p (8 + n)))

/-- Link loss, link up, PERST_N and a function level reset: what the port loses and what it keeps (13 R383, R413; 19 R570). -/
def Obligations.PortResets : Prop :=
  ∀ (p : Nat) (s : State), p < 2 →
    ((s.port p).linkUp = true → ∃ t, exec (.pcieLinkDown p) s = .next t ∧ (t.port p).linkUp = false ∧ (t.port p).version = none ∧
      (t.port p).session = 0 ∧ (t.chal p).isSealed = false ∧ (∀ n, 16 ≤ n → n < 32 → (t.sem n).owner ≠ some (ownerOf p)) ∧
      ((s.port p).session ≠ 0 → ∀ n, n < 16 → (t.sem n).owner ≠ some (ownerOf p)) ∧
      (∀ r, (t.port p).rspOf r = (s.port p).rspOf r) ∧ t.lanes = s.lanes ∧ t.comb = s.comb) ∧
    (s.mode ≠ .off → s.mode ≠ .wake → ∃ t, exec (.pcieLinkUp p) s = .next t ∧ (t.port p).linkUp = true ∧ (t.port p).perst = false ∧
      (t.chal p).isSealed = false ∧ onlyChanges [.ports, .sec, .ev, .tally] s t) ∧
    (∃ t, exec (.perstAssert p) s = .next t ∧ (t.port p).perst = true ∧ (t.port p).linkUp = false) ∧
    (s.portUp p = true → ∃ t, exec (.pcieFlr p) s = .next t ∧ (t.port p).linkUp = true ∧ (t.port p).cmd = [] ∧ (t.port p).rsp = [] ∧
      (t.port p).version = none ∧ (t.port p).session = 0 ∧ ∀ n, ((t.port p).ringOf n).enable = false)

/-! ### Events -/

/-- A claim returns the source that the controller offers, puts it in service and on the port's stack; its completion takes it off; a
reset with the key empties the stack (14 R453-R455, R462). -/
def Obligations.ClaimAndComplete : Prop :=
  ∀ (p : Nat) (s : State), s.portUp p = true → barOpen s p = true →
    (∀ n prio, claimable s (4 + p) = some (n, prio) → ∃ t, exec (.evClaim p .whole) s = .next t ∧ onlyChanges [.ports, .ev, .tally] s t ∧
      (t.src n).inService = true ∧ t.stackOf (4 + p) = (n, prio) :: s.stackOf (4 + p) ∧
      (t.port p).readData.toNat % 512 = n % 512) ∧
    (claimable s (4 + p) = none → ∃ t, exec (.evClaim p .whole) s = .next t ∧ onlyChanges [.ports, .ev, .tally] s t ∧
      (t.port p).readData = 0x8000 ∧ t.stackOf (4 + p) = s.stackOf (4 + p)) ∧
    (∀ n prio rest, n < 319 → s.stackOf (4 + p) = (n, prio) :: rest → ∃ t, exec (.evComplete p n) s = .next t ∧
      onlyChanges [.ev, .tally] s t ∧ t.stackOf (4 + p) = rest ∧ (t.src n).inService = false ∧
      (n < 243 → (s.src n).edge = false → (t.src n).pends = (s.src n).asserted) ∧
      (n < 243 → (s.src n).edge = true → (t.src n).pends = (s.src n).latch)) ∧
    (∃ t, exec (.evReset p 0xA5) s = .next t ∧ onlyChanges [.ev, .tally] s t ∧ t.stackOf (4 + p) = [] ∧
      ∀ c, c ≠ 4 + p → t.stackOf c = s.stackOf c)

/-- Writes of EV_SRC_n and EV_GRPg, a line that a unit drives, and the controller's own steps (14 R450-R463). -/
def Obligations.EventController : Prop :=
  ∀ (s : State),
    (∀ p n (v : Word), s.portUp p = true → barOpen s p = true → n < 243 → hostTarget (s.src n).target = true → hostTarget (v.toNat / 32 % 8) = true →
      ∃ t, exec (.evSrcWrite p n v) s = .next t ∧ onlyChanges [.ev, .tally] s t ∧ (t.src n).prio = v.toNat % 16 ∧
        (t.src n).edge = bit v.toNat 4 ∧ (t.src n).target = v.toNat / 32 % 8 ∧ (t.src n).asserted = (s.src n).asserted) ∧
    (∀ p g (v : Word), s.portUp p = true → barOpen s p = true → g < 14 → 1 ≤ v.toNat % 256 → 1 ≤ v.toNat / 256 % 16384 → v.toNat / 256 % 16384 ≤ 10000 →
      hostTarget (v.toNat / 2 ^ 24 % 8) = true → ∃ t, exec (.evGrpWrite p g v) s = .next t ∧ onlyChanges [.ev, .tally] s t ∧
        tget 7 t.ev.fallback g = v.toNat / 2 ^ 24 % 8 ∧ (t.coalOf p g).count = v.toNat % 256 ∧
        (t.coalOf p g).time = v.toNat / 256 % 16384) ∧
    (∀ n level, reservedSource n = false → n < 243 ∨ 274 < n → ∃ t, exec (.sourceAssert n level) s = .next t ∧
      (t.src n).asserted = level ∧ onlyChanges [.ev, .guard, .hive, .power, .tally] s t ∧
      ((s.src n).edge = false → (t.src n).pends = (level && !(s.src n).inService)) ∧
      ((s.src n).edge = true → (t.src n).latch = ((s.src n).latch || (level && !(s.src n).asserted)))) ∧
    (∀ p n prio, s.portUp p = true → barOpen s p = true → claimable s (4 + p) = some (n, prio) → n < 243 ∨ 274 < n → (s.src n).edge = true →
      ∃ t, exec (.evClaim p .whole) s = .next t ∧ (t.src n).latch = false ∧ (t.src n).inService = true) ∧
    (∀ p n, p < 2 → n < 319 → available s (4 + p) = true → s.ev.srcs.any (fun e => e.1 == n && e.2 == s.src n) = true →
      (s.src n).pends = true → (s.src n).held = false → (s.src n).signalled = false → effTarget s n = 4 + p →
      aboveLevel s (4 + p) (s.src n).prio = true → ∃ t, exec .eventArbitrate s = .next t ∧ onlyChanges [.ports, .ev, .tally] s t ∧
        ((s.port p).vectorMasked (vectorOf p n (s.src n).prio) = false → vectorOf p n (s.src n).prio ∈ (t.port p).sentMsix) ∧
        ((s.port p).vectorMasked (vectorOf p n (s.src n).prio) = true → vectorOf p n (s.src n).prio ∈ (t.port p).msixPba)) ∧
    (∀ p g n, p < 2 → g < 14 → (s.coalOf p g).isOpen = true → (s.src n).target = 4 + p → groupOf n = g → n < 243 →
      ∃ t, exec (.coalesceRelease p g) s = .next t ∧ onlyChanges [.ev, .tally] s t ∧ (t.src n).held = false) ∧
    (∀ n, n < 243 → (s.src n).pends = true → (s.src n).held = false → (s.src n).target < 6 → available s (s.src n).target = false →
      aboveLevel s (s.src n).target (s.src n).prio = true → fallbackOf s n < 6 → available s (fallbackOf s n) = true →
      ∃ t, exec (.redirectTimeout n) s = .next t ∧ onlyChanges [.ev, .tally] s t ∧ (t.src n).fallen = true)

/-! ### Tally registers -/

/-- The tally registers: freeze, snapshot, clear and preset, and a counter that passes its last count (16 R506-R512). -/
def Obligations.TallyRegisters : Prop :=
  ∀ (s : State),
    (∀ on, ∃ t, exec (.tlFreeze on) s = .next t ∧ onlyChanges [.tally, .ev] s t ∧ t.tally.freeze = on) ∧
    (∃ t, exec .tlSnap s = .next t ∧ onlyChanges [.tally, .ev] s t ∧ t.tally.snapBeat = s.now ∧ t.shows 302 ∧
      ∀ n, (t.counter n).snap = (s.counter n).count) ∧
    (∀ (m : Word) n, bit m.toNat n = true → ∃ t, exec (.tlClear m) s = .next t ∧ onlyChanges [.tally, .ev] s t ∧ (t.counter n).count = 0) ∧
    (∀ (m : Word) n, bit m.toNat n = true → (s.counter n).reload < 2 ^ 48 → ∃ t, exec (.tlPreset m) s = .next t ∧
      onlyChanges [.tally, .ev] s t ∧ (t.counter n).count = (s.counter n).reload) ∧
    (∀ n, n < 64 → (s.counter n).enabled = true → tallyRuns s = true → (s.counter n).count < 2 ^ 48 → (s.counter n).reload < 2 ^ 48 →
      ∃ t, exec (.tallyOverflow n) s = .next t ∧ onlyChanges [.tally, .ev] s t ∧ n ∈ t.tally.ovf ∧
        (t.counter n).count = if (s.counter n).sample then (s.counter n).reload else 0)

/-! ### The Guard -/

/-- Keeper cores: a working core that expires is failed and its work goes to the relief core, and with fewer than two working cores the Keeper
is lost; a retired core's work goes there likewise; half an expiry
only raises its source (14 R427-R430). -/
def Obligations.KeeperCores : Prop :=
  ∀ (c r : Nat) (s : State), c < 4 → r < 4 → c ≠ r → s.guard.cores.length = 4 → s.coreOf c = .working → reliefCore s = some r →
    (∃ t, exec (.coreRetire c) s = .next t ∧ t.coreOf c = .retired ∧ t.coreOf r = .working ∧ t.stackOf c = [] ∧ t.shows 187 ∧
      t.lanes = s.lanes ∧ t.ports = s.ports ∧ t.mode = s.mode) ∧
    (∃ t, exec (.coreWatchdogExpiry c) s = .next t ∧ t.stackOf c = [] ∧ t.shows (220 + c) ∧ t.lanes = s.lanes ∧
      (2 ≤ (workingCores s).length ∨ s.mode = .lean → t.coreOf c = .failed ∧ t.coreOf r = .working ∧ t.mode = s.mode) ∧
      ((workingCores s).length < 2 → s.mode = .provision → s.guard.keeperLost = false →
        t.coreOf c = .held ∧ t.guard.keeperLost = true ∧ t.mode = .autopilot)) ∧
    (∃ t, exec (.coreWatchdogPreExpiry (some c)) s = .next t ∧ onlyChanges [.ev, .tally] s t ∧ t.shows (179 + c))

/-- A fault is recorded in the first free entry, or counted in the entry that holds it; a 17th is an overflow and a storm; the host
resolves an entry below class 4 that is not sealed, and clears the storm (14 R432-R438). -/
def Obligations.FaultQueue : Prop :=
  ∀ (code kind index d e : Nat) (s : State), 1 ≤ code → code ≤ 0x15 → kind ≤ 11 → e < 16 →
    ((∀ x, x < 16 → ¬((s.fqe x).valid = true ∧ (s.fqe x).code = code ∧ (s.fqe x).unit = kind * 4096 + index % 4096)) →
      (s.fqe e).valid = false → (∀ x, x < e → (s.fqe x).valid = true) → ∃ t, exec (.faultRecord code kind index d) s = .next t ∧
        t.fqe e = ⟨true, code, kind * 4096 + index % 4096, faultClass code index, faultSealed code, s.now, s.now, 0⟩ ∧ t.shows 211 ∧
        t.lanes = s.lanes ∧ (faultClass code index < 4 → t.mode = s.mode ∧ t.keeper = s.keeper) ∧
        (faultClass code index = 4 → s.guard.keeperLost = false → s.mode = .provision → t.mode = .autopilot ∧ t.guard.keeperLost = true) ∧
        (faultClass code index = 5 → s.mode = .carry ∨ s.mode = .provision → t.mode = .halt ∧ t.guard.haltCause = 1)) ∧
    ((s.fqe e).valid = true → (s.fqe e).code = code → (s.fqe e).unit = kind * 4096 + index % 4096 →
      (∀ x, x < e → ¬((s.fqe x).valid = true ∧ (s.fqe x).code = code ∧ (s.fqe x).unit = kind * 4096 + index % 4096)) →
      ∃ t, exec (.faultRecord code kind index d) s = .next t ∧ (t.fqe e).repeats = satAdd 16 (s.fqe e).repeats 1 ∧
        (t.fqe e).last = s.now ∧ (t.fqe e).first = (s.fqe e).first ∧
        (t.fqe e).cls = (if (s.fqe e).cls < 3 then (s.fqe e).cls + 1 else (s.fqe e).cls)) ∧
    ((∀ x, x < 16 → (s.fqe x).valid = true ∧ (s.fqe x).code ≠ code) → ∃ t, exec (.faultRecord code kind index d) s = .next t ∧
      t.guard.storm = true ∧ t.guard.overflow = satAdd 32 s.guard.overflow 1 ∧ t.guard.lastCode = code ∧ t.shows 216 ∧
      (faultClass code index < 4 → s.guard.storm = false → s.mode = .provision →
        (s.anySealedFault = true → t.mode = .halt ∧ t.guard.haltCause = 2) ∧
        (s.anySealedFault = false → s.guard.stormPolicy = 0 → s.guard.keeperLost = false → t.mode = .autopilot ∧ t.guard.apCause = 2) ∧
        (s.anySealedFault = false → s.guard.stormPolicy = 1 → t.mode = .provision))) ∧
    ((s.fqe e).valid = true → (s.fqe e).cls < 4 → (s.fqe e).isSealed = false → ∃ t, exec (.gdResolve e 0xA5) s = .next t ∧
      (t.fqe e).valid = false ∧ t.shows 213 ∧ ∀ x, x ≠ e → t.fqe x = s.fqe x) ∧
    (s.guard.storm = true → s.faultsUsed ≤ 12 → ∃ t, exec (.gdClearStorm 0xA5) s = .next t ∧ t.guard.storm = false ∧ t.shows 215 ∧
      onlyChanges [.guard, .ev, .tally] s t)

/-- The Keeper is lost: Autopilot where there is traffic to keep, in place in Maintenance and Isolate, Halt on a fatal fault; the
waiting commands are kept for their TIMEOUT. Restarts: an attempt, the host's own restart, its timeout, and the Keeper in service again
(14 R429, R431, R438-R445). -/
def Obligations.KeeperLossAndRestart : Prop :=
  (∀ (s : State),
    (lossDue false s = true → s.guard.keeperLost = false → s.mode = .provision → bit s.hive.cfg.flags 0 = false → ∃ t, exec (.autopilotEntry false) s = .next t ∧
      t.mode = .autopilot ∧ t.keeper.serving = false ∧ t.guard.keeperLost = true ∧ t.guard.autopilot = true ∧ t.apFrom = .provision ∧
      t.clk.lost = s.clk.lost ++ (waitingCommands s).map Waiter.late ∧ t.shows 217) ∧
    (lossDue false s = true → s.guard.keeperLost = false → s.mode = .maintenance ∨ s.mode = .isolate → ∃ t,
      exec (.keeperLostInPlace false) s = .next t ∧ t.mode = s.mode ∧ t.keeper.serving = false ∧ t.guard.keeperLost = true ∧
      t.guard.autopilot = s.guard.autopilot) ∧
    (s.faultTop = 5 → s.mode = .carry ∨ s.mode = .provision → ∃ t, exec (.haltEntry false) s = .next t ∧ t.mode = .halt ∧
      t.guard.isHalt = true ∧ t.keeper.serving = false ∧ t.hive.token = false ∧ t.shows 219) ∧
    (s.guard.clusterRun = true → workingCores s ≠ [] → ∃ t, exec .clusterWatchdogExpiry s = .next t ∧ t.guard.clusterRun = false ∧ t.shows 224 ∧
      (s.guard.keeperLost = false → autopilotMode s.mode = true ∨ inPlaceMode s.mode = true →
        t.guard.keeperLost = true ∧ t.keeper.serving = false)) ∧
    (s.mode = .carry → (∃ x, x < 16 ∧ (s.fqe x).valid = false) →
      (∀ x, x < 16 → (s.fqe x).valid = true → (s.fqe x).code ≠ 0x11 ∧ (s.fqe x).cls ≤ 5) → ∃ t, exec .guardStepTimeout s = .next t ∧
      t.mode = .halt ∧ t.guard.isHalt = true ∧ t.guard.haltCause = 1) ∧
    (s.mode = .quiesce → ∃ t, exec .quiesceTimeout s = .next t ∧ t.keeper.serving = false ∧ t.guard.keeperLost = true ∧ t.guard.autopilot = true)) ∧
  (∀ (s : State),
    (attemptMode s = true → s.guard.apCause = 1 → s.guard.attempts < s.guard.restartLimit → ∃ t, exec .restartAttempt s = .next t ∧
      onlyChanges [.guard, .ev, .tally] s t ∧ t.guard.attempting = true ∧ t.guard.attempts = min 15 (s.guard.attempts + 1) ∧ t.shows 226) ∧
    (attemptMode s = true → s.guard.storm = false → ∃ t, exec (.gdRestart 0xA5) s = .next t ∧ onlyChanges [.guard, .ev, .tally] s t ∧
      t.guard.attempting = true ∧ t.guard.attempts = min 15 (s.guard.attempts + 1) ∧ t.shows 226) ∧
    (s.guard.attempting = true → ∃ t, exec .restartTimeout s = .next t ∧ t.guard.attempting = false ∧ t.keeper.serving = false ∧
      t.keeper.started = false ∧ t.mode = s.mode) ∧
    (s.keeper.started = true → s.keeper.serving = false → s.mode = .maintenance → ∃ t, exec .keeperResume s = .next t ∧
      t.keeper.serving = true ∧ t.keeper.present = true ∧ t.guard.keeperLost = false ∧ t.guard.autopilot = false ∧ t.clk.lost = [] ∧
      t.mode = .maintenance))

/-! ### The hive -/

/-- The token: claims, releases and reclaims, and what each makes of the pin, the transmitters and the mode (12 R354-R358, R367-R373). -/
def Obligations.TokenMoves : Prop :=
  ∀ (s : State),
    (s.hive.token = false → s.hive.lineFree = true → s.mode = .provision → s.keeper.modeWait = none → ∀ b w,
      s.hive.switchPend = some (2, b, w) → b ≤ s.now → ∃ t, exec .tokenClaim s = .next t ∧ t.hive.token = true ∧
        t.hive.txIdled = false ∧ t.hive.switchPend = none ∧ t.mode = .provision ∧ t.shows 115) ∧
    (s.hive.token = false → s.hive.lineFree = true → s.mode = .shadow → bounceDue s = false → s.hive.released = 0 → ∃ t,
      exec .tokenClaim s = .next t ∧ t.hive.token = true ∧ t.hive.txIdled = false ∧ t.mode = .carry ∧ t.shows 126) ∧
    (s.hive.token = true → s.mode = .halt ∨ s.mode = .isolate → ∃ t, exec (.tokenRelease 2) s = .next t ∧ t.hive.token = false ∧
      t.hive.hvSel = false ∧ t.hive.txIdled = true ∧ t.hive.released = 2 ∧ t.mode = s.mode ∧ t.shows 227) ∧
    (s.hive.token = false → s.hive.lineFree = true → s.hive.released = 4 → s.mode = .shadow → s.power.seq = 2 → s.hive.switchPend = none →
      ∃ t, exec .tokenReclaim s = .next t ∧ t.hive.token = true ∧ t.hive.released = 0 ∧ t.mode = .carry ∧
        t.hive.collisions = satAdd 32 s.hive.collisions 1 ∧ t.shows 130) ∧
    (s.hive.hbLost = true → s.hive.mateOk = false → 8 ≤ s.hive.mateLow → s.hive.token = false → s.mode = .shadow → s.hive.switchPend = none → ∃ t,
      exec .heldTokenClaim s = .next t ∧ t.hive.token = true ∧ t.mode = .carry ∧ t.hive.toCause = 7 ∧ t.hive.toBeat = s.now) ∧
    (∀ v : Word, v.toNat % 256 = 0xA5 → bit v.toNat 8 = true → mateReady s = true → s.hive.token = true → s.mode = .provision → ∃ t,
      exec (.hvCtrlRelease .whole v) s = .next t ∧ t.hive.token = false ∧ t.hive.released = 6 ∧ t.hive.txIdled = true ∧ t.mode = .provision) ∧
    (∀ b w, s.hive.switchPend = some (2, b, w) → b ≤ s.now → s.hive.token = true → s.hive.released = 0 → s.mode = .provision → ∃ t,
      exec .hiveSwitchExecute s = .next t ∧ t.hive.token = false ∧ t.hive.released = 4)

/-- What the hive observes: HV_MATE_OK, the halves of the link, headers, heartbeats, bounce-back and the egress fault; and mirror
records: the expected one is taken, any other opens a gap, a whole snapshot is loaded (12 R350, R359-R365, R373-R375). -/
def Obligations.HiveAndMirror : Prop :=
  (∀ (s : State),
    (∀ level, s.hive.mateOk ≠ level → ∃ t, exec (.mateOkChange level) s = .next t ∧ onlyChanges [.hive, .ev, .tally] s t ∧
      t.hive.mateOk = level ∧ t.shows 118) ∧
    (∀ up, s.hive.halfA ≠ up → halfUp s false = up → ∃ t, exec (.halfStateChange false up) s = .next t ∧
      onlyChanges [.hive, .ev, .tally] s t ∧ t.hive.halfA = up ∧ t.shows 121) ∧
    (∀ i skew codes gs, i < 4 → hiveLaneUp s i = true → (laneGroups (256 + i) (stungUnit s 0x0A (256 + i)) codes s).1 = gs →
      (skew < -8 ∨ 8 < skew ∨ readHeader gs = none → ∃ t, exec (.hiveFrameRx i skew codes) s = .next t ∧
        onlyChanges [.lanes, .hive, .test, .ev, .tally] s t ∧ t.hive.mateFlags = s.hive.mateFlags ∧ t.hive.mateBeat = s.hive.mateBeat ∧
        tget 0 t.hive.skews i = skew ∧ tget [] t.hive.hdrFails i = (false :: tget [] s.hive.hdrFails i).take 8) ∧
      (∀ hdr, -8 ≤ skew → skew ≤ 8 → readHeader gs = some hdr → s.hive.token = false → s.hive.released = 0 → s.hive.switchPend = none →
        ∃ t, exec (.hiveFrameRx i skew codes) s = .next t ∧ onlyChanges [.lanes, .hive, .scout, .test, .ev, .tally] s t ∧
          t.hive.mateFlags = hdr.flags ∧ t.hive.mateBeat = hdr.beat ∧ (t.hive.lineFree = !bit hdr.flags 0) ∧
          tget [] t.hive.hdrFails i = (true :: tget [] s.hive.hdrFails i).take 8)) ∧
    (s.hive.hbSeen = true → s.now % 8 = 0 → s.hive.hbMissAt ≠ s.now + 1 → s.hive.hbFlight ≠ s.now / 8 % 2 ^ 32 → s.hive.hbMissed = 2 →
      s.hive.hbLost = false → ∃ t, exec .heartbeatMiss s = .next t ∧
      onlyChanges [.hive, .ev, .tally] s t ∧ t.hive.hbLost = true ∧ t.hive.hbMissed = 3 ∧ bit t.hive.mateFlags 8 = false ∧ t.shows 119 ∧
      t.shows 120) ∧
    (s.hive.bbOpen = true → s.hive.bbLeft = 0 → ∃ t, exec .bbWindowClose s = .next t ∧ onlyChanges [.hive, .ev, .tally] s t ∧
      t.hive.bbOpen = false ∧ t.shows 128) ∧
    (s.hive.bbOpen = true → s.hive.token = true → ∃ t, exec (.egressFaultDeclare false) s = .next t ∧ t.hive.egressFault = true ∧
      t.hive.egressOk = false ∧ t.shows 129) ∧
    (∀ w, s.hive.joining = some w → ∃ t, exec .hiveJoinTimeout s = .next t ∧ t.hive.joining = none ∧ t.hive.joinMode = false)) ∧
  (∀ (s : State), s.hive.token = false → s.hive.halfA = true →
    (∀ t cs, s.hive.loaded = true → ∃ u, exec (.mirrorRecordRx ((s.hive.rxSeq + 1) % 2 ^ 32) true (.shadow t cs)) s = .next u ∧
      onlyChanges [.hive, .ev, .tally] s u ∧ u.hive.rxSeq = (s.hive.rxSeq + 1) % 2 ^ 32 ∧ u.hive.gap = false ∧
      u.hive.incoming = s.hive.incoming ++ [(t, cs)]) ∧
    (∀ seq r, s.hive.gap = false → ∃ u, exec (.mirrorRecordRx seq false r) s = .next u ∧ onlyChanges [.hive, .ev, .tally] s u ∧
      u.hive.gap = true ∧ u.hive.gaps = satAdd 16 s.hive.gaps 1 ∧ u.hive.rxSeq = s.hive.rxSeq ∧ u.shows 123) ∧
    (s.hive.snapSeen = true → s.hive.loaded = false → s.hive.buffered = [] → ∃ u, exec .snapshotLoaded s = .next u ∧
      u.hive.loaded = true ∧ u.hive.gap = false ∧ u.hive.chunks = [] ∧ u.shows 125))

/-! ### Power and boot -/

/-- Power-up and power-down: what each step of the sequence does to the rails, the mode and the cause (18 R541-R546, R582, R583). -/
def Obligations.PowerSequence : Prop :=
  ∀ (s : State),
    (s.power.powered = false → ∃ t, exec (.vddaoPowerOn true) s = .next t ∧ t.power.powered = true ∧ t.power.seq = 1 ∧
      t.power.seqStep = 1 ∧ (t.rail 0).enabled = true ∧ t.mode = .off ∧ t.pending = s.pending) ∧
    (s.power.seq = 1 → s.power.pfw = false → s.power.seqStep < 7 → ∃ t, exec .sequencingStep s = .next t ∧
      onlyChanges [.power, .ev, .tally] s t ∧ t.power.seqStep = s.power.seqStep + 1 ∧ (t.rail (stepRail (s.power.seqStep + 1))).enabled = true) ∧
    (s.power.seq = 1 → s.power.pfw = false → 7 ≤ s.power.seqStep → s.power.resetLow = false → ∃ t, exec .sequencingStep s = .next t ∧
      t.power.seq = 2 ∧ t.mode = .wake ∧ t.shows 290) ∧
    (s.power.seq = 1 → s.hive.token = false → ∃ t, exec .rampLimitExpiry s = .next t ∧ t.power.seq = 3 ∧ t.power.offCause = 5 ∧ t.shows 275) ∧
    (∀ c, s.power.seq = 3 → s.power.offCause = c → s.power.wakeLatch = false → ∃ t, exec (.powerDown c) s = .next t ∧ t.mode = .off ∧
      t.power.seq = (if c = 5 then 4 else 0) ∧ t.keeper.serving = false ∧ ∀ r, (t.rail r).enabled = false) ∧
    (s.power.powered = true → s.power.seq = 0 ∨ s.power.seq = 4 → s.power.pfw = false → ∃ t, exec .wakeNFall s = .next t ∧
      onlyChanges [.power, .ev, .tally] s t ∧ t.power.seq = 1 ∧ t.power.seqStep = 1) ∧
    (s.power.powered = true → s.power.seq = 0 → s.power.pfw = false → s.power.offCause = 0 → ∃ t, exec .autoWake s = .next t ∧
      onlyChanges [.power, .ev, .tally] s t ∧ t.power.seq = 1) ∧
    (s.power.pfw = true → s.power.seq = 2 → s.mode ≠ .halt → s.hive.token = false → ∃ t, exec .leanMaxExpiry s = .next t ∧
      t.power.seq = 3 ∧ t.power.offCause = 2 ∧ t.shows 282)

/-- Reset and boot: a device reset enters Wake with the Keeper out of service and the always-on counts kept; Wake ends in boot, boot in
Provision (17 R530-R535; 18 R542, R543, R548; 19 R571). -/
def Obligations.ResetAndBoot : Prop :=
  ∀ (s : State),
    (s.power.seq = 2 → s.mode ≠ .off → ∃ t, exec .resetNAssert s = .next t ∧ t.mode = .wake ∧ t.keeper.serving = false ∧
      t.clk.started = false ∧ t.power.resetLow = true ∧ t.guard.overflow = s.guard.overflow ∧ t.hive.takeovers = s.hive.takeovers ∧
      t.bus.bar2 = s.bus.bar2 ∧ t.pending = s.pending ∧ t.sec.rollback = s.sec.rollback ∧ ∀ p, (t.chal p).isSealed = false) ∧
    (∀ side flash te, s.power.resetLow = true → s.power.seq = 2 → s.mode = .off → ∃ t, exec (.resetNRelease side flash te) s = .next t ∧
      t.mode = .wake ∧ t.power.resetLow = false ∧ t.hive.side = side) ∧
    (s.mode = .wake → s.power.resetLow = false → ∃ t, exec .wakeClearDone s = .next t ∧ t.mode = .boot ∧ t.bus.sramOpen = true ∧ t.shows 290) ∧
    (∀ ok, romDue s = true → (s.mode = .boot → ok = true) → (bootBlock s).trial = 0 → (bootBlock s).preferred ≤ 1 →
      slotValid s (bootBlock s).preferred = true → ∃ t, exec (.bootRomStart ok) s = .next t ∧ t.keeper.started = true ∧ t.keeper.fwSlot = (bootBlock s).preferred ∧ t.guard.clusterRun = true ∧
      t.keeper.fwVersion = (s.slotOf (bootBlock s).preferred).fwVersion ∧ t.mode = s.mode) ∧
    (romDue s = true → s.mode = .boot → ∃ t, exec (.bootRomStart false) s = .next t ∧ t.mode = .halt ∧ t.guard.haltCause = 1 ∧
      t.keeper.started = false) ∧
    (s.mode = .boot → s.keeper.started = true → ∃ t, exec .provisionEntry s = .next t ∧ t.mode = .provision ∧ t.keeper.serving = true ∧
      t.keeper.present = true ∧ t.pool.window = (List.range 4).find? fun d => (s.chan d).state == 0) ∧
    (∀ d size ranks rate, d < 4 → s.mode = .boot → size ≠ 0 → (s.chan d).size = 0 → ∃ t,
      exec (.ddrBootTrainingDone d size ranks rate 0) s = .next t ∧
      (t.chan d).state = 0 ∧ (t.chan d).size = size ∧ (t.chan d).ranks = ranks ∧ (t.chan d).maxRate = rate ∧ ∀ e, e ≠ d → t.chan e = s.chan e) ∧
    (∀ r, r < 32 → (tget ({} : DdrRegion) s.sec.ddr r).clearing = true → (s.chan (tget ({} : DdrRegion) s.sec.ddr r).channel).state = 0 →
      s.sec.worldWait = none → ∃ t, exec (.ddrRegionClearDone r) s = .next t ∧ onlyChanges [.sec, .bus, .ev, .tally] s t ∧
        (tget ({} : DdrRegion) t.sec.ddr r).clearing = false ∧ (∀ a, a / 2 ^ 25 = r → memRead t.bus.bar2 a = 0) ∧
        ∀ a, a / 2 ^ 25 ≠ r → memRead t.bus.bar2 a = memRead s.bus.bar2 a)

/-- Lean and the rails: power fail enters Lean and its release leaves it; rail excursions, PMBus, adaptive voltage and energy
(18 R547-R557). -/
def Obligations.LeanAndRails : Prop :=
  ∀ (s : State), s.power.powered = true →
    (s.power.pfw = false → bit s.power.cfg.flags 0 = true → s.power.seq = 2 → leanable s.mode = true → ∃ t, exec .pfwAssert s = .next t ∧
      t.mode = .lean ∧ t.power.pfw = true ∧ t.power.isLean = true ∧ t.power.leanFrom = s.mode ∧ t.shows 278 ∧ t.shows 280) ∧
    (s.power.pfw = true → ∃ t, exec .pfwRelease s = .next t ∧ onlyChanges [.power, .ev, .tally] s t ∧ t.power.pfw = false ∧ t.shows 279) ∧
    (s.mode = .lean → s.power.pfw = false → s.power.leanFrom ≠ .lean → ∃ t, exec .leanExit s = .next t ∧ t.mode = s.power.leanFrom ∧ t.power.isLean = false ∧
      t.shows 281) ∧
    (∀ r isOv held, r < 16 → s.power.seq = 2 → ∃ t, exec (.railExcursion r isOv false held) s = .next t ∧ onlyChanges [.power, .ev, .tally] s t ∧
      t.rail r = (if isOv then { s.rail r with ovGlitch := (s.rail r).ovGlitch + 1 } else { s.rail r with uvGlitch := (s.rail r).uvGlitch + 1 })) ∧
    (∀ isOv, s.power.seq = 2 → s.mode ≠ .lean → ∃ t, exec (.railExcursion 6 isOv true false) s = .next t ∧ (t.rail 6).good = false ∧
      (isOv = true → (t.rail 6).ov = true) ∧ 6 ∈ t.power.railBad ∧ t.shows (railSrc isOv)) ∧
    (∀ r, r < 16 → (s.rail r).uv = true → ∃ t, exec (.railClear r) s = .next t ∧ onlyChanges [.power, .ev, .tally] s t ∧
      (t.rail r).uv = false ∧ (t.rail r).ov = false ∧ (t.rail r).good = true ∧ r ∉ t.power.railBad ∧ t.shows 276) ∧
    (∀ l, l.any (· != 0) = true → ∃ t, exec (.pmbAlert l) s = .next t ∧ t.shows 286 ∧ t.shows 287) ∧
    (s.power.seq ≠ 1 → ∃ t, exec .pmbusFailure s = .next t ∧ onlyChanges [.power, .ev, .tally] s t ∧ t.power.pmbusErr = true ∧ t.shows 285) ∧
    (∀ m, avsOn s = true → 0 ≤ m → m < 20 → ∃ t, exec (.avsSample m) s = .next t ∧ onlyChanges [.power, .ev, .tally] s t ∧ t.power.avsM = m ∧
      t.power.setpoint = min 800 (s.power.setpoint + 10)) ∧
    (∀ l tj, s.power.seq = 2 → ∃ t, exec (.energyRead l tj) s = .next t ∧ onlyChanges [.power, .ev, .tally] s t ∧ t.power.tj = tj)

/-! ### What the lanes and ports receive -/

/-- A lane in use: its LOS and LOL are declared and cleared (a LOS that starts is counted, the tile's source shows each change of what the
device acts on, and a loss fails the Scout inputs on the lane and takes the half of the hive link down at once), a comma sets an
automatic alignment, which 16 errors undo, its checker locks and unlocks, and its loopback slips (03 R76, R77, R85-R89, R91). -/
def Obligations.LaneDetection : Prop :=
  ∀ (n : Nat) (s : State), (s.lane n).works = true →
    (∃ t, exec (.losDeclare n) s = .next t ∧ onlyChanges [.lanes, .sdh, .paths, .cpri, .scout, .hive, .ports, .ev, .tally] s t ∧
      (t.lane n).los = true ∧ (∀ m, m ≠ n → t.lane m = s.lane m) ∧
      (∀ i, i ∈ inputsOn s n → (s.inp i).state = .qualified → (t.inp i).state = .failed) ∧
      (isHiveLane n = true → (if 258 ≤ n then t.hive.halfB else t.hive.halfA) = false) ∧
      ((s.lane n).losNow = false → (t.lane n).losEvents = satAdd 32 (s.lane n).losEvents 1 ∧ t.shows (laneSrc n))) ∧
    (∃ t, exec (.losClear n) s = .next t ∧ onlyChanges [.lanes, .ev, .tally, .hive] s t ∧ t.lane n = { s.lane n with los := false } ∧
      t.hive = { s.hive with events := t.hive.events } ∧
      (∀ m, m ≠ n → t.lane m = s.lane m) ∧ ((s.lane n).los = true → (s.lane n).losForced = false → t.shows (laneSrc n))) ∧
    (∃ t, exec (.lolDeclare n) s = .next t ∧ onlyChanges [.lanes, .sdh, .paths, .cpri, .scout, .hive, .ports, .ev, .tally] s t ∧
      t.lane n = { s.lane n with lol := true } ∧ (∀ m, m ≠ n → t.lane m = s.lane m) ∧
      (∀ i, i ∈ inputsOn s n → (s.inp i).state = .qualified → (t.inp i).state = .failed) ∧
      (isHiveLane n = true → (if 258 ≤ n then t.hive.halfB else t.hive.halfA) = false) ∧
      ((s.lane n).lolNow = false → t.shows (laneSrc n))) ∧
    ((s.lane n).losNow = false → ∃ t, exec (.lolClear n) s = .next t ∧ onlyChanges [.lanes, .ev, .tally, .hive] s t ∧
      t.hive = { s.hive with events := t.hive.events } ∧ t.lane n = { s.lane n with lol := false } ∧ (∀ m, m ≠ n → t.lane m = s.lane m)) ∧
    (∀ pos, is8b10bMode (s.lane n).mode = true → (s.lane n).align = 0 → (s.lane n).aligned = false → ∃ t,
      exec (.commaAlign n pos) s = .next t ∧ onlyChanges [.lanes, .ev, .tally] s t ∧
      t.lane n = { s.lane n with aligned := true, position := pos % 10, commaSeen := true, errAges := [], errFull := false }) ∧
    (∀ pos, is8b10bMode (s.lane n).mode = true → (s.lane n).align ≠ 0 → ∃ t,
      exec (.commaAlign n pos) s = .next t ∧ onlyChanges [.lanes, .ev, .tally] s t ∧ (t.lane n).position = (s.lane n).position ∧
      ((t.lane n).aligned = ((s.lane n).aligned || (decide (pos % 10 = (s.lane n).position) && isLineLane n)))) ∧
    ((s.lane n).align = 0 → (s.lane n).aligned = true → (s.lane n).errFull = true → ∃ t, exec (.alignmentLost n) s = .next t ∧
      onlyChanges [.lanes, .cpri, .hive, .ev, .tally] s t ∧ (t.lane n).aligned = false ∧ (t.lane n).errFull = false ∧
      (∀ m, m ≠ n → t.lane m = s.lane m) ∧ (cpriUp s n = true → (t.cpriOf n).state = .hunt) ∧
      (isHiveLane n = true → (if 258 ≤ n then t.hive.halfB else t.hive.halfA) = false)) ∧
    (∀ rx left, locksOn (.lane n) rx s = true → (s.lane n).prbsChk ≠ 0 → (s.lane n).prbsLocked = false → ∃ t,
      exec (.prbsLock (.lane n) rx left) s = .next t ∧ onlyChanges [.lanes, .ev, .tally] s t ∧
      t.lane n = { s.lane n with prbsLocked := true, prbsLeft := some (min left (bitsPerBeat (s.lane n).mode)) }) ∧
    (∀ rx left, locksOn (.lane n) rx s = false → ∃ t, exec (.prbsLock (.lane n) rx left) s = .next t ∧ onlyChanges [.ev, .tally] s t) ∧
    (∀ bits errs, (s.lane n).prbsLocked = true → ∃ t, exec (.prbsUnlock (.lane n) bits errs) s = .next t ∧
      onlyChanges [.lanes, .ev, .tally] s t ∧ t.lane n = { s.lane n with
        prbsLocked := false
        prbsLeft := none
        prbsBits := ((s.lane n).prbsBits + min bits ((s.lane n).prbsLeft.getD (bitsPerBeat (s.lane n).mode))) % 2 ^ 48
        prbsErrors := satAdd 32 (s.lane n).prbsErrors (min errs bits) }) ∧
    (∀ drop, (s.lane n).loopback = 2 → ∃ t, exec (.loopbackSlip n drop) s = .next t ∧ onlyChanges [.lanes, .ev, .tally] s t ∧
      (t.lane n).slipCount = satAdd 32 (s.lane n).slipCount 1)

/-- An SDH port in use: received bits move the frame alignment, which a pattern in the right place keeps, and break or extend the K-byte
run; dLOF follows 24 frames, an elastic store justifies once in four beats, a sent frame carries S1, M1 and the MS-RDI, and the overhead
channels capture and insert (04 R102-R109, R116, R124-R127). -/
def Obligations.SdhFrames : Prop :=
  ∀ (n : Nat) (s : State), n < 256 → sdhUp s n = true →
    (∀ bits len, (s.lane n).losNow = false → (s.lane n).lolNow = false → s.test.stings = [] → frameBytes (3 * stmN s n) = len → ∃ t,
      exec (.sdhFrameRx n bits) s = .next t ∧ onlyChanges [.lanes, .sdh, .paths, .pm, .ev, .tally] s t ∧
      (∀ m, m ≠ n → t.sdhOf m = s.sdhOf m) ∧
      ((s.sdhOf n).align = .hunt → (t.sdhOf n).align = if (bitFind 6 framingHere (frameBits s n bits) 0).isSome then .presync else .hunt) ∧
      ((s.sdhOf n).align = .presync → framingHere ((frameBits s n bits).drop len) = true → (t.sdhOf n).align = .inFrame) ∧
      ((s.sdhOf n).align = .presync → framingHere ((frameBits s n bits).drop len) = false → (t.sdhOf n).align =
        if (bitFind 6 framingHere (bitDrop ((s.sdhOf n).skip + 8 * len + 8) ((s.sdhOf n).held ++ lineIn s n bits)) 0).isSome then .presync
        else .hunt) ∧
      ((s.sdhOf n).align = .inFrame → framingHere (frameBits s n bits) = true → (t.sdhOf n).align = .inFrame ∧ (t.sdhOf n).miss = 0) ∧
      ((s.sdhOf n).align = .inFrame → framingHere (frameBits s n bits) = false → (s.sdhOf n).miss + 1 < (s.sdhOf n).cfg.oofCount →
        (t.sdhOf n).align = .inFrame ∧ (t.sdhOf n).miss = (s.sdhOf n).miss + 1) ∧
      ((s.sdhOf n).align = .inFrame → framingHere (frameBits s n bits) = false → (s.sdhOf n).cfg.oofCount ≤ (s.sdhOf n).miss + 1 →
        (t.sdhOf n).align ≠ .inFrame) ∧
      (∀ f, (s.sdhOf n).align = .inFrame → framingHere (frameBits s n bits) = true → (s.sdhOf n).dLof = false →
        (readFrame s n ((frameBits s n bits).take len) (s.sdhOf n)).1 = f →
        (t.sdhOf n).kRun = (s.sdhOf n).kRun.step (f.k1 * 256 + f.k2) ∧
        (t.sdhOf n).b1 = satAdd 32 (s.sdhOf n).b1 f.b1viol ∧
        (3 ≤ (t.sdhOf n).kRun.count → (t.sdhOf n).k1 = f.k1 ∧ (t.sdhOf n).k2 = f.k2))) ∧
    (∀ bits, (s.lane n).losNow = true → ∃ t, exec (.sdhFrameRx n bits) s = .next t ∧
      onlyChanges [.lanes, .sdh, .paths, .test, .ev, .tally] s t ∧ (t.sdhOf n).align = .hunt ∧ (t.sdhOf n).dLof = false ∧
      (t.sdhOf n).dTim = false ∧ (t.sdhOf n).dAis = false) ∧
    ((s.sdhOf n).align ≠ .inFrame → 24 ≤ (s.sdhOf n).oofFrames → ∃ t, exec (.lofDeclare n) s = .next t ∧
      onlyChanges [.sdh, .ev, .tally] s t ∧ t.sdhOf n = { s.sdhOf n with dLof := true }) ∧
    ((s.sdhOf n).align = .inFrame → 24 ≤ (s.sdhOf n).inFrames → ∃ t, exec (.lofClear n) s = .next t ∧
      onlyChanges [.sdh, .ev, .tally] s t ∧ t.sdhOf n = { s.sdhOf n with dLof := false }) ∧
    (∀ g inc, (s.path n g).cfg.type ≠ 0 → 4 ≤ (s.path n g).sinceAdj → ∃ t, exec (.internalJustification n g inc) s = .next t ∧
      onlyChanges [.paths, .ev, .tally] s t ∧ (t.path n g).sinceAdj = 0 ∧ (t.path n g).action = (if (s.path n g).action = 3 then 3 else if inc then 1 else 2) ∧
      (t.path n g).offset = (if inc then ((s.path n g).offset + 1) % 783 else ((s.path n g).offset + 782) % 783)) ∧
    (laneOutput s n = 3 → ∃ t, exec (.sdhEgressFrame n) s = .next t ∧ onlyChanges [.sdh, .paths, .ev, .tally] s t ∧
      (t.sdhOf n).tx.s1 = s1Sent s n ∧ (t.sdhOf n).tx.m1 = (s.sdhOf n).m1Next ∧ (t.sdhOf n).j0Pos = ((s.sdhOf n).j0Pos + 1) % 16 ∧
      (t.sdhOf n).tx.b1 = (s.sdhOf n).txB1 ∧ (t.sdhOf n).txB1 = bip8 (t.sdhOf n).tx.line ∧
      ((portDef s n).aais = true → (t.sdhOf n).tx.k2 % 8 = 6) ∧ (t.sdhOf n).tx.aus.length = (s.pathsOf n).length) ∧
    (∀ ch, ch ≤ 4 → bit (s.sdhOf n).oh.capture ch = true → 8 ≤ s.now → tget 0 (s.sdhOf n).ohMark ch ≤ s.now / 8 * 8 - 8 → ∃ t,
      exec (.ohCaptureRecord n ch) s = .next t ∧ onlyChanges [.sdh, .ports, .ev, .tally] s t ∧
      t.sdhOf n = { s.sdhOf n with
        ohMark := tput 0 (s.sdhOf n).ohMark ch (s.now / 8 * 8 - 8 + 1)
        capDropped := if ringTakes (s.sdhOf n).oh.port 0 s then (s.sdhOf n).capDropped else satAdd 32 (s.sdhOf n).capDropped 1 }) ∧
    (∀ ch, ch ≤ 4 → ∃ t, exec (.ohInsertFlight n ch) s = .next t ∧ onlyChanges [.sdh, .ev, .tally] s t ∧
      (bit (s.sdhOf n).oh.insert ch = true → tget [] (s.sdhOf n).ohQueue ch = [] →
        (t.sdhOf n).insUnderrun = satAdd 32 (s.sdhOf n).insUnderrun 1) ∧
      (∀ r rest, bit (s.sdhOf n).oh.insert ch = true → tget [] (s.sdhOf n).ohQueue ch = r :: rest →
        tget [] (t.sdhOf n).ohQueue ch = rest ∧ tget [] (t.sdhOf n).ohSent ch = (r.drop 16).take (8 * ohBytes ch)))

/-- Error-rate detectors of sections, high-order and low-order paths: what a second and what a sub-window decide (04 R130, R131;
07 R212). -/
def Obligations.ErrorDetectors : Prop :=
  ∀ (u : DetUnit) (s : State), detReal u = true → detUp s u = true →
    (s.now % 8000 = 0 → (degOf s u).1.closed ≠ s.now + 1 → ∃ t, exec (.degSecondEnd u) s = .next t ∧
      onlyChanges [.sdh, .paths, .nurse, .ev, .tally] s t ∧
      ((degOf s u).1.masked = true → degOf t u = ({ closed := s.now + 1 }, (degOf s u).2)) ∧
      ((degOf s u).1.masked = false → (degLimits s u).1 ≤ (degOf s u).1.errored →
        degOf t u = ({ badRun := (degOf s u).1.badRun + 1, closed := s.now + 1 }, (degOf s u).2 || decide ((degLimits s u).2 ≤ (degOf s u).1.badRun + 1))) ∧
      ((degOf s u).1.masked = false → (degOf s u).1.errored < (degLimits s u).1 →
        degOf t u = ({ goodRun := (degOf s u).1.goodRun + 1, closed := s.now + 1 }, (degOf s u).2 && !decide ((degLimits s u).2 ≤ (degOf s u).1.goodRun + 1)))) ∧
    (s.now % 8000 ≠ 0 → ∃ t, exec (.degSecondEnd u) s = .next t ∧ onlyChanges [.sdh, .paths, .nurse, .ev, .tally] s t ∧ degOf t u = degOf s u) ∧
    (∀ isExc, s.now % berBeats (berLimits s isExc u).1 = 0 → (berOf s isExc u).1.closed ≠ s.now + 1 → ∃ t,
      exec (.berSubwindowEnd u isExc) s = .next t ∧ onlyChanges [.sdh, .paths, .nurse, .ev, .tally] s t ∧
      (berOf t isExc u).1 = ⟨0, ((berOf s isExc u).1.cur :: (berOf s isExc u).1.subs).take 10, s.now + 1⟩ ∧
      berOf t (!isExc) u = berOf s (!isExc) u ∧
      (berCount (berLimits s isExc u).1 (berLimits s isExc u).1 (berLimits s isExc u).2.1 (berLimits s isExc u).2.2 ≤
        (berOf s isExc u).1.total → (berOf t isExc u).2 = true) ∧
      ((berOf s isExc u).1.total <
        berCount (berLimits s isExc u).1 (berLimits s isExc u).1 (berLimits s isExc u).2.1 (berLimits s isExc u).2.2 →
        (berOf t isExc u).2 = ((berOf s isExc u).2 && !decide ((berOf s isExc u).1.total <
          berCount (berLimits s isExc u).1 ((berLimits s isExc u).1 + 1) (berLimits s isExc u).2.1 (berLimits s isExc u).2.2))))

/-- A CPRI port in use: received code groups are counted and move the synchronisation, dLOF follows 8 beats, the radio frame's offset is
taken, C&M records are captured and inserted, and the alignment stores slip and realign (05 R140-R146, R150-R153, R157, R163-R165). -/
def Obligations.CpriFrames : Prop :=
  ∀ (n : Nat) (s : State), n < 256 → cpriUp s n = true →
    (∀ codes at' w gs f, (s.lane n).losNow = false → (s.lane n).lolNow = false → (s.lane n).aligned = true → (s.lane n).loopback ≠ 1 →
      s.test.stings = [] → cpriW (cpriOption (s.lane n).mode) = w → hyperGroups s n codes = gs →
      readHyper w (s.lane n).scramble false gs = f → ∃ t, exec (.hyperframeRx n codes at') s = .next t ∧
        onlyChanges [.lanes, .cpri, .pm, .ev, .tally] s t ∧
        (t.lane n).cvInvalid = satAdd 32 (s.lane n).cvInvalid ((laneGroups n false codes s).1.filter Group.invalid).length ∧
        ((s.cpriOf n).held = [] → (s.cpriOf n).state = .hunt →
          (t.cpriOf n).state = if (huntWord w 4096 gs 0).isSome then .verify else .hunt) ∧
        ((s.cpriOf n).held = [] → (s.cpriOf n).synced = true → f.k285 = false → 3 ≤ (s.cpriOf n).missK → (t.cpriOf n).state = .hunt) ∧
        ((s.cpriOf n).held = [] → (s.cpriOf n).synced = true → f.k285 = false → (s.cpriOf n).missK < 3 →
          (t.cpriOf n).state = (s.cpriOf n).state ∧ (t.cpriOf n).missK = (s.cpriOf n).missK + 1) ∧
        ((s.cpriOf n).held = [] → (s.cpriOf n).synced = true → f.k285 = true → (t.cpriOf n).missK = 0 ∧ (t.cpriOf n).hfn = f.hfn ∧
          (t.cpriOf n).hfSlips = (if f.hfn ≠ (s.cpriOf n).hfnNext ∧ (s.cpriOf n).dLof = false then satAdd 32 (s.cpriOf n).hfSlips 1
            else (s.cpriOf n).hfSlips)) ∧
        ((s.cpriOf n).held = [] → (s.cpriOf n).state = .hfnSync → f.k285 = true → f.hfn = 0 → 1 ≤ (s.cpriOf n).bfnRun →
          f.bfn = (s.cpriOf n).bfnNext → (t.cpriOf n).state = .bfnSync) ∧
        ((s.cpriOf n).held = [] → (s.cpriOf n).state = .bfnSync → f.k285 = true → f.hfn = 0 → f.bfn ≠ (s.cpriOf n).bfnNext →
          (t.cpriOf n).state = if 1 ≤ (s.cpriOf n).bfnBad then .hfnSync else .bfnSync) ∧
        (∀ g, (s.cpriOf n).state = .verify → (s.cpriOf n).held.length = 4096 * w →
          readHyper w (s.lane n).scramble false (s.cpriOf n).held = g →
          (f.k285 = true → g.hfn ≤ 149 → f.hfn = (g.hfn + 1) % 150 → (t.cpriOf n).state = .hfnSync) ∧
          (huntWord w 8191 (((s.cpriOf n).held ++ gs).drop w) 0 = none → (t.cpriOf n).state = .hunt))) ∧
    (∀ codes at', (s.lane n).aligned = false → ∃ t, exec (.hyperframeRx n codes at') s = .next t ∧
      onlyChanges [.cpri, .test, .ev, .tally] s t ∧ (t.cpriOf n).state = .hunt ∧ (t.cpriOf n).held = []) ∧
    ((s.cpriOf n).dLof = false → 8 ≤ (s.cpriOf n).outBeats → ∃ t, exec (.cpriLofChange n) s = .next t ∧
      onlyChanges [.cpri, .ev, .tally] s t ∧ (t.cpriOf n).dLof = true) ∧
    ((s.cpriOf n).dLof = true → 8 ≤ (s.cpriOf n).inBeats → ∃ t, exec (.cpriLofChange n) s = .next t ∧
      onlyChanges [.cpri, .ev, .tally] s t ∧ (t.cpriOf n).dLof = false) ∧
    (s.now % 80 = 0 → (s.cpriOf n).rxAt ≠ s.now + 1 → (s.cpriOf n).synced = false ∨ (s.cpriOf n).rxMeas = [] → ∃ t,
      exec (.rxOffsetUpdate n) s = .next t ∧ onlyChanges [.cpri, .ev, .tally] s t ∧ (t.cpriOf n).rxValid = false ∧
      (t.cpriOf n).bfnValid = false) ∧
    (∀ v, s.now % 80 = 0 → (s.cpriOf n).rxAt ≠ s.now + 1 → (s.cpriOf n).state = .bfnSync → offsetMean true (s.cpriOf n).rxMeas = some v →
      ∃ t, exec (.rxOffsetUpdate n) s = .next t ∧ onlyChanges [.cpri, .ev, .tally] s t ∧
        (t.cpriOf n).rxOffset = v ∧ (t.cpriOf n).rxValid = true ∧ (t.cpriOf n).bfnValid = true ∧ (t.cpriOf n).rxMeas = [] ∧
        ((s.cpriOf n).rxValid = true → (s.cpriOf n).bfnValid = true → 500 < (v - (s.cpriOf n).rxOffset).natAbs → (t.cpriOf n).dAxf = true)) ∧
    (∀ group b, cmBounds (s.cpriOf n).rxPtr group = some b → bit (s.cpriOf n).cm.capture group = true → 8 ≤ s.now →
      tget 0 (s.cpriOf n).cmMark group ≤ 8 * (s.now / 8 - 1) → ∃ t, exec (.cmCaptureRecord n group) s = .next t ∧
      onlyChanges [.cpri, .ports, .ev, .tally] s t ∧
      t.cpriOf n = { s.cpriOf n with
        cmMark := tput 0 (s.cpriOf n).cmMark group (8 * (s.now / 8 - 1) + 1)
        cmDropped := if ringTakes (s.cpriOf n).cm.port 2 s then (s.cpriOf n).cmDropped else satAdd 32 (s.cpriOf n).cmDropped 1 }) ∧
    (∀ group b, cmBounds (s.cpriOf n).cfg.ethPtr group = some b → (s.cpriOf n).cfg.transport = 0 → bit (s.cpriOf n).cm.insert group = true →
      tget [] (s.cpriOf n).cmQueue group = [] → ∃ t, exec (.cmInsertFlight n group) s = .next t ∧ onlyChanges [.cpri, .ev, .tally] s t ∧
      (t.cpriOf n).cmUnderrun = satAdd 32 (s.cpriOf n).cmUnderrun 1) ∧
    (256 * (s.cpriOf n).resetLeft < (s.cpriOf n).resetRun + 480 → ∃ t, exec (.l1ResetEnd n) s = .next t ∧
      onlyChanges [.cpri, .ev, .tally] s t ∧ t.cpriOf n = { s.cpriOf n with resetLeft := 0, resetRun := 0 }) ∧
    (∀ i, (s.axc n 1 i).cfg.enable = 1 → (s.axc n 1 i).failed = false → axcBoundary s n = true →
      ((s.axc n 1 i).fill < 6510 → ∃ t, exec (.axcSlip n i) s = .next t ∧ onlyChanges [.axcs, .ev, .tally] s t ∧
        (t.axc n 1 i).fill = (s.axc n 1 i).fill + 26042 ∧ (t.axc n 1 i).bfShift = ((s.axc n 1 i).bfShift + 1) % 38400 ∧
        (t.axc n 1 i).slipsRepeat = satAdd 32 (s.axc n 1 i).slipsRepeat 1 ∧ t.shows (n / 8)) ∧
      (45573 < (s.axc n 1 i).fill → ∃ t, exec (.axcSlip n i) s = .next t ∧ onlyChanges [.axcs, .ev, .tally] s t ∧
        (t.axc n 1 i).fill = (s.axc n 1 i).fill - 26042 ∧ (t.axc n 1 i).bfShift = ((s.axc n 1 i).bfShift + 38399) % 38400 ∧
        (t.axc n 1 i).slipsDrop = satAdd 32 (s.axc n 1 i).slipsDrop 1 ∧ t.shows (n / 8)) ∧
      ((s.axc n 1 i).realign = true → ∃ t, exec (.axcRealign n i) s = .next t ∧ onlyChanges [.axcs, .fresh, .ev, .tally] s t ∧
        13021 ≤ (t.axc n 1 i).fill ∧ (t.axc n 1 i).fill < 39063 ∧ (t.axc n 1 i).realign = false ∧
        (t.axc n 1 i).realigns = satAdd 32 (s.axc n 1 i).realigns 1)) ∧
    (servoWorks s n = true → ∃ t, exec (.trimServoUpdate n) s = .next t ∧ onlyChanges [.lanes, .ev, .tally] s t ∧
      (t.lane n).trimTarget = (s.cpriOf n).servoTrim ∧ (∀ m, m ≠ n → t.lane m = s.lane m)) ∧
    ((s.cpriOf n).idle = true → ∃ t, exec (.trimServoUpdate n) s = .next t ∧ onlyChanges [.ev, .tally] s t)

/-! ### What the fabric, the pool and the protection groups do -/

/-- The Comb's regions, streams and tap (06 R190-R195): a bank that passes or fails its march, memory errors, a pattern checker's lock,
and the tap's records, which go to its BAR2 area in order. -/
def Obligations.CombEvents : Prop :=
  ∀ (s : State),
    (∀ r, r < 64 → (s.region r).state = 1 → (s.region r).start + 5 ≤ s.now → s.mode ≠ .lean → ∃ t,
      exec (.rotationStep r true) s = .next t ∧
      onlyChanges [.comb, .ev, .tally] s t ∧
      ((s.region r).step + 5 < 40 → (t.region r).state = 1 ∧ (t.region r).step = (s.region r).step + 5 ∧ (t.region r).start = s.now) ∧
      (40 ≤ (s.region r).step + 5 → (t.region r).state = 0 ∧ (t.region r).step = 0 ∧ t.shows 66)) ∧
    (∀ r, r < 64 → (s.region r).state = 1 → (s.region r).start + 5 ≤ s.now → s.mode ≠ .lean → ∃ t,
      exec (.rotationStep r false) s = .next t ∧
      onlyChanges [.comb, .guard, .hive, .ports, .ev, .tally] s t ∧ (t.region r).state = 2 ∧
      (t.region r).badBank = some ((s.region r).step / 5) ∧ t.shows 67) ∧
    (∀ r ok, s.mode = .lean → ∃ t, exec (.rotationStep r ok) s = .next t ∧ onlyChanges [.ev, .tally] s t) ∧
    (∀ r unit, r < 64 → ∃ t, exec (.combEccError r unit true) s = .next t ∧ onlyChanges [.comb, .ev, .tally] s t ∧
      (t.region r).eccCorrected = satAdd 32 (s.region r).eccCorrected 1) ∧
    (∀ r unit, r < 64 → ∃ t, exec (.combEccError r unit false) s = .next t ∧
      onlyChanges [.comb, .guard, .hive, .ports, .ev, .tally] s t ∧ (t.region r).eccUncorrected = satAdd 32 (s.region r).eccUncorrected 1 ∧
      (t.region r).state = (if (s.region r).state = 2 then 3 else (s.region r).state)) ∧
    (∀ port stream rx left d seen, (prbsPoly (field (s.stream port stream).pattern 0 3)).1 = d →
      (bitsOf (s.stream port stream).rx).take ((bitsOf (s.stream port stream).rx).length - left) = seen →
      locksOn (.comb port stream) (seen.drop (seen.length - (64 + d))) s = true → bit (s.stream port stream).pattern 5 = true →
      (s.stream port stream).locked = false → ∃ t, exec (.prbsLock (.comb port stream) rx left) s = .next t ∧
      onlyChanges [.comb, .ev, .tally] s t ∧ (t.stream port stream).locked = true ∧ t.shows 70) ∧
    (∀ port stream bits errs, (s.stream port stream).locked = true → (s.stream port stream).broken = true → ∃ t,
      exec (.prbsUnlock (.comb port stream) bits errs) s = .next t ∧ onlyChanges [.comb, .ev, .tally] s t ∧
      t.stream port stream = { s.stream port stream with locked := false, broken := false, errs := [] } ∧ t.shows 70) ∧
    (s.comb.tap.state = 2 → ∃ t, exec .tapRecord s = .next t ∧ onlyChanges [.comb, .bus, .ev, .tally] s t ∧
      t.comb.tap.done = s.comb.tap.done + 1 ∧
      t.comb.tap.written = s.comb.tap.written + ((List.range 8).filter fun g => bit s.comb.tap.mask g).length ∧
      t.comb.tap.state = (if s.comb.tap.beats ≤ s.comb.tap.done + 1 then 3 else 2) ∧
      ∀ a, a < s.comb.tap.bar2 + 1024 * s.comb.tap.written ∨ s.comb.tap.bar2 + 1024 * t.comb.tap.written ≤ a →
        memRead t.bus.bar2 a = memRead s.bus.bar2 a)

/-- A tributary in use and the AxC groups of a nurse unit: a period moves the pointer interpreter, AIS follows three all-ones pointers,
the egress carries unequipped or AIS where its cells do, the map rate stays within 200 ppm, and dPLAY follows the slips (07 R203-R207,
R219, R225). -/
def Obligations.NurseEvents : Prop :=
  ∀ (b g : Nat) (s : State), b < 96 →
    (∀ tu type fs rest, (s.vcOf b g).cfg.enable = 1 → tuType (s.vcOf b g).cfg tu = some type →
      takePeriod type (s.tuOf b g tu).rx = (some fs, rest) → s.test.stings = [] → ∃ t,
      exec (.tuPointerInterpret b g tu) s = .next t ∧ onlyChanges [.nurse, .pm, .ev, .tally] s t ∧
      (t.tuOf b g tu).ptr = ((s.tuOf b g tu).ptr.step (tuRange type) (tuPeriod type fs).word).1 ∧ (t.tuOf b g tu).rx = rest ∧
      ((s.tuOf b g tu).ptr.mode = .norm → (s.tuOf b g tu).ptr.aisRun = 2 → (tuPeriod type fs).word = 0xFFFF →
        (t.tuOf b g tu).ptr.mode = .ais)) ∧
    (∀ tu type, (s.vcOf b g).cfg.enable = 1 → tuType (s.vcOf b g).cfg tu = some type → ∃ t, exec (.tuEgressBuild b g tu) s = .next t ∧
      onlyChanges [.nurse, .ev, .tally] s t ∧
      ((tuOutput s b g tu).1 = false → (t.tuOf b g tu).txUneq = true ∧ (t.tuOf b g tu).txAis = false ∧ (t.tuOf b g tu).txPtr = 0) ∧
      ((tuOutput s b g tu).1 = true → (tuOutput s b g tu).2 = true → (t.tuOf b g tu).txAis = true ∧ (t.tuOf b g tu).txWord = 0xFFFF) ∧
      (∀ e, (tuOutput s b g tu).1 = true → (tuOutput s b g tu).2 = false → tuSource s b g tu = some e →
        (s.tuOf e.1 e.2.1 e.2.2).pubs ≠ [] →
        (t.tuOf b g tu).txAis = false ∧ (t.tuOf b g tu).txUneq = false ∧ (t.tuOf b g tu).txRaw = false)) ∧
    (∀ i e, (s.axvOf b 0 g).cfg.enable = 1 → (s.axvOf b 0 g).cfg.axcs[i]? = some e → ∃ t, exec (.mapRateUpdate b g i) s = .next t ∧
      onlyChanges [.nurse, .ev, .tally] s t ∧
      ((t.axvOf b 0 g).axcOf i).rate = mapRateOf e.nBits (axcBytes e.nBits + ((s.axvOf b 0 g).axcOf i).buf.length) ∧
      axcBytes e.nBits * 65536 - axcBytes e.nBits * 65536 * 2 / 10000 ≤ ((t.axvOf b 0 g).axcOf i).rate ∧
      ((t.axvOf b 0 g).axcOf i).rate ≤ axcBytes e.nBits * 65536 + axcBytes e.nBits * 65536 * 2 / 10000) ∧
    (∀ i late, (s.axvOf b 1 g).cfg.enable = 1 → i < (s.axvOf b 1 g).cfg.axcs.length →
      0 < (if late then ((s.axvOf b 1 g).axcOf i).slips else ((s.axvOf b 1 g).axcOf i).earlies) → ∃ t,
      exec (.playSlip b g i late) s = .next t ∧ onlyChanges [.nurse, .ev, .tally] s t ∧
      ((t.axvOf b 1 g).axcOf i).playSlips = satAdd 32 ((s.axvOf b 1 g).axcOf i).playSlips 1) ∧
    (∀ i, (s.axvOf b 1 g).cfg.enable = 1 → i < (s.axvOf b 1 g).cfg.axcs.length → ∃ t, exec (.playDefectChange b g i) s = .next t ∧
      onlyChanges [.nurse, .ev, .tally] s t ∧
      (((s.axvOf b 1 g).axcOf i).dPlay = false → 8 ≤ ((s.axvOf b 1 g).axcOf i).slipBeats →
        ((t.axvOf b 1 g).axcOf i).dPlay = true ∧ t.shows (nurseSrc b)) ∧
      (((s.axvOf b 1 g).axcOf i).dPlay = true → 80 ≤ ((s.axvOf b 1 g).axcOf i).cleanBeats →
        ((t.axvOf b 1 g).axcOf i).dPlay = false ∧ t.shows (nurseSrc b)))

/-- Entries and channels of the pool: members enter and leave IN, alignment, lag, twins, refresh and errors, the failure and the return of a
channel, which holds no copy of the PM bins while it is out (08 R237-R255; 15 R486). -/
def Obligations.PoolEvents : Prop :=
  ∀ (k d : Nat) (s : State),
    ((s.entry k).used = true → (s.entry k).cfg.isOn = true →
      (∀ i, i < (s.entry k).cfg.memberSize.2 → (s.entry k).state = 1 ∨ (s.entry k).state = 2 ∨ (s.entry k).state = 3 →
        (((s.entry k).memberOf i).isIn = false → 2 ≤ ((s.entry k).memberOf i).follow1 → 1 ≤ ((s.entry k).memberOf i).follow2 → ∃ t,
          exec (.memberMfiChange k i) s = .next t ∧ onlyChanges [.pool, .ev, .tally] s t ∧ ((t.entry k).memberOf i).isIn = true ∧
          ((t.entry k).memberOf i).dLom = false ∧
          ((t.entry k).memberOf i).next = (((s.entry k).memberOf i).next + ((s.entry k).memberOf i).delta) % 4096 ∧
          ∀ j, j ≠ i → (t.entry k).memberOf j = (s.entry k).memberOf j) ∧
        (((s.entry k).memberOf i).isIn = true → 3 ≤ ((s.entry k).memberOf i).break1 ∨ 2 ≤ ((s.entry k).memberOf i).break2 ∨
            8 ≤ ((s.entry k).memberOf i).dead → ∃ t,
          exec (.memberMfiChange k i) s = .next t ∧ onlyChanges [.pool, .ev, .tally] s t ∧ ((t.entry k).memberOf i).isIn = false ∧
          ((t.entry k).memberOf i).outFrames = 0 ∧ ∀ j, j ≠ i → (t.entry k).memberOf j = (s.entry k).memberOf j)) ∧
      (2 ≤ (if (s.entry k).dLoa then (s.entry k).nearMf else (s.entry k).farMf) → (s.entry k).state = 1 ∨ (s.entry k).state = 2 → ∃ t,
        exec (.loaChange k) s = .next t ∧ onlyChanges [.pool, .ev, .tally] s t ∧
        t.entry k = { s.entry k with dLoa := !(s.entry k).dLoa }) ∧
      ((s.entry k).state = 2 → (if (s.entry k).cfg.isTwin then ((s.entry k).memberOf 0).late && ((s.entry k).memberOf 1).late
          else (s.entry k).starved (s.now + 1)) = true → ∃ t, exec (.groupRealign k) s = .next t ∧
        onlyChanges [.pool, .ev, .tally] s t ∧ (t.entry k).hit = 2 ∧ (t.entry k).ref = (s.entry k).extremes.2.2 ∧
        (t.entry k).realigns = satAdd 32 (s.entry k).realigns 1) ∧
      ((s.entry k).state = 2 → (s.entry k).cfg.kindIsDelay = false → 4 ≤ (s.entry k).sinceAdj → ∃ t,
        exec (.outputLagAdjust k) s = .next t ∧ onlyChanges [.pool, .ev, .tally] s t ∧
        ((s.entry k).lag (s.now + 1) ≤ 4 → (t.entry k).outAction = 1 ∧ (t.entry k).sinceAdj = 0) ∧
        (12 ≤ (s.entry k).lag (s.now + 1) → (t.entry k).outAction = 2 ∧ (t.entry k).sinceAdj = 0) ∧
        (4 < (s.entry k).lag (s.now + 1) → (s.entry k).lag (s.now + 1) < 12 → t.entry k = s.entry k))) ∧
    (∀ a F out, (s.entry k).cfg = .twin a → (s.entry k).used = true → a.enable = 1 → (s.entry k).state = 2 →
      ((s.entry k).outFrame + 1) % 4096 = F → 783 * (s.now + 1) + (s.entry k).outOffset = out →
      (∀ i, i < 2 → ((s.entry k).memberOf i).isIn = true → ∃ n, (s.entry k).agedBy i F = some n ∧ 2 ≤ n) →
      (s.entry k).picks.any (fun x => x.1 == F) = false →
      (a.preferred = 0 → (s.entry k).copyClean 0 F = true → (s.entry k).copyLate 0 F out = false → ∃ t,
        exec (.twinSelect k) s = .next t ∧ onlyChanges [.pool, .ev, .tally] s t ∧
        (t.entry k).picks = (s.entry k).picks ++ [(F, false, false)] ∧ (t.entry k).framesA = satAdd 32 (s.entry k).framesA 1 ∧
        (t.entry k).framesB = (s.entry k).framesB ∧ (t.entry k).neither = (s.entry k).neither) ∧
      (a.preferred = 0 → (s.entry k).copyClean 0 F = false → (s.entry k).copyClean 1 F = true → (s.entry k).copyLate 1 F out = false → ∃ t,
        exec (.twinSelect k) s = .next t ∧ onlyChanges [.pool, .ev, .tally] s t ∧
        (t.entry k).picks = (s.entry k).picks ++ [(F, true, false)] ∧ (t.entry k).framesB = satAdd 32 (s.entry k).framesB 1 ∧
        (t.entry k).framesA = (s.entry k).framesA ∧ (t.entry k).neither = (s.entry k).neither) ∧
      ((s.entry k).copyClean 0 F = false → (s.entry k).copyClean 1 F = false → ∃ t,
        exec (.twinSelect k) s = .next t ∧ onlyChanges [.pool, .ev, .tally] s t ∧
        (t.entry k).picks = (s.entry k).picks ++ [(F, a.preferred == 1, true)] ∧
        (t.entry k).neither = satAdd 32 (s.entry k).neither 1 ∧ (t.entry k).framesA = (s.entry k).framesA ∧
        (t.entry k).framesB = (s.entry k).framesB)) ∧
    (∀ a, (s.entry k).cfg = .twin a → (s.entry k).used = true → (s.entry k).state = 3 → (s.entry k).selB ≠ (a.preferred == 1) →
      8000 ≤ (s.entry k).clean → ∃ t, exec (.bypassRevert k) s = .next t ∧ onlyChanges [.pool, .ev, .tally] s t ∧
      (t.entry k).selB = (a.preferred == 1) ∧ (t.entry k).hit = max 1 (s.entry k).hit) ∧
    ((s.entry k).used = true → (s.entry k).cfg.isOn = true → (s.entry k).cfg.isTwin = true → (s.entry k).state = 3 →
      (s.entry k).returning = true → (s.entry k).canAlign = true → (s.chan (s.entry k).cfg.chan).state = 0 → s.mode ≠ .lean →
      (s.now + 1) % vcatBeats = 0 → ∃ t, exec (.twinBypassReturn k) s = .next t ∧ onlyChanges [.pool, .ev, .tally] s t ∧
      (t.entry k).state = 2 ∧ (t.entry k).returning = false ∧ (t.entry k).aisLeft = (s.entry k).returnAis) ∧
    (∀ slot, s.entryAt slot = some k → (s.entry k).cfg.chan < 4 → ∃ t, exec (.poolEccError slot) s = .next t ∧
      onlyChanges [.pool, .pm, .guard, .hive, .ports, .ev, .tally] s t ∧
      (t.chan (s.entry k).cfg.chan).eccUncorrected = satAdd 32 (s.chan (s.entry k).cfg.chan).eccUncorrected 1 ∧
      t.shows (76 + 4 * (s.entry k).cfg.chan) ∧
      ((s.chan (s.entry k).cfg.chan).uncSecond < 7 → onlyChanges [.pool, .ev, .tally] s t) ∧
      ((s.chan (s.entry k).cfg.chan).state = 0 → 7 ≤ (s.chan (s.entry k).cfg.chan).uncSecond →
        (t.chan (s.entry k).cfg.chan).state = 1 ∧ (t.chan (s.entry k).cfg.chan).cause = 2)) ∧
    (d < 4 → (s.chan d).state = 0 →
      (∀ r, r < (s.chan d).ranks →
        (∃ t, exec (.refreshPlace d r false false) s = .next t ∧ onlyChanges [.pool, .ev, .tally] s t ∧
          t.chan d = { s.chan d with postponed := tput 0 (s.chan d).postponed r 0 }) ∧
        (tget 0 (s.chan d).postponed r < 4 → ∃ t, exec (.refreshPlace d r true false) s = .next t ∧
          onlyChanges [.pool, .ev, .tally] s t ∧ t.chan d = { s.chan d with
            postponed := tput 0 (s.chan d).postponed r (tget 0 (s.chan d).postponed r + 1)
            deferred := satAdd 32 (s.chan d).deferred 1 }) ∧
        (4 ≤ tget 0 (s.chan d).postponed r → ∃ t, exec (.refreshPlace d r true false) s = .next t ∧
          onlyChanges [.pool, .clk, .ev, .tally] s t ∧ (t.chan d).singleCopy = satAdd 32 (s.chan d).singleCopy 1 ∧
          tget 0 (t.chan d).postponed r = 0 ∧ t.clk = { s.clk with ovPool := satAdd 32 s.clk.ovPool 1 } ∧ t.shows (77 + 4 * d)) ∧
        ((s.chan d).retrainSince = none → ∃ t, exec (.refreshPlace d r true true) s = .next t ∧ onlyChanges [.pool, .ev, .tally] s t ∧
          t.chan d = { s.chan d with retrainSince := some s.now })) ∧
      (∃ t, exec (.ddrRequestTimeout d) s = .next t ∧ onlyChanges [.pool, .pm, .guard, .hive, .ports, .ev, .tally] s t ∧
        (t.chan d).state = 1 ∧ (t.chan d).cause = 1 ∧ d ∉ t.pm.copies ∧ t.shows (75 + 4 * d)) ∧
      (8 ≤ (s.chan d).uncSecond → ∃ t, exec (.channelFail d 2) s = .next t ∧
        onlyChanges [.pool, .pm, .guard, .hive, .ports, .ev, .tally] s t ∧ (t.chan d).state = 1 ∧ (t.chan d).cause = 2 ∧
        t.shows (75 + 4 * d))) ∧
    (∀ size ranks rate, d < 4 → (s.chan d).state = 4 → size ≠ 0 → s.pool.rate ≤ rate → ∃ t,
      exec (.channelTrainingDone d size ranks rate 0) s = .next t ∧ onlyChanges [.pool, .pm, .ev, .tally] s t ∧
      t.chan d = { s.chan d with
        state := 5
        cause := 0
        size := size
        ranks := ranks
        maxRate := rate
        retrainSince := none
        postponed := [] } ∧ t.shows (75 + 4 * d)) ∧
    (∀ size ranks rate, d < 4 → (s.chan d).state = 4 → size ≠ 0 → rate < s.pool.rate → ∃ t,
      exec (.channelTrainingDone d size ranks rate 0) s = .next t ∧ (t.chan d).state = 1 ∧ (t.chan d).cause = 7 ∧ t.shows (75 + 4 * d)) ∧
    (d < 4 → (s.chan d).state ≠ 0 → (s.pool.waiters.any fun w => w.1 == d) = true → ∃ t, exec (.channelReturnDone d) s = .next t ∧
      onlyChanges [.pool, .pm, .guard, .ports, .sems, .ev, .tally] s t ∧ (t.chan d).state = 0 ∧ (t.chan d).cause = 0 ∧
      (t.pool.waiters.any fun w => w.1 == d) = false)

/-- Protection groups: an evaluation takes requests and asks for movements but moves no selector (that movement comes with the next
beat: 09 R280), a lockout is taken at once; hold-off, wait-to-restore, dFOP-CM and the hitless switch (09 R262-R277). -/
def Obligations.ProtectionEvents : Prop :=
  ∀ (n : Nat) (s : State),
    (s.clk.started = true → s.hive.role ≠ .standby → ∃ t, exec .protEvaluate s = .next t ∧ onlyChanges [.prot, .hive, .ev, .tally] s t ∧
      (t.group n).cfg = (s.group n).cfg ∧ (t.group n).sel = (s.group n).sel ∧
      (∀ g, s.prot = [(n, g)] → g.cfg.enable = 1 → g.cfg.kind ≤ 3 → g.command = 1 →
        (t.group n).request = 1 ∧ (t.group n).move = if g.sel then some false else none)) ∧
    ((s.group n).cfg.enable = 1 →
      ((s.group n).holdW = some 0 → (triggers s (s.group n).cfg).1 ≠ 0 → ∃ t, exec (.holdoffExpiry n false) s = .next t ∧
        onlyChanges [.prot, .ev, .tally] s t ∧ t.group n = { s.group n with holdW := none, reqW := (triggers s (s.group n).cfg).1 }) ∧
      ((s.group n).holdP = some 0 → (triggers s (s.group n).cfg).2 ≠ 0 → ∃ t, exec (.holdoffExpiry n true) s = .next t ∧
        onlyChanges [.prot, .ev, .tally] s t ∧ t.group n = { s.group n with holdP := none, reqP := (triggers s (s.group n).cfg).2 }) ∧
      ((s.group n).request = 10 → (s.group n).wtrLeft = 0 → ∃ t, exec (.wtrExpiry n) s = .next t ∧
        onlyChanges [.prot, .ev, .tally] s t ∧ t.group n = { s.group n with request := 12 }) ∧
      ((s.group n).bidir = true → 400 ≤ (s.group n).cmBeats → ∃ t, exec (.fopCmExpiry n) s = .next t ∧
        onlyChanges [.prot, .ev, .tally] s t ∧ t.group n = { s.group n with fopCm := true }) ∧
      ((s.group n).waitHitless = true → hitlessReady s (s.group n) = true → (s.now + 1) % radioBeats = 0 → ∃ t,
        exec (.cpriHitlessSwitch n) s = .next t ∧ onlyChanges [.prot, .ev, .tally] s t ∧
        t.group n = { s.group n with move := some !(s.group n).sel, waitHitless := false }))

/-! ### The Scout -/

/-- An input fails, recovers, qualifies and waits to restore; its offset, suspicion, drift and phase are taken (11 R313-R317, R328). -/
def Obligations.ScoutInputs : Prop :=
  ∀ (i : Nat) (s : State),
    (∀ cause, causeHolds s i cause = true → (s.inp i).state ≠ .disabled → (s.inp i).state ≠ .failed → ∃ t,
      exec (.inputFail i cause) s = .next t ∧ onlyChanges [.scout, .ports, .ev, .tally] s t ∧ (t.inp i).state = .failed ∧
      (t.inp i).failing = true ∧ (t.inp i).cause = cause ∧ (t.inp i).failures = satAdd 32 (s.inp i).failures 1 ∧ t.shows 97 ∧
      ∀ j, j ≠ i → t.inp j = s.inp j) ∧
    ((s.inp i).failing = true → (s.inp i).state = .failed → ([2, 3, 4, 5].any (causeHolds s i)) = false →
      (s.inp i).cause = 7 ∨ causeHolds s i 6 = false → ∃ t,
      exec (.inputFailClear i) s = .next t ∧ onlyChanges [.scout, .ports, .ev, .tally] s t ∧ (t.inp i).failing = false ∧
      (t.inp i).state = .qualifying ∧ t.shows 97) ∧
    ((s.inp i).state = .qualifying → (s.inp i).failing = false → (s.inp i).mean10.natAbs ≤ (s.inp i).cfg.softLimit * 10000 →
      8000 * (s.inp i).cfg.qualTime ≤ (s.inp i).okBeats → ∃ t, exec (.inputQualify i) s = .next t ∧ onlyChanges [.scout, .ports, .ev, .tally] s t ∧ t.shows 97 ∧
      ((s.inp i).wasFailed = false → (t.inp i).state = .qualified) ∧
      ((s.inp i).wasFailed = true → (t.inp i).state = .wtr ∧ (t.inp i).wtrLeft = (s.inp i).cfg.wtr * 480000)) ∧
    ((s.inp i).state = .wtr → (s.inp i).wtrLeft = 0 → ∃ t, exec (.inputWtrExpiry i) s = .next t ∧
      onlyChanges [.scout, .ports, .ev, .tally] s t ∧ t.inp i = { s.inp i with state := .qualified, okBeats := 0 } ∧ t.shows 97) ∧
    (∀ (raw offset : Int) raws, (s.inp i).cfg.enable = 1 → ((raw - monitorRef s) :: (s.inp i).raws).take 100 = raws →
      meanInt (raws.take (offsetSpans i).1) = offset → ∃ t, exec (.inputOffsetUpdate i raw) s = .next t ∧
      onlyChanges [.scout, .ev, .tally] s t ∧ t.inp i = { s.inp i with
        raws := raws
        offset := offset
        mean10 := meanInt (raws.take (offsetSpans i).2)
        sumOff := (s.inp i).sumOff + (raw - monitorRef s)
        nOff := (s.inp i).nOff + 1
        hardRun := if (s.inp i).cfg.hardLimit * 10000 < offset.natAbs then (s.inp i).hardRun + 1 else 0 }) ∧
    ((s.inp i).cfg.enable = 1 → (s.inp i).suspect = false → (s.inp i).cfg.softLimit * 10000 < (s.inp i).mean10.natAbs → ∃ t,
      exec (.suspectChange i) s = .next t ∧ onlyChanges [.scout, .ev, .tally] s t ∧ t.inp i = { s.inp i with suspect := true } ∧
      t.shows 98) ∧
    ((s.inp i).suspect = true → (s.inp i).mean10.natAbs ≤ (s.inp i).cfg.softLimit * 9000 → 480000 ≤ (s.inp i).calmBeats → ∃ t,
      exec (.suspectChange i) s = .next t ∧ onlyChanges [.scout, .ev, .tally] s t ∧ t.inp i = { s.inp i with suspect := false } ∧
      t.shows 98) ∧
    (∀ means : List Int, (s.inp i).cfg.enable = 1 → 10 * (offsetSpans i).2 ≤ (s.inp i).nOff →
      ((s.inp i).sumOff / (max 1 (s.inp i).nOff : Nat) :: (s.inp i).means).take 36 = means → ∃ t,
      exec (.driftUpdate i) s = .next t ∧ onlyChanges [.scout, .ports, .ev, .tally] s t ∧ (t.inp i).means = means ∧
      (t.inp i).nOff = 0 ∧ (t.inp i).sumOff = 0 ∧
      (means.length < 36 → (t.inp i).drift = (s.inp i).drift ∧ (t.inp i).onset = (s.inp i).onset) ∧
      (36 ≤ means.length → (t.inp i).drift = driftSlope means ∧
        ((s.inp i).cfg.driftLimit < (driftSlope means).natAbs → (s.inp i).driftRun = 1 → (s.inp i).onset = 0 →
          (t.inp i).onset = max 1 ((s.inp i).firstOver - 28800000) ∧ t.shows 99))) ∧
    (∀ edge e : Int, i = 0 ∨ i = 1 → edge - (s.inp i).cfg.ppsComp = e → ∃ t, exec (.ppsEdge i edge) s = .next t ∧
      onlyChanges [.scout, .ev, .tally] s t ∧ (t.inp i).phase = e ∧ (t.inp i).es = (e :: (s.inp i).es).take 8 ∧
      (s.scout.phase = some i → t.scout.eBar = meanInt ((e :: (s.inp i).es).take 8))) ∧
    (∀ edge : Int, i = 18 ∨ i = 19 → ∃ t, exec (.ppsEdge i edge) s = .next t ∧ onlyChanges [.scout, .ev, .tally] s t ∧
      (t.inp i).phase = edge ∧ (t.inp i).es = (edge :: (s.inp i).es).take 80)

/-- Selection and switches, the DPLL's states, steering, holdover, the model, time of day and squelch (11 R308-R309, R320-R344). -/
def Obligations.ScoutControl : Prop :=
  ∀ (s : State),
    (∀ k, s.scout.dpllCfg.xoFreq ≠ 0 → s.hive.role ≠ .standby → s.scout.sel.mode = 1 → s.scout.sel.input = k → isQualified s k = true →
      s.scout.stage = .idle → s.scout.freq ≠ some k → ∃ t, exec .freqSelect s = .next t ∧ onlyChanges [.scout, .ports, .ev, .tally] s t ∧
      t.scout.stage = .measure ∧ t.scout.target = some k ∧ t.scout.freq = s.scout.freq) ∧
    (s.scout.dpllCfg.xoFreq ≠ 0 → s.hive.role ≠ .standby → s.scout.sel.mode = 4 → ∃ t, exec .freqSelect s = .next t ∧
      onlyChanges [.scout, .ports, .ev, .tally] s t ∧ t.scout.state = .freerun ∧ t.scout.freq = none ∧ t.scout.stage = .idle) ∧
    (∀ delta freqDiff : Int, s.scout.stage = .measure → measured1s s.scout = true → ∃ t, exec (.switchMeasureDone delta freqDiff) s = .next t ∧
      onlyChanges [.scout, .ev, .tally] s t ∧ t.scout = { s.scout with
        stage := .buildOut
        buildOut := delta
        freqDiff := freqDiff
        stageBeats := 0 }) ∧
    (∀ k, s.scout.stage = .buildOut → 1 ≤ s.scout.stageBeats → s.scout.target = some k → ∃ t, exec .switchClose s = .next t ∧
      onlyChanges [.scout, .ports, .ev, .tally] s t ∧ t.scout.stage = .idle ∧ t.scout.target = none ∧ t.scout.freq = some k ∧
      (s.scout.state = .acquiring ∨ s.scout.state = .freerun ∨ 50 < s.scout.freqDiff.natAbs → t.scout.state = .acquiring)) ∧
    (∀ k, s.scout.phTarget = some k → 8 ≤ s.scout.phEdges → s.now % 8000 = 0 → ∃ t, exec .phaseChangeClose s = .next t ∧
      onlyChanges [.scout, .ports, .ev, .tally] s t ∧ t.scout.phase = some k ∧ t.scout.phTarget = none ∧ t.shows 103) ∧
    (s.scout.state = .acquiring → s.scout.freq.isSome = true → stepBeats s.scout.dpllCfg.bwFinal s.scout.bw ≤ s.scout.lockBeats → ∃ t,
      exec .dpllStep s = .next t ∧
      onlyChanges [.scout, .ports, .ev, .tally] s t ∧ (s.scout.bw = s.scout.dpllCfg.bwFinal → t.scout.state = .locked ∧ t.shows 93) ∧
      (s.scout.bw ≠ s.scout.dpllCfg.bwFinal → t.scout.state = .acquiring)) ∧
    (s.scout.state = .locked ∨ s.scout.state = .acquiring → 8000 ≤ s.scout.strayBeats → ∃ t, exec .dpllLockLoss s = .next t ∧
      onlyChanges [.scout, .ports, .ev, .tally] s t ∧ t.scout.state = .acquiring ∧ t.scout.bw = 1000) ∧
    (∀ w, s.scout.wordNext = some w → s.scout.state = .hand → ∃ t, exec .steerWordApply s = .next t ∧ onlyChanges [.scout, .ev, .tally] s t ∧
      t.scout.word = rampWord s.scout.word w) ∧
    (s.scout.state = .hand → s.scout.dpllCfg.steerTimeout ≤ s.scout.handBeats → ∃ t, exec .steerTimeout s = .next t ∧
      onlyChanges [.scout, .ports, .ev, .tally] s t ∧ t.scout.state = .holdover ∧ t.scout.freq = none ∧ t.shows 105) ∧
    (∃ t, exec .oscillatorFault s = .next t ∧ onlyChanges [.scout, .guard, .hive, .ports, .ev, .tally] s t ∧ t.scout.oscFault = true ∧
      t.shows 109) ∧
    (∃ t, exec (.xotempRead none) s = .next t ∧ onlyChanges [.scout, .ev, .tally] s t ∧ t.scout.xoFault = true) ∧
    (∀ v : Int, ∃ t, exec (.xotempRead (some v)) s = .next t ∧ onlyChanges [.scout, .ev, .tally] s t ∧
      t.scout = { s.scout with
        xotemp := v
        xoFault := false }) ∧
    (s.scout.state = .locked → (∀ n, s.scout.modelAt = some n → n + 8000 ≤ s.now) → ∃ t, exec .modelUpdate s = .next t ∧ onlyChanges [.scout, .hive, .ev, .tally] s t ∧
      t.scout.bin (modelBin s.scout.xotemp) = (s.scout.bin (modelBin s.scout.xotemp)).add
        (s.scout.word - s.scout.aging * ((s.now : Int) - s.scout.agingAt) / 8000000) ∧ t.shows 113) ∧
    (72000 ≤ (s.scout.hist.filter fun e => e.2.2).length → (∀ n, s.scout.agingLast = some n → n + 28800000 ≤ s.now) → ∃ t, exec .agingRecompute s = .next t ∧ onlyChanges [.scout, .ev, .tally] s t ∧
      t.scout = { s.scout with
        aging := agingSlope s.scout.hist
        agingOk := true
        agingAt := s.now
        agingLast := some s.now }) ∧
    (s.scout.state = .holdover → ∃ t, exec .holdoverBoundUpdate s = .next t ∧ onlyChanges [.scout, .ports, .ev, .tally] s t ∧
      t.scout.bound = boundAt s.scout ((s.now - s.scout.lossBeat) / 8000)) ∧
    (s.keeper.serving = true → ∃ t, exec .modelSave s = .next t ∧ onlyChanges [.sec, .ev, .tally] s t ∧
      t.sec = { s.sec with modelFlash := some (savedModel s.scout) }) ∧
    (∀ b sec bfn, s.scout.todPend = some (b, sec, bfn) → b ≤ s.now → s.clk.started = true →
      s.mode = .carry ∨ s.mode = .provision ∨ s.mode = .autopilot → ∃ t, exec .todApply s = .next t ∧
      onlyChanges [.scout, .pm, .ports, .ev, .tally] s t ∧ t.scout.todPend = none ∧ t.scout.todValid = true ∧ t.scout.tod = sec) ∧
    (∀ o, o < 11 → (s.scoutOut o).squelched ≠ squelchHolds s o → ∃ t, exec (.squelchChange o) s = .next t ∧
      onlyChanges [.scout, .ev, .tally] s t ∧ t.scoutOut o = { s.scoutOut o with squelched := squelchHolds s o } ∧ t.shows 112)

/-! ### The bus, tests, security and the flash -/

/-- Error responses, the remap, SRAM and DDR errors, the background test, the patrol scrub and the DDR temperatures (15 R473-R489). -/
def Obligations.BusEvents : Prop :=
  ∀ (s : State),
    (∀ m addr, m < 14 → connected s m (targetOf s addr) = true → worldBreach s m addr = none → ∃ t,
      exec (.busTransactionTimeout m addr) s = .next t ∧ onlyChanges [.bus, .guard, .hive, .ports, .ev, .tally] s t ∧
      t.bus = { s.bus with
        timeouts := satAdd 32 s.bus.timeouts 1
        lastMaster := m
        lastKind := 2
        lastAddr := addr % 2 ^ 40
        lastSealed := false } ∧ t.shows 308) ∧
    (∀ m addr, m < 14 → connected s m (targetOf s addr) = false → ∃ t, exec (.defaultTargetResponse m addr) s = .next t ∧
      onlyChanges [.bus, .guard, .hive, .ports, .ev, .tally] s t ∧ t.bus = { s.bus with
        defaultHits := satAdd 32 s.bus.defaultHits 1
        lastMaster := m
        lastKind := 1
        lastAddr := addr % 2 ^ 40
        lastSealed := false } ∧ t.shows 307) ∧
    (∀ m addr i, m < 14 → connected s m (targetOf s addr) = true → worldBreach s m addr = some i → ∃ t,
      exec (.defaultTargetResponse m addr) s = .next t ∧
      onlyChanges [.bus, .guard, .hive, .ports, .ev, .tally] s t ∧ t.bus.defaultHits = satAdd 32 s.bus.defaultHits 1 ∧
      t.bus.lastKind = 4 ∧ t.bus.lastSealed = true ∧ t.shows 317) ∧
    (s.bus.remap = false → s.bus.sramOpen = true → ∃ t, exec (.remapApply true) s = .next t ∧ onlyChanges [.bus, .ev, .tally] s t ∧
      t.bus = { s.bus with remap := true } ∧ t.shows 316) ∧
    (∀ m addr off, sramOff s addr = some off → connected s m (.sram off) = true → sramSealed s m off 1 = none → off < 0x400000 → s.bus.sramOpen = true → off / 65536 ∉ s.bus.fenced →
      (∃ t, exec (.sramEccError m addr false []) s = .next t ∧ onlyChanges [.bus, .ev, .tally] s t ∧ t.bus = { s.bus with
        sramCorrected := satAdd 32 s.bus.sramCorrected 1
        sramWrong := tput 0 s.bus.sramWrong (off / 8) 1 } ∧ t.shows 309) ∧
      (∃ t, exec (.sramEccError m addr true []) s = .next t ∧ onlyChanges [.bus, .guard, .hive, .ports, .ev, .tally] s t ∧
        t.bus.sramUncorrected = satAdd 32 s.bus.sramUncorrected 1 ∧ t.bus.sram = s.bus.sram ∧ t.bus.lastMaster = m ∧
        t.bus.lastKind = 3 ∧ t.shows 310) ∧
      (∀ (double : Bool) (l : List Byte), l ≠ [] → off % 8 + l.length ≤ 8 → double = false ∨ l.length = 8 → ∃ t,
        exec (.sramEccError m addr double l) s = .next t ∧ onlyChanges [.bus, .ev, .tally] s t ∧
        (∀ a, a < off ∨ off + l.length ≤ a → memRead t.bus.sram a = memRead s.bus.sram a) ∧
        (∀ k, k < l.length → memRead t.bus.sram (off + k) = l.getD k 0) ∧ tget 0 t.bus.sramWrong (off / 8) = 0 ∧
        (l.length < 8 → t.shows 309)) ∧
      (∀ l : List Byte, l ≠ [] → l.length < 8 → off % 8 + l.length ≤ 8 → ∃ t, exec (.sramEccError m addr true l) s = .next t ∧
        onlyChanges [.bus, .guard, .hive, .ports, .ev, .tally] s t ∧ t.bus.sram = s.bus.sram ∧ t.bus.lastKind = 3 ∧ t.shows 310)) ∧
    (∀ m addr off l, sramOff s addr = some off → connected s m (.sram off) = true → sramSealed s m off l.length = none → off + l.length < 0x400000 → s.bus.sramOpen = true → off / 65536 ∈ s.bus.fenced →
      ∃ t, exec (.sramEccError m addr false l) s = .next t ∧ onlyChanges [.bus, .guard, .hive, .ports, .ev, .tally] s t ∧
        t.bus.sram = s.bus.sram ∧ t.bus.lastKind = 3) ∧
    (s.bus.sramOpen = true → s.mode ≠ .lean → s.bus.bgLine + 1 < 65536 → (s.bus.fenced.contains ((s.bus.bgLine + 1) / 1024)) = false →
      (∀ e, e ∈ s.bus.sramWrong → ¬(e.1 / 8 = s.bus.bgLine ∧ e.2 = 1)) → ∃ t, exec (.sramBackgroundStep false true) s = .next t ∧ onlyChanges [.bus, .ev, .tally] s t ∧
        t.bus = { s.bus with bgLine := s.bus.bgLine + 1 }) ∧
    (s.bus.sramOpen = true → s.mode ≠ .lean → ∃ t, exec (.sramBackgroundStep false false) s = .next t ∧
      onlyChanges [.bus, .guard, .hive, .ports, .ev, .tally] s t ∧ s.bus.bgLine / 1024 ∈ t.bus.fenced ∧ t.shows 311) ∧
    (∀ d line last, d < 4 → (s.chan d).state = 0 → s.mode ≠ .lean → line ∉ (s.chan d).poison → ∃ t,
      exec (.patrolScrubLine d line 0 last) s = .next t ∧
      onlyChanges [.pool, .ev, .tally] s t ∧ t.chan d = { s.chan d with scrubbing := !last } ∧ (last = true → t.shows 314)) ∧
    (∀ d line outcome last, d < 4 → (s.chan d).state = 0 → s.mode ≠ .lean → outcome = 3 ∨ line ∈ (s.chan d).poison → ∃ t,
      exec (.patrolScrubLine d line outcome last) s = .next t ∧ onlyChanges [.pool, .pm, .guard, .hive, .ports, .ev, .tally] s t ∧
      (t.chan d).eccUncorrected = satAdd 32 (s.chan d).eccUncorrected 1 ∧ (t.chan d).scrubUnc = satAdd 32 (s.chan d).scrubUnc 1 ∧
      line ∈ (t.chan d).poison ∧ t.shows (76 + 4 * d) ∧ t.shows 315) ∧
    (∀ d temp, d < 4 → (s.chan d).size ≠ 0 → ∃ t, exec (.ddrThermalRead d temp) s = .next t ∧ onlyChanges [.pool, .ev, .tally] s t ∧
      (t.chan d).temp = some temp ∧ (340 < temp → (t.chan d).doubleRefresh = true) ∧ (temp < 328 → (t.chan d).doubleRefresh = false) ∧
      (328 ≤ temp → temp ≤ 340 → (t.chan d).doubleRefresh = (s.chan d).doubleRefresh))

/-- Slices and migrations of the built-in test, stings and tracers. A slot starts the slice of its unit: a busy tile or nurse unit first hands
its work to a free spare, an idle one, the relief core and a Comb region are tested where they are, a working core hands its work to the
relief core; a slot that finds a slice running is skipped (16 R491-R505, R513-R515). -/
def Obligations.TestEvents : Prop :=
  ∀ (s : State),
    (∀ k i, s.keeper.serving = true → s.test.suspended = false → s.test.slice = none → sliceMode s = true → s.test.position < 127 →
      sliceUnit s.test.position = (k, i) → unitStung s k i = false → s.test.forSuspended = false →
      (∀ sp, k ≤ 2 → carrier s k i = none → unitFailed s k i = false → unitBusy s k i = true → freeSpare s k = some sp → ∃ t,
        exec .sliceSlot s = .next t ∧ onlyChanges [.test, .ev, .tally] s t ∧ t.test = { s.test with
          position := (s.test.position + 1) % 127
          slice := some ⟨k, i, some sp, 1, s.now + 1 + shadowBeats s k i, false, true, false⟩ } ∧ t.shows 291) ∧
      (k ≤ 2 → carrier s k i = none → unitFailed s k i = false → unitBusy s k i = false → (k = 1 → i = 32 → s.test.f32 = none) →
      (k = 1 → i = 33 → s.test.f33 = none) → (k = 2 → i = 24 → s.test.n24 = none) → ∃ t,
        exec .sliceSlot s = .next t ∧ onlyChanges [.test, .ev, .tally] s t ∧ t.test = { s.test with
          position := (s.test.position + 1) % 127
          slice := some ⟨k, i, none, 2, s.now, false, true, false⟩ } ∧ t.shows 291) ∧
      (k = 5 → s.coreOf i = .relief → ∃ t, exec .sliceSlot s = .next t ∧ onlyChanges [.test, .ev, .tally] s t ∧ t.test = { s.test with
          position := (s.test.position + 1) % 127
          slice := some ⟨5, i, none, 2, s.now, false, true, false⟩ } ∧ t.shows 291) ∧
      (∀ r, k = 5 → s.guard.cores.length = 4 → s.coreOf i = .working → reliefCore s = some r → ∃ t, exec .sliceSlot s = .next t ∧
        onlyChanges [.test, .guard, .ev, .tally] s t ∧ t.coreOf i = .retired ∧ t.coreOf r = .working ∧ t.test = { s.test with
          position := (s.test.position + 1) % 127
          slice := some ⟨5, i, some r, 2, s.now, false, true, false⟩ } ∧ t.shows 187 ∧ t.shows 291) ∧
      (k = 3 → unitFailed s 3 i = false → ∃ t, exec .sliceSlot s = .next t ∧ onlyChanges [.test, .comb, .ev, .tally] s t ∧
        t.region i = { s.region i with state := 1, step := 0, start := s.now + 1 } ∧ t.test = { s.test with
          position := (s.test.position + 1) % 127
          slice := some ⟨3, i, none, 2, s.now, false, true, false⟩ } ∧ t.shows 291)) ∧
    (s.keeper.serving = true → s.test.suspended = false → s.test.slice.isSome = true → ∃ t, exec .sliceSlot s = .next t ∧
      onlyChanges [.test, .ev, .tally] s t ∧ t.test = { s.test with
        position := (s.test.position + 1) % 127
        skips := satAdd 32 s.test.skips 1 }) ∧
    (∀ x, s.test.slice = some x → x.stage ≠ 2 → x.shadow = false → x.handover ≤ s.now + shadowBeats s x.kind x.index → ∃ t,
      exec .migrationShadow s = .next t ∧ onlyChanges [.test, .ev, .tally] s t ∧
      t.test = { s.test with slice := some { x with shadow := true } }) ∧
    (∀ x, s.test.slice = some x → x.kind = 2 → x.stage ≠ 2 → x.shadow = true → x.handover ≤ s.now → x.toSpare = true → x.hold = false →
      ∃ t, exec .migrationHandover s = .next t ∧ onlyChanges [.test, .ev, .tally] s t ∧ t.test.n24 = some x.index ∧
        t.test.slice = some { x with stage := 2, shadow := false } ∧ t.shows 294 ∧ t.shows 297) ∧
    (∀ x, s.test.slice = some x → x.stage ≠ 2 → x.shadow = true → ∃ t, exec .migrationAbort s = .next t ∧
      onlyChanges [.test, .ev, .tally] s t ∧ t.test.slice = none ∧ t.test.aborts = satAdd 32 s.test.aborts 1 ∧ t.shows 295) ∧
    (∀ x one two, s.test.slice = some x → x.stage = 2 → x.kind = 2 → testPasses 2 one = true → x.spare = none → carrier s 2 x.index = none → ∃ t,
      exec (.sliceTestDone one two) s = .next t ∧ onlyChanges [.test, .guard, .hive, .ports, .ev, .tally] s t ∧ t.test.slice = none ∧
      t.test.slices = satAdd 32 s.test.slices 1 ∧ (2, x.index) ∉ t.test.failedUnits ∧ t.shows 292) ∧
    (∀ x one two, s.test.slice = some x → x.stage = 2 → x.kind = 2 → testPasses 2 one = false → testPasses 2 two = false → ∃ t,
      exec (.sliceTestDone one two) s = .next t ∧
      onlyChanges [.test, .guard, .hive, .ports, .ev, .tally] s t ∧ t.test.slice = none ∧
      t.test.failures = satAdd 32 s.test.failures 1 ∧ (2, x.index) ∈ t.test.failedUnits ∧ t.shows 293) ∧
    (∀ i x, s.test.stings[i]? = some x → x.waits = false → x.due = false → x.args.mode ≠ 2 →
      (x.args.point = 7 → ∃ t, exec (.stingOccurrence i) s = .next t ∧ onlyChanges [.test, .ev, .tally] s t ∧
        t.test.stings = s.test.stings.map fun y =>
          if sameSting y.args x.args then { y with left := y.left - 1, due := true } else y) ∧
      (x.args.point = 0x22 → x.left ≤ 1 → ∃ t, exec (.stingOccurrence i) s = .next t ∧ onlyChanges [.test, .hive, .ev, .tally] s t ∧
        t.hive.withheld = false ∧ t.test.stings = s.test.stings.filter (fun y => !sameSting y.args x.args) ∧ t.shows 299)) ∧
    (∀ n x bits, s.test.stings = [x] → x.due = true → x.left = 0 → onLaneFrame n x.args = true → ∃ t,
      exec (.sdhFrameRx n bits) s = .next t ∧ t.test.stings = [] ∧ t.shows 299) ∧
    (∀ n g, s.test.tracerK ≠ 0 → n < 256 → g < 192 → (s.lane n).works = true → s.mode ≠ .lean → s.test.lfsr % 2 ^ s.test.tracerK = 0 →
      s.test.inFlight.length + legsOf n g s ≤ 4096 → ∃ t, exec (.tracerTag n g) s = .next t ∧ onlyChanges [.test, .ev, .tally] s t ∧
      t.test.lfsr = lfsrStep s.test.lfsr ∧ t.test.tagged = (s.test.tagged + 1) % 2 ^ 32 ∧
      t.test.inFlight = List.replicate (legsOf n g s) (s.test.nextTracer, n, g, s.test.lfsr % 783, s.now) ++ s.test.inFlight) ∧
    (∀ id tx mask flags dts, (s.test.inFlight.find? fun e => e.1 == id).isSome = true → bit flags 3 = false →
      ringTakes s.test.tracerPort 4 s = true → ∃ t, exec (.tracerRecord id tx mask flags dts) s = .next t ∧
      onlyChanges [.test, .ports, .ev, .tally] s t ∧ t.test.written = (s.test.written + 1) % 2 ^ 32 ∧ ∀ e, e ∈ t.test.inFlight → e.1 ≠ id)

/-- What ends at its time or at the end of a write: nonces and locks, transfers of an update, saves, OTP programming, the clear of a
world's region (17 R520-R538). -/
def Obligations.SecurityEvents : Prop :=
  ∀ (s : State),
    (∀ p, p < 2 → ∃ t, exec (.nonceExpiry p) s = .next t ∧ onlyChanges [.sec, .ev, .tally] s t ∧
      t.chal p = { s.chal p with nonce := none } ∧ ∀ q, q ≠ p → t.chal q = s.chal q) ∧
    (∀ p, p < 2 → (s.chal p).locked = true → ∃ t, exec (.challengeLockExpiry p) s = .next t ∧ onlyChanges [.sec, .ev, .tally] s t ∧
      t.chal p = { s.chal p with locked := false, fails := 0 } ∧ ∀ q, q ≠ p → t.chal q = s.chal q) ∧
    (∀ w p offset bytes, s.sec.dataWait = some w → w.hdr.port = p → s.sec.updState ≠ 0 → offset ≠ 0 → ∃ t,
      exec (.updateDataDone p offset bytes) s = .next t ∧ onlyChanges (.sec :: replyParts) s t ∧ t.sec.dataWait = none ∧
      (∀ k, k < bytes.length → memRead (t.slotOf (1 - s.keeper.fwSlot)).image (offset + k) = bytes.getD k 0) ∧
      (t.slotOf (1 - s.keeper.fwSlot)).written = (s.slotOf (1 - s.keeper.fwSlot)).written + bytes.length) ∧
    (∀ w, s.sec.activating = some w → ∃ t, exec .activateWaitExpiry s = .next t ∧ onlyChanges (.sec :: replyParts) s t ∧
      t.sec = { s.sec with activating := none }) ∧
    (∀ kind status w rest, s.sec.saving = (kind, status, w) :: rest → ∃ t, exec (.flashWriteDone false) s = .next t ∧
      onlyChanges (.sec :: replyParts) s t ∧ t.sec = { s.sec with saving := rest }) ∧
    (∀ status w rest, s.sec.saving = (2, status, w) :: rest → ∃ t, exec (.flashWriteDone true) s = .next t ∧
      onlyChanges (.sec :: replyParts) s t ∧ t.sec = { s.sec with saving := rest, modelFlash := some (savedModel s.scout) }) ∧
    (∀ w, s.sec.lifeWait = some w → ∃ t, exec (.otpProgramDone true) s = .next t ∧ onlyChanges (.sec :: replyParts) s t ∧
      t.sec = { s.sec with lifeWait := none }) ∧
    (∀ w r, s.sec.worldWait = some (w, 1, r) → s.sec.worldQueue = [] → ∃ t, exec .worldClearDone s = .next t ∧ onlyChanges (.sec :: .bus :: replyParts) s t ∧
      t.sec.worldWait = none ∧ r ∉ t.sec.sram ∧ t.bus.bar2 = s.bus.bar2 ∧ (∀ a, a / 2 ^ 16 = r → memRead t.bus.sram a = 0) ∧
      ∀ a, a / 2 ^ 16 ≠ r → memRead t.bus.sram a = memRead s.bus.sram a) ∧
    (∀ w kind r, s.sec.worldWait = some (w, kind, r) → kind ≠ 1 → s.sec.worldQueue = [] → ∃ t, exec .worldClearDone s = .next t ∧
      onlyChanges (.sec :: .bus :: replyParts) s t ∧ t.sec.worldWait = none ∧ (tget ({} : DdrRegion) t.sec.ddr r).isSealed = false ∧
      (tget ({} : DdrRegion) t.sec.ddr r).clearing = false ∧ (∀ a, a / 2 ^ 25 = r → memRead t.bus.bar2 a = 0) ∧
      ∀ a, a / 2 ^ 25 ≠ r → memRead t.bus.bar2 a = memRead s.bus.bar2 a)

/-! ### The beat and the Keeper's work -/

/-- The beat starts once in Provision, with a phase that is free unless it starts at the command (log 8), and then counts; the Keeper takes and releases snapshots, classifies a second, records completed
bins; overruns are counted (02 R27, R44-R54; 10 R290-R302). -/
def Obligations.BeatAndKeeperWork : Prop :=
  ∀ (s : State),
    (s.clk.started = true → ∃ t, exec .beat s = .next t ∧ t.clk.beat = (s.clk.beat + 1) % 2 ^ 48 ∧ t.clk.started = true ∧
      t.pending = s.pending ∧ t.nextSession = s.nextSession) ∧
    (∀ w, s.clk.started = false → s.mode = .provision → s.clk.startPend = some w → ∃ t, exec .beatStart s = .next t ∧
      onlyChanges (.fresh :: .clk :: .scout :: replyParts) s t ∧ t.clk = { s.clk with
        started := true
        beat := 0
        startPend := none } ∧ t.scout = { s.scout with phi := t.scout.phi } ∧
      (w.kind = .start 2 → t.fresh = s.fresh ∧ t.scout = s.scout)) ∧
    (s.keeper.present = true → s.clk.snapA.consumed = true → ∃ t, exec (.snapshotRelease 0) s = .next t ∧
      onlyChanges [.clk, .ev, .tally] s t ∧ t.clk = { s.clk with snapA := { s.clk.snapA with unreleased := false } }) ∧
    (s.keeper.present = true → s.clk.snapB.consumed = true → ∃ t, exec (.snapshotRelease 1) s = .next t ∧
      onlyChanges [.clk, .ev, .tally] s t ∧ t.clk = { s.clk with snapB := { s.clk.snapB with unreleased := false } }) ∧
    (s.keeper.serving = true → ∃ t, exec .perBeatHandler s = .next t ∧ onlyChanges [.clk, .pm, .ev, .tally] s t ∧
      (t.clk.snapA.unreleased = true → t.clk.snapA.consumed = true) ∧ (t.clk.snapB.unreleased = true → t.clk.snapB.consumed = true)) ∧
    (s.keeper.serving = true → ∃ t, exec .perBeatHandlerOverrun s = .next t ∧ onlyChanges [.clk, .ev, .tally] s t ∧
      t.clk.ovHandler = satAdd 32 s.clk.ovHandler 1 ∧ t.clk.handlerLate = true ∧
      t.clk.handlerRun = (if s.clk.handlerLate then s.clk.handlerRun else s.clk.handlerRun + 1) ∧ t.shows 188) ∧
    (s.keeper.serving = true → 8000 ≤ s.clk.handlerRun → s.guard.keeperLost = false →
      autopilotMode s.mode = true ∨ inPlaceMode s.mode = true → (∀ e, e < 16 → (s.fqe e).valid = false) → ∃ t,
      exec .keeperHandlerLost s = .next t ∧ t.guard.keeperLost = true ∧ t.keeper.serving = false ∧
      t.fqe 0 = ⟨true, 3, 0, 4, false, s.now, s.now, 0⟩ ∧ t.shows 211) ∧
    (s.keeper.serving = true → s.clk.started = true → s.now % 8000 = 7999 ∨ (∃ k, k ∈ s.pm.doneSecs ∧ secondDue s k = true) → ∃ t,
      exec .perSecondWork s = .next t ∧ onlyChanges [.pm, .ports, .ev, .tally] s t ∧
      t.pm.doneSecs = s.pm.doneSecs.filter (fun k => !secondDue s k) ∧ t.pm.span = none) ∧
    (s.keeper.serving = true → ∃ t, exec .perSecondOverrun s = .next t ∧ onlyChanges [.clk, .ev, .tally] s t ∧
      t.clk = { s.clk with ovSecond := satAdd 32 s.clk.ovSecond 1 } ∧ t.shows 189) ∧
    (∀ i, i < 34 → s.clk.started = true → ∃ t, exec (.unitPipelineOverrun 1 i) s = .next t ∧
      onlyChanges [.clk, .guard, .hive, .ports, .ev, .tally] s t ∧ t.clk.ovPipe = satAdd 32 s.clk.ovPipe 1 ∧ t.shows i) ∧
    (∀ e day b, (autoBins (s.mon e) day s).head? = some b → s.keeper.serving = true → bit s.pm.auto (boolNat day) = true →
      ringTakes s.pm.port 5 s = true → ∃ t, exec (.pmAutoWrite e day) s = .next t ∧ onlyChanges [.pm, .ports, .ev, .tally] s t ∧
      (if day then (t.mon e).sentDay else (t.mon e).sent15) = b.ended ∧
      ((t.port s.pm.port).ringOf 5).cur = ((s.port s.pm.port).ringOf 5).cur ++ [recordBytes (binFields e b)])

/-! ### Reset and the invariant -/

/-- The block before power is applied: what the spec gives (18 R541, R542, R582; 12 R352; 14 R464; 02 R46), and the canonical, empty
memory behind BAR2 and none in the SRAM (the byte that an unwritten address reads as is the model's choice, log 3). -/
def Obligations.ResetState : Prop :=
  State.reset.mode = .off ∧ State.reset.pending = [] ∧ State.reset.power.powered = false ∧ State.reset.keeper.serving = false ∧
    State.reset.clk.started = false ∧ State.reset.hive.token = false ∧ State.reset.guard.storm = false ∧
    State.reset.guard.cores = [.held, .held, .held, .held] ∧ (∀ e, State.reset.fqe e = {}) ∧ (∀ n, (State.reset.lane n).enable = 0) ∧
    (∀ k, (State.reset.entry k).used = false) ∧ State.reset.bus.bar2 = [] ∧ Memory.wf State.reset.bus.bar2 = true ∧
    State.reset.bus.sram = [] ∧ Memory.wf State.reset.bus.sram = true

/-- Every step keeps the canonical form of the memory behind BAR2, and that of the keeper SRAM, from every state that has it. -/
def Obligations.BufferMemoryStaysCanonical : Prop :=
  (∀ s t : State, Memory.wf s.bus.bar2 = true → step s = .next t → Memory.wf t.bus.bar2 = true) ∧
  (∀ s t : State, Memory.wf s.bus.sram = true → step s = .next t → Memory.wf t.bus.sram = true)
end

