-- ==== Sys2Proof/Laws/Bus.lean ====
section
/-!
SUPPORT. Laws/Bus.lean: what an access to BAR0 meets where the worlds let it through, and where they do not (15 R474, 17 R519).
-/

namespace Sys2Proof.Machine

open Sys2Proof

/-- The blocks of bridge 2 are none of bridge 0's. -/
theorem blockNo_false (k : Nat) : blockNo false k = 64 ∨ Config.bridge0 (blockNo false k) = false := by
  simp only [blockNo]
  generalize hl : (List.range 64).filter (fun b => Config.bridge0 b == false) = l
  by_cases h : k % l.length < l.length
  · have hm : l[k % l.length] ∈ (List.range 64).filter (fun b => Config.bridge0 b == false) := by
      rw [hl]; exact List.getElem_mem h
    rw [List.getD_eq_getElem _ _ h]
    exact .inr (by simpa using (List.mem_filter.mp hm).2)
  · exact .inl (List.getD_eq_default _ _ (by omega))

theorem blockNo_le (bridge0 : Bool) (k : Nat) : blockNo bridge0 k ≤ 64 := by
  simp only [blockNo]
  generalize hl : (List.range 64).filter (fun b => Config.bridge0 b == bridge0) = l
  by_cases h : k % l.length < l.length
  · have hm : l[k % l.length] ∈ (List.range 64).filter (fun b => Config.bridge0 b == bridge0) := by
      rw [hl]; exact List.getElem_mem h
    rw [List.getD_eq_getElem _ _ h]
    exact Nat.le_of_lt (List.mem_range.mp (List.mem_filter.mp hm).1)
  · rw [List.getD_eq_default _ _ (by omega)]

/-- Where no block of BAR0 is sealed to the port, an access does what its register does. -/
theorem barSealed_open {s : State} {p : Nat} (h : barOpen s p = true) (off : Nat) : barSealed s p off = none := by
  simp only [barOpen, Bool.or_eq_true, List.all_eq_true] at h
  simp only [barSealed]
  rcases h with h | h
  · simp [h]
  · rw [if_neg]
    intro hc
    have hm : blockNo false (Config.barBlock (barRow off)) ∈ s.sec.blocks := by simpa using (Bool.and_eq_true_iff.mp hc).2
    have := h _ hm
    simp only [Bool.and_eq_true, decide_eq_true_eq] at this
    rcases blockNo_false (Config.barBlock (barRow off)) with e | e
    · omega
    · simp [e] at this

theorem barAccess_open {s : State} {p : Nat} (h : barOpen s p = true) (off : Nat) (f : State → State) : barAccess p off f s = f s := by
  simp [barAccess, barSealed_open h]

/-- An access to a sealed block is the default target's, whatever the register. -/
theorem barAccess_sealed {s : State} {p off b : Nat} (hp : s.portUp p = true) (h : barSealed s p off = some b) (f : State → State) :
    barAccess p off f s = defaultTarget (8 + p) (0x52000000 + off) (some b) s := by
  simp [barAccess, hp, h]

end Sys2Proof.Machine
end

