-- ==== Sys2Proof/Laws/State.lean ====
section
/-!
SUPPORT. Laws/State.lean: which parts of State each update leaves alone, and what it makes of the part it updates, field by field,
so that no proof unfolds a record update.
-/

namespace Sys2Proof.Machine

open Sys2Proof

@[simp] theorem State.onClk_frame (s : State) (f : Clock → Clock) :
    (s.onClk f).pending = s.pending ∧ (s.onClk f).fresh = s.fresh ∧ (s.onClk f).mode = s.mode ∧
    (s.onClk f).apFrom = s.apFrom ∧ (s.onClk f).quiesceFrom = s.quiesceFrom ∧ (s.onClk f).lanes = s.lanes ∧
    (s.onClk f).userCal = s.userCal ∧ (s.onClk f).sdh = s.sdh ∧ (s.onClk f).paths = s.paths ∧ (s.onClk f).cpri = s.cpri ∧
    (s.onClk f).axcs = s.axcs ∧ (s.onClk f).comb = s.comb ∧ (s.onClk f).nurse = s.nurse ∧ (s.onClk f).pool = s.pool ∧
    (s.onClk f).prot = s.prot ∧ (s.onClk f).pm = s.pm ∧ (s.onClk f).scout = s.scout ∧ (s.onClk f).hive = s.hive ∧
    (s.onClk f).ports = s.ports ∧ (s.onClk f).sems = s.sems ∧ (s.onClk f).nextSession = s.nextSession ∧
    (s.onClk f).ev = s.ev ∧ (s.onClk f).guard = s.guard ∧ (s.onClk f).keeper = s.keeper ∧ (s.onClk f).bus = s.bus ∧
    (s.onClk f).test = s.test ∧ (s.onClk f).tally = s.tally ∧ (s.onClk f).sec = s.sec ∧ (s.onClk f).power = s.power ∧
    (s.onClk f).clk = f s.clk :=
  ⟨rfl, rfl, rfl, rfl, rfl, rfl, rfl, rfl, rfl, rfl, rfl, rfl, rfl, rfl, rfl, rfl, rfl, rfl, rfl, rfl, rfl, rfl, rfl, rfl, rfl, rfl, rfl, rfl, rfl, rfl⟩

@[simp] theorem State.onComb_frame (s : State) (f : Comb → Comb) :
    (s.onComb f).pending = s.pending ∧ (s.onComb f).fresh = s.fresh ∧ (s.onComb f).mode = s.mode ∧
    (s.onComb f).apFrom = s.apFrom ∧ (s.onComb f).quiesceFrom = s.quiesceFrom ∧ (s.onComb f).clk = s.clk ∧
    (s.onComb f).lanes = s.lanes ∧ (s.onComb f).userCal = s.userCal ∧ (s.onComb f).sdh = s.sdh ∧
    (s.onComb f).paths = s.paths ∧ (s.onComb f).cpri = s.cpri ∧ (s.onComb f).axcs = s.axcs ∧ (s.onComb f).nurse = s.nurse ∧
    (s.onComb f).pool = s.pool ∧ (s.onComb f).prot = s.prot ∧ (s.onComb f).pm = s.pm ∧ (s.onComb f).scout = s.scout ∧
    (s.onComb f).hive = s.hive ∧ (s.onComb f).ports = s.ports ∧ (s.onComb f).sems = s.sems ∧
    (s.onComb f).nextSession = s.nextSession ∧ (s.onComb f).ev = s.ev ∧ (s.onComb f).guard = s.guard ∧
    (s.onComb f).keeper = s.keeper ∧ (s.onComb f).bus = s.bus ∧ (s.onComb f).test = s.test ∧ (s.onComb f).tally = s.tally ∧
    (s.onComb f).sec = s.sec ∧ (s.onComb f).power = s.power ∧ (s.onComb f).comb = f s.comb :=
  ⟨rfl, rfl, rfl, rfl, rfl, rfl, rfl, rfl, rfl, rfl, rfl, rfl, rfl, rfl, rfl, rfl, rfl, rfl, rfl, rfl, rfl, rfl, rfl, rfl, rfl, rfl, rfl, rfl, rfl, rfl⟩

@[simp] theorem State.onNurse_frame (s : State) (f : Nurse → Nurse) :
    (s.onNurse f).pending = s.pending ∧ (s.onNurse f).fresh = s.fresh ∧ (s.onNurse f).mode = s.mode ∧
    (s.onNurse f).apFrom = s.apFrom ∧ (s.onNurse f).quiesceFrom = s.quiesceFrom ∧ (s.onNurse f).clk = s.clk ∧
    (s.onNurse f).lanes = s.lanes ∧ (s.onNurse f).userCal = s.userCal ∧ (s.onNurse f).sdh = s.sdh ∧
    (s.onNurse f).paths = s.paths ∧ (s.onNurse f).cpri = s.cpri ∧ (s.onNurse f).axcs = s.axcs ∧
    (s.onNurse f).comb = s.comb ∧ (s.onNurse f).pool = s.pool ∧ (s.onNurse f).prot = s.prot ∧ (s.onNurse f).pm = s.pm ∧
    (s.onNurse f).scout = s.scout ∧ (s.onNurse f).hive = s.hive ∧ (s.onNurse f).ports = s.ports ∧
    (s.onNurse f).sems = s.sems ∧ (s.onNurse f).nextSession = s.nextSession ∧ (s.onNurse f).ev = s.ev ∧
    (s.onNurse f).guard = s.guard ∧ (s.onNurse f).keeper = s.keeper ∧ (s.onNurse f).bus = s.bus ∧
    (s.onNurse f).test = s.test ∧ (s.onNurse f).tally = s.tally ∧ (s.onNurse f).sec = s.sec ∧
    (s.onNurse f).power = s.power ∧ (s.onNurse f).nurse = f s.nurse :=
  ⟨rfl, rfl, rfl, rfl, rfl, rfl, rfl, rfl, rfl, rfl, rfl, rfl, rfl, rfl, rfl, rfl, rfl, rfl, rfl, rfl, rfl, rfl, rfl, rfl, rfl, rfl, rfl, rfl, rfl, rfl⟩

@[simp] theorem State.onPool_frame (s : State) (f : Pool → Pool) :
    (s.onPool f).pending = s.pending ∧ (s.onPool f).fresh = s.fresh ∧ (s.onPool f).mode = s.mode ∧
    (s.onPool f).apFrom = s.apFrom ∧ (s.onPool f).quiesceFrom = s.quiesceFrom ∧ (s.onPool f).clk = s.clk ∧
    (s.onPool f).lanes = s.lanes ∧ (s.onPool f).userCal = s.userCal ∧ (s.onPool f).sdh = s.sdh ∧
    (s.onPool f).paths = s.paths ∧ (s.onPool f).cpri = s.cpri ∧ (s.onPool f).axcs = s.axcs ∧ (s.onPool f).comb = s.comb ∧
    (s.onPool f).nurse = s.nurse ∧ (s.onPool f).prot = s.prot ∧ (s.onPool f).pm = s.pm ∧ (s.onPool f).scout = s.scout ∧
    (s.onPool f).hive = s.hive ∧ (s.onPool f).ports = s.ports ∧ (s.onPool f).sems = s.sems ∧
    (s.onPool f).nextSession = s.nextSession ∧ (s.onPool f).ev = s.ev ∧ (s.onPool f).guard = s.guard ∧
    (s.onPool f).keeper = s.keeper ∧ (s.onPool f).bus = s.bus ∧ (s.onPool f).test = s.test ∧ (s.onPool f).tally = s.tally ∧
    (s.onPool f).sec = s.sec ∧ (s.onPool f).power = s.power ∧ (s.onPool f).pool = f s.pool :=
  ⟨rfl, rfl, rfl, rfl, rfl, rfl, rfl, rfl, rfl, rfl, rfl, rfl, rfl, rfl, rfl, rfl, rfl, rfl, rfl, rfl, rfl, rfl, rfl, rfl, rfl, rfl, rfl, rfl, rfl, rfl⟩

@[simp] theorem State.onPm_frame (s : State) (f : Pm → Pm) :
    (s.onPm f).pending = s.pending ∧ (s.onPm f).fresh = s.fresh ∧ (s.onPm f).mode = s.mode ∧ (s.onPm f).apFrom = s.apFrom ∧
    (s.onPm f).quiesceFrom = s.quiesceFrom ∧ (s.onPm f).clk = s.clk ∧ (s.onPm f).lanes = s.lanes ∧
    (s.onPm f).userCal = s.userCal ∧ (s.onPm f).sdh = s.sdh ∧ (s.onPm f).paths = s.paths ∧ (s.onPm f).cpri = s.cpri ∧
    (s.onPm f).axcs = s.axcs ∧ (s.onPm f).comb = s.comb ∧ (s.onPm f).nurse = s.nurse ∧ (s.onPm f).pool = s.pool ∧
    (s.onPm f).prot = s.prot ∧ (s.onPm f).scout = s.scout ∧ (s.onPm f).hive = s.hive ∧ (s.onPm f).ports = s.ports ∧
    (s.onPm f).sems = s.sems ∧ (s.onPm f).nextSession = s.nextSession ∧ (s.onPm f).ev = s.ev ∧ (s.onPm f).guard = s.guard ∧
    (s.onPm f).keeper = s.keeper ∧ (s.onPm f).bus = s.bus ∧ (s.onPm f).test = s.test ∧ (s.onPm f).tally = s.tally ∧
    (s.onPm f).sec = s.sec ∧ (s.onPm f).power = s.power ∧ (s.onPm f).pm = f s.pm :=
  ⟨rfl, rfl, rfl, rfl, rfl, rfl, rfl, rfl, rfl, rfl, rfl, rfl, rfl, rfl, rfl, rfl, rfl, rfl, rfl, rfl, rfl, rfl, rfl, rfl, rfl, rfl, rfl, rfl, rfl, rfl⟩

@[simp] theorem State.onScout_frame (s : State) (f : Scout → Scout) :
    (s.onScout f).pending = s.pending ∧ (s.onScout f).fresh = s.fresh ∧ (s.onScout f).mode = s.mode ∧
    (s.onScout f).apFrom = s.apFrom ∧ (s.onScout f).quiesceFrom = s.quiesceFrom ∧ (s.onScout f).clk = s.clk ∧
    (s.onScout f).lanes = s.lanes ∧ (s.onScout f).userCal = s.userCal ∧ (s.onScout f).sdh = s.sdh ∧
    (s.onScout f).paths = s.paths ∧ (s.onScout f).cpri = s.cpri ∧ (s.onScout f).axcs = s.axcs ∧
    (s.onScout f).comb = s.comb ∧ (s.onScout f).nurse = s.nurse ∧ (s.onScout f).pool = s.pool ∧
    (s.onScout f).prot = s.prot ∧ (s.onScout f).pm = s.pm ∧ (s.onScout f).hive = s.hive ∧ (s.onScout f).ports = s.ports ∧
    (s.onScout f).sems = s.sems ∧ (s.onScout f).nextSession = s.nextSession ∧ (s.onScout f).ev = s.ev ∧
    (s.onScout f).guard = s.guard ∧ (s.onScout f).keeper = s.keeper ∧ (s.onScout f).bus = s.bus ∧
    (s.onScout f).test = s.test ∧ (s.onScout f).tally = s.tally ∧ (s.onScout f).sec = s.sec ∧
    (s.onScout f).power = s.power ∧ (s.onScout f).scout = f s.scout :=
  ⟨rfl, rfl, rfl, rfl, rfl, rfl, rfl, rfl, rfl, rfl, rfl, rfl, rfl, rfl, rfl, rfl, rfl, rfl, rfl, rfl, rfl, rfl, rfl, rfl, rfl, rfl, rfl, rfl, rfl, rfl⟩

@[simp] theorem State.onHive_frame (s : State) (f : Hive → Hive) :
    (s.onHive f).pending = s.pending ∧ (s.onHive f).fresh = s.fresh ∧ (s.onHive f).mode = s.mode ∧
    (s.onHive f).apFrom = s.apFrom ∧ (s.onHive f).quiesceFrom = s.quiesceFrom ∧ (s.onHive f).clk = s.clk ∧
    (s.onHive f).lanes = s.lanes ∧ (s.onHive f).userCal = s.userCal ∧ (s.onHive f).sdh = s.sdh ∧
    (s.onHive f).paths = s.paths ∧ (s.onHive f).cpri = s.cpri ∧ (s.onHive f).axcs = s.axcs ∧ (s.onHive f).comb = s.comb ∧
    (s.onHive f).nurse = s.nurse ∧ (s.onHive f).pool = s.pool ∧ (s.onHive f).prot = s.prot ∧ (s.onHive f).pm = s.pm ∧
    (s.onHive f).scout = s.scout ∧ (s.onHive f).ports = s.ports ∧ (s.onHive f).sems = s.sems ∧
    (s.onHive f).nextSession = s.nextSession ∧ (s.onHive f).ev = s.ev ∧ (s.onHive f).guard = s.guard ∧
    (s.onHive f).keeper = s.keeper ∧ (s.onHive f).bus = s.bus ∧ (s.onHive f).test = s.test ∧ (s.onHive f).tally = s.tally ∧
    (s.onHive f).sec = s.sec ∧ (s.onHive f).power = s.power ∧ (s.onHive f).hive = f s.hive :=
  ⟨rfl, rfl, rfl, rfl, rfl, rfl, rfl, rfl, rfl, rfl, rfl, rfl, rfl, rfl, rfl, rfl, rfl, rfl, rfl, rfl, rfl, rfl, rfl, rfl, rfl, rfl, rfl, rfl, rfl, rfl⟩

@[simp] theorem State.onEv_frame (s : State) (f : Events → Events) :
    (s.onEv f).pending = s.pending ∧ (s.onEv f).fresh = s.fresh ∧ (s.onEv f).mode = s.mode ∧ (s.onEv f).apFrom = s.apFrom ∧
    (s.onEv f).quiesceFrom = s.quiesceFrom ∧ (s.onEv f).clk = s.clk ∧ (s.onEv f).lanes = s.lanes ∧
    (s.onEv f).userCal = s.userCal ∧ (s.onEv f).sdh = s.sdh ∧ (s.onEv f).paths = s.paths ∧ (s.onEv f).cpri = s.cpri ∧
    (s.onEv f).axcs = s.axcs ∧ (s.onEv f).comb = s.comb ∧ (s.onEv f).nurse = s.nurse ∧ (s.onEv f).pool = s.pool ∧
    (s.onEv f).prot = s.prot ∧ (s.onEv f).pm = s.pm ∧ (s.onEv f).scout = s.scout ∧ (s.onEv f).hive = s.hive ∧
    (s.onEv f).ports = s.ports ∧ (s.onEv f).sems = s.sems ∧ (s.onEv f).nextSession = s.nextSession ∧
    (s.onEv f).guard = s.guard ∧ (s.onEv f).keeper = s.keeper ∧ (s.onEv f).bus = s.bus ∧ (s.onEv f).test = s.test ∧
    (s.onEv f).tally = s.tally ∧ (s.onEv f).sec = s.sec ∧ (s.onEv f).power = s.power ∧ (s.onEv f).ev = f s.ev :=
  ⟨rfl, rfl, rfl, rfl, rfl, rfl, rfl, rfl, rfl, rfl, rfl, rfl, rfl, rfl, rfl, rfl, rfl, rfl, rfl, rfl, rfl, rfl, rfl, rfl, rfl, rfl, rfl, rfl, rfl, rfl⟩

@[simp] theorem State.onGuard_frame (s : State) (f : Guard → Guard) :
    (s.onGuard f).pending = s.pending ∧ (s.onGuard f).fresh = s.fresh ∧ (s.onGuard f).mode = s.mode ∧
    (s.onGuard f).apFrom = s.apFrom ∧ (s.onGuard f).quiesceFrom = s.quiesceFrom ∧ (s.onGuard f).clk = s.clk ∧
    (s.onGuard f).lanes = s.lanes ∧ (s.onGuard f).userCal = s.userCal ∧ (s.onGuard f).sdh = s.sdh ∧
    (s.onGuard f).paths = s.paths ∧ (s.onGuard f).cpri = s.cpri ∧ (s.onGuard f).axcs = s.axcs ∧
    (s.onGuard f).comb = s.comb ∧ (s.onGuard f).nurse = s.nurse ∧ (s.onGuard f).pool = s.pool ∧
    (s.onGuard f).prot = s.prot ∧ (s.onGuard f).pm = s.pm ∧ (s.onGuard f).scout = s.scout ∧ (s.onGuard f).hive = s.hive ∧
    (s.onGuard f).ports = s.ports ∧ (s.onGuard f).sems = s.sems ∧ (s.onGuard f).nextSession = s.nextSession ∧
    (s.onGuard f).ev = s.ev ∧ (s.onGuard f).keeper = s.keeper ∧ (s.onGuard f).bus = s.bus ∧ (s.onGuard f).test = s.test ∧
    (s.onGuard f).tally = s.tally ∧ (s.onGuard f).sec = s.sec ∧ (s.onGuard f).power = s.power ∧
    (s.onGuard f).guard = f s.guard :=
  ⟨rfl, rfl, rfl, rfl, rfl, rfl, rfl, rfl, rfl, rfl, rfl, rfl, rfl, rfl, rfl, rfl, rfl, rfl, rfl, rfl, rfl, rfl, rfl, rfl, rfl, rfl, rfl, rfl, rfl, rfl⟩

@[simp] theorem State.onKeeper_frame (s : State) (f : Keeper → Keeper) :
    (s.onKeeper f).pending = s.pending ∧ (s.onKeeper f).fresh = s.fresh ∧ (s.onKeeper f).mode = s.mode ∧
    (s.onKeeper f).apFrom = s.apFrom ∧ (s.onKeeper f).quiesceFrom = s.quiesceFrom ∧ (s.onKeeper f).clk = s.clk ∧
    (s.onKeeper f).lanes = s.lanes ∧ (s.onKeeper f).userCal = s.userCal ∧ (s.onKeeper f).sdh = s.sdh ∧
    (s.onKeeper f).paths = s.paths ∧ (s.onKeeper f).cpri = s.cpri ∧ (s.onKeeper f).axcs = s.axcs ∧
    (s.onKeeper f).comb = s.comb ∧ (s.onKeeper f).nurse = s.nurse ∧ (s.onKeeper f).pool = s.pool ∧
    (s.onKeeper f).prot = s.prot ∧ (s.onKeeper f).pm = s.pm ∧ (s.onKeeper f).scout = s.scout ∧
    (s.onKeeper f).hive = s.hive ∧ (s.onKeeper f).ports = s.ports ∧ (s.onKeeper f).sems = s.sems ∧
    (s.onKeeper f).nextSession = s.nextSession ∧ (s.onKeeper f).ev = s.ev ∧ (s.onKeeper f).guard = s.guard ∧
    (s.onKeeper f).bus = s.bus ∧ (s.onKeeper f).test = s.test ∧ (s.onKeeper f).tally = s.tally ∧
    (s.onKeeper f).sec = s.sec ∧ (s.onKeeper f).power = s.power ∧ (s.onKeeper f).keeper = f s.keeper :=
  ⟨rfl, rfl, rfl, rfl, rfl, rfl, rfl, rfl, rfl, rfl, rfl, rfl, rfl, rfl, rfl, rfl, rfl, rfl, rfl, rfl, rfl, rfl, rfl, rfl, rfl, rfl, rfl, rfl, rfl, rfl⟩

@[simp] theorem State.onBus_frame (s : State) (f : Bus → Bus) :
    (s.onBus f).pending = s.pending ∧ (s.onBus f).fresh = s.fresh ∧ (s.onBus f).mode = s.mode ∧
    (s.onBus f).apFrom = s.apFrom ∧ (s.onBus f).quiesceFrom = s.quiesceFrom ∧ (s.onBus f).clk = s.clk ∧
    (s.onBus f).lanes = s.lanes ∧ (s.onBus f).userCal = s.userCal ∧ (s.onBus f).sdh = s.sdh ∧ (s.onBus f).paths = s.paths ∧
    (s.onBus f).cpri = s.cpri ∧ (s.onBus f).axcs = s.axcs ∧ (s.onBus f).comb = s.comb ∧ (s.onBus f).nurse = s.nurse ∧
    (s.onBus f).pool = s.pool ∧ (s.onBus f).prot = s.prot ∧ (s.onBus f).pm = s.pm ∧ (s.onBus f).scout = s.scout ∧
    (s.onBus f).hive = s.hive ∧ (s.onBus f).ports = s.ports ∧ (s.onBus f).sems = s.sems ∧
    (s.onBus f).nextSession = s.nextSession ∧ (s.onBus f).ev = s.ev ∧ (s.onBus f).guard = s.guard ∧
    (s.onBus f).keeper = s.keeper ∧ (s.onBus f).test = s.test ∧ (s.onBus f).tally = s.tally ∧ (s.onBus f).sec = s.sec ∧
    (s.onBus f).power = s.power ∧ (s.onBus f).bus = f s.bus :=
  ⟨rfl, rfl, rfl, rfl, rfl, rfl, rfl, rfl, rfl, rfl, rfl, rfl, rfl, rfl, rfl, rfl, rfl, rfl, rfl, rfl, rfl, rfl, rfl, rfl, rfl, rfl, rfl, rfl, rfl, rfl⟩

@[simp] theorem State.onTest_frame (s : State) (f : Test → Test) :
    (s.onTest f).pending = s.pending ∧ (s.onTest f).fresh = s.fresh ∧ (s.onTest f).mode = s.mode ∧
    (s.onTest f).apFrom = s.apFrom ∧ (s.onTest f).quiesceFrom = s.quiesceFrom ∧ (s.onTest f).clk = s.clk ∧
    (s.onTest f).lanes = s.lanes ∧ (s.onTest f).userCal = s.userCal ∧ (s.onTest f).sdh = s.sdh ∧
    (s.onTest f).paths = s.paths ∧ (s.onTest f).cpri = s.cpri ∧ (s.onTest f).axcs = s.axcs ∧ (s.onTest f).comb = s.comb ∧
    (s.onTest f).nurse = s.nurse ∧ (s.onTest f).pool = s.pool ∧ (s.onTest f).prot = s.prot ∧ (s.onTest f).pm = s.pm ∧
    (s.onTest f).scout = s.scout ∧ (s.onTest f).hive = s.hive ∧ (s.onTest f).ports = s.ports ∧ (s.onTest f).sems = s.sems ∧
    (s.onTest f).nextSession = s.nextSession ∧ (s.onTest f).ev = s.ev ∧ (s.onTest f).guard = s.guard ∧
    (s.onTest f).keeper = s.keeper ∧ (s.onTest f).bus = s.bus ∧ (s.onTest f).tally = s.tally ∧ (s.onTest f).sec = s.sec ∧
    (s.onTest f).power = s.power ∧ (s.onTest f).test = f s.test :=
  ⟨rfl, rfl, rfl, rfl, rfl, rfl, rfl, rfl, rfl, rfl, rfl, rfl, rfl, rfl, rfl, rfl, rfl, rfl, rfl, rfl, rfl, rfl, rfl, rfl, rfl, rfl, rfl, rfl, rfl, rfl⟩

@[simp] theorem State.onTally_frame (s : State) (f : Tally → Tally) :
    (s.onTally f).pending = s.pending ∧ (s.onTally f).fresh = s.fresh ∧ (s.onTally f).mode = s.mode ∧
    (s.onTally f).apFrom = s.apFrom ∧ (s.onTally f).quiesceFrom = s.quiesceFrom ∧ (s.onTally f).clk = s.clk ∧
    (s.onTally f).lanes = s.lanes ∧ (s.onTally f).userCal = s.userCal ∧ (s.onTally f).sdh = s.sdh ∧
    (s.onTally f).paths = s.paths ∧ (s.onTally f).cpri = s.cpri ∧ (s.onTally f).axcs = s.axcs ∧
    (s.onTally f).comb = s.comb ∧ (s.onTally f).nurse = s.nurse ∧ (s.onTally f).pool = s.pool ∧
    (s.onTally f).prot = s.prot ∧ (s.onTally f).pm = s.pm ∧ (s.onTally f).scout = s.scout ∧ (s.onTally f).hive = s.hive ∧
    (s.onTally f).ports = s.ports ∧ (s.onTally f).sems = s.sems ∧ (s.onTally f).nextSession = s.nextSession ∧
    (s.onTally f).ev = s.ev ∧ (s.onTally f).guard = s.guard ∧ (s.onTally f).keeper = s.keeper ∧ (s.onTally f).bus = s.bus ∧
    (s.onTally f).test = s.test ∧ (s.onTally f).sec = s.sec ∧ (s.onTally f).power = s.power ∧
    (s.onTally f).tally = f s.tally :=
  ⟨rfl, rfl, rfl, rfl, rfl, rfl, rfl, rfl, rfl, rfl, rfl, rfl, rfl, rfl, rfl, rfl, rfl, rfl, rfl, rfl, rfl, rfl, rfl, rfl, rfl, rfl, rfl, rfl, rfl, rfl⟩

@[simp] theorem State.onSec_frame (s : State) (f : Sec → Sec) :
    (s.onSec f).pending = s.pending ∧ (s.onSec f).fresh = s.fresh ∧ (s.onSec f).mode = s.mode ∧
    (s.onSec f).apFrom = s.apFrom ∧ (s.onSec f).quiesceFrom = s.quiesceFrom ∧ (s.onSec f).clk = s.clk ∧
    (s.onSec f).lanes = s.lanes ∧ (s.onSec f).userCal = s.userCal ∧ (s.onSec f).sdh = s.sdh ∧ (s.onSec f).paths = s.paths ∧
    (s.onSec f).cpri = s.cpri ∧ (s.onSec f).axcs = s.axcs ∧ (s.onSec f).comb = s.comb ∧ (s.onSec f).nurse = s.nurse ∧
    (s.onSec f).pool = s.pool ∧ (s.onSec f).prot = s.prot ∧ (s.onSec f).pm = s.pm ∧ (s.onSec f).scout = s.scout ∧
    (s.onSec f).hive = s.hive ∧ (s.onSec f).ports = s.ports ∧ (s.onSec f).sems = s.sems ∧
    (s.onSec f).nextSession = s.nextSession ∧ (s.onSec f).ev = s.ev ∧ (s.onSec f).guard = s.guard ∧
    (s.onSec f).keeper = s.keeper ∧ (s.onSec f).bus = s.bus ∧ (s.onSec f).test = s.test ∧ (s.onSec f).tally = s.tally ∧
    (s.onSec f).power = s.power ∧ (s.onSec f).sec = f s.sec :=
  ⟨rfl, rfl, rfl, rfl, rfl, rfl, rfl, rfl, rfl, rfl, rfl, rfl, rfl, rfl, rfl, rfl, rfl, rfl, rfl, rfl, rfl, rfl, rfl, rfl, rfl, rfl, rfl, rfl, rfl, rfl⟩

@[simp] theorem State.onPower_frame (s : State) (f : Power → Power) :
    (s.onPower f).pending = s.pending ∧ (s.onPower f).fresh = s.fresh ∧ (s.onPower f).mode = s.mode ∧
    (s.onPower f).apFrom = s.apFrom ∧ (s.onPower f).quiesceFrom = s.quiesceFrom ∧ (s.onPower f).clk = s.clk ∧
    (s.onPower f).lanes = s.lanes ∧ (s.onPower f).userCal = s.userCal ∧ (s.onPower f).sdh = s.sdh ∧
    (s.onPower f).paths = s.paths ∧ (s.onPower f).cpri = s.cpri ∧ (s.onPower f).axcs = s.axcs ∧
    (s.onPower f).comb = s.comb ∧ (s.onPower f).nurse = s.nurse ∧ (s.onPower f).pool = s.pool ∧
    (s.onPower f).prot = s.prot ∧ (s.onPower f).pm = s.pm ∧ (s.onPower f).scout = s.scout ∧ (s.onPower f).hive = s.hive ∧
    (s.onPower f).ports = s.ports ∧ (s.onPower f).sems = s.sems ∧ (s.onPower f).nextSession = s.nextSession ∧
    (s.onPower f).ev = s.ev ∧ (s.onPower f).guard = s.guard ∧ (s.onPower f).keeper = s.keeper ∧ (s.onPower f).bus = s.bus ∧
    (s.onPower f).test = s.test ∧ (s.onPower f).tally = s.tally ∧ (s.onPower f).sec = s.sec ∧
    (s.onPower f).power = f s.power :=
  ⟨rfl, rfl, rfl, rfl, rfl, rfl, rfl, rfl, rfl, rfl, rfl, rfl, rfl, rfl, rfl, rfl, rfl, rfl, rfl, rfl, rfl, rfl, rfl, rfl, rfl, rfl, rfl, rfl, rfl, rfl⟩

@[simp] theorem State.onLane_frame (s : State) (n : Nat) (f : Lane → Lane) :
    (s.onLane n f).pending = s.pending ∧ (s.onLane n f).fresh = s.fresh ∧ (s.onLane n f).mode = s.mode ∧
    (s.onLane n f).apFrom = s.apFrom ∧ (s.onLane n f).quiesceFrom = s.quiesceFrom ∧ (s.onLane n f).clk = s.clk ∧
    (s.onLane n f).userCal = s.userCal ∧ (s.onLane n f).sdh = s.sdh ∧ (s.onLane n f).paths = s.paths ∧
    (s.onLane n f).cpri = s.cpri ∧ (s.onLane n f).axcs = s.axcs ∧ (s.onLane n f).comb = s.comb ∧
    (s.onLane n f).nurse = s.nurse ∧ (s.onLane n f).pool = s.pool ∧ (s.onLane n f).prot = s.prot ∧
    (s.onLane n f).pm = s.pm ∧ (s.onLane n f).scout = s.scout ∧ (s.onLane n f).hive = s.hive ∧
    (s.onLane n f).ports = s.ports ∧ (s.onLane n f).sems = s.sems ∧ (s.onLane n f).nextSession = s.nextSession ∧
    (s.onLane n f).ev = s.ev ∧ (s.onLane n f).guard = s.guard ∧ (s.onLane n f).keeper = s.keeper ∧
    (s.onLane n f).bus = s.bus ∧ (s.onLane n f).test = s.test ∧ (s.onLane n f).tally = s.tally ∧
    (s.onLane n f).sec = s.sec ∧ (s.onLane n f).power = s.power :=
  ⟨rfl, rfl, rfl, rfl, rfl, rfl, rfl, rfl, rfl, rfl, rfl, rfl, rfl, rfl, rfl, rfl, rfl, rfl, rfl, rfl, rfl, rfl, rfl, rfl, rfl, rfl, rfl, rfl, rfl⟩

@[simp] theorem State.setCal_frame (s : State) (n g : Nat) (c : UserCal) :
    (s.setCal n g c).pending = s.pending ∧ (s.setCal n g c).fresh = s.fresh ∧ (s.setCal n g c).mode = s.mode ∧
    (s.setCal n g c).apFrom = s.apFrom ∧ (s.setCal n g c).quiesceFrom = s.quiesceFrom ∧ (s.setCal n g c).clk = s.clk ∧
    (s.setCal n g c).lanes = s.lanes ∧ (s.setCal n g c).sdh = s.sdh ∧ (s.setCal n g c).paths = s.paths ∧
    (s.setCal n g c).cpri = s.cpri ∧ (s.setCal n g c).axcs = s.axcs ∧ (s.setCal n g c).comb = s.comb ∧
    (s.setCal n g c).nurse = s.nurse ∧ (s.setCal n g c).pool = s.pool ∧ (s.setCal n g c).prot = s.prot ∧
    (s.setCal n g c).pm = s.pm ∧ (s.setCal n g c).scout = s.scout ∧ (s.setCal n g c).hive = s.hive ∧
    (s.setCal n g c).ports = s.ports ∧ (s.setCal n g c).sems = s.sems ∧ (s.setCal n g c).nextSession = s.nextSession ∧
    (s.setCal n g c).ev = s.ev ∧ (s.setCal n g c).guard = s.guard ∧ (s.setCal n g c).keeper = s.keeper ∧
    (s.setCal n g c).bus = s.bus ∧ (s.setCal n g c).test = s.test ∧ (s.setCal n g c).tally = s.tally ∧
    (s.setCal n g c).sec = s.sec ∧ (s.setCal n g c).power = s.power :=
  ⟨rfl, rfl, rfl, rfl, rfl, rfl, rfl, rfl, rfl, rfl, rfl, rfl, rfl, rfl, rfl, rfl, rfl, rfl, rfl, rfl, rfl, rfl, rfl, rfl, rfl, rfl, rfl, rfl, rfl⟩

@[simp] theorem State.onSdh_frame (s : State) (n : Nat) (f : SdhPort → SdhPort) :
    (s.onSdh n f).pending = s.pending ∧ (s.onSdh n f).fresh = s.fresh ∧ (s.onSdh n f).mode = s.mode ∧
    (s.onSdh n f).apFrom = s.apFrom ∧ (s.onSdh n f).quiesceFrom = s.quiesceFrom ∧ (s.onSdh n f).clk = s.clk ∧
    (s.onSdh n f).lanes = s.lanes ∧ (s.onSdh n f).userCal = s.userCal ∧ (s.onSdh n f).paths = s.paths ∧
    (s.onSdh n f).cpri = s.cpri ∧ (s.onSdh n f).axcs = s.axcs ∧ (s.onSdh n f).comb = s.comb ∧
    (s.onSdh n f).nurse = s.nurse ∧ (s.onSdh n f).pool = s.pool ∧ (s.onSdh n f).prot = s.prot ∧ (s.onSdh n f).pm = s.pm ∧
    (s.onSdh n f).scout = s.scout ∧ (s.onSdh n f).hive = s.hive ∧ (s.onSdh n f).ports = s.ports ∧
    (s.onSdh n f).sems = s.sems ∧ (s.onSdh n f).nextSession = s.nextSession ∧ (s.onSdh n f).ev = s.ev ∧
    (s.onSdh n f).guard = s.guard ∧ (s.onSdh n f).keeper = s.keeper ∧ (s.onSdh n f).bus = s.bus ∧
    (s.onSdh n f).test = s.test ∧ (s.onSdh n f).tally = s.tally ∧ (s.onSdh n f).sec = s.sec ∧
    (s.onSdh n f).power = s.power :=
  ⟨rfl, rfl, rfl, rfl, rfl, rfl, rfl, rfl, rfl, rfl, rfl, rfl, rfl, rfl, rfl, rfl, rfl, rfl, rfl, rfl, rfl, rfl, rfl, rfl, rfl, rfl, rfl, rfl, rfl⟩

@[simp] theorem State.onPath_frame (s : State) (n g : Nat) (f : SdhPath → SdhPath) :
    (s.onPath n g f).pending = s.pending ∧ (s.onPath n g f).fresh = s.fresh ∧ (s.onPath n g f).mode = s.mode ∧
    (s.onPath n g f).apFrom = s.apFrom ∧ (s.onPath n g f).quiesceFrom = s.quiesceFrom ∧ (s.onPath n g f).clk = s.clk ∧
    (s.onPath n g f).lanes = s.lanes ∧ (s.onPath n g f).userCal = s.userCal ∧ (s.onPath n g f).sdh = s.sdh ∧
    (s.onPath n g f).cpri = s.cpri ∧ (s.onPath n g f).axcs = s.axcs ∧ (s.onPath n g f).comb = s.comb ∧
    (s.onPath n g f).nurse = s.nurse ∧ (s.onPath n g f).pool = s.pool ∧ (s.onPath n g f).prot = s.prot ∧
    (s.onPath n g f).pm = s.pm ∧ (s.onPath n g f).scout = s.scout ∧ (s.onPath n g f).hive = s.hive ∧
    (s.onPath n g f).ports = s.ports ∧ (s.onPath n g f).sems = s.sems ∧ (s.onPath n g f).nextSession = s.nextSession ∧
    (s.onPath n g f).ev = s.ev ∧ (s.onPath n g f).guard = s.guard ∧ (s.onPath n g f).keeper = s.keeper ∧
    (s.onPath n g f).bus = s.bus ∧ (s.onPath n g f).test = s.test ∧ (s.onPath n g f).tally = s.tally ∧
    (s.onPath n g f).sec = s.sec ∧ (s.onPath n g f).power = s.power :=
  ⟨rfl, rfl, rfl, rfl, rfl, rfl, rfl, rfl, rfl, rfl, rfl, rfl, rfl, rfl, rfl, rfl, rfl, rfl, rfl, rfl, rfl, rfl, rfl, rfl, rfl, rfl, rfl, rfl, rfl⟩

@[simp] theorem State.onCpri_frame (s : State) (n : Nat) (f : CpriPort → CpriPort) :
    (s.onCpri n f).pending = s.pending ∧ (s.onCpri n f).fresh = s.fresh ∧ (s.onCpri n f).mode = s.mode ∧
    (s.onCpri n f).apFrom = s.apFrom ∧ (s.onCpri n f).quiesceFrom = s.quiesceFrom ∧ (s.onCpri n f).clk = s.clk ∧
    (s.onCpri n f).lanes = s.lanes ∧ (s.onCpri n f).userCal = s.userCal ∧ (s.onCpri n f).sdh = s.sdh ∧
    (s.onCpri n f).paths = s.paths ∧ (s.onCpri n f).axcs = s.axcs ∧ (s.onCpri n f).comb = s.comb ∧
    (s.onCpri n f).nurse = s.nurse ∧ (s.onCpri n f).pool = s.pool ∧ (s.onCpri n f).prot = s.prot ∧
    (s.onCpri n f).pm = s.pm ∧ (s.onCpri n f).scout = s.scout ∧ (s.onCpri n f).hive = s.hive ∧
    (s.onCpri n f).ports = s.ports ∧ (s.onCpri n f).sems = s.sems ∧ (s.onCpri n f).nextSession = s.nextSession ∧
    (s.onCpri n f).ev = s.ev ∧ (s.onCpri n f).guard = s.guard ∧ (s.onCpri n f).keeper = s.keeper ∧
    (s.onCpri n f).bus = s.bus ∧ (s.onCpri n f).test = s.test ∧ (s.onCpri n f).tally = s.tally ∧
    (s.onCpri n f).sec = s.sec ∧ (s.onCpri n f).power = s.power :=
  ⟨rfl, rfl, rfl, rfl, rfl, rfl, rfl, rfl, rfl, rfl, rfl, rfl, rfl, rfl, rfl, rfl, rfl, rfl, rfl, rfl, rfl, rfl, rfl, rfl, rfl, rfl, rfl, rfl, rfl⟩

@[simp] theorem State.onAxc_frame (s : State) (n d i : Nat) (f : Axc → Axc) :
    (s.onAxc n d i f).pending = s.pending ∧ (s.onAxc n d i f).fresh = s.fresh ∧ (s.onAxc n d i f).mode = s.mode ∧
    (s.onAxc n d i f).apFrom = s.apFrom ∧ (s.onAxc n d i f).quiesceFrom = s.quiesceFrom ∧ (s.onAxc n d i f).clk = s.clk ∧
    (s.onAxc n d i f).lanes = s.lanes ∧ (s.onAxc n d i f).userCal = s.userCal ∧ (s.onAxc n d i f).sdh = s.sdh ∧
    (s.onAxc n d i f).paths = s.paths ∧ (s.onAxc n d i f).cpri = s.cpri ∧ (s.onAxc n d i f).comb = s.comb ∧
    (s.onAxc n d i f).nurse = s.nurse ∧ (s.onAxc n d i f).pool = s.pool ∧ (s.onAxc n d i f).prot = s.prot ∧
    (s.onAxc n d i f).pm = s.pm ∧ (s.onAxc n d i f).scout = s.scout ∧ (s.onAxc n d i f).hive = s.hive ∧
    (s.onAxc n d i f).ports = s.ports ∧ (s.onAxc n d i f).sems = s.sems ∧ (s.onAxc n d i f).nextSession = s.nextSession ∧
    (s.onAxc n d i f).ev = s.ev ∧ (s.onAxc n d i f).guard = s.guard ∧ (s.onAxc n d i f).keeper = s.keeper ∧
    (s.onAxc n d i f).bus = s.bus ∧ (s.onAxc n d i f).test = s.test ∧ (s.onAxc n d i f).tally = s.tally ∧
    (s.onAxc n d i f).sec = s.sec ∧ (s.onAxc n d i f).power = s.power :=
  ⟨rfl, rfl, rfl, rfl, rfl, rfl, rfl, rfl, rfl, rfl, rfl, rfl, rfl, rfl, rfl, rfl, rfl, rfl, rfl, rfl, rfl, rfl, rfl, rfl, rfl, rfl, rfl, rfl, rfl⟩

@[simp] theorem State.onPort_frame (s : State) (p : Nat) (f : WgPort → WgPort) :
    (s.onPort p f).pending = s.pending ∧ (s.onPort p f).fresh = s.fresh ∧ (s.onPort p f).mode = s.mode ∧
    (s.onPort p f).apFrom = s.apFrom ∧ (s.onPort p f).quiesceFrom = s.quiesceFrom ∧ (s.onPort p f).clk = s.clk ∧
    (s.onPort p f).lanes = s.lanes ∧ (s.onPort p f).userCal = s.userCal ∧ (s.onPort p f).sdh = s.sdh ∧
    (s.onPort p f).paths = s.paths ∧ (s.onPort p f).cpri = s.cpri ∧ (s.onPort p f).axcs = s.axcs ∧
    (s.onPort p f).comb = s.comb ∧ (s.onPort p f).nurse = s.nurse ∧ (s.onPort p f).pool = s.pool ∧
    (s.onPort p f).prot = s.prot ∧ (s.onPort p f).pm = s.pm ∧ (s.onPort p f).scout = s.scout ∧
    (s.onPort p f).hive = s.hive ∧ (s.onPort p f).sems = s.sems ∧ (s.onPort p f).nextSession = s.nextSession ∧
    (s.onPort p f).ev = s.ev ∧ (s.onPort p f).guard = s.guard ∧ (s.onPort p f).keeper = s.keeper ∧
    (s.onPort p f).bus = s.bus ∧ (s.onPort p f).test = s.test ∧ (s.onPort p f).tally = s.tally ∧
    (s.onPort p f).sec = s.sec ∧ (s.onPort p f).power = s.power :=
  ⟨rfl, rfl, rfl, rfl, rfl, rfl, rfl, rfl, rfl, rfl, rfl, rfl, rfl, rfl, rfl, rfl, rfl, rfl, rfl, rfl, rfl, rfl, rfl, rfl, rfl, rfl, rfl, rfl, rfl⟩

@[simp] theorem State.onCmdQ_frame (s : State) (p q : Nat) (f : CmdQueue → CmdQueue) :
    (s.onCmdQ p q f).pending = s.pending ∧ (s.onCmdQ p q f).fresh = s.fresh ∧ (s.onCmdQ p q f).mode = s.mode ∧
    (s.onCmdQ p q f).apFrom = s.apFrom ∧ (s.onCmdQ p q f).quiesceFrom = s.quiesceFrom ∧ (s.onCmdQ p q f).clk = s.clk ∧
    (s.onCmdQ p q f).lanes = s.lanes ∧ (s.onCmdQ p q f).userCal = s.userCal ∧ (s.onCmdQ p q f).sdh = s.sdh ∧
    (s.onCmdQ p q f).paths = s.paths ∧ (s.onCmdQ p q f).cpri = s.cpri ∧ (s.onCmdQ p q f).axcs = s.axcs ∧
    (s.onCmdQ p q f).comb = s.comb ∧ (s.onCmdQ p q f).nurse = s.nurse ∧ (s.onCmdQ p q f).pool = s.pool ∧
    (s.onCmdQ p q f).prot = s.prot ∧ (s.onCmdQ p q f).pm = s.pm ∧ (s.onCmdQ p q f).scout = s.scout ∧
    (s.onCmdQ p q f).hive = s.hive ∧ (s.onCmdQ p q f).sems = s.sems ∧ (s.onCmdQ p q f).nextSession = s.nextSession ∧
    (s.onCmdQ p q f).ev = s.ev ∧ (s.onCmdQ p q f).guard = s.guard ∧ (s.onCmdQ p q f).keeper = s.keeper ∧
    (s.onCmdQ p q f).bus = s.bus ∧ (s.onCmdQ p q f).test = s.test ∧ (s.onCmdQ p q f).tally = s.tally ∧
    (s.onCmdQ p q f).sec = s.sec ∧ (s.onCmdQ p q f).power = s.power :=
  ⟨rfl, rfl, rfl, rfl, rfl, rfl, rfl, rfl, rfl, rfl, rfl, rfl, rfl, rfl, rfl, rfl, rfl, rfl, rfl, rfl, rfl, rfl, rfl, rfl, rfl, rfl, rfl, rfl, rfl⟩

@[simp] theorem State.onRspQ_frame (s : State) (p q : Nat) (f : RspQueue → RspQueue) :
    (s.onRspQ p q f).pending = s.pending ∧ (s.onRspQ p q f).fresh = s.fresh ∧ (s.onRspQ p q f).mode = s.mode ∧
    (s.onRspQ p q f).apFrom = s.apFrom ∧ (s.onRspQ p q f).quiesceFrom = s.quiesceFrom ∧ (s.onRspQ p q f).clk = s.clk ∧
    (s.onRspQ p q f).lanes = s.lanes ∧ (s.onRspQ p q f).userCal = s.userCal ∧ (s.onRspQ p q f).sdh = s.sdh ∧
    (s.onRspQ p q f).paths = s.paths ∧ (s.onRspQ p q f).cpri = s.cpri ∧ (s.onRspQ p q f).axcs = s.axcs ∧
    (s.onRspQ p q f).comb = s.comb ∧ (s.onRspQ p q f).nurse = s.nurse ∧ (s.onRspQ p q f).pool = s.pool ∧
    (s.onRspQ p q f).prot = s.prot ∧ (s.onRspQ p q f).pm = s.pm ∧ (s.onRspQ p q f).scout = s.scout ∧
    (s.onRspQ p q f).hive = s.hive ∧ (s.onRspQ p q f).sems = s.sems ∧ (s.onRspQ p q f).nextSession = s.nextSession ∧
    (s.onRspQ p q f).ev = s.ev ∧ (s.onRspQ p q f).guard = s.guard ∧ (s.onRspQ p q f).keeper = s.keeper ∧
    (s.onRspQ p q f).bus = s.bus ∧ (s.onRspQ p q f).test = s.test ∧ (s.onRspQ p q f).tally = s.tally ∧
    (s.onRspQ p q f).sec = s.sec ∧ (s.onRspQ p q f).power = s.power :=
  ⟨rfl, rfl, rfl, rfl, rfl, rfl, rfl, rfl, rfl, rfl, rfl, rfl, rfl, rfl, rfl, rfl, rfl, rfl, rfl, rfl, rfl, rfl, rfl, rfl, rfl, rfl, rfl, rfl, rfl⟩

@[simp] theorem State.onRing_frame (s : State) (p n : Nat) (f : Ring → Ring) :
    (s.onRing p n f).pending = s.pending ∧ (s.onRing p n f).fresh = s.fresh ∧ (s.onRing p n f).mode = s.mode ∧
    (s.onRing p n f).apFrom = s.apFrom ∧ (s.onRing p n f).quiesceFrom = s.quiesceFrom ∧ (s.onRing p n f).clk = s.clk ∧
    (s.onRing p n f).lanes = s.lanes ∧ (s.onRing p n f).userCal = s.userCal ∧ (s.onRing p n f).sdh = s.sdh ∧
    (s.onRing p n f).paths = s.paths ∧ (s.onRing p n f).cpri = s.cpri ∧ (s.onRing p n f).axcs = s.axcs ∧
    (s.onRing p n f).comb = s.comb ∧ (s.onRing p n f).nurse = s.nurse ∧ (s.onRing p n f).pool = s.pool ∧
    (s.onRing p n f).prot = s.prot ∧ (s.onRing p n f).pm = s.pm ∧ (s.onRing p n f).scout = s.scout ∧
    (s.onRing p n f).hive = s.hive ∧ (s.onRing p n f).sems = s.sems ∧ (s.onRing p n f).nextSession = s.nextSession ∧
    (s.onRing p n f).ev = s.ev ∧ (s.onRing p n f).guard = s.guard ∧ (s.onRing p n f).keeper = s.keeper ∧
    (s.onRing p n f).bus = s.bus ∧ (s.onRing p n f).test = s.test ∧ (s.onRing p n f).tally = s.tally ∧
    (s.onRing p n f).sec = s.sec ∧ (s.onRing p n f).power = s.power :=
  ⟨rfl, rfl, rfl, rfl, rfl, rfl, rfl, rfl, rfl, rfl, rfl, rfl, rfl, rfl, rfl, rfl, rfl, rfl, rfl, rfl, rfl, rfl, rfl, rfl, rfl, rfl, rfl, rfl, rfl⟩

@[simp] theorem State.onSem_frame (s : State) (n : Nat) (f : Sem → Sem) :
    (s.onSem n f).pending = s.pending ∧ (s.onSem n f).fresh = s.fresh ∧ (s.onSem n f).mode = s.mode ∧
    (s.onSem n f).apFrom = s.apFrom ∧ (s.onSem n f).quiesceFrom = s.quiesceFrom ∧ (s.onSem n f).clk = s.clk ∧
    (s.onSem n f).lanes = s.lanes ∧ (s.onSem n f).userCal = s.userCal ∧ (s.onSem n f).sdh = s.sdh ∧
    (s.onSem n f).paths = s.paths ∧ (s.onSem n f).cpri = s.cpri ∧ (s.onSem n f).axcs = s.axcs ∧
    (s.onSem n f).comb = s.comb ∧ (s.onSem n f).nurse = s.nurse ∧ (s.onSem n f).pool = s.pool ∧
    (s.onSem n f).prot = s.prot ∧ (s.onSem n f).pm = s.pm ∧ (s.onSem n f).scout = s.scout ∧ (s.onSem n f).hive = s.hive ∧
    (s.onSem n f).ports = s.ports ∧ (s.onSem n f).nextSession = s.nextSession ∧ (s.onSem n f).ev = s.ev ∧
    (s.onSem n f).guard = s.guard ∧ (s.onSem n f).keeper = s.keeper ∧ (s.onSem n f).bus = s.bus ∧
    (s.onSem n f).test = s.test ∧ (s.onSem n f).tally = s.tally ∧ (s.onSem n f).sec = s.sec ∧
    (s.onSem n f).power = s.power :=
  ⟨rfl, rfl, rfl, rfl, rfl, rfl, rfl, rfl, rfl, rfl, rfl, rfl, rfl, rfl, rfl, rfl, rfl, rfl, rfl, rfl, rfl, rfl, rfl, rfl, rfl, rfl, rfl, rfl, rfl⟩

@[simp] theorem State.onCoal_frame (s : State) (p g : Nat) (f : Coal → Coal) :
    (s.onCoal p g f).pending = s.pending ∧ (s.onCoal p g f).fresh = s.fresh ∧ (s.onCoal p g f).mode = s.mode ∧
    (s.onCoal p g f).apFrom = s.apFrom ∧ (s.onCoal p g f).quiesceFrom = s.quiesceFrom ∧ (s.onCoal p g f).clk = s.clk ∧
    (s.onCoal p g f).lanes = s.lanes ∧ (s.onCoal p g f).userCal = s.userCal ∧ (s.onCoal p g f).sdh = s.sdh ∧
    (s.onCoal p g f).paths = s.paths ∧ (s.onCoal p g f).cpri = s.cpri ∧ (s.onCoal p g f).axcs = s.axcs ∧
    (s.onCoal p g f).comb = s.comb ∧ (s.onCoal p g f).nurse = s.nurse ∧ (s.onCoal p g f).pool = s.pool ∧
    (s.onCoal p g f).prot = s.prot ∧ (s.onCoal p g f).pm = s.pm ∧ (s.onCoal p g f).scout = s.scout ∧
    (s.onCoal p g f).hive = s.hive ∧ (s.onCoal p g f).ports = s.ports ∧ (s.onCoal p g f).sems = s.sems ∧
    (s.onCoal p g f).nextSession = s.nextSession ∧ (s.onCoal p g f).guard = s.guard ∧ (s.onCoal p g f).keeper = s.keeper ∧
    (s.onCoal p g f).bus = s.bus ∧ (s.onCoal p g f).test = s.test ∧ (s.onCoal p g f).tally = s.tally ∧
    (s.onCoal p g f).sec = s.sec ∧ (s.onCoal p g f).power = s.power :=
  ⟨rfl, rfl, rfl, rfl, rfl, rfl, rfl, rfl, rfl, rfl, rfl, rfl, rfl, rfl, rfl, rfl, rfl, rfl, rfl, rfl, rfl, rfl, rfl, rfl, rfl, rfl, rfl, rfl, rfl⟩

@[simp] theorem State.onVc_frame (s : State) (b g : Nat) (f : NurseVc → NurseVc) :
    (s.onVc b g f).pending = s.pending ∧ (s.onVc b g f).fresh = s.fresh ∧ (s.onVc b g f).mode = s.mode ∧
    (s.onVc b g f).apFrom = s.apFrom ∧ (s.onVc b g f).quiesceFrom = s.quiesceFrom ∧ (s.onVc b g f).clk = s.clk ∧
    (s.onVc b g f).lanes = s.lanes ∧ (s.onVc b g f).userCal = s.userCal ∧ (s.onVc b g f).sdh = s.sdh ∧
    (s.onVc b g f).paths = s.paths ∧ (s.onVc b g f).cpri = s.cpri ∧ (s.onVc b g f).axcs = s.axcs ∧
    (s.onVc b g f).comb = s.comb ∧ (s.onVc b g f).pool = s.pool ∧ (s.onVc b g f).prot = s.prot ∧ (s.onVc b g f).pm = s.pm ∧
    (s.onVc b g f).scout = s.scout ∧ (s.onVc b g f).hive = s.hive ∧ (s.onVc b g f).ports = s.ports ∧
    (s.onVc b g f).sems = s.sems ∧ (s.onVc b g f).nextSession = s.nextSession ∧ (s.onVc b g f).ev = s.ev ∧
    (s.onVc b g f).guard = s.guard ∧ (s.onVc b g f).keeper = s.keeper ∧ (s.onVc b g f).bus = s.bus ∧
    (s.onVc b g f).test = s.test ∧ (s.onVc b g f).tally = s.tally ∧ (s.onVc b g f).sec = s.sec ∧
    (s.onVc b g f).power = s.power :=
  ⟨rfl, rfl, rfl, rfl, rfl, rfl, rfl, rfl, rfl, rfl, rfl, rfl, rfl, rfl, rfl, rfl, rfl, rfl, rfl, rfl, rfl, rfl, rfl, rfl, rfl, rfl, rfl, rfl, rfl⟩

@[simp] theorem State.onTu_frame (s : State) (b g tu : Nat) (f : NurseTu → NurseTu) :
    (s.onTu b g tu f).pending = s.pending ∧ (s.onTu b g tu f).fresh = s.fresh ∧ (s.onTu b g tu f).mode = s.mode ∧
    (s.onTu b g tu f).apFrom = s.apFrom ∧ (s.onTu b g tu f).quiesceFrom = s.quiesceFrom ∧ (s.onTu b g tu f).clk = s.clk ∧
    (s.onTu b g tu f).lanes = s.lanes ∧ (s.onTu b g tu f).userCal = s.userCal ∧ (s.onTu b g tu f).sdh = s.sdh ∧
    (s.onTu b g tu f).paths = s.paths ∧ (s.onTu b g tu f).cpri = s.cpri ∧ (s.onTu b g tu f).axcs = s.axcs ∧
    (s.onTu b g tu f).comb = s.comb ∧ (s.onTu b g tu f).pool = s.pool ∧ (s.onTu b g tu f).prot = s.prot ∧
    (s.onTu b g tu f).pm = s.pm ∧ (s.onTu b g tu f).scout = s.scout ∧ (s.onTu b g tu f).hive = s.hive ∧
    (s.onTu b g tu f).ports = s.ports ∧ (s.onTu b g tu f).sems = s.sems ∧ (s.onTu b g tu f).nextSession = s.nextSession ∧
    (s.onTu b g tu f).ev = s.ev ∧ (s.onTu b g tu f).guard = s.guard ∧ (s.onTu b g tu f).keeper = s.keeper ∧
    (s.onTu b g tu f).bus = s.bus ∧ (s.onTu b g tu f).test = s.test ∧ (s.onTu b g tu f).tally = s.tally ∧
    (s.onTu b g tu f).sec = s.sec ∧ (s.onTu b g tu f).power = s.power :=
  ⟨rfl, rfl, rfl, rfl, rfl, rfl, rfl, rfl, rfl, rfl, rfl, rfl, rfl, rfl, rfl, rfl, rfl, rfl, rfl, rfl, rfl, rfl, rfl, rfl, rfl, rfl, rfl, rfl, rfl⟩

@[simp] theorem State.onAxv_frame (s : State) (b d g : Nat) (f : Axv → Axv) :
    (s.onAxv b d g f).pending = s.pending ∧ (s.onAxv b d g f).fresh = s.fresh ∧ (s.onAxv b d g f).mode = s.mode ∧
    (s.onAxv b d g f).apFrom = s.apFrom ∧ (s.onAxv b d g f).quiesceFrom = s.quiesceFrom ∧ (s.onAxv b d g f).clk = s.clk ∧
    (s.onAxv b d g f).lanes = s.lanes ∧ (s.onAxv b d g f).userCal = s.userCal ∧ (s.onAxv b d g f).sdh = s.sdh ∧
    (s.onAxv b d g f).paths = s.paths ∧ (s.onAxv b d g f).cpri = s.cpri ∧ (s.onAxv b d g f).axcs = s.axcs ∧
    (s.onAxv b d g f).comb = s.comb ∧ (s.onAxv b d g f).pool = s.pool ∧ (s.onAxv b d g f).prot = s.prot ∧
    (s.onAxv b d g f).pm = s.pm ∧ (s.onAxv b d g f).scout = s.scout ∧ (s.onAxv b d g f).hive = s.hive ∧
    (s.onAxv b d g f).ports = s.ports ∧ (s.onAxv b d g f).sems = s.sems ∧ (s.onAxv b d g f).nextSession = s.nextSession ∧
    (s.onAxv b d g f).ev = s.ev ∧ (s.onAxv b d g f).guard = s.guard ∧ (s.onAxv b d g f).keeper = s.keeper ∧
    (s.onAxv b d g f).bus = s.bus ∧ (s.onAxv b d g f).test = s.test ∧ (s.onAxv b d g f).tally = s.tally ∧
    (s.onAxv b d g f).sec = s.sec ∧ (s.onAxv b d g f).power = s.power :=
  ⟨rfl, rfl, rfl, rfl, rfl, rfl, rfl, rfl, rfl, rfl, rfl, rfl, rfl, rfl, rfl, rfl, rfl, rfl, rfl, rfl, rfl, rfl, rfl, rfl, rfl, rfl, rfl, rfl, rfl⟩

@[simp] theorem State.onAxvAxc_frame (s : State) (b d g i : Nat) (f : AxvAxc → AxvAxc) :
    (s.onAxvAxc b d g i f).pending = s.pending ∧ (s.onAxvAxc b d g i f).fresh = s.fresh ∧
    (s.onAxvAxc b d g i f).mode = s.mode ∧ (s.onAxvAxc b d g i f).apFrom = s.apFrom ∧
    (s.onAxvAxc b d g i f).quiesceFrom = s.quiesceFrom ∧ (s.onAxvAxc b d g i f).clk = s.clk ∧
    (s.onAxvAxc b d g i f).lanes = s.lanes ∧ (s.onAxvAxc b d g i f).userCal = s.userCal ∧
    (s.onAxvAxc b d g i f).sdh = s.sdh ∧ (s.onAxvAxc b d g i f).paths = s.paths ∧ (s.onAxvAxc b d g i f).cpri = s.cpri ∧
    (s.onAxvAxc b d g i f).axcs = s.axcs ∧ (s.onAxvAxc b d g i f).comb = s.comb ∧ (s.onAxvAxc b d g i f).pool = s.pool ∧
    (s.onAxvAxc b d g i f).prot = s.prot ∧ (s.onAxvAxc b d g i f).pm = s.pm ∧ (s.onAxvAxc b d g i f).scout = s.scout ∧
    (s.onAxvAxc b d g i f).hive = s.hive ∧ (s.onAxvAxc b d g i f).ports = s.ports ∧ (s.onAxvAxc b d g i f).sems = s.sems ∧
    (s.onAxvAxc b d g i f).nextSession = s.nextSession ∧ (s.onAxvAxc b d g i f).ev = s.ev ∧
    (s.onAxvAxc b d g i f).guard = s.guard ∧ (s.onAxvAxc b d g i f).keeper = s.keeper ∧ (s.onAxvAxc b d g i f).bus = s.bus ∧
    (s.onAxvAxc b d g i f).test = s.test ∧ (s.onAxvAxc b d g i f).tally = s.tally ∧ (s.onAxvAxc b d g i f).sec = s.sec ∧
    (s.onAxvAxc b d g i f).power = s.power :=
  ⟨rfl, rfl, rfl, rfl, rfl, rfl, rfl, rfl, rfl, rfl, rfl, rfl, rfl, rfl, rfl, rfl, rfl, rfl, rfl, rfl, rfl, rfl, rfl, rfl, rfl, rfl, rfl, rfl, rfl⟩

@[simp] theorem State.onEntry_frame (s : State) (k : Nat) (f : PoolEntry → PoolEntry) :
    (s.onEntry k f).pending = s.pending ∧ (s.onEntry k f).fresh = s.fresh ∧ (s.onEntry k f).mode = s.mode ∧
    (s.onEntry k f).apFrom = s.apFrom ∧ (s.onEntry k f).quiesceFrom = s.quiesceFrom ∧ (s.onEntry k f).clk = s.clk ∧
    (s.onEntry k f).lanes = s.lanes ∧ (s.onEntry k f).userCal = s.userCal ∧ (s.onEntry k f).sdh = s.sdh ∧
    (s.onEntry k f).paths = s.paths ∧ (s.onEntry k f).cpri = s.cpri ∧ (s.onEntry k f).axcs = s.axcs ∧
    (s.onEntry k f).comb = s.comb ∧ (s.onEntry k f).nurse = s.nurse ∧ (s.onEntry k f).prot = s.prot ∧
    (s.onEntry k f).pm = s.pm ∧ (s.onEntry k f).scout = s.scout ∧ (s.onEntry k f).hive = s.hive ∧
    (s.onEntry k f).ports = s.ports ∧ (s.onEntry k f).sems = s.sems ∧ (s.onEntry k f).nextSession = s.nextSession ∧
    (s.onEntry k f).ev = s.ev ∧ (s.onEntry k f).guard = s.guard ∧ (s.onEntry k f).keeper = s.keeper ∧
    (s.onEntry k f).bus = s.bus ∧ (s.onEntry k f).test = s.test ∧ (s.onEntry k f).tally = s.tally ∧
    (s.onEntry k f).sec = s.sec ∧ (s.onEntry k f).power = s.power :=
  ⟨rfl, rfl, rfl, rfl, rfl, rfl, rfl, rfl, rfl, rfl, rfl, rfl, rfl, rfl, rfl, rfl, rfl, rfl, rfl, rfl, rfl, rfl, rfl, rfl, rfl, rfl, rfl, rfl, rfl⟩

@[simp] theorem State.onMember_frame (s : State) (k i : Nat) (f : Member → Member) :
    (s.onMember k i f).pending = s.pending ∧ (s.onMember k i f).fresh = s.fresh ∧ (s.onMember k i f).mode = s.mode ∧
    (s.onMember k i f).apFrom = s.apFrom ∧ (s.onMember k i f).quiesceFrom = s.quiesceFrom ∧ (s.onMember k i f).clk = s.clk ∧
    (s.onMember k i f).lanes = s.lanes ∧ (s.onMember k i f).userCal = s.userCal ∧ (s.onMember k i f).sdh = s.sdh ∧
    (s.onMember k i f).paths = s.paths ∧ (s.onMember k i f).cpri = s.cpri ∧ (s.onMember k i f).axcs = s.axcs ∧
    (s.onMember k i f).comb = s.comb ∧ (s.onMember k i f).nurse = s.nurse ∧ (s.onMember k i f).prot = s.prot ∧
    (s.onMember k i f).pm = s.pm ∧ (s.onMember k i f).scout = s.scout ∧ (s.onMember k i f).hive = s.hive ∧
    (s.onMember k i f).ports = s.ports ∧ (s.onMember k i f).sems = s.sems ∧ (s.onMember k i f).nextSession = s.nextSession ∧
    (s.onMember k i f).ev = s.ev ∧ (s.onMember k i f).guard = s.guard ∧ (s.onMember k i f).keeper = s.keeper ∧
    (s.onMember k i f).bus = s.bus ∧ (s.onMember k i f).test = s.test ∧ (s.onMember k i f).tally = s.tally ∧
    (s.onMember k i f).sec = s.sec ∧ (s.onMember k i f).power = s.power :=
  ⟨rfl, rfl, rfl, rfl, rfl, rfl, rfl, rfl, rfl, rfl, rfl, rfl, rfl, rfl, rfl, rfl, rfl, rfl, rfl, rfl, rfl, rfl, rfl, rfl, rfl, rfl, rfl, rfl, rfl⟩

@[simp] theorem State.onChan_frame (s : State) (n : Nat) (f : Channel → Channel) :
    (s.onChan n f).pending = s.pending ∧ (s.onChan n f).fresh = s.fresh ∧ (s.onChan n f).mode = s.mode ∧
    (s.onChan n f).apFrom = s.apFrom ∧ (s.onChan n f).quiesceFrom = s.quiesceFrom ∧ (s.onChan n f).clk = s.clk ∧
    (s.onChan n f).lanes = s.lanes ∧ (s.onChan n f).userCal = s.userCal ∧ (s.onChan n f).sdh = s.sdh ∧
    (s.onChan n f).paths = s.paths ∧ (s.onChan n f).cpri = s.cpri ∧ (s.onChan n f).axcs = s.axcs ∧
    (s.onChan n f).comb = s.comb ∧ (s.onChan n f).nurse = s.nurse ∧ (s.onChan n f).prot = s.prot ∧
    (s.onChan n f).pm = s.pm ∧ (s.onChan n f).scout = s.scout ∧ (s.onChan n f).hive = s.hive ∧
    (s.onChan n f).ports = s.ports ∧ (s.onChan n f).sems = s.sems ∧ (s.onChan n f).nextSession = s.nextSession ∧
    (s.onChan n f).ev = s.ev ∧ (s.onChan n f).guard = s.guard ∧ (s.onChan n f).keeper = s.keeper ∧
    (s.onChan n f).bus = s.bus ∧ (s.onChan n f).test = s.test ∧ (s.onChan n f).tally = s.tally ∧
    (s.onChan n f).sec = s.sec ∧ (s.onChan n f).power = s.power :=
  ⟨rfl, rfl, rfl, rfl, rfl, rfl, rfl, rfl, rfl, rfl, rfl, rfl, rfl, rfl, rfl, rfl, rfl, rfl, rfl, rfl, rfl, rfl, rfl, rfl, rfl, rfl, rfl, rfl, rfl⟩

@[simp] theorem State.onGroup_frame (s : State) (n : Nat) (f : ProtGroup → ProtGroup) :
    (s.onGroup n f).pending = s.pending ∧ (s.onGroup n f).fresh = s.fresh ∧ (s.onGroup n f).mode = s.mode ∧
    (s.onGroup n f).apFrom = s.apFrom ∧ (s.onGroup n f).quiesceFrom = s.quiesceFrom ∧ (s.onGroup n f).clk = s.clk ∧
    (s.onGroup n f).lanes = s.lanes ∧ (s.onGroup n f).userCal = s.userCal ∧ (s.onGroup n f).sdh = s.sdh ∧
    (s.onGroup n f).paths = s.paths ∧ (s.onGroup n f).cpri = s.cpri ∧ (s.onGroup n f).axcs = s.axcs ∧
    (s.onGroup n f).comb = s.comb ∧ (s.onGroup n f).nurse = s.nurse ∧ (s.onGroup n f).pool = s.pool ∧
    (s.onGroup n f).pm = s.pm ∧ (s.onGroup n f).scout = s.scout ∧ (s.onGroup n f).hive = s.hive ∧
    (s.onGroup n f).ports = s.ports ∧ (s.onGroup n f).sems = s.sems ∧ (s.onGroup n f).nextSession = s.nextSession ∧
    (s.onGroup n f).ev = s.ev ∧ (s.onGroup n f).guard = s.guard ∧ (s.onGroup n f).keeper = s.keeper ∧
    (s.onGroup n f).bus = s.bus ∧ (s.onGroup n f).test = s.test ∧ (s.onGroup n f).tally = s.tally ∧
    (s.onGroup n f).sec = s.sec ∧ (s.onGroup n f).power = s.power :=
  ⟨rfl, rfl, rfl, rfl, rfl, rfl, rfl, rfl, rfl, rfl, rfl, rfl, rfl, rfl, rfl, rfl, rfl, rfl, rfl, rfl, rfl, rfl, rfl, rfl, rfl, rfl, rfl, rfl, rfl⟩

@[simp] theorem State.onMon_frame (s : State) (e : Entity) (f : Mon → Mon) :
    (s.onMon e f).pending = s.pending ∧ (s.onMon e f).fresh = s.fresh ∧ (s.onMon e f).mode = s.mode ∧
    (s.onMon e f).apFrom = s.apFrom ∧ (s.onMon e f).quiesceFrom = s.quiesceFrom ∧ (s.onMon e f).clk = s.clk ∧
    (s.onMon e f).lanes = s.lanes ∧ (s.onMon e f).userCal = s.userCal ∧ (s.onMon e f).sdh = s.sdh ∧
    (s.onMon e f).paths = s.paths ∧ (s.onMon e f).cpri = s.cpri ∧ (s.onMon e f).axcs = s.axcs ∧
    (s.onMon e f).comb = s.comb ∧ (s.onMon e f).nurse = s.nurse ∧ (s.onMon e f).pool = s.pool ∧
    (s.onMon e f).prot = s.prot ∧ (s.onMon e f).scout = s.scout ∧ (s.onMon e f).hive = s.hive ∧
    (s.onMon e f).ports = s.ports ∧ (s.onMon e f).sems = s.sems ∧ (s.onMon e f).nextSession = s.nextSession ∧
    (s.onMon e f).ev = s.ev ∧ (s.onMon e f).guard = s.guard ∧ (s.onMon e f).keeper = s.keeper ∧ (s.onMon e f).bus = s.bus ∧
    (s.onMon e f).test = s.test ∧ (s.onMon e f).tally = s.tally ∧ (s.onMon e f).sec = s.sec ∧
    (s.onMon e f).power = s.power :=
  ⟨rfl, rfl, rfl, rfl, rfl, rfl, rfl, rfl, rfl, rfl, rfl, rfl, rfl, rfl, rfl, rfl, rfl, rfl, rfl, rfl, rfl, rfl, rfl, rfl, rfl, rfl, rfl, rfl, rfl⟩

@[simp] theorem State.onInp_frame (s : State) (n : Nat) (f : ScoutIn → ScoutIn) :
    (s.onInp n f).pending = s.pending ∧ (s.onInp n f).fresh = s.fresh ∧ (s.onInp n f).mode = s.mode ∧
    (s.onInp n f).apFrom = s.apFrom ∧ (s.onInp n f).quiesceFrom = s.quiesceFrom ∧ (s.onInp n f).clk = s.clk ∧
    (s.onInp n f).lanes = s.lanes ∧ (s.onInp n f).userCal = s.userCal ∧ (s.onInp n f).sdh = s.sdh ∧
    (s.onInp n f).paths = s.paths ∧ (s.onInp n f).cpri = s.cpri ∧ (s.onInp n f).axcs = s.axcs ∧
    (s.onInp n f).comb = s.comb ∧ (s.onInp n f).nurse = s.nurse ∧ (s.onInp n f).pool = s.pool ∧
    (s.onInp n f).prot = s.prot ∧ (s.onInp n f).pm = s.pm ∧ (s.onInp n f).hive = s.hive ∧ (s.onInp n f).ports = s.ports ∧
    (s.onInp n f).sems = s.sems ∧ (s.onInp n f).nextSession = s.nextSession ∧ (s.onInp n f).ev = s.ev ∧
    (s.onInp n f).guard = s.guard ∧ (s.onInp n f).keeper = s.keeper ∧ (s.onInp n f).bus = s.bus ∧
    (s.onInp n f).test = s.test ∧ (s.onInp n f).tally = s.tally ∧ (s.onInp n f).sec = s.sec ∧
    (s.onInp n f).power = s.power :=
  ⟨rfl, rfl, rfl, rfl, rfl, rfl, rfl, rfl, rfl, rfl, rfl, rfl, rfl, rfl, rfl, rfl, rfl, rfl, rfl, rfl, rfl, rfl, rfl, rfl, rfl, rfl, rfl, rfl, rfl⟩

@[simp] theorem State.onRegion_frame (s : State) (n : Nat) (f : Region → Region) :
    (s.onRegion n f).pending = s.pending ∧ (s.onRegion n f).fresh = s.fresh ∧ (s.onRegion n f).mode = s.mode ∧
    (s.onRegion n f).apFrom = s.apFrom ∧ (s.onRegion n f).quiesceFrom = s.quiesceFrom ∧ (s.onRegion n f).clk = s.clk ∧
    (s.onRegion n f).lanes = s.lanes ∧ (s.onRegion n f).userCal = s.userCal ∧ (s.onRegion n f).sdh = s.sdh ∧
    (s.onRegion n f).paths = s.paths ∧ (s.onRegion n f).cpri = s.cpri ∧ (s.onRegion n f).axcs = s.axcs ∧
    (s.onRegion n f).nurse = s.nurse ∧ (s.onRegion n f).pool = s.pool ∧ (s.onRegion n f).prot = s.prot ∧
    (s.onRegion n f).pm = s.pm ∧ (s.onRegion n f).scout = s.scout ∧ (s.onRegion n f).hive = s.hive ∧
    (s.onRegion n f).ports = s.ports ∧ (s.onRegion n f).sems = s.sems ∧ (s.onRegion n f).nextSession = s.nextSession ∧
    (s.onRegion n f).ev = s.ev ∧ (s.onRegion n f).guard = s.guard ∧ (s.onRegion n f).keeper = s.keeper ∧
    (s.onRegion n f).bus = s.bus ∧ (s.onRegion n f).test = s.test ∧ (s.onRegion n f).tally = s.tally ∧
    (s.onRegion n f).sec = s.sec ∧ (s.onRegion n f).power = s.power :=
  ⟨rfl, rfl, rfl, rfl, rfl, rfl, rfl, rfl, rfl, rfl, rfl, rfl, rfl, rfl, rfl, rfl, rfl, rfl, rfl, rfl, rfl, rfl, rfl, rfl, rfl, rfl, rfl, rfl, rfl⟩

@[simp] theorem State.onCounter_frame (s : State) (n : Nat) (f : Counter → Counter) :
    (s.onCounter n f).pending = s.pending ∧ (s.onCounter n f).fresh = s.fresh ∧ (s.onCounter n f).mode = s.mode ∧
    (s.onCounter n f).apFrom = s.apFrom ∧ (s.onCounter n f).quiesceFrom = s.quiesceFrom ∧ (s.onCounter n f).clk = s.clk ∧
    (s.onCounter n f).lanes = s.lanes ∧ (s.onCounter n f).userCal = s.userCal ∧ (s.onCounter n f).sdh = s.sdh ∧
    (s.onCounter n f).paths = s.paths ∧ (s.onCounter n f).cpri = s.cpri ∧ (s.onCounter n f).axcs = s.axcs ∧
    (s.onCounter n f).comb = s.comb ∧ (s.onCounter n f).nurse = s.nurse ∧ (s.onCounter n f).pool = s.pool ∧
    (s.onCounter n f).prot = s.prot ∧ (s.onCounter n f).pm = s.pm ∧ (s.onCounter n f).scout = s.scout ∧
    (s.onCounter n f).hive = s.hive ∧ (s.onCounter n f).ports = s.ports ∧ (s.onCounter n f).sems = s.sems ∧
    (s.onCounter n f).nextSession = s.nextSession ∧ (s.onCounter n f).ev = s.ev ∧ (s.onCounter n f).guard = s.guard ∧
    (s.onCounter n f).keeper = s.keeper ∧ (s.onCounter n f).bus = s.bus ∧ (s.onCounter n f).test = s.test ∧
    (s.onCounter n f).sec = s.sec ∧ (s.onCounter n f).power = s.power :=
  ⟨rfl, rfl, rfl, rfl, rfl, rfl, rfl, rfl, rfl, rfl, rfl, rfl, rfl, rfl, rfl, rfl, rfl, rfl, rfl, rfl, rfl, rfl, rfl, rfl, rfl, rfl, rfl, rfl, rfl⟩

@[simp] theorem State.onChal_frame (s : State) (p : Nat) (f : Chal → Chal) :
    (s.onChal p f).pending = s.pending ∧ (s.onChal p f).fresh = s.fresh ∧ (s.onChal p f).mode = s.mode ∧
    (s.onChal p f).apFrom = s.apFrom ∧ (s.onChal p f).quiesceFrom = s.quiesceFrom ∧ (s.onChal p f).clk = s.clk ∧
    (s.onChal p f).lanes = s.lanes ∧ (s.onChal p f).userCal = s.userCal ∧ (s.onChal p f).sdh = s.sdh ∧
    (s.onChal p f).paths = s.paths ∧ (s.onChal p f).cpri = s.cpri ∧ (s.onChal p f).axcs = s.axcs ∧
    (s.onChal p f).comb = s.comb ∧ (s.onChal p f).nurse = s.nurse ∧ (s.onChal p f).pool = s.pool ∧
    (s.onChal p f).prot = s.prot ∧ (s.onChal p f).pm = s.pm ∧ (s.onChal p f).scout = s.scout ∧
    (s.onChal p f).hive = s.hive ∧ (s.onChal p f).ports = s.ports ∧ (s.onChal p f).sems = s.sems ∧
    (s.onChal p f).nextSession = s.nextSession ∧ (s.onChal p f).ev = s.ev ∧ (s.onChal p f).guard = s.guard ∧
    (s.onChal p f).keeper = s.keeper ∧ (s.onChal p f).bus = s.bus ∧ (s.onChal p f).test = s.test ∧
    (s.onChal p f).tally = s.tally ∧ (s.onChal p f).power = s.power :=
  ⟨rfl, rfl, rfl, rfl, rfl, rfl, rfl, rfl, rfl, rfl, rfl, rfl, rfl, rfl, rfl, rfl, rfl, rfl, rfl, rfl, rfl, rfl, rfl, rfl, rfl, rfl, rfl, rfl, rfl⟩

@[simp] theorem State.onRail_frame (s : State) (n : Nat) (f : Rail → Rail) :
    (s.onRail n f).pending = s.pending ∧ (s.onRail n f).fresh = s.fresh ∧ (s.onRail n f).mode = s.mode ∧
    (s.onRail n f).apFrom = s.apFrom ∧ (s.onRail n f).quiesceFrom = s.quiesceFrom ∧ (s.onRail n f).clk = s.clk ∧
    (s.onRail n f).lanes = s.lanes ∧ (s.onRail n f).userCal = s.userCal ∧ (s.onRail n f).sdh = s.sdh ∧
    (s.onRail n f).paths = s.paths ∧ (s.onRail n f).cpri = s.cpri ∧ (s.onRail n f).axcs = s.axcs ∧
    (s.onRail n f).comb = s.comb ∧ (s.onRail n f).nurse = s.nurse ∧ (s.onRail n f).pool = s.pool ∧
    (s.onRail n f).prot = s.prot ∧ (s.onRail n f).pm = s.pm ∧ (s.onRail n f).scout = s.scout ∧
    (s.onRail n f).hive = s.hive ∧ (s.onRail n f).ports = s.ports ∧ (s.onRail n f).sems = s.sems ∧
    (s.onRail n f).nextSession = s.nextSession ∧ (s.onRail n f).ev = s.ev ∧ (s.onRail n f).guard = s.guard ∧
    (s.onRail n f).keeper = s.keeper ∧ (s.onRail n f).bus = s.bus ∧ (s.onRail n f).test = s.test ∧
    (s.onRail n f).tally = s.tally ∧ (s.onRail n f).sec = s.sec :=
  ⟨rfl, rfl, rfl, rfl, rfl, rfl, rfl, rfl, rfl, rfl, rfl, rfl, rfl, rfl, rfl, rfl, rfl, rfl, rfl, rfl, rfl, rfl, rfl, rfl, rfl, rfl, rfl, rfl, rfl⟩

@[simp] theorem State.draw_frame (s : State) :
    (s.draw).pending = s.pending ∧ (s.draw).mode = s.mode ∧ (s.draw).apFrom = s.apFrom ∧
    (s.draw).quiesceFrom = s.quiesceFrom ∧ (s.draw).clk = s.clk ∧ (s.draw).lanes = s.lanes ∧ (s.draw).userCal = s.userCal ∧
    (s.draw).sdh = s.sdh ∧ (s.draw).paths = s.paths ∧ (s.draw).cpri = s.cpri ∧ (s.draw).axcs = s.axcs ∧
    (s.draw).comb = s.comb ∧ (s.draw).nurse = s.nurse ∧ (s.draw).pool = s.pool ∧ (s.draw).prot = s.prot ∧
    (s.draw).pm = s.pm ∧ (s.draw).scout = s.scout ∧ (s.draw).hive = s.hive ∧ (s.draw).ports = s.ports ∧
    (s.draw).sems = s.sems ∧ (s.draw).nextSession = s.nextSession ∧ (s.draw).ev = s.ev ∧ (s.draw).guard = s.guard ∧
    (s.draw).keeper = s.keeper ∧ (s.draw).bus = s.bus ∧ (s.draw).test = s.test ∧ (s.draw).tally = s.tally ∧
    (s.draw).sec = s.sec ∧ (s.draw).power = s.power :=
  ⟨rfl, rfl, rfl, rfl, rfl, rfl, rfl, rfl, rfl, rfl, rfl, rfl, rfl, rfl, rfl, rfl, rfl, rfl, rfl, rfl, rfl, rfl, rfl, rfl, rfl, rfl, rfl, rfl, rfl⟩

@[simp] theorem State.setStack_frame (s : State) (t : Nat) (l : List (Nat × Nat)) :
    (s.setStack t l).pending = s.pending ∧ (s.setStack t l).fresh = s.fresh ∧ (s.setStack t l).mode = s.mode ∧
    (s.setStack t l).apFrom = s.apFrom ∧ (s.setStack t l).quiesceFrom = s.quiesceFrom ∧ (s.setStack t l).clk = s.clk ∧
    (s.setStack t l).lanes = s.lanes ∧ (s.setStack t l).userCal = s.userCal ∧ (s.setStack t l).sdh = s.sdh ∧
    (s.setStack t l).paths = s.paths ∧ (s.setStack t l).cpri = s.cpri ∧ (s.setStack t l).axcs = s.axcs ∧
    (s.setStack t l).comb = s.comb ∧ (s.setStack t l).nurse = s.nurse ∧ (s.setStack t l).pool = s.pool ∧
    (s.setStack t l).prot = s.prot ∧ (s.setStack t l).pm = s.pm ∧ (s.setStack t l).scout = s.scout ∧
    (s.setStack t l).hive = s.hive ∧ (s.setStack t l).ports = s.ports ∧ (s.setStack t l).sems = s.sems ∧
    (s.setStack t l).nextSession = s.nextSession ∧ (s.setStack t l).guard = s.guard ∧ (s.setStack t l).keeper = s.keeper ∧
    (s.setStack t l).bus = s.bus ∧ (s.setStack t l).test = s.test ∧ (s.setStack t l).tally = s.tally ∧
    (s.setStack t l).sec = s.sec ∧ (s.setStack t l).power = s.power :=
  ⟨rfl, rfl, rfl, rfl, rfl, rfl, rfl, rfl, rfl, rfl, rfl, rfl, rfl, rfl, rfl, rfl, rfl, rfl, rfl, rfl, rfl, rfl, rfl, rfl, rfl, rfl, rfl, rfl, rfl⟩

@[simp] theorem State.setBatch_frame (s : State) (p : Nat) (b : Option Batch) :
    (s.setBatch p b).pending = s.pending ∧ (s.setBatch p b).fresh = s.fresh ∧ (s.setBatch p b).mode = s.mode ∧
    (s.setBatch p b).apFrom = s.apFrom ∧ (s.setBatch p b).quiesceFrom = s.quiesceFrom ∧ (s.setBatch p b).lanes = s.lanes ∧
    (s.setBatch p b).userCal = s.userCal ∧ (s.setBatch p b).sdh = s.sdh ∧ (s.setBatch p b).paths = s.paths ∧
    (s.setBatch p b).cpri = s.cpri ∧ (s.setBatch p b).axcs = s.axcs ∧ (s.setBatch p b).comb = s.comb ∧
    (s.setBatch p b).nurse = s.nurse ∧ (s.setBatch p b).pool = s.pool ∧ (s.setBatch p b).prot = s.prot ∧
    (s.setBatch p b).pm = s.pm ∧ (s.setBatch p b).scout = s.scout ∧ (s.setBatch p b).hive = s.hive ∧
    (s.setBatch p b).ports = s.ports ∧ (s.setBatch p b).sems = s.sems ∧ (s.setBatch p b).nextSession = s.nextSession ∧
    (s.setBatch p b).ev = s.ev ∧ (s.setBatch p b).guard = s.guard ∧ (s.setBatch p b).keeper = s.keeper ∧
    (s.setBatch p b).bus = s.bus ∧ (s.setBatch p b).test = s.test ∧ (s.setBatch p b).tally = s.tally ∧
    (s.setBatch p b).sec = s.sec ∧ (s.setBatch p b).power = s.power :=
  ⟨rfl, rfl, rfl, rfl, rfl, rfl, rfl, rfl, rfl, rfl, rfl, rfl, rfl, rfl, rfl, rfl, rfl, rfl, rfl, rfl, rfl, rfl, rfl, rfl, rfl, rfl, rfl, rfl, rfl⟩

end Sys2Proof.Machine
end

