-- ==== Sys2Proof/Laws/Table.lean ====
section
/-!
SUPPORT. Laws/Table.lean: sparse tables: a read after a write, that every operation keeps the canonical form, and the same for
the bytes of the BAR2 window.
-/

namespace Sys2Proof.Machine

open Sys2Proof

variable {α : Type}

@[simp] theorem tget_nil (d : α) (n : Nat) : tget d [] n = d := rfl

theorem tget_filter_ne (d : α) (t : Tbl α) (n m : Nat) :
    tget d (t.filter fun e => e.1 != n) m = if m = n then d else tget d t m := by
  induction t with
  | nil => simp
  | cons e t ih =>
    obtain ⟨k, v⟩ := e
    by_cases hk : k = n
    · subst hk
      simp only [List.filter_cons, bne_self_eq_false, Bool.false_eq_true, if_false, ih, tget]
      split <;> rfl
    · have : (k != n) = true := by simpa using hk
      simp only [List.filter_cons, this, if_true, tget, ih]
      by_cases hm : m = k
      · subst hm; simp [hk]
      · simp [hm]

theorem tget_tins (d : α) (t : Tbl α) (n m : Nat) (v : α) :
    tget d (tins n v t) m = if m = n then v else tget d t m := by
  induction t with
  | nil => simp [tins, tget]
  | cons e t ih =>
    obtain ⟨k, w⟩ := e
    simp only [tins]
    split
    · simp [tget]
    · split
      · rename_i h; subst h
        simp only [tget]; split <;> rfl
      · rename_i hne
        simp only [tget, ih]
        by_cases hm : m = k
        · subst hm; simp [Ne.symm hne]
        · simp [hm]

/-- A read after a write. -/
theorem tget_tput [DecidableEq α] (d : α) (t : Tbl α) (n m : Nat) (v : α) :
    tget d (tput d t n v) m = if m = n then v else tget d t m := by
  unfold tput
  split
  · rename_i h; subst h; exact tget_filter_ne _ t n m
  · exact tget_tins d t n m v

@[simp] theorem tget_tput_same [DecidableEq α] (d : α) (t : Tbl α) (n : Nat) (v : α) : tget d (tput d t n v) n = v := by
  simp [tget_tput]

theorem tget_tput_ne [DecidableEq α] (d : α) (t : Tbl α) {n m : Nat} (v : α) (h : m ≠ n) :
    tget d (tput d t n v) m = tget d t m := by
  simp [tget_tput, h]

/-! ### The canonical form -/

theorem tableFrom_mono [DecidableEq α] (d : α) {a b : Nat} (h : a ≤ b) (t : Tbl α) (ht : tableFrom d b t = true) :
    tableFrom d a t = true := by
  cases t with
  | nil => rfl
  | cons e t =>
    obtain ⟨k, v⟩ := e
    simp only [tableFrom, Bool.and_eq_true, decide_eq_true_eq] at ht ⊢
    exact ⟨⟨Nat.le_trans h ht.1.1, ht.1.2⟩, ht.2⟩

theorem tableFrom_filter [DecidableEq α] (d : α) (p : Nat × α → Bool) (t : Tbl α) (lo : Nat) (h : tableFrom d lo t = true) :
    tableFrom d lo (t.filter p) = true := by
  induction t generalizing lo with
  | nil => rfl
  | cons e t ih =>
    obtain ⟨k, v⟩ := e
    simp only [tableFrom, Bool.and_eq_true, decide_eq_true_eq] at h
    simp only [List.filter_cons]
    split
    · simp only [tableFrom, Bool.and_eq_true, decide_eq_true_eq]
      exact ⟨h.1, ih (k + 1) h.2⟩
    · exact tableFrom_mono d (Nat.le_succ_of_le h.1.1) _ (ih (k + 1) h.2)

theorem tableFrom_tins [DecidableEq α] (d : α) (t : Tbl α) (n lo : Nat) (v : α) (hv : v ≠ d) (hlo : lo ≤ n)
    (h : tableFrom d lo t = true) : tableFrom d lo (tins n v t) = true := by
  induction t generalizing lo with
  | nil => simp [tins, tableFrom, hv, hlo]
  | cons e t ih =>
    obtain ⟨k, w⟩ := e
    simp only [tableFrom, Bool.and_eq_true, decide_eq_true_eq] at h
    simp only [tins]
    split
    · rename_i hk
      simp only [tableFrom, Bool.and_eq_true, decide_eq_true_eq]
      exact ⟨⟨hlo, hv⟩, ⟨hk, h.1.2⟩, h.2⟩
    · split
      · rename_i hk; subst hk
        simp only [tableFrom, Bool.and_eq_true, decide_eq_true_eq]
        exact ⟨⟨hlo, hv⟩, h.2⟩
      · simp only [tableFrom, Bool.and_eq_true, decide_eq_true_eq]
        exact ⟨h.1, ih (k + 1) (by omega) h.2⟩

/-- A write keeps the canonical form. -/
theorem tput_wf [DecidableEq α] (d : α) (t : Tbl α) (n : Nat) (v : α) (h : tableWf d t = true) : tableWf d (tput d t n v) = true := by
  unfold tableWf tput at *
  split
  · exact tableFrom_filter d _ t 0 h
  · rename_i hv; exact tableFrom_tins d t n 0 v hv (Nat.zero_le n) h

theorem filter_wf [DecidableEq α] (d : α) (p : Nat × α → Bool) (t : Tbl α) (h : tableWf d t = true) :
    tableWf d (t.filter p) = true := tableFrom_filter d p t 0 h

/-- A table rebuilt record by record is in canonical form. -/
theorem tmap_wf [DecidableEq α] (d : α) (f : Nat → α → α) (t : Tbl α) : tableWf d (tmap d f t) = true := by
  unfold tmap
  induction t with
  | nil => rfl
  | cons e t ih => exact tput_wf d _ e.1 _ ih

/-- A read of a table mapped by a function that leaves the reset record alone. -/
theorem tget_tmap [DecidableEq α] (d : α) (f : Nat → α → α) (t : Tbl α) (n : Nat) (hd : f n d = d) :
    tget d (tmap d f t) n = f n (tget d t n) := by
  unfold tmap
  induction t with
  | nil => simp [hd]
  | cons e t ih =>
    obtain ⟨k, v⟩ := e
    simp only [List.foldr_cons, tget_tput, ih, tget]
    split
    · rename_i h; rw [h]
    · rfl

/-! ### The BAR2 window -/

theorem memRead_memWrite (l : List Byte) (m : List Host.Cell) (a b : Nat) :
    memRead (memWrite m a l) b = if a ≤ b ∧ b < a + l.length then l.getD (b - a) 0 else memRead m b := by
  induction l generalizing m a with
  | nil => simp [memWrite, memRead]
  | cons x l ih =>
    simp only [memWrite, ih, List.length_cons]
    by_cases h1 : a + 1 ≤ b ∧ b < a + 1 + l.length
    · rw [if_pos h1, if_pos (by omega)]
      obtain ⟨c, rfl⟩ : ∃ c, b = a + 1 + c := ⟨b - (a + 1), by omega⟩
      have h2 : a + 1 + c - (a + 1) = c := by omega
      have h3 : a + 1 + c - a = c + 1 := by omega
      rw [h2, h3]; simp
    · rw [if_neg h1]
      by_cases h2 : b = a
      · subst h2
        rw [if_pos (by omega)]; simp [memRead]
      · rw [if_neg (by omega)]
        exact tget_tput_ne 0 m x h2

/-- A write keeps the canonical form of the memory. -/
theorem memWrite_wf (l : List Byte) (m : List Host.Cell) (a : Nat) (h : Memory.wf m = true) : Memory.wf (memWrite m a l) = true := by
  induction l generalizing m a with
  | nil => exact h
  | cons x l ih => exact ih _ _ (tput_wf 0 m a x h)

/-- What a filter by address leaves keeps the canonical form. -/
theorem memory_filter_wf (p : Host.Cell → Bool) (m : List Host.Cell) (h : Memory.wf m = true) : Memory.wf (m.filter p) = true :=
  filter_wf 0 p m h

end Sys2Proof.Machine
end

