-- ==== Sys2Proof/Laws/Events.lean ====
section
/-!
SUPPORT. Laws/Events.lean: what raising or driving an event source changes: the event controller, and the sticky copies of the Guard,
hive and power groups; what a source shows after it.
-/

namespace Sys2Proof.Machine

open Sys2Proof

/-- A count of the tally moves nothing else. -/
theorem tick_only (code unit n : Nat) (s : State) : ∃ k, tick code unit n s = s.onTally fun x => { x with ticks := k } := by
  unfold tick; split
  · exact ⟨s.tally.ticks, rfl⟩
  · exact ⟨_, rfl⟩

theorem tickIf_only (b : Bool) (code unit : Nat) (s : State) :
    ∃ k, tickIf b code unit s = s.onTally fun x => { x with ticks := k } := by
  unfold tickIf; split
  · exact tick_only ..
  · exact ⟨s.tally.ticks, rfl⟩

@[simp] theorem releaseHeld_frame (port g : Nat) (s : State) :
    (releaseHeld port g s).pending = s.pending ∧ (releaseHeld port g s).fresh = s.fresh ∧
    (releaseHeld port g s).mode = s.mode ∧ (releaseHeld port g s).apFrom = s.apFrom ∧
    (releaseHeld port g s).quiesceFrom = s.quiesceFrom ∧ (releaseHeld port g s).clk = s.clk ∧
    (releaseHeld port g s).lanes = s.lanes ∧ (releaseHeld port g s).userCal = s.userCal ∧
    (releaseHeld port g s).sdh = s.sdh ∧ (releaseHeld port g s).paths = s.paths ∧ (releaseHeld port g s).cpri = s.cpri ∧
    (releaseHeld port g s).axcs = s.axcs ∧ (releaseHeld port g s).comb = s.comb ∧ (releaseHeld port g s).nurse = s.nurse ∧
    (releaseHeld port g s).pool = s.pool ∧ (releaseHeld port g s).prot = s.prot ∧ (releaseHeld port g s).pm = s.pm ∧
    (releaseHeld port g s).scout = s.scout ∧ (releaseHeld port g s).hive = s.hive ∧ (releaseHeld port g s).ports = s.ports ∧
    (releaseHeld port g s).sems = s.sems ∧ (releaseHeld port g s).nextSession = s.nextSession ∧
    (releaseHeld port g s).guard = s.guard ∧ (releaseHeld port g s).keeper = s.keeper ∧ (releaseHeld port g s).bus = s.bus ∧
    (releaseHeld port g s).test = s.test ∧ (releaseHeld port g s).tally = s.tally ∧ (releaseHeld port g s).sec = s.sec ∧
    (releaseHeld port g s).power = s.power :=
  ⟨rfl, rfl, rfl, rfl, rfl, rfl, rfl, rfl, rfl, rfl, rfl, rfl, rfl, rfl, rfl, rfl, rfl, rfl, rfl, rfl, rfl, rfl, rfl, rfl, rfl, rfl, rfl, rfl, rfl⟩

@[simp] theorem setSrc_frame (n : Nat) (x : Src) (s : State) :
    (setSrc n x s).pending = s.pending ∧ (setSrc n x s).fresh = s.fresh ∧ (setSrc n x s).mode = s.mode ∧
    (setSrc n x s).apFrom = s.apFrom ∧ (setSrc n x s).quiesceFrom = s.quiesceFrom ∧ (setSrc n x s).clk = s.clk ∧
    (setSrc n x s).lanes = s.lanes ∧ (setSrc n x s).userCal = s.userCal ∧ (setSrc n x s).sdh = s.sdh ∧
    (setSrc n x s).paths = s.paths ∧ (setSrc n x s).cpri = s.cpri ∧ (setSrc n x s).axcs = s.axcs ∧
    (setSrc n x s).comb = s.comb ∧ (setSrc n x s).nurse = s.nurse ∧ (setSrc n x s).pool = s.pool ∧
    (setSrc n x s).prot = s.prot ∧ (setSrc n x s).pm = s.pm ∧ (setSrc n x s).scout = s.scout ∧
    (setSrc n x s).hive = s.hive ∧ (setSrc n x s).ports = s.ports ∧ (setSrc n x s).sems = s.sems ∧
    (setSrc n x s).nextSession = s.nextSession ∧ (setSrc n x s).guard = s.guard ∧ (setSrc n x s).keeper = s.keeper ∧
    (setSrc n x s).bus = s.bus ∧ (setSrc n x s).test = s.test ∧ (setSrc n x s).tally = s.tally ∧
    (setSrc n x s).sec = s.sec ∧ (setSrc n x s).power = s.power := by
  unfold setSrc; dsimp only; (repeat' split) <;> (try rw [State.onCoal]) <;> simp

@[simp] theorem sticky_frame (n : Nat) (s : State) :
    (sticky n s).pending = s.pending ∧ (sticky n s).fresh = s.fresh ∧ (sticky n s).mode = s.mode ∧
    (sticky n s).apFrom = s.apFrom ∧ (sticky n s).quiesceFrom = s.quiesceFrom ∧ (sticky n s).clk = s.clk ∧
    (sticky n s).lanes = s.lanes ∧ (sticky n s).userCal = s.userCal ∧ (sticky n s).sdh = s.sdh ∧
    (sticky n s).paths = s.paths ∧ (sticky n s).cpri = s.cpri ∧ (sticky n s).axcs = s.axcs ∧ (sticky n s).comb = s.comb ∧
    (sticky n s).nurse = s.nurse ∧ (sticky n s).pool = s.pool ∧ (sticky n s).prot = s.prot ∧ (sticky n s).pm = s.pm ∧
    (sticky n s).scout = s.scout ∧ (sticky n s).ports = s.ports ∧ (sticky n s).sems = s.sems ∧
    (sticky n s).nextSession = s.nextSession ∧ (sticky n s).ev = s.ev ∧ (sticky n s).keeper = s.keeper ∧
    (sticky n s).bus = s.bus ∧ (sticky n s).test = s.test ∧ (sticky n s).tally = s.tally ∧ (sticky n s).sec = s.sec := by
  unfold sticky; split
  · simp
  · split
    · simp
    · split <;> simp

@[simp] theorem sticky_guard (n : Nat) (s : State) :
    (sticky n s).guard.cores = s.guard.cores ∧ (sticky n s).guard.fq = s.guard.fq ∧
    (sticky n s).guard.overflow = s.guard.overflow ∧ (sticky n s).guard.lastBeat = s.guard.lastBeat ∧
    (sticky n s).guard.lastCode = s.guard.lastCode ∧ (sticky n s).guard.lastCls = s.guard.lastCls ∧
    (sticky n s).guard.storm = s.guard.storm ∧ (sticky n s).guard.keeperLost = s.guard.keeperLost ∧
    (sticky n s).guard.autopilot = s.guard.autopilot ∧ (sticky n s).guard.isHalt = s.guard.isHalt ∧
    (sticky n s).guard.haltCause = s.guard.haltCause ∧ (sticky n s).guard.apCause = s.guard.apCause ∧
    (sticky n s).guard.attempts = s.guard.attempts ∧ (sticky n s).guard.attempting = s.guard.attempting ∧
    (sticky n s).guard.stormPolicy = s.guard.stormPolicy ∧ (sticky n s).guard.restartLimit = s.guard.restartLimit ∧
    (sticky n s).guard.wdogCore = s.guard.wdogCore ∧ (sticky n s).guard.wdogCluster = s.guard.wdogCluster ∧
    (sticky n s).guard.clusterRun = s.guard.clusterRun ∧ (sticky n s).guard.apBeat = s.guard.apBeat ∧
    (sticky n s).guard.pipeOk = s.guard.pipeOk := by
  unfold sticky; split
  · simp
  · split
    · simp
    · split <;> simp

@[simp] theorem sticky_hive (n : Nat) (s : State) :
    (sticky n s).hive.cfg = s.hive.cfg ∧ (sticky n s).hive.side = s.hive.side ∧
    (sticky n s).hive.lineFree = s.hive.lineFree ∧ (sticky n s).hive.token = s.hive.token ∧
    (sticky n s).hive.hvSel = s.hive.hvSel ∧ (sticky n s).hive.hvOk = s.hive.hvOk ∧
    (sticky n s).hive.mateOk = s.hive.mateOk ∧ (sticky n s).hive.halfA = s.hive.halfA ∧
    (sticky n s).hive.halfB = s.hive.halfB ∧ (sticky n s).hive.hdrFails = s.hive.hdrFails ∧
    (sticky n s).hive.ready = s.hive.ready ∧ (sticky n s).hive.mateFlags = s.hive.mateFlags ∧
    (sticky n s).hive.mateBeat = s.hive.mateBeat ∧ (sticky n s).hive.mateLanes = s.hive.mateLanes ∧
    (sticky n s).hive.differ = s.hive.differ ∧ (sticky n s).hive.heartbeat = s.hive.heartbeat ∧
    (sticky n s).hive.hbSeen = s.hive.hbSeen ∧ (sticky n s).hive.hbMissed = s.hive.hbMissed ∧
    (sticky n s).hive.hbLost = s.hive.hbLost ∧ (sticky n s).hive.withheld = s.hive.withheld ∧
    (sticky n s).hive.generation = s.hive.generation ∧ (sticky n s).hive.rxSeq = s.hive.rxSeq ∧
    (sticky n s).hive.txSeq = s.hive.txSeq ∧ (sticky n s).hive.sent = s.hive.sent ∧ (sticky n s).hive.gap = s.hive.gap ∧
    (sticky n s).hive.resync = s.hive.resync ∧ (sticky n s).hive.chunks = s.hive.chunks ∧
    (sticky n s).hive.loaded = s.hive.loaded ∧ (sticky n s).hive.buffered = s.hive.buffered ∧
    (sticky n s).hive.incoming = s.hive.incoming ∧ (sticky n s).hive.pendLive = s.hive.pendLive ∧
    (sticky n s).hive.snapSeen = s.hive.snapSeen ∧ (sticky n s).hive.onTime = s.hive.onTime ∧
    (sticky n s).hive.alignedBeats = s.hive.alignedBeats ∧ (sticky n s).hive.joining = s.hive.joining ∧
    (sticky n s).hive.joinMode = s.hive.joinMode ∧ (sticky n s).hive.joinSnap = s.hive.joinSnap ∧
    (sticky n s).hive.switchPend = s.hive.switchPend ∧ (sticky n s).hive.released = s.hive.released ∧
    (sticky n s).hive.wasActive = s.hive.wasActive ∧ (sticky n s).hive.txIdled = s.hive.txIdled ∧
    (sticky n s).hive.egressFault = s.hive.egressFault ∧ (sticky n s).hive.egressOk = s.hive.egressOk ∧
    (sticky n s).hive.bbOpen = s.hive.bbOpen ∧ (sticky n s).hive.bbLeft = s.hive.bbLeft ∧
    (sticky n s).hive.role = s.hive.role ∧ (sticky n s).hive.toBeat = s.hive.toBeat ∧
    (sticky n s).hive.toCause = s.hive.toCause ∧ (sticky n s).hive.takeovers = s.hive.takeovers ∧
    (sticky n s).hive.bounces = s.hive.bounces ∧ (sticky n s).hive.hbLosses = s.hive.hbLosses ∧
    (sticky n s).hive.gaps = s.hive.gaps ∧ (sticky n s).hive.collisions = s.hive.collisions ∧
    (sticky n s).hive.discarded = s.hive.discarded := by
  unfold sticky; split
  · simp
  · split
    · simp
    · split <;> simp

@[simp] theorem sticky_power (n : Nat) (s : State) :
    (sticky n s).power.cfg = s.power.cfg ∧ (sticky n s).power.seq = s.power.seq ∧
    (sticky n s).power.seqStep = s.power.seqStep ∧ (sticky n s).power.powered = s.power.powered ∧
    (sticky n s).power.resetLow = s.power.resetLow ∧ (sticky n s).power.wakeLatch = s.power.wakeLatch ∧
    (sticky n s).power.pfw = s.power.pfw ∧ (sticky n s).power.isLean = s.power.isLean ∧
    (sticky n s).power.leanFrom = s.power.leanFrom ∧ (sticky n s).power.leanBeats = s.power.leanBeats ∧
    (sticky n s).power.leanEntries = s.power.leanEntries ∧ (sticky n s).power.leanOffs = s.power.leanOffs ∧
    (sticky n s).power.leanMs = s.power.leanMs ∧ (sticky n s).power.coresBefore = s.power.coresBefore ∧
    (sticky n s).power.offCause = s.power.offCause ∧ (sticky n s).power.userTable = s.power.userTable ∧
    (sticky n s).power.table = s.power.table ∧ (sticky n s).power.pmbusErr = s.power.pmbusErr ∧
    (sticky n s).power.railBad = s.power.railBad ∧ (sticky n s).power.rails = s.power.rails ∧
    (sticky n s).power.setpoint = s.power.setpoint ∧ (sticky n s).power.avsM = s.power.avsM ∧
    (sticky n s).power.avsHigh = s.power.avsHigh ∧ (sticky n s).power.avsNeg = s.power.avsNeg ∧
    (sticky n s).power.energy = s.power.energy ∧ (sticky n s).power.energyUj = s.power.energyUj ∧
    (sticky n s).power.energyHi = s.power.energyHi ∧ (sticky n s).power.mw = s.power.mw ∧
    (sticky n s).power.tj = s.power.tj ∧ (sticky n s).power.overLimit = s.power.overLimit ∧
    (sticky n s).power.flashSlow = s.power.flashSlow ∧ (sticky n s).power.testEn = s.power.testEn := by
  unfold sticky; split
  · simp
  · split
    · simp
    · split <;> simp

@[simp] theorem driveSrc_frame (n : Nat) (b : Bool) (s : State) :
    (driveSrc n b s).pending = s.pending ∧ (driveSrc n b s).fresh = s.fresh ∧ (driveSrc n b s).mode = s.mode ∧
    (driveSrc n b s).apFrom = s.apFrom ∧ (driveSrc n b s).quiesceFrom = s.quiesceFrom ∧ (driveSrc n b s).clk = s.clk ∧
    (driveSrc n b s).lanes = s.lanes ∧ (driveSrc n b s).userCal = s.userCal ∧ (driveSrc n b s).sdh = s.sdh ∧
    (driveSrc n b s).paths = s.paths ∧ (driveSrc n b s).cpri = s.cpri ∧ (driveSrc n b s).axcs = s.axcs ∧
    (driveSrc n b s).comb = s.comb ∧ (driveSrc n b s).nurse = s.nurse ∧ (driveSrc n b s).pool = s.pool ∧
    (driveSrc n b s).prot = s.prot ∧ (driveSrc n b s).pm = s.pm ∧ (driveSrc n b s).scout = s.scout ∧
    (driveSrc n b s).ports = s.ports ∧ (driveSrc n b s).sems = s.sems ∧ (driveSrc n b s).nextSession = s.nextSession ∧
    (driveSrc n b s).keeper = s.keeper ∧ (driveSrc n b s).bus = s.bus ∧ (driveSrc n b s).test = s.test ∧
    (driveSrc n b s).tally = s.tally ∧ (driveSrc n b s).sec = s.sec := by
  unfold driveSrc; dsimp only; split <;> simp

@[simp] theorem driveSrc_guard (n : Nat) (b : Bool) (s : State) :
    (driveSrc n b s).guard.cores = s.guard.cores ∧ (driveSrc n b s).guard.fq = s.guard.fq ∧
    (driveSrc n b s).guard.overflow = s.guard.overflow ∧ (driveSrc n b s).guard.lastBeat = s.guard.lastBeat ∧
    (driveSrc n b s).guard.lastCode = s.guard.lastCode ∧ (driveSrc n b s).guard.lastCls = s.guard.lastCls ∧
    (driveSrc n b s).guard.storm = s.guard.storm ∧ (driveSrc n b s).guard.keeperLost = s.guard.keeperLost ∧
    (driveSrc n b s).guard.autopilot = s.guard.autopilot ∧ (driveSrc n b s).guard.isHalt = s.guard.isHalt ∧
    (driveSrc n b s).guard.haltCause = s.guard.haltCause ∧ (driveSrc n b s).guard.apCause = s.guard.apCause ∧
    (driveSrc n b s).guard.attempts = s.guard.attempts ∧ (driveSrc n b s).guard.attempting = s.guard.attempting ∧
    (driveSrc n b s).guard.stormPolicy = s.guard.stormPolicy ∧ (driveSrc n b s).guard.restartLimit = s.guard.restartLimit ∧
    (driveSrc n b s).guard.wdogCore = s.guard.wdogCore ∧ (driveSrc n b s).guard.wdogCluster = s.guard.wdogCluster ∧
    (driveSrc n b s).guard.clusterRun = s.guard.clusterRun ∧ (driveSrc n b s).guard.apBeat = s.guard.apBeat ∧
    (driveSrc n b s).guard.pipeOk = s.guard.pipeOk := by
  unfold driveSrc; dsimp only; split <;> simp

@[simp] theorem driveSrc_hive (n : Nat) (b : Bool) (s : State) :
    (driveSrc n b s).hive.cfg = s.hive.cfg ∧ (driveSrc n b s).hive.side = s.hive.side ∧
    (driveSrc n b s).hive.lineFree = s.hive.lineFree ∧ (driveSrc n b s).hive.token = s.hive.token ∧
    (driveSrc n b s).hive.hvSel = s.hive.hvSel ∧ (driveSrc n b s).hive.hvOk = s.hive.hvOk ∧
    (driveSrc n b s).hive.mateOk = s.hive.mateOk ∧ (driveSrc n b s).hive.halfA = s.hive.halfA ∧
    (driveSrc n b s).hive.halfB = s.hive.halfB ∧ (driveSrc n b s).hive.hdrFails = s.hive.hdrFails ∧
    (driveSrc n b s).hive.ready = s.hive.ready ∧ (driveSrc n b s).hive.mateFlags = s.hive.mateFlags ∧
    (driveSrc n b s).hive.mateBeat = s.hive.mateBeat ∧ (driveSrc n b s).hive.mateLanes = s.hive.mateLanes ∧
    (driveSrc n b s).hive.differ = s.hive.differ ∧ (driveSrc n b s).hive.heartbeat = s.hive.heartbeat ∧
    (driveSrc n b s).hive.hbSeen = s.hive.hbSeen ∧ (driveSrc n b s).hive.hbMissed = s.hive.hbMissed ∧
    (driveSrc n b s).hive.hbLost = s.hive.hbLost ∧ (driveSrc n b s).hive.withheld = s.hive.withheld ∧
    (driveSrc n b s).hive.generation = s.hive.generation ∧ (driveSrc n b s).hive.rxSeq = s.hive.rxSeq ∧
    (driveSrc n b s).hive.txSeq = s.hive.txSeq ∧ (driveSrc n b s).hive.sent = s.hive.sent ∧
    (driveSrc n b s).hive.gap = s.hive.gap ∧ (driveSrc n b s).hive.resync = s.hive.resync ∧
    (driveSrc n b s).hive.chunks = s.hive.chunks ∧ (driveSrc n b s).hive.loaded = s.hive.loaded ∧
    (driveSrc n b s).hive.buffered = s.hive.buffered ∧ (driveSrc n b s).hive.incoming = s.hive.incoming ∧
    (driveSrc n b s).hive.pendLive = s.hive.pendLive ∧ (driveSrc n b s).hive.snapSeen = s.hive.snapSeen ∧
    (driveSrc n b s).hive.onTime = s.hive.onTime ∧ (driveSrc n b s).hive.alignedBeats = s.hive.alignedBeats ∧
    (driveSrc n b s).hive.joining = s.hive.joining ∧ (driveSrc n b s).hive.joinMode = s.hive.joinMode ∧
    (driveSrc n b s).hive.joinSnap = s.hive.joinSnap ∧ (driveSrc n b s).hive.switchPend = s.hive.switchPend ∧
    (driveSrc n b s).hive.released = s.hive.released ∧ (driveSrc n b s).hive.wasActive = s.hive.wasActive ∧
    (driveSrc n b s).hive.txIdled = s.hive.txIdled ∧ (driveSrc n b s).hive.egressFault = s.hive.egressFault ∧
    (driveSrc n b s).hive.egressOk = s.hive.egressOk ∧ (driveSrc n b s).hive.bbOpen = s.hive.bbOpen ∧
    (driveSrc n b s).hive.bbLeft = s.hive.bbLeft ∧ (driveSrc n b s).hive.role = s.hive.role ∧
    (driveSrc n b s).hive.toBeat = s.hive.toBeat ∧ (driveSrc n b s).hive.toCause = s.hive.toCause ∧
    (driveSrc n b s).hive.takeovers = s.hive.takeovers ∧ (driveSrc n b s).hive.bounces = s.hive.bounces ∧
    (driveSrc n b s).hive.hbLosses = s.hive.hbLosses ∧ (driveSrc n b s).hive.gaps = s.hive.gaps ∧
    (driveSrc n b s).hive.collisions = s.hive.collisions ∧ (driveSrc n b s).hive.discarded = s.hive.discarded := by
  unfold driveSrc; dsimp only; split <;> simp

@[simp] theorem driveSrc_power (n : Nat) (b : Bool) (s : State) :
    (driveSrc n b s).power.cfg = s.power.cfg ∧ (driveSrc n b s).power.seq = s.power.seq ∧
    (driveSrc n b s).power.seqStep = s.power.seqStep ∧ (driveSrc n b s).power.powered = s.power.powered ∧
    (driveSrc n b s).power.resetLow = s.power.resetLow ∧ (driveSrc n b s).power.wakeLatch = s.power.wakeLatch ∧
    (driveSrc n b s).power.pfw = s.power.pfw ∧ (driveSrc n b s).power.isLean = s.power.isLean ∧
    (driveSrc n b s).power.leanFrom = s.power.leanFrom ∧ (driveSrc n b s).power.leanBeats = s.power.leanBeats ∧
    (driveSrc n b s).power.leanEntries = s.power.leanEntries ∧ (driveSrc n b s).power.leanOffs = s.power.leanOffs ∧
    (driveSrc n b s).power.leanMs = s.power.leanMs ∧ (driveSrc n b s).power.coresBefore = s.power.coresBefore ∧
    (driveSrc n b s).power.offCause = s.power.offCause ∧ (driveSrc n b s).power.userTable = s.power.userTable ∧
    (driveSrc n b s).power.table = s.power.table ∧ (driveSrc n b s).power.pmbusErr = s.power.pmbusErr ∧
    (driveSrc n b s).power.railBad = s.power.railBad ∧ (driveSrc n b s).power.rails = s.power.rails ∧
    (driveSrc n b s).power.setpoint = s.power.setpoint ∧ (driveSrc n b s).power.avsM = s.power.avsM ∧
    (driveSrc n b s).power.avsHigh = s.power.avsHigh ∧ (driveSrc n b s).power.avsNeg = s.power.avsNeg ∧
    (driveSrc n b s).power.energy = s.power.energy ∧ (driveSrc n b s).power.energyUj = s.power.energyUj ∧
    (driveSrc n b s).power.energyHi = s.power.energyHi ∧ (driveSrc n b s).power.mw = s.power.mw ∧
    (driveSrc n b s).power.tj = s.power.tj ∧ (driveSrc n b s).power.overLimit = s.power.overLimit ∧
    (driveSrc n b s).power.flashSlow = s.power.flashSlow ∧ (driveSrc n b s).power.testEn = s.power.testEn := by
  unfold driveSrc; dsimp only; split <;> simp

@[simp] theorem raise_frame (n : Nat) (s : State) :
    (raise n s).pending = s.pending ∧ (raise n s).fresh = s.fresh ∧ (raise n s).mode = s.mode ∧
    (raise n s).apFrom = s.apFrom ∧ (raise n s).quiesceFrom = s.quiesceFrom ∧ (raise n s).clk = s.clk ∧
    (raise n s).lanes = s.lanes ∧ (raise n s).userCal = s.userCal ∧ (raise n s).sdh = s.sdh ∧ (raise n s).paths = s.paths ∧
    (raise n s).cpri = s.cpri ∧ (raise n s).axcs = s.axcs ∧ (raise n s).comb = s.comb ∧ (raise n s).nurse = s.nurse ∧
    (raise n s).pool = s.pool ∧ (raise n s).prot = s.prot ∧ (raise n s).pm = s.pm ∧ (raise n s).scout = s.scout ∧
    (raise n s).ports = s.ports ∧ (raise n s).sems = s.sems ∧ (raise n s).nextSession = s.nextSession ∧
    (raise n s).keeper = s.keeper ∧ (raise n s).bus = s.bus ∧ (raise n s).test = s.test ∧ (raise n s).tally = s.tally ∧
    (raise n s).sec = s.sec := by
  unfold raise; simp

@[simp] theorem raise_guard (n : Nat) (s : State) :
    (raise n s).guard.cores = s.guard.cores ∧ (raise n s).guard.fq = s.guard.fq ∧
    (raise n s).guard.overflow = s.guard.overflow ∧ (raise n s).guard.lastBeat = s.guard.lastBeat ∧
    (raise n s).guard.lastCode = s.guard.lastCode ∧ (raise n s).guard.lastCls = s.guard.lastCls ∧
    (raise n s).guard.storm = s.guard.storm ∧ (raise n s).guard.keeperLost = s.guard.keeperLost ∧
    (raise n s).guard.autopilot = s.guard.autopilot ∧ (raise n s).guard.isHalt = s.guard.isHalt ∧
    (raise n s).guard.haltCause = s.guard.haltCause ∧ (raise n s).guard.apCause = s.guard.apCause ∧
    (raise n s).guard.attempts = s.guard.attempts ∧ (raise n s).guard.attempting = s.guard.attempting ∧
    (raise n s).guard.stormPolicy = s.guard.stormPolicy ∧ (raise n s).guard.restartLimit = s.guard.restartLimit ∧
    (raise n s).guard.wdogCore = s.guard.wdogCore ∧ (raise n s).guard.wdogCluster = s.guard.wdogCluster ∧
    (raise n s).guard.clusterRun = s.guard.clusterRun ∧ (raise n s).guard.apBeat = s.guard.apBeat ∧
    (raise n s).guard.pipeOk = s.guard.pipeOk := by
  unfold raise; simp

@[simp] theorem raise_hive (n : Nat) (s : State) :
    (raise n s).hive.cfg = s.hive.cfg ∧ (raise n s).hive.side = s.hive.side ∧ (raise n s).hive.lineFree = s.hive.lineFree ∧
    (raise n s).hive.token = s.hive.token ∧ (raise n s).hive.hvSel = s.hive.hvSel ∧ (raise n s).hive.hvOk = s.hive.hvOk ∧
    (raise n s).hive.mateOk = s.hive.mateOk ∧ (raise n s).hive.halfA = s.hive.halfA ∧
    (raise n s).hive.halfB = s.hive.halfB ∧ (raise n s).hive.hdrFails = s.hive.hdrFails ∧
    (raise n s).hive.ready = s.hive.ready ∧ (raise n s).hive.mateFlags = s.hive.mateFlags ∧
    (raise n s).hive.mateBeat = s.hive.mateBeat ∧ (raise n s).hive.mateLanes = s.hive.mateLanes ∧
    (raise n s).hive.differ = s.hive.differ ∧ (raise n s).hive.heartbeat = s.hive.heartbeat ∧
    (raise n s).hive.hbSeen = s.hive.hbSeen ∧ (raise n s).hive.hbMissed = s.hive.hbMissed ∧
    (raise n s).hive.hbLost = s.hive.hbLost ∧ (raise n s).hive.withheld = s.hive.withheld ∧
    (raise n s).hive.generation = s.hive.generation ∧ (raise n s).hive.rxSeq = s.hive.rxSeq ∧
    (raise n s).hive.txSeq = s.hive.txSeq ∧ (raise n s).hive.sent = s.hive.sent ∧ (raise n s).hive.gap = s.hive.gap ∧
    (raise n s).hive.resync = s.hive.resync ∧ (raise n s).hive.chunks = s.hive.chunks ∧
    (raise n s).hive.loaded = s.hive.loaded ∧ (raise n s).hive.buffered = s.hive.buffered ∧
    (raise n s).hive.incoming = s.hive.incoming ∧ (raise n s).hive.pendLive = s.hive.pendLive ∧
    (raise n s).hive.snapSeen = s.hive.snapSeen ∧ (raise n s).hive.onTime = s.hive.onTime ∧
    (raise n s).hive.alignedBeats = s.hive.alignedBeats ∧ (raise n s).hive.joining = s.hive.joining ∧
    (raise n s).hive.joinMode = s.hive.joinMode ∧ (raise n s).hive.joinSnap = s.hive.joinSnap ∧
    (raise n s).hive.switchPend = s.hive.switchPend ∧ (raise n s).hive.released = s.hive.released ∧
    (raise n s).hive.wasActive = s.hive.wasActive ∧ (raise n s).hive.txIdled = s.hive.txIdled ∧
    (raise n s).hive.egressFault = s.hive.egressFault ∧ (raise n s).hive.egressOk = s.hive.egressOk ∧
    (raise n s).hive.bbOpen = s.hive.bbOpen ∧ (raise n s).hive.bbLeft = s.hive.bbLeft ∧
    (raise n s).hive.role = s.hive.role ∧ (raise n s).hive.toBeat = s.hive.toBeat ∧
    (raise n s).hive.toCause = s.hive.toCause ∧ (raise n s).hive.takeovers = s.hive.takeovers ∧
    (raise n s).hive.bounces = s.hive.bounces ∧ (raise n s).hive.hbLosses = s.hive.hbLosses ∧
    (raise n s).hive.gaps = s.hive.gaps ∧ (raise n s).hive.collisions = s.hive.collisions ∧
    (raise n s).hive.discarded = s.hive.discarded := by
  unfold raise; simp

@[simp] theorem raise_power (n : Nat) (s : State) :
    (raise n s).power.cfg = s.power.cfg ∧ (raise n s).power.seq = s.power.seq ∧
    (raise n s).power.seqStep = s.power.seqStep ∧ (raise n s).power.powered = s.power.powered ∧
    (raise n s).power.resetLow = s.power.resetLow ∧ (raise n s).power.wakeLatch = s.power.wakeLatch ∧
    (raise n s).power.pfw = s.power.pfw ∧ (raise n s).power.isLean = s.power.isLean ∧
    (raise n s).power.leanFrom = s.power.leanFrom ∧ (raise n s).power.leanBeats = s.power.leanBeats ∧
    (raise n s).power.leanEntries = s.power.leanEntries ∧ (raise n s).power.leanOffs = s.power.leanOffs ∧
    (raise n s).power.leanMs = s.power.leanMs ∧ (raise n s).power.coresBefore = s.power.coresBefore ∧
    (raise n s).power.offCause = s.power.offCause ∧ (raise n s).power.userTable = s.power.userTable ∧
    (raise n s).power.table = s.power.table ∧ (raise n s).power.pmbusErr = s.power.pmbusErr ∧
    (raise n s).power.railBad = s.power.railBad ∧ (raise n s).power.rails = s.power.rails ∧
    (raise n s).power.setpoint = s.power.setpoint ∧ (raise n s).power.avsM = s.power.avsM ∧
    (raise n s).power.avsHigh = s.power.avsHigh ∧ (raise n s).power.avsNeg = s.power.avsNeg ∧
    (raise n s).power.energy = s.power.energy ∧ (raise n s).power.energyUj = s.power.energyUj ∧
    (raise n s).power.energyHi = s.power.energyHi ∧ (raise n s).power.mw = s.power.mw ∧ (raise n s).power.tj = s.power.tj ∧
    (raise n s).power.overLimit = s.power.overLimit ∧ (raise n s).power.flashSlow = s.power.flashSlow ∧
    (raise n s).power.testEn = s.power.testEn := by
  unfold raise; simp

@[simp] theorem raiseIf_frame (b : Bool) (n : Nat) (s : State) :
    (raiseIf b n s).pending = s.pending ∧ (raiseIf b n s).fresh = s.fresh ∧ (raiseIf b n s).mode = s.mode ∧
    (raiseIf b n s).apFrom = s.apFrom ∧ (raiseIf b n s).quiesceFrom = s.quiesceFrom ∧ (raiseIf b n s).clk = s.clk ∧
    (raiseIf b n s).lanes = s.lanes ∧ (raiseIf b n s).userCal = s.userCal ∧ (raiseIf b n s).sdh = s.sdh ∧
    (raiseIf b n s).paths = s.paths ∧ (raiseIf b n s).cpri = s.cpri ∧ (raiseIf b n s).axcs = s.axcs ∧
    (raiseIf b n s).comb = s.comb ∧ (raiseIf b n s).nurse = s.nurse ∧ (raiseIf b n s).pool = s.pool ∧
    (raiseIf b n s).prot = s.prot ∧ (raiseIf b n s).pm = s.pm ∧ (raiseIf b n s).scout = s.scout ∧
    (raiseIf b n s).ports = s.ports ∧ (raiseIf b n s).sems = s.sems ∧ (raiseIf b n s).nextSession = s.nextSession ∧
    (raiseIf b n s).keeper = s.keeper ∧ (raiseIf b n s).bus = s.bus ∧ (raiseIf b n s).test = s.test ∧
    (raiseIf b n s).tally = s.tally ∧ (raiseIf b n s).sec = s.sec := by
  unfold raiseIf; split <;> simp

@[simp] theorem raiseIf_guard (b : Bool) (n : Nat) (s : State) :
    (raiseIf b n s).guard.cores = s.guard.cores ∧ (raiseIf b n s).guard.fq = s.guard.fq ∧
    (raiseIf b n s).guard.overflow = s.guard.overflow ∧ (raiseIf b n s).guard.lastBeat = s.guard.lastBeat ∧
    (raiseIf b n s).guard.lastCode = s.guard.lastCode ∧ (raiseIf b n s).guard.lastCls = s.guard.lastCls ∧
    (raiseIf b n s).guard.storm = s.guard.storm ∧ (raiseIf b n s).guard.keeperLost = s.guard.keeperLost ∧
    (raiseIf b n s).guard.autopilot = s.guard.autopilot ∧ (raiseIf b n s).guard.isHalt = s.guard.isHalt ∧
    (raiseIf b n s).guard.haltCause = s.guard.haltCause ∧ (raiseIf b n s).guard.apCause = s.guard.apCause ∧
    (raiseIf b n s).guard.attempts = s.guard.attempts ∧ (raiseIf b n s).guard.attempting = s.guard.attempting ∧
    (raiseIf b n s).guard.stormPolicy = s.guard.stormPolicy ∧ (raiseIf b n s).guard.restartLimit = s.guard.restartLimit ∧
    (raiseIf b n s).guard.wdogCore = s.guard.wdogCore ∧ (raiseIf b n s).guard.wdogCluster = s.guard.wdogCluster ∧
    (raiseIf b n s).guard.clusterRun = s.guard.clusterRun ∧ (raiseIf b n s).guard.apBeat = s.guard.apBeat ∧
    (raiseIf b n s).guard.pipeOk = s.guard.pipeOk := by
  unfold raiseIf; split <;> simp

@[simp] theorem raiseIf_hive (b : Bool) (n : Nat) (s : State) :
    (raiseIf b n s).hive.cfg = s.hive.cfg ∧ (raiseIf b n s).hive.side = s.hive.side ∧
    (raiseIf b n s).hive.lineFree = s.hive.lineFree ∧ (raiseIf b n s).hive.token = s.hive.token ∧
    (raiseIf b n s).hive.hvSel = s.hive.hvSel ∧ (raiseIf b n s).hive.hvOk = s.hive.hvOk ∧
    (raiseIf b n s).hive.mateOk = s.hive.mateOk ∧ (raiseIf b n s).hive.halfA = s.hive.halfA ∧
    (raiseIf b n s).hive.halfB = s.hive.halfB ∧ (raiseIf b n s).hive.hdrFails = s.hive.hdrFails ∧
    (raiseIf b n s).hive.ready = s.hive.ready ∧ (raiseIf b n s).hive.mateFlags = s.hive.mateFlags ∧
    (raiseIf b n s).hive.mateBeat = s.hive.mateBeat ∧ (raiseIf b n s).hive.mateLanes = s.hive.mateLanes ∧
    (raiseIf b n s).hive.differ = s.hive.differ ∧ (raiseIf b n s).hive.heartbeat = s.hive.heartbeat ∧
    (raiseIf b n s).hive.hbSeen = s.hive.hbSeen ∧ (raiseIf b n s).hive.hbMissed = s.hive.hbMissed ∧
    (raiseIf b n s).hive.hbLost = s.hive.hbLost ∧ (raiseIf b n s).hive.withheld = s.hive.withheld ∧
    (raiseIf b n s).hive.generation = s.hive.generation ∧ (raiseIf b n s).hive.rxSeq = s.hive.rxSeq ∧
    (raiseIf b n s).hive.txSeq = s.hive.txSeq ∧ (raiseIf b n s).hive.sent = s.hive.sent ∧
    (raiseIf b n s).hive.gap = s.hive.gap ∧ (raiseIf b n s).hive.resync = s.hive.resync ∧
    (raiseIf b n s).hive.chunks = s.hive.chunks ∧ (raiseIf b n s).hive.loaded = s.hive.loaded ∧
    (raiseIf b n s).hive.buffered = s.hive.buffered ∧ (raiseIf b n s).hive.incoming = s.hive.incoming ∧
    (raiseIf b n s).hive.pendLive = s.hive.pendLive ∧ (raiseIf b n s).hive.snapSeen = s.hive.snapSeen ∧
    (raiseIf b n s).hive.onTime = s.hive.onTime ∧ (raiseIf b n s).hive.alignedBeats = s.hive.alignedBeats ∧
    (raiseIf b n s).hive.joining = s.hive.joining ∧ (raiseIf b n s).hive.joinMode = s.hive.joinMode ∧
    (raiseIf b n s).hive.joinSnap = s.hive.joinSnap ∧ (raiseIf b n s).hive.switchPend = s.hive.switchPend ∧
    (raiseIf b n s).hive.released = s.hive.released ∧ (raiseIf b n s).hive.wasActive = s.hive.wasActive ∧
    (raiseIf b n s).hive.txIdled = s.hive.txIdled ∧ (raiseIf b n s).hive.egressFault = s.hive.egressFault ∧
    (raiseIf b n s).hive.egressOk = s.hive.egressOk ∧ (raiseIf b n s).hive.bbOpen = s.hive.bbOpen ∧
    (raiseIf b n s).hive.bbLeft = s.hive.bbLeft ∧ (raiseIf b n s).hive.role = s.hive.role ∧
    (raiseIf b n s).hive.toBeat = s.hive.toBeat ∧ (raiseIf b n s).hive.toCause = s.hive.toCause ∧
    (raiseIf b n s).hive.takeovers = s.hive.takeovers ∧ (raiseIf b n s).hive.bounces = s.hive.bounces ∧
    (raiseIf b n s).hive.hbLosses = s.hive.hbLosses ∧ (raiseIf b n s).hive.gaps = s.hive.gaps ∧
    (raiseIf b n s).hive.collisions = s.hive.collisions ∧ (raiseIf b n s).hive.discarded = s.hive.discarded := by
  unfold raiseIf; split <;> simp

@[simp] theorem raiseIf_power (b : Bool) (n : Nat) (s : State) :
    (raiseIf b n s).power.cfg = s.power.cfg ∧ (raiseIf b n s).power.seq = s.power.seq ∧
    (raiseIf b n s).power.seqStep = s.power.seqStep ∧ (raiseIf b n s).power.powered = s.power.powered ∧
    (raiseIf b n s).power.resetLow = s.power.resetLow ∧ (raiseIf b n s).power.wakeLatch = s.power.wakeLatch ∧
    (raiseIf b n s).power.pfw = s.power.pfw ∧ (raiseIf b n s).power.isLean = s.power.isLean ∧
    (raiseIf b n s).power.leanFrom = s.power.leanFrom ∧ (raiseIf b n s).power.leanBeats = s.power.leanBeats ∧
    (raiseIf b n s).power.leanEntries = s.power.leanEntries ∧ (raiseIf b n s).power.leanOffs = s.power.leanOffs ∧
    (raiseIf b n s).power.leanMs = s.power.leanMs ∧ (raiseIf b n s).power.coresBefore = s.power.coresBefore ∧
    (raiseIf b n s).power.offCause = s.power.offCause ∧ (raiseIf b n s).power.userTable = s.power.userTable ∧
    (raiseIf b n s).power.table = s.power.table ∧ (raiseIf b n s).power.pmbusErr = s.power.pmbusErr ∧
    (raiseIf b n s).power.railBad = s.power.railBad ∧ (raiseIf b n s).power.rails = s.power.rails ∧
    (raiseIf b n s).power.setpoint = s.power.setpoint ∧ (raiseIf b n s).power.avsM = s.power.avsM ∧
    (raiseIf b n s).power.avsHigh = s.power.avsHigh ∧ (raiseIf b n s).power.avsNeg = s.power.avsNeg ∧
    (raiseIf b n s).power.energy = s.power.energy ∧ (raiseIf b n s).power.energyUj = s.power.energyUj ∧
    (raiseIf b n s).power.energyHi = s.power.energyHi ∧ (raiseIf b n s).power.mw = s.power.mw ∧
    (raiseIf b n s).power.tj = s.power.tj ∧ (raiseIf b n s).power.overLimit = s.power.overLimit ∧
    (raiseIf b n s).power.flashSlow = s.power.flashSlow ∧ (raiseIf b n s).power.testEn = s.power.testEn := by
  unfold raiseIf; split <;> simp

/-- Only sources 211-242 have a sticky copy in this part. -/
theorem sticky_guard_same (n : Nat) (s : State) (h : n < 211 ∨ 242 < n) : (sticky n s).guard = s.guard := by
  unfold sticky
  rcases h with h | h
  · repeat' split
    all_goals (first | rfl | (simp; done) | omega)
  · repeat' split
    all_goals (first | rfl | (simp; done) | omega)

theorem raise_guard_same (n : Nat) (s : State) (h : n < 211 ∨ 242 < n) : (raise n s).guard = s.guard := by
  unfold raise; rw [sticky_guard_same n _ h]; simp

theorem driveSrc_guard_same (n : Nat) (b : Bool) (s : State) (h : n < 211 ∨ 242 < n) : (driveSrc n b s).guard = s.guard := by
  unfold driveSrc; dsimp only; split
  · rw [sticky_guard_same n _ h]; simp
  · simp

theorem raiseIf_guard_same (b : Bool) (n : Nat) (s : State) (h : n < 211 ∨ 242 < n) : (raiseIf b n s).guard = s.guard := by
  unfold raiseIf; split
  · exact raise_guard_same n s h
  · rfl

/-- Only sources 115-130 have a sticky copy in this part. -/
theorem sticky_hive_same (n : Nat) (s : State) (h : n < 115 ∨ 130 < n) : (sticky n s).hive = s.hive := by
  unfold sticky
  rcases h with h | h
  · repeat' split
    all_goals (first | rfl | (simp; done) | omega)
  · repeat' split
    all_goals (first | rfl | (simp; done) | omega)

theorem raise_hive_same (n : Nat) (s : State) (h : n < 115 ∨ 130 < n) : (raise n s).hive = s.hive := by
  unfold raise; rw [sticky_hive_same n _ h]; simp

theorem driveSrc_hive_same (n : Nat) (b : Bool) (s : State) (h : n < 115 ∨ 130 < n) : (driveSrc n b s).hive = s.hive := by
  unfold driveSrc; dsimp only; split
  · rw [sticky_hive_same n _ h]; simp
  · simp

theorem raiseIf_hive_same (b : Bool) (n : Nat) (s : State) (h : n < 115 ∨ 130 < n) : (raiseIf b n s).hive = s.hive := by
  unfold raiseIf; split
  · exact raise_hive_same n s h
  · rfl

/-- Only sources 275-290 have a sticky copy in this part. -/
theorem sticky_power_same (n : Nat) (s : State) (h : n < 275 ∨ 290 < n) : (sticky n s).power = s.power := by
  unfold sticky
  rcases h with h | h
  · repeat' split
    all_goals (first | rfl | (simp; done) | omega)
  · repeat' split
    all_goals (first | rfl | (simp; done) | omega)

theorem raise_power_same (n : Nat) (s : State) (h : n < 275 ∨ 290 < n) : (raise n s).power = s.power := by
  unfold raise; rw [sticky_power_same n _ h]; simp

theorem driveSrc_power_same (n : Nat) (b : Bool) (s : State) (h : n < 275 ∨ 290 < n) : (driveSrc n b s).power = s.power := by
  unfold driveSrc; dsimp only; split
  · rw [sticky_power_same n _ h]; simp
  · simp

theorem raiseIf_power_same (b : Bool) (n : Nat) (s : State) (h : n < 275 ∨ 290 < n) : (raiseIf b n s).power = s.power := by
  unfold raiseIf; split
  · exact raise_power_same n s h
  · rfl

end Sys2Proof.Machine
end

