-- ==== Sys2Proof/Laws/Sources.lean ====
section
/-!
SUPPORT. Laws/Sources.lean: what a source shows after it was raised or driven, and that counting a step's events changes only the tally
counters and their overflow sources.
-/

namespace Sys2Proof.Machine

open Sys2Proof

@[simp] theorem releaseHeld_ev (port g : Nat) (s : State) :
    (releaseHeld port g s).ev.evStack = s.ev.evStack ∧ (releaseHeld port g s).ev.fallback = s.ev.fallback ∧
    (releaseHeld port g s).ev.redirect = s.ev.redirect ∧ (releaseHeld port g s).ev.errA = s.ev.errA ∧
    (releaseHeld port g s).ev.errB = s.ev.errB := by
  simp [releaseHeld]

@[simp] theorem setSrc_ev (n : Nat) (x : Src) (s : State) :
    (setSrc n x s).ev.evStack = s.ev.evStack ∧ (setSrc n x s).ev.fallback = s.ev.fallback ∧
    (setSrc n x s).ev.redirect = s.ev.redirect ∧ (setSrc n x s).ev.errA = s.ev.errA ∧ (setSrc n x s).ev.errB = s.ev.errB := by
  unfold setSrc; dsimp only; (repeat' split) <;> (try rw [State.onCoal]) <;> simp

@[simp] theorem sticky_ev (n : Nat) (s : State) :
    (sticky n s).ev.evStack = s.ev.evStack ∧ (sticky n s).ev.fallback = s.ev.fallback ∧
    (sticky n s).ev.redirect = s.ev.redirect ∧ (sticky n s).ev.errA = s.ev.errA ∧ (sticky n s).ev.errB = s.ev.errB := by
  simp

@[simp] theorem driveSrc_ev (n : Nat) (b : Bool) (s : State) :
    (driveSrc n b s).ev.evStack = s.ev.evStack ∧ (driveSrc n b s).ev.fallback = s.ev.fallback ∧
    (driveSrc n b s).ev.redirect = s.ev.redirect ∧ (driveSrc n b s).ev.errA = s.ev.errA ∧
    (driveSrc n b s).ev.errB = s.ev.errB := by
  unfold driveSrc; dsimp only; split <;> simp

@[simp] theorem raise_ev (n : Nat) (s : State) :
    (raise n s).ev.evStack = s.ev.evStack ∧ (raise n s).ev.fallback = s.ev.fallback ∧
    (raise n s).ev.redirect = s.ev.redirect ∧ (raise n s).ev.errA = s.ev.errA ∧ (raise n s).ev.errB = s.ev.errB := by
  unfold raise; simp

@[simp] theorem raiseIf_ev (b : Bool) (n : Nat) (s : State) :
    (raiseIf b n s).ev.evStack = s.ev.evStack ∧ (raiseIf b n s).ev.fallback = s.ev.fallback ∧
    (raiseIf b n s).ev.redirect = s.ev.redirect ∧ (raiseIf b n s).ev.errA = s.ev.errA ∧
    (raiseIf b n s).ev.errB = s.ev.errB := by
  unfold raiseIf; split <;> simp

/-! ### What a source shows -/

@[simp] theorem src_onEv_srcs (s : State) (n m : Nat) (x : Src) :
    (s.onEv fun e => { e with srcs := tput {} e.srcs n x }).src m = if m = n then x else s.src m := by
  simp [State.src, tget_tput]

@[simp] theorem src_onCoal (s : State) (p g n : Nat) (f : Coal → Coal) : (s.onCoal p g f).src n = s.src n := rfl

theorem releaseHeld_line (port g m : Nat) (s : State) : ((releaseHeld port g s).src m).line = (s.src m).line := by
  simp only [releaseHeld, State.src, State.onEv_frame]
  rw [tget_tmap]
  · split <;> rfl
  · split <;> rfl

/-- A stored source shows what was stored; every other one shows what it did. -/
theorem setSrc_line (n m : Nat) (x : Src) (s : State) :
    ((setSrc n x s).src m).line = if m = n then x.line else (s.src m).line := by
  unfold setSrc; dsimp only
  (repeat' split) <;> (try rw [releaseHeld_line]) <;> simp_all [Src.line]

theorem sticky_src (n m : Nat) (s : State) : (sticky n s).src m = s.src m := by simp [State.src]

theorem up_line (x : Src) : x.line.up = x.up := rfl

theorem raise_line (n m : Nat) (s : State) :
    ((raise n s).src m).line =
      if m = n then (if (s.src n).edge then { s.src n with latch := true } else { s.src n with asserted := true }).line
      else (s.src m).line := by
  unfold raise; dsimp only; rw [sticky_src, setSrc_line]

/-- A raised source shows its event. -/
theorem shows_raise (n : Nat) (s : State) : (raise n s).shows n := by
  unfold State.shows; rw [← up_line, raise_line]; simp only [if_true]; rw [up_line]; unfold Src.up
  split <;> simp_all

/-- Raising a source hides no other. -/
theorem shows_raise_of (n m : Nat) (s : State) (h : s.shows m) : (raise n s).shows m := by
  by_cases hm : m = n
  · subst hm; exact shows_raise m s
  · unfold State.shows at *; rw [← up_line, raise_line, if_neg hm, up_line]; exact h

theorem driveSrc_line_ne (n m : Nat) (b : Bool) (s : State) (h : m ≠ n) : ((driveSrc n b s).src m).line = (s.src m).line := by
  unfold driveSrc; dsimp only
  split
  · rw [sticky_src, setSrc_line, if_neg h]
  · rw [setSrc_line, if_neg h]

/-- Driving a source hides no other. -/
theorem shows_driveSrc_of (n m : Nat) (b : Bool) (s : State) (hm : m ≠ n) (h : s.shows m) : (driveSrc n b s).shows m := by
  unfold State.shows at *; rw [← up_line, driveSrc_line_ne n m b s hm, up_line]; exact h

/-! ### Counting the events of a step -/

/-- A function of the state that neither the tally nor an overflow source changes is as before after the events are counted. -/
theorem setOvf_part {β : Type} (g : State → β) (h1 : ∀ s f, g (State.onTally s f) = g s)
    (h2 : ∀ s p b, p < 32 → g (driveSrc (243 + p) b s) = g s) (l : List Nat) (s : State) : g (setOvf l s) = g s := by
  unfold setOvf; dsimp only
  rw [← h1 s fun x => { x with ovf := l }]
  have H : ∀ (ps : List Nat) (t : State), (∀ p ∈ ps, p < 32) →
      g (ps.foldl (fun s p =>
        let b := l.contains (2 * p) || l.contains (2 * p + 1)
        if (s.src (243 + p)).asserted = b then s else driveSrc (243 + p) b s) t) = g t := by
    intro ps
    induction ps with
    | nil => intro t _; rfl
    | cons p ps ih =>
      intro t hp
      simp only [List.foldl_cons]
      rw [ih _ fun q hq => hp q (List.mem_cons_of_mem _ hq)]
      split
      · rfl
      · exact h2 _ _ _ (hp p (List.mem_cons_self ..))
  exact H _ _ fun p hp => by simpa using hp

theorem addCount_part {β : Type} (g : State → β) (h1 : ∀ s f, g (State.onTally s f) = g s)
    (h2 : ∀ s p b, p < 32 → g (driveSrc (243 + p) b s) = g s) (n inc : Nat) (s : State) : g (addCount n inc s) = g s := by
  unfold addCount; dsimp only
  split
  · exact h1 _ _
  · rw [setOvf_part g h1 h2]; exact h1 _ _

theorem counted_part {β : Type} (g : State → β) (h1 : ∀ s f, g (State.onTally s f) = g s)
    (h2 : ∀ s p b, p < 32 → g (driveSrc (243 + p) b s) = g s) (s t : State) : g (counted s t) = g t := by
  unfold counted
  split
  · generalize List.filter (fun e => e.2.enabled) s.tally.counters = es
    have H : ∀ (es : Tbl Counter) (u : State), g (es.foldl (fun u e =>
        let inc := e.2.added s t
        if inc = 0 then u else addCount e.1 inc u) u) = g u := by
      intro es
      induction es with
      | nil => intro u; rfl
      | cons e es ih =>
        intro u
        simp only [List.foldl_cons]
        rw [ih]
        split
        · rfl
        · exact addCount_part g h1 h2 _ _ _
    exact H es t
  · rfl

@[simp] theorem counted_pending (s t : State) : (counted s t).pending = t.pending :=
  counted_part (fun s => s.pending) (by simp) (fun s p b h => by simp) s t
@[simp] theorem counted_fresh (s t : State) : (counted s t).fresh = t.fresh :=
  counted_part (fun s => s.fresh) (by simp) (fun s p b h => by simp) s t
@[simp] theorem counted_mode (s t : State) : (counted s t).mode = t.mode :=
  counted_part (fun s => s.mode) (by simp) (fun s p b h => by simp) s t
@[simp] theorem counted_apFrom (s t : State) : (counted s t).apFrom = t.apFrom :=
  counted_part (fun s => s.apFrom) (by simp) (fun s p b h => by simp) s t
@[simp] theorem counted_quiesceFrom (s t : State) : (counted s t).quiesceFrom = t.quiesceFrom :=
  counted_part (fun s => s.quiesceFrom) (by simp) (fun s p b h => by simp) s t
@[simp] theorem counted_clk (s t : State) : (counted s t).clk = t.clk :=
  counted_part (fun s => s.clk) (by simp) (fun s p b h => by simp) s t
@[simp] theorem counted_lanes (s t : State) : (counted s t).lanes = t.lanes :=
  counted_part (fun s => s.lanes) (by simp) (fun s p b h => by simp) s t
@[simp] theorem counted_userCal (s t : State) : (counted s t).userCal = t.userCal :=
  counted_part (fun s => s.userCal) (by simp) (fun s p b h => by simp) s t
@[simp] theorem counted_sdh (s t : State) : (counted s t).sdh = t.sdh :=
  counted_part (fun s => s.sdh) (by simp) (fun s p b h => by simp) s t
@[simp] theorem counted_paths (s t : State) : (counted s t).paths = t.paths :=
  counted_part (fun s => s.paths) (by simp) (fun s p b h => by simp) s t
@[simp] theorem counted_cpri (s t : State) : (counted s t).cpri = t.cpri :=
  counted_part (fun s => s.cpri) (by simp) (fun s p b h => by simp) s t
@[simp] theorem counted_axcs (s t : State) : (counted s t).axcs = t.axcs :=
  counted_part (fun s => s.axcs) (by simp) (fun s p b h => by simp) s t
@[simp] theorem counted_comb (s t : State) : (counted s t).comb = t.comb :=
  counted_part (fun s => s.comb) (by simp) (fun s p b h => by simp) s t
@[simp] theorem counted_nurse (s t : State) : (counted s t).nurse = t.nurse :=
  counted_part (fun s => s.nurse) (by simp) (fun s p b h => by simp) s t
@[simp] theorem counted_pool (s t : State) : (counted s t).pool = t.pool :=
  counted_part (fun s => s.pool) (by simp) (fun s p b h => by simp) s t
@[simp] theorem counted_prot (s t : State) : (counted s t).prot = t.prot :=
  counted_part (fun s => s.prot) (by simp) (fun s p b h => by simp) s t
@[simp] theorem counted_pm (s t : State) : (counted s t).pm = t.pm :=
  counted_part (fun s => s.pm) (by simp) (fun s p b h => by simp) s t
@[simp] theorem counted_scout (s t : State) : (counted s t).scout = t.scout :=
  counted_part (fun s => s.scout) (by simp) (fun s p b h => by simp) s t
@[simp] theorem counted_hive (s t : State) : (counted s t).hive = t.hive :=
  counted_part (fun s => s.hive) (by simp) (fun s p b h => driveSrc_hive_same _ _ _ (by omega)) s t
@[simp] theorem counted_ports (s t : State) : (counted s t).ports = t.ports :=
  counted_part (fun s => s.ports) (by simp) (fun s p b h => by simp) s t
@[simp] theorem counted_sems (s t : State) : (counted s t).sems = t.sems :=
  counted_part (fun s => s.sems) (by simp) (fun s p b h => by simp) s t
@[simp] theorem counted_nextSession (s t : State) : (counted s t).nextSession = t.nextSession :=
  counted_part (fun s => s.nextSession) (by simp) (fun s p b h => by simp) s t
@[simp] theorem counted_guard (s t : State) : (counted s t).guard = t.guard :=
  counted_part (fun s => s.guard) (by simp) (fun s p b h => driveSrc_guard_same _ _ _ (by omega)) s t
@[simp] theorem counted_keeper (s t : State) : (counted s t).keeper = t.keeper :=
  counted_part (fun s => s.keeper) (by simp) (fun s p b h => by simp) s t
@[simp] theorem counted_bus (s t : State) : (counted s t).bus = t.bus :=
  counted_part (fun s => s.bus) (by simp) (fun s p b h => by simp) s t
@[simp] theorem counted_test (s t : State) : (counted s t).test = t.test :=
  counted_part (fun s => s.test) (by simp) (fun s p b h => by simp) s t
@[simp] theorem counted_sec (s t : State) : (counted s t).sec = t.sec :=
  counted_part (fun s => s.sec) (by simp) (fun s p b h => by simp) s t
@[simp] theorem counted_power (s t : State) : (counted s t).power = t.power :=
  counted_part (fun s => s.power) (by simp) (fun s p b h => driveSrc_power_same _ _ _ (by omega)) s t

/-- Counting hides no source but the overflow sources. -/
theorem counted_line (n : Nat) (s t : State) (h : n < 243 ∨ 274 < n) : ((counted s t).src n).line = (t.src n).line :=
  counted_part (fun s => (s.src n).line) (fun s f => by simp [State.src]) (fun s p b hp => driveSrc_line_ne _ _ _ _ (by omega)) s t

theorem shows_counted (n : Nat) (s t : State) (h : n < 243 ∨ 274 < n) : (counted s t).shows n ↔ t.shows n := by
  unfold State.shows; rw [← up_line, counted_line n s t h, up_line]

end Sys2Proof.Machine
end

