-- ==== Sys2Proof/Laws/Reply.lean ====
section
/-!
SUPPORT. Laws/Reply.lean: what publishing a response, serving a command and forming a ticket do, said once.
-/

namespace Sys2Proof.Machine

open Sys2Proof

@[simp] theorem publishRsp_frame (p q : Nat) (m : List QWord) (s : State) :
    (publishRsp p q m s).pending = s.pending ∧ (publishRsp p q m s).fresh = s.fresh ∧ (publishRsp p q m s).mode = s.mode ∧
    (publishRsp p q m s).apFrom = s.apFrom ∧ (publishRsp p q m s).quiesceFrom = s.quiesceFrom ∧
    (publishRsp p q m s).clk = s.clk ∧ (publishRsp p q m s).lanes = s.lanes ∧ (publishRsp p q m s).userCal = s.userCal ∧
    (publishRsp p q m s).sdh = s.sdh ∧ (publishRsp p q m s).paths = s.paths ∧ (publishRsp p q m s).cpri = s.cpri ∧
    (publishRsp p q m s).axcs = s.axcs ∧ (publishRsp p q m s).comb = s.comb ∧ (publishRsp p q m s).nurse = s.nurse ∧
    (publishRsp p q m s).pool = s.pool ∧ (publishRsp p q m s).prot = s.prot ∧ (publishRsp p q m s).pm = s.pm ∧
    (publishRsp p q m s).scout = s.scout ∧ (publishRsp p q m s).sems = s.sems ∧
    (publishRsp p q m s).nextSession = s.nextSession ∧ (publishRsp p q m s).keeper = s.keeper ∧
    (publishRsp p q m s).bus = s.bus ∧ (publishRsp p q m s).test = s.test ∧ (publishRsp p q m s).tally = s.tally ∧
    (publishRsp p q m s).sec = s.sec := by
  unfold publishRsp; split <;> simp

@[simp] theorem respondRaw_frame (h : Hdr) (a b c : Nat) (fs : Fields) (s : State) :
    (respondRaw h a b c fs s).pending = s.pending ∧ (respondRaw h a b c fs s).fresh = s.fresh ∧
    (respondRaw h a b c fs s).mode = s.mode ∧ (respondRaw h a b c fs s).apFrom = s.apFrom ∧
    (respondRaw h a b c fs s).quiesceFrom = s.quiesceFrom ∧ (respondRaw h a b c fs s).clk = s.clk ∧
    (respondRaw h a b c fs s).lanes = s.lanes ∧ (respondRaw h a b c fs s).userCal = s.userCal ∧
    (respondRaw h a b c fs s).sdh = s.sdh ∧ (respondRaw h a b c fs s).paths = s.paths ∧
    (respondRaw h a b c fs s).cpri = s.cpri ∧ (respondRaw h a b c fs s).axcs = s.axcs ∧
    (respondRaw h a b c fs s).comb = s.comb ∧ (respondRaw h a b c fs s).nurse = s.nurse ∧
    (respondRaw h a b c fs s).pool = s.pool ∧ (respondRaw h a b c fs s).prot = s.prot ∧
    (respondRaw h a b c fs s).pm = s.pm ∧ (respondRaw h a b c fs s).scout = s.scout ∧
    (respondRaw h a b c fs s).sems = s.sems ∧ (respondRaw h a b c fs s).nextSession = s.nextSession ∧
    (respondRaw h a b c fs s).keeper = s.keeper ∧ (respondRaw h a b c fs s).bus = s.bus ∧
    (respondRaw h a b c fs s).test = s.test ∧ (respondRaw h a b c fs s).tally = s.tally ∧
    (respondRaw h a b c fs s).sec = s.sec := by
  simp [respondRaw]

@[simp] theorem respond_frame (h : Hdr) (a b c : Nat) (fs : Fields) (s : State) :
    (respond h a b c fs s).pending = s.pending ∧ (respond h a b c fs s).fresh = s.fresh ∧
    (respond h a b c fs s).mode = s.mode ∧ (respond h a b c fs s).apFrom = s.apFrom ∧
    (respond h a b c fs s).quiesceFrom = s.quiesceFrom ∧ (respond h a b c fs s).clk = s.clk ∧
    (respond h a b c fs s).lanes = s.lanes ∧ (respond h a b c fs s).userCal = s.userCal ∧
    (respond h a b c fs s).sdh = s.sdh ∧ (respond h a b c fs s).paths = s.paths ∧ (respond h a b c fs s).cpri = s.cpri ∧
    (respond h a b c fs s).axcs = s.axcs ∧ (respond h a b c fs s).comb = s.comb ∧ (respond h a b c fs s).nurse = s.nurse ∧
    (respond h a b c fs s).pool = s.pool ∧ (respond h a b c fs s).prot = s.prot ∧ (respond h a b c fs s).pm = s.pm ∧
    (respond h a b c fs s).scout = s.scout ∧ (respond h a b c fs s).sems = s.sems ∧
    (respond h a b c fs s).nextSession = s.nextSession ∧ (respond h a b c fs s).keeper = s.keeper ∧
    (respond h a b c fs s).bus = s.bus ∧ (respond h a b c fs s).test = s.test ∧ (respond h a b c fs s).tally = s.tally ∧
    (respond h a b c fs s).sec = s.sec := by
  simp [respond]

@[simp] theorem renewLeases_frame (p : Nat) (s : State) :
    (renewLeases p s).pending = s.pending ∧ (renewLeases p s).fresh = s.fresh ∧ (renewLeases p s).mode = s.mode ∧
    (renewLeases p s).apFrom = s.apFrom ∧ (renewLeases p s).quiesceFrom = s.quiesceFrom ∧ (renewLeases p s).clk = s.clk ∧
    (renewLeases p s).lanes = s.lanes ∧ (renewLeases p s).userCal = s.userCal ∧ (renewLeases p s).sdh = s.sdh ∧
    (renewLeases p s).paths = s.paths ∧ (renewLeases p s).cpri = s.cpri ∧ (renewLeases p s).axcs = s.axcs ∧
    (renewLeases p s).comb = s.comb ∧ (renewLeases p s).nurse = s.nurse ∧ (renewLeases p s).pool = s.pool ∧
    (renewLeases p s).prot = s.prot ∧ (renewLeases p s).pm = s.pm ∧ (renewLeases p s).scout = s.scout ∧
    (renewLeases p s).hive = s.hive ∧ (renewLeases p s).ports = s.ports ∧ (renewLeases p s).nextSession = s.nextSession ∧
    (renewLeases p s).ev = s.ev ∧ (renewLeases p s).guard = s.guard ∧ (renewLeases p s).keeper = s.keeper ∧
    (renewLeases p s).bus = s.bus ∧ (renewLeases p s).test = s.test ∧ (renewLeases p s).tally = s.tally ∧
    (renewLeases p s).sec = s.sec ∧ (renewLeases p s).power = s.power :=
  ⟨rfl, rfl, rfl, rfl, rfl, rfl, rfl, rfl, rfl, rfl, rfl, rfl, rfl, rfl, rfl, rfl, rfl, rfl, rfl, rfl, rfl, rfl, rfl, rfl, rfl, rfl, rfl, rfl, rfl⟩

@[simp] theorem mirrorSend_frame (r : MirrorRec) (s : State) :
    (mirrorSend r s).pending = s.pending ∧ (mirrorSend r s).fresh = s.fresh ∧ (mirrorSend r s).mode = s.mode ∧
    (mirrorSend r s).apFrom = s.apFrom ∧ (mirrorSend r s).quiesceFrom = s.quiesceFrom ∧ (mirrorSend r s).clk = s.clk ∧
    (mirrorSend r s).lanes = s.lanes ∧ (mirrorSend r s).userCal = s.userCal ∧ (mirrorSend r s).sdh = s.sdh ∧
    (mirrorSend r s).paths = s.paths ∧ (mirrorSend r s).cpri = s.cpri ∧ (mirrorSend r s).axcs = s.axcs ∧
    (mirrorSend r s).comb = s.comb ∧ (mirrorSend r s).nurse = s.nurse ∧ (mirrorSend r s).pool = s.pool ∧
    (mirrorSend r s).prot = s.prot ∧ (mirrorSend r s).pm = s.pm ∧ (mirrorSend r s).scout = s.scout ∧
    (mirrorSend r s).ports = s.ports ∧ (mirrorSend r s).sems = s.sems ∧ (mirrorSend r s).nextSession = s.nextSession ∧
    (mirrorSend r s).ev = s.ev ∧ (mirrorSend r s).guard = s.guard ∧ (mirrorSend r s).keeper = s.keeper ∧
    (mirrorSend r s).bus = s.bus ∧ (mirrorSend r s).test = s.test ∧ (mirrorSend r s).tally = s.tally ∧
    (mirrorSend r s).sec = s.sec ∧ (mirrorSend r s).power = s.power := by
  unfold mirrorSend; split <;> simp

theorem publishRsp_guard_same (p q : Nat) (m : List QWord) (s : State) (hp : p < 2) (hq : q < 4) : (publishRsp p q m s).guard = s.guard := by
  unfold publishRsp; split
  · rfl
  · rw [driveSrc_guard_same _ _ _ (by unfold portSrc; omega)]; simp

theorem publishRsp_hive_same (p q : Nat) (m : List QWord) (s : State) (hp : p < 2) (hq : q < 4) : (publishRsp p q m s).hive = s.hive := by
  unfold publishRsp; split
  · rfl
  · rw [driveSrc_hive_same _ _ _ (by unfold portSrc; omega)]; simp

theorem publishRsp_power_same (p q : Nat) (m : List QWord) (s : State) (hp : p < 2) (hq : q < 4) : (publishRsp p q m s).power = s.power := by
  unfold publishRsp; split
  · rfl
  · rw [driveSrc_power_same _ _ _ (by unfold portSrc; omega)]; simp

/-! ### Queues -/

theorem port_onPort (s : State) (p r : Nat) (f : WgPort → WgPort) : (s.onPort p f).port r = if r = p then f (s.port p) else s.port r := by
  simp [State.port, State.onPort, tget_tput]

theorem rspOf_onRspQ (s : State) (p q r : Nat) (f : RspQueue → RspQueue) :
    ((s.onRspQ p q f).port p).rspOf r = if r = q then f ((s.port p).rspOf q) else (s.port p).rspOf r := by
  simp [State.onRspQ, port_onPort, WgPort.rspOf, tget_tput]

theorem port_onRspQ_ne (s : State) (p q r : Nat) (f : RspQueue → RspQueue) (h : r ≠ p) : (s.onRspQ p q f).port r = s.port r := by
  simp [State.onRspQ, port_onPort, h]

theorem port_eq {s t : State} (h : t.ports = s.ports) (p : Nat) : t.port p = s.port p := by simp [State.port, h]

/-- A published message stands whole at the end of its queue. -/
theorem publishRsp_words (p q : Nat) (m : List QWord) (s : State) (hf : ((s.port p).rspOf q).flush = false) :
    (((publishRsp p q m s).port p).rspOf q).words = ((s.port p).rspOf q).words ++ m := by
  unfold publishRsp
  rw [hf]
  simp only [Bool.false_eq_true, if_false]
  have e : (driveSrc (portSrc p q) true (s.onRspQ p q fun r => { r with words := r.words ++ m })).ports =
      (s.onRspQ p q fun r => { r with words := r.words ++ m }).ports := by simp
  rw [port_eq e]
  simp [rspOf_onRspQ]

/-! ### Answers -/

theorem answered_of {h : Hdr} {svc cmd st : Nat} {fs : Fields} {s t u : State} (hs : heard h s) (ht : t.ports = s.ports)
    (hu : u.ports = (respondRaw h svc cmd st fs t).ports) : answered h svc cmd st fs s u := by
  unfold answered rspWords
  rw [port_eq hu, port_eq ht.symm]
  exact publishRsp_words _ _ _ _ (by rw [port_eq ht]; exact hs.2.2.2.2)

theorem respond_ok (h : Hdr) (svc cmd : Nat) (fs : Fields) (s : State) : respond h svc cmd stOk fs s = respondRaw h svc cmd stOk fs s := by
  simp [respond, keptFields, stOk]

theorem respondRaw_parts {h : Hdr} {svc cmd st : Nat} {fs : Fields} {s : State} (hs : heard h s) :
    (respondRaw h svc cmd st fs s).guard = s.guard ∧ (respondRaw h svc cmd st fs s).hive = s.hive ∧
      (respondRaw h svc cmd st fs s).power = s.power :=
  ⟨publishRsp_guard_same _ _ _ _ hs.2.1 hs.2.2.1, publishRsp_hive_same _ _ _ _ hs.2.1 hs.2.2.1,
    publishRsp_power_same _ _ _ _ hs.2.1 hs.2.2.1⟩

theorem gate_none {h : Hdr} {cap : Bool} {s : State} (hs : heard h s)
    (hc : cap = true → capBlocked s.mode = false ∧ (s.hive.token && s.hive.switchPend.isSome) = false) : gate h false cap s = none := by
  unfold gate
  have h1 : (s.port h.port).version.isNone = false := by
    have := hs.2.2.2.1
    cases hv : (s.port h.port).version <;> simp_all
  cases cap with
  | false => simp [h1]
  | true =>
    have hk := hc rfl
    simp only [Bool.and_eq_false_iff] at hk
    rcases hk with ⟨hm, ht | ht⟩ <;> simp [h1, hm, ht]

/-- A command that its own rules answer at once, gates passed. -/
theorem serve_ok {h : Hdr} {svc cmd : Nat} {cap : Bool} {shape fs : Fields} {t s : State} (hs : heard h s)
    (hc : cap = true → capBlocked s.mode = false ∧ (s.hive.token && s.hive.switchPend.isSome) = false) :
    serve h svc cmd false cap shape (.ok fs t) s = respondRaw h svc cmd stOk fs (renewLeases h.port t) := by
  unfold serve
  rw [gate_none hs hc]
  have hp := hs.2.1
  simp [hs.1, respond_ok, Nat.not_le.mpr hp]

/-- A command that a step answers later, gates passed. -/
theorem serve_later {h : Hdr} {svc cmd : Nat} {cap : Bool} {shape : Fields} {t s : State} (hs : heard h s)
    (hc : cap = true → capBlocked s.mode = false ∧ (s.hive.token && s.hive.switchPend.isSome) = false) :
    serve h svc cmd false cap shape (.later t) s = renewLeases h.port t := by
  unfold serve
  rw [gate_none hs hc]
  have hp := hs.2.1
  simp [hs.1, Nat.not_le.mpr hp]

/-- What an answered command leaves: its response, and, but for queues, leases, sources and counters, the state that its rules gave. -/
theorem serve_answers {h : Hdr} {svc cmd : Nat} {cap : Bool} {shape fs : Fields} {t s : State} (hs : heard h s)
    (hc : cap = true → capBlocked s.mode = false ∧ (s.hive.token && s.hive.switchPend.isSome) = false) (ht : t.ports = s.ports) :
    answered h svc cmd stOk fs s (counted s (serve h svc cmd false cap shape (.ok fs t) s)) ∧
      onlyChanges replyParts t (counted s (serve h svc cmd false cap shape (.ok fs t) s)) := by
  rw [serve_ok hs hc]
  have ht' : (renewLeases h.port t).ports = s.ports := by simpa using ht
  refine ⟨answered_of hs ht' (by simp), ?_⟩
  have hg := publishRsp_guard_same h.port h.queue (message h.seq svc cmd (1 + 8 * boolNat h.late) h.tag ((2, (stOk : Int)) :: fs))
    (renewLeases h.port t) hs.2.1 hs.2.2.1
  have hh := publishRsp_hive_same h.port h.queue (message h.seq svc cmd (1 + 8 * boolNat h.late) h.tag ((2, (stOk : Int)) :: fs))
    (renewLeases h.port t) hs.2.1 hs.2.2.1
  have hw := publishRsp_power_same h.port h.queue (message h.seq svc cmd (1 + 8 * boolNat h.late) h.tag ((2, (stOk : Int)) :: fs))
    (renewLeases h.port t) hs.2.1 hs.2.2.1
  intro p hp
  cases p <;> simp_all [Part.same, replyParts, respondRaw]

/-! ### Tickets -/

theorem classPeriod_pos (c : Nat) : 0 < classPeriod c := by
  unfold classPeriod
  split <;> decide

theorem nextBoundary_gt (cls n : Nat) : n < nextBoundary cls n := by
  unfold nextBoundary
  exact Nat.lt_mul_of_div_lt (Nat.lt_succ_self _) (classPeriod_pos cls)

theorem fitTarget_ge (s : State) (cls a b us k target : Nat) (m : Bool) : target ≤ (fitTarget s cls a b us k target m).1 := by
  induction k generalizing target m with
  | zero => exact Nat.le_refl _
  | succ k ih =>
    unfold fitTarget
    split
    · exact Nat.le_trans (Nat.le_add_right _ _) (ih _ _)
    · exact Nat.le_refl _

/-- A ticket that completes while the beat runs waits for a boundary after the beat in hand. -/
theorem completeTicket_started (id : Nat) (cs : List Change) (us : Nat) (w : Waiter) (s : State) (hb : s.clk.started = true) :
    ∃ k : Ticket, completeTicket id cs none us w s =
        mirrorSend (.close id (classOf cs) k.target) (s.onClk fun c => { c with tickets := c.tickets ++ [k] }) ∧
      k.changes = cs ∧ k.waiters = [w] ∧ k.bclass = classOf cs ∧ s.now < k.target := by
  unfold completeTicket
  simp only [hb, Bool.not_true, Bool.false_eq_true, if_false]
  exact ⟨_, rfl, rfl, rfl, rfl, Nat.lt_of_lt_of_le (nextBoundary_gt _ _) (fitTarget_ge s _ _ _ us 66 _ false)⟩

/-- A capping command, gates passed and no batch open, forms a ticket of its changes. -/
theorem serve_ticket {h : Hdr} {svc cmd : Nat} {shape : Fields} {cs : List Change} {kind : ReplyKind} {t s : State} (hs : heard h s)
    (hm : mayTicket h s) (hn : cs ≠ []) (hl : tooLarge cs = false) (ht : t.clk = s.clk) :
    ∃ u, serve h svc cmd false true shape (.cap cs kind t) s = u ∧ ticketed h svc cmd kind cs s u ∧
      (∀ p : Part, p ∉ [Part.sems, .clk, .hive] → p.same t u) := by
  refine ⟨_, rfl, ?_⟩
  have hserve : serve h svc cmd false true shape (.cap cs kind t) s = capture h svc cmd shape cs kind t s := by
    unfold serve
    rw [gate_none hs fun _ => ⟨hm.1, hm.2.1⟩]
    have hp := hs.2.1
    simp [hs.1, Nat.not_le.mpr hp, hn]
  rw [hserve]
  unfold capture
  rw [hm.2.2.1]
  have hfull := hm.2.2.2.2
  simp only [hl, Bool.false_eq_true, if_false, Nat.not_le.mpr hfull]
  obtain ⟨k, he, hk⟩ := completeTicket_started (takeTicket (renewLeases h.port t)).1 cs h.us ⟨h, svc, cmd, kind⟩
    (mirrorSend (.shadow (takeTicket (renewLeases h.port t)).1 cs) (takeTicket (renewLeases h.port t)).2)
    (by simp [takeTicket, ht, hm.2.2.2.1])
  rw [he]
  refine ⟨⟨k, ?_, hk.1, hk.2.1, hk.2.2.1, ?_⟩, ?_⟩
  · simp [takeTicket, ht]
  · have := hk.2.2.2
    simpa [State.now, takeTicket, ht] using this
  · intro p hp
    cases p <;> simp_all [Part.same, takeTicket]

end Sys2Proof.Machine
end

