-- ==== Sys2Proof/Laws/Units.lean ====
section
/-!
SUPPORT. Laws/Units.lean: the shared operations of the lanes, the Comb streams and the memories: what each changes, and that the
memories keep their canonical form.
-/

namespace Sys2Proof.Machine

open Sys2Proof

/-! ### Comb streams -/

/-- A stream update changes the Comb alone. -/
theorem onStream_eq (s : State) (port k : Nat) (f : Stream → Stream) :
    s.onStream port k f = { s with comb := (s.onStream port k f).comb } := rfl

@[simp] theorem stream_onStream (s : State) (port k : Nat) (f : Stream → Stream) : (s.onStream port k f).stream port k = f (s.stream port k) := by
  simp [State.stream, State.onStream, State.onComb]

/-! ### Lanes -/

/-- Decoding code groups changes the lane's own record alone. -/
theorem laneGroups_lanes (n : Nat) (bad : Bool) (codes : List Nat) (s : State) :
    (laneGroups n bad codes s).2 = { s with lanes := (laneGroups n bad codes s).2.lanes } := rfl

/-- And of that record the receive side: what the host set stands. -/
theorem laneGroups_set (n : Nat) (bad : Bool) (codes : List Nat) (s : State) :
    let l := (laneGroups n bad codes s).2.lane n
    l.enable = (s.lane n).enable ∧ l.mode = (s.lane n).mode ∧ l.los = (s.lane n).los ∧ l.lol = (s.lane n).lol ∧
      l.aligned = (s.lane n).aligned ∧ l.loopback = (s.lane n).loopback ∧ l.trimTarget = (s.lane n).trimTarget := by
  simp [laneGroups, State.onLane, State.lane]

/-- Storing a frame for far-end loopback changes the lanes alone. -/
theorem loopStores_lanes (n : Nat) (bits : List Byte) (s : State) :
    loopStores n bits s = { s with lanes := (loopStores n bits s).lanes } := by
  unfold loopStores; split <;> rfl

/-! ### The keeper SRAM and the memory behind BAR2 -/

/-- A store of SRAM bytes changes the bus alone. -/
theorem sramStore_bus (s : State) (off : Nat) (l : List Byte) : s.sramStore off l = { s with bus := (s.sramStore off l).bus } := rfl

/-- It is read back at its own addresses, and no other byte moves. -/
theorem sramStore_read (s : State) (off a : Nat) (l : List Byte) : memRead (s.sramStore off l).bus.sram a =
    if off ≤ a ∧ a < off + l.length then l.getD (a - off) 0 else memRead s.bus.sram a := memRead_memWrite l s.bus.sram off a

theorem sramStore_wf (s : State) (off : Nat) (l : List Byte) (h : Memory.wf s.bus.sram = true) : Memory.wf (s.sramStore off l).bus.sram = true :=
  memWrite_wf l s.bus.sram off h

/-- The same of a store behind BAR2. -/
theorem writeBar2_read (s : State) (off a : Nat) (l : List Byte) : memRead (s.writeBar2 off l).bus.bar2 a =
    if off ≤ a ∧ a < off + l.length then l.getD (a - off) 0 else memRead s.bus.bar2 a := memRead_memWrite l s.bus.bar2 off a

theorem writeBar2_wf (s : State) (off : Nat) (l : List Byte) (h : Memory.wf s.bus.bar2 = true) : Memory.wf (s.writeBar2 off l).bus.bar2 = true :=
  memWrite_wf l s.bus.bar2 off h

theorem zeroRegion_wf (r : Nat) (s : State) (h : Memory.wf s.bus.bar2 = true) : Memory.wf (zeroRegion r s).bus.bar2 = true :=
  memory_filter_wf _ s.bus.bar2 h

theorem zeroSram_wf (r : Nat) (s : State) (h : Memory.wf s.bus.sram = true) : Memory.wf (zeroSram r s).bus.sram = true :=
  memory_filter_wf _ s.bus.sram h

/-- Cells written one by one keep the canonical form. -/
theorem foldl_tput_wf (f : Host.Cell → Nat × Byte) (l : List Host.Cell) (m : List Host.Cell) (h : Memory.wf m = true) :
    Memory.wf (l.foldl (fun m c => tput 0 m (f c).1 (f c).2) m) = true := by
  induction l generalizing m with
  | nil => exact h
  | cons c l ih => exact ih _ (tput_wf 0 m _ _ h)

/-- Loading an image's body keeps the SRAM's canonical form. -/
theorem loadBody_wf (x : Slot) (s : State) (h : Memory.wf s.bus.sram = true) : Memory.wf (loadBody x s).bus.sram = true :=
  foldl_tput_wf (fun c => (c.1 - 4096, c.2)) _ _ (memory_filter_wf _ s.bus.sram h)

end Sys2Proof.Machine
end

