-- ==== Sys2Proof/Tests/Slice0.lean ====
section
/-!
SUPPORT. Tests/Slice0.lean: the author's tests: what the well-formedness check refuses, one step each on small states, and for every
obligation with hypotheses a state and operands that meet them, clause by clause, at the ends of their ranges.
-/

namespace Sys2Proof.Tests

set_option Elab.async false

open Sys2Proof Sys2Proof.Machine

/-! ### States -/

/-- A command of port B on command queue 3. -/
def hd : Hdr := { port := 1, queue := 3, seq := 0xFFFF, tag := 0xFFFFFFFF, us := 124 }

/-- Provision with the beat running: both host ports up, version 1.0 agreed, and every domain held by port B's session. -/
def up : State :=
  { mode := .provision, clk := { started := true, beat := 15999 }, nextSession := 3
    ports := [(0, { linkUp := true, version := some (1, 0), msix := true, session := 1 }), (1, { linkUp := true, version := some (1, 0), msix := true, session := 2 })]
    sems := (List.range 15).map fun k => (k + 1, { owner := some .portB, left := 1000 })
    keeper := { present := true, serving := true, fwVersion := 0x10000, ifVer := 0x10000 }
    guard := { cores := [.working, .working, .working, .relief], clusterRun := true }
    hive := { token := true, hvOk := true, hvSel := true, ready := true }
    bus := { sramOpen := true }
    pool := { channels := (List.range 4).map fun d => (d, { state := 0, size := 32, maxRate := 5600, ranks := 2 }), rate := 5600, window := some 0 }
    scout := { dpllCfg := ⟨100, 20, 30, 10, 8000, 19200000, 100, 200, 30, 1100⟩ }
    sec := { life := 1, rootKey := true, boot0 := { seq := 1, crcOk := true } }
    power := { seq := 2, powered := true, resetLow := false } }

/-- Lane `n` enabled in a mode of R69. -/
def onIn (n mode : Nat) (s : State) : State :=
  s.onLane n fun x => { x with enable := 1, mode := mode, los := false, lol := false, aligned := true }

/-- Lane `n` in use as an SDH port of 192 granules. -/
def sdhLane (n : Nat) (s : State) : State := (onIn n 4 s).onSdh n fun x => { x with cfg := { x.cfg with lane := n, enable := 1 }, everEnabled := true }

/-- A path of type 1 at granule `g` of the lane. -/
def withPath (n g : Nat) (s : State) : State := s.onPath n g fun x => { x with cfg := { x.cfg with lane := n, g := g, type := 1 } }

/-- Lane `n` in use as a CPRI port of option 7. -/
def cpriLane (n : Nat) (s : State) : State := (onIn n 11 s).onCpri n fun x => { x with cfg := { x.cfg with lane := n, enable := 1 }, everEnabled := true }

/-- The machine at beat 16000, a second and radio frame boundary. -/
def at16000 (s : State) : State := s.onClk fun c => { c with beat := 16000 }

/-- `n` bits of PRBS7 from the seed 1 on (03 R90). -/
def prbs7 (n : Nat) : List Bool := lfsrBits 7 6 n 1

/-- Its first 72 bits as bytes. -/
def prbs7Bytes : List Byte := (List.range 9).map fun k => BitVec.ofNat 8 (((prbs7 72).drop (8 * k)).take 8 |>.foldl (fun a b => 2 * a + boolNat b) 0)

/-- A pool record with a VC frame at position 0 (08 R232). -/
def heldFrame (origin num : Nat) : PoolRec :=
  { g := { originPort := origin, twinClean := true, payload := List.replicate 783 0 }, beat := 15996 + num, num := num }

/-- A twin of slots 100 and 200 with frames 1 to 3 of both copies held, of these origins (08 R247, R248). -/
def twinOf (preferred a b : Nat) : State :=
  up.onEntry 100 fun e => { e with
    used := true, cfg := .twin ⟨100, 200, 1, 1, 3, 1, 2048, preferred, 0⟩, state := 2, members := [(0, { isIn := true }), (1, { isIn := true })]
    ring := [3, 2, 1].map fun n => [heldFrame a n, heldFrame b n] }

/-- Four frames of a TU-12 that carry AIS (07 R203). -/
def tuFour : List TuFrame := (List.range 4).map fun k => ⟨k, 16000 * 125 + k, List.replicate 36 0xFF⟩

/-- A hive header of HL3 in beat 15999, with token and ready flags, and its CRC (12 R360). -/
def hiveBytes : List Byte :=
  let body : List Byte := [3, 0x7F, 0x3E, 0, 0, 0, 0] ++ List.replicate 8 0xFF ++ [0, 0, 0, 0] ++ [1, 1, 0, 0] ++ List.replicate 64 0
  body ++ (List.range 4).map fun k => BitVec.ofNat 8 (crc32 body / 256 ^ k)

/-- The frame's code groups (03 R74). -/
def hiveCodes : List Nat := (encRun false ((true, 0xBC) :: hiveBytes.map fun b => (false, b))).1

/-- A standby in whose mate this header comes. -/
def hiveUp : State := (onIn 259 12 (onIn 258 12 up)).onHive fun x => { x with token := false }

/-- Its code groups as HL3 reads them. -/
def hiveGroups : List Group := (laneGroups 259 false hiveCodes hiveUp).1

/-- Every register block is sealed, and port B is open (17 R517). -/
def allSealed : State := up.onSec fun c => { c with blocks := List.range 65 }

theorem allSealed_seals (off : Nat) : barSealed allSealed 1 off = some (blockNo false (Config.barBlock (barRow off))) := by
  have h : blockNo false (Config.barBlock (barRow off)) ∈ List.range 65 := List.mem_range.mpr (by have := blockNo_le false (Config.barBlock (barRow off)); omega)
  have hc : (allSealed.sec.blocks.contains (blockNo false (Config.barBlock (barRow off)))) = true := List.contains_iff_mem.mpr h
  have hs : (allSealed.chal 1).isSealed = false := by decide +kernel
  simp only [barSealed, hs, hc, Bool.not_false, Bool.and_self, if_true]
/-! ### Ill-formed terms, one for each check of WellFormed.lean -/

/-- A header or a parameter that its bytes cannot hold: sys, lane, sdh, cpri. -/
theorem test_wellformed_line_services :
    ([.sysHello { hd with port := 2 } ⟨1, 0⟩, .sysHello { hd with queue := 4 } ⟨1, 0⟩, .sysHello { hd with seq := 65536 } ⟨1, 0⟩,
      .sysHello { hd with tag := 2 ^ 64 } ⟨1, 0⟩, .sysHello { hd with us := 126 } ⟨1, 0⟩, .sysHello hd ⟨256, 0⟩,
      .sysSession hd ⟨0, 65536⟩, .sysMode hd 256, .sysBatchOpen { hd with port := 2 }, .sysBeatStatus { hd with port := 2 },
      .scoutStart { hd with port := 2 }, .scoutStatus { hd with port := 2 }, .hiveStatus { hd with port := 2 },
      .secStatus { hd with port := 2 }, .secChallenge { hd with port := 2 }, .sysBatchClose hd ⟨0, 0, 2 ^ 48⟩, .sysBusStatus hd 256,
      .laneConfig hd ⟨65536, 0, 0, 0, 0, 0, 0, 0, 0⟩, .laneStatus hd 65536 0, .laneCal hd ⟨0, 0, 0, 128, 0, 0, 0⟩,
      .lanePrbs hd ⟨0, 0, 0, 0, 256⟩, .laneSlip hd 65536, .laneTrim hd 0 (2 ^ 31),
      .sdhPort hd ⟨0, 0, 5, 0, 0, 0, 0, 0, 7, 3, 800, 6, [], List.replicate 15 0⟩,
      .sdhPath hd ⟨0, 0, 1, 0, 0, 1, 2, 7, 3, 800, 6, 4, List.replicate 64 0, []⟩, .sdhOh hd ⟨0, 0, 0, 0, 0, 256⟩,
      .sdhStatus hd 0 65536 0, .sdhTrace hd 65536 0, .cpriPort hd ⟨0, 0, 0, 0, 0, 0, 0, 0, 0, 2 ^ 32⟩,
      .cpriAxc hd ⟨0, 0, 0, 0, 0, 0, 0, 65536⟩, .cpriCm hd ⟨0, 256, 0, 0, 0, 0⟩, .cpriL1 hd 0 256, .cpriStatus hd 0 256] : List Instr).all (fun c => !WellFormed.ok c) = true := by
  decide +kernel

/-- comb, nurse, pool, prot, pm. -/
theorem test_wellformed_fabric_services :
    ([.combConnect hd 0 [⟨0, 0, 256, 0, 0, 0⟩], .combBrood hd 0 0 [⟨0, 0, 0, 0, 65536⟩], .combTu hd 0 [⟨0, 0, 0, 0, 0, 0, 0, 256⟩],
      .combRead hd ⟨0, 0, 0, 65536⟩, .combTest hd ⟨0, 0, 0, 0, 0, 0, 256⟩, .combTap hd ⟨0, 0, 0, 0, 2 ^ 48⟩, .combStatus hd 65536 0,
      .nurseVc hd ⟨0, 0, 0, 0, 0, 0, 0, 0, 2 ^ 48⟩, .nurseTu hd ⟨0, 0, 0, 0, 0, 2, 2, 4, 7, 3, 200, 6, 0, 0, [], []⟩,
      .nurseAxcvcat hd ⟨0, 0, 0, 1, 1, 1, 1, 0, 0, []⟩, .nurseStatus hd ⟨0, 0, 0, 0, 256⟩, .poolDelay hd ⟨0, 0, 0, 0, 0, 65536⟩,
      .poolGroup hd ⟨0, 0, 0, 0, 0, 0, 0, 256⟩, .poolTwin hd ⟨0, 0, 0, 0, 0, 0, 0, 0, 256⟩, .poolChannel hd 256 0,
      .poolStatus hd 0 65536 0, .protGroup hd ⟨0, 3, 1, 0, 0, 5, .lines 0 1⟩, .protCommand hd 65536 0, .protStatus hd 0 256,
      .pmConfig hd ⟨0, 0, 256⟩, .pmMonitor hd ⟨⟨256, 0, 0, 0⟩, 0, 0, 0⟩, .pmProfile hd 0 [], .pmRead hd ⟨0, 0, 65536, 0⟩ 0,
      .pmBulk hd ⟨0, 0, 256, 0⟩] : List Instr).all (fun c => !WellFormed.ok c) = true := by
  decide +kernel

/-- scout, hive, power, test, tally, sec. -/
theorem test_wellformed_other_services :
    ([.scoutInput hd ⟨0, 0, 0, 0, 0, 0, 0, 0, 0, 0, 0, 0, 0, 2 ^ 31⟩, .scoutSelect hd ⟨0, 0, 0, 0, 0, 0, 256⟩,
      .scoutDpll hd ⟨0, 0, 0, 0, 0, 2 ^ 32, 0, 0, 0, 0⟩, .scoutTod hd ⟨0, 0, 0, 0, 2 ^ 48⟩, .scoutSteer hd ⟨0, 0, 2 ^ 63⟩,
      .scoutOutput hd ⟨0, 0, 0, 0, 0, 0, 0, 2 ^ 32⟩, .scoutModel hd ⟨0, 65536, 0⟩, .scoutInputStatus hd 256 0,
      .hiveConfig hd ⟨0, 0, 65536⟩, .hiveJoin hd 256, .hiveSwitch hd 0 (2 ^ 48), .powerConfig hd ⟨0, 0, 0, 0, 2 ^ 32⟩,
      .powerTable hd ⟨0, 0, ⟨0, 0, 0, 0, 65536, 0, 0⟩⟩, .powerStatus hd 256 0, .testBist hd ⟨0, 0, 0, 0, 65536⟩,
      .testSting hd ⟨0, 0, 0, 0, 0, 0, 2 ^ 32⟩, .testTracer hd 256 0, .tallyRead hd 256 0 0, .secProve hd 1 0 (2 ^ 768),
      .secWorld hd ⟨0, 0, 0, 0, 0, 0, 0, 65536⟩, .secLifecycle hd 0 ⟨0, 0, 2 ^ 32, 0, 0⟩, .secUpdate hd 0 (2 ^ 32)] : List Instr).all (fun c => !WellFormed.ok c) = true := by
  decide +kernel

/-- A port, queue, semaphore, source, ring or address that the device does not have. -/
theorem test_wellformed_host_steps :
    ([.wgCmdStart 2 0 .whole 0, .wgCmdPush 0 0 .lo 0x100000000, .wgRspPop 0 4 .whole, .wgNtfPop 2 .whole, .ntfQueueFlush 2,
      .semRenew 2 .whole, .evClaim 2 .whole, .pcieFlr 2, .pcieLinkDown 2, .pcieLinkUp 2, .perstAssert 2, .nonceExpiry 2,
      .challengeLockExpiry 2, .hostPortPowerState 2 true true, .cmdQueueFlush 0 4, .rspQueueFlush 0 4, .queueReadStallTimeout 0 4,
      .flushDone 0 9, .commandServe 126, .semAcquire 0 32 .whole false, .semRelease 0 32, .leaseExpiry 32, .evComplete 0 512,
      .evReset 0 256, .evSrcWrite 0 320 0, .evGrpWrite 0 14 0, .gdClearStorm 256, .gdRestart 256, .gdResolve 16 0,
      .hvCtrlRelease .lo 0x100000000, .dmaTailWrite 0 0 4096, .dmaRingEnable 0 8 true,
      .descriptorClose 0 0 { addr := 0, bufLen := 2 ^ 32 }, .registerWrite 0 0x100000 .whole 0, .bar0BadAccess 0 0x100000 4 true,
      .bar2Access 0 (2 ^ 28) none 1 false] : List Instr).all (fun c => !WellFormed.ok c) = true := by
  decide +kernel

/-- Units of the lines and of the nurse units. -/
theorem test_wellformed_plane_steps :
    ([.losDeclare 260, .losClear 260, .lolDeclare 260, .lolClear 260, .alignmentLost 260, .loopbackSlip 260 true, .commaAlign 0 10,
      .prbsLock (.lane 260) [] 0, .prbsUnlock (.comb 415 0) 0 0, .trimServoUpdate 256, .lofDeclare 256, .lofClear 256,
      .sdhEgressFrame 256, .cpriLofChange 256, .rxOffsetUpdate 256, .l1ResetEnd 256, .sdhFrameRx 256 [],
      .internalJustification 0 192 true, .degSecondEnd (.hp 0 192), .berSubwindowEnd (.lp 96 0 0) true, .ohCaptureRecord 0 5,
      .ohInsertFlight 0 5, .hyperframeRx 0 [1024] 0, .cmCaptureRecord 0 3, .cmInsertFlight 0 3,
      .axcSlip 0 48, .axcRealign 0 48, .rotationStep 64 true, .combEccError 64 0 true,
      .tuPointerInterpret 96 0 0, .tuEgressBuild 96 0 0, .mapRateUpdate 0 0 16, .playSlip 0 192 0 true,
      .playDefectChange 0 0 16] : List Instr).all (fun c => !WellFormed.ok c) = true := by
  decide +kernel

/-- Units of the pools, the protection, the Scout and the hive. -/
theorem test_wellformed_pool_and_scout_steps :
    ([.memberMfiChange 0 256, .loaChange 12288, .groupRealign 12288, .outputLagAdjust 12288,
      .twinSelect 12288, .poolEccError 12288, .bypassRevert 12288, .twinBypassReturn 12288,
      .refreshPlace 4 0 true true, .ddrRequestTimeout 4, .channelFail 4 1, .channelTrainingDone 4 0 0 0 0, .channelReturnDone 4,
      .patrolScrubLine 0 (2 ^ 30) 0 true, .ddrThermalRead 4 0, .ddrBootTrainingDone 4 0 0 0 0, .holdoffExpiry 12288 true, .wtrExpiry 12288,
      .fopCmExpiry 12288, .cpriHitlessSwitch 12288, .inputOffsetUpdate 20 0, .inputFail 20 0, .ppsEdge 20 0, .inputQualify 20,
      .inputWtrExpiry 20, .suspectChange 20, .driftUpdate 20, .inputFailClear 20, .squelchChange 11,
      .hiveFrameRx 4 0 [], .mirrorRecordRx (2 ^ 32) true .fill,
      .pmAutoWrite ⟨256, 0, 0, 0⟩ true] : List Instr).all (fun c => !WellFormed.ok c) = true := by
  decide +kernel

/-- Units of the Keeper, the Guard, the memory, test and power. -/
theorem test_wellformed_system_steps :
    ([.ticketArm (2 ^ 32), .ticketApply (2 ^ 32), .snapshotRelease 2, .unitPipelineOverrun 256 0, .coreWatchdogPreExpiry (some 4),
      .coreWatchdogExpiry 4, .coreRetire 4, .faultRecord 256 0 0 0, .sourceAssert 320 true, .redirectTimeout 320,
      .coalesceRelease 0 14, .busTransactionTimeout 14 0, .defaultTargetResponse 0 (2 ^ 40), .sramEccError 14 0 true [], .sramEccError 0 0 true (List.replicate 65 0),
      .stingOccurrence 64, .tracerTag 0 192, .tallyOverflow 64, .ddrRegionClearDone 32, .updateDataDone 0 (2 ^ 32) [],
      .railExcursion 16 true true 0, .railClear 16, .tokenRelease 16] : List Instr).all (fun c => !WellFormed.ok c) = true := by
  decide +kernel

/-! ### One step each -/

/-- What a check says of the state after a step. -/
def afterStep (o : Host.Outcome State Fault Refusal) (check : State → Bool) : Bool :=
  match o with
  | .next t => check t
  | _ => false

/-- An empty queue idles. -/
theorem test_idle : afterStep (step State.reset) (fun t => t == State.reset) = true := by decide +kernel

/-- A step takes the front command and leaves the rest of the queue. -/
theorem test_front : afterStep (step { State.reset with pending := [.pcieLinkUp 0, .beat] }) (fun t => t.pending == [.beat]) = true := by
  decide +kernel

/-- The always-on supply starts the power-up sequence at step 1 (18 R545, R582). -/
theorem test_power_on : afterStep (exec (.vddaoPowerOn true) State.reset) (fun t => t.power.powered && t.power.seq == 1) = true := by
  decide +kernel

/-- BEAT wraps at 48 bits (02 R44). -/
theorem test_beat_wraps : afterStep (exec .beat (up.onClk fun c => { c with beat := 2 ^ 48 - 1 })) (fun t => t.now == 0) = true := by
  decide +kernel

/-- A wrong key changes nothing (14 R464). -/
theorem test_storm_key :
    afterStep (exec (.gdClearStorm 0x5A) (up.onGuard fun g => { g with storm := true })) (fun t => t.guard.storm) = true := by
  decide +kernel

/-- A free semaphore goes to the port that reads it, for 1,000 ms (13 R412, R413). -/
theorem test_semaphore : afterStep (exec (.semAcquire 0 31 .whole false) up)
    (fun t => (t.sem 31).owner == some .portA && (t.sem 31).left == 1000) = true := by decide +kernel

/-- A push outside a message is dropped and counted (13 R391, R397). -/
theorem test_push_dropped : afterStep (exec (.wgCmdPush 0 0 .whole 7) up)
    (fun t => ((t.port 0).cmdOf 0).dropped == 1 && ((t.port 0).cmdOf 0).words == []) = true := by decide +kernel

/-- A LOS that starts is counted and drives the summary source of the lane's home tile, 255 / 8 = 31 (03 R85, R86). -/
theorem test_los : afterStep (exec (.losDeclare 255) (onIn 255 4 up))
    (fun t => (t.lane 255).los && (t.lane 255).losEvents == 1 && (t.src 31).up) = true := by decide +kernel

/-- A framing pattern found in Hunt gives Presync (04 R103). -/
theorem test_presync : afterStep
    (exec (.sdhFrameRx 255 ([0xF6, 0xF6, 0xF6, 0x28, 0x28, 0x28] ++ List.replicate 2424 0)) ((sdhLane 255 up).onLane 255 fun x => { x with mode := 1 }))
    (fun t => (t.sdhOf 255).align == .presync) = true := by decide +kernel

/-- A BAR2 write is stored lowest address first, and reads back (13 R386). -/
theorem test_bar2 : afterStep (exec (.bar2Access 0 16 (some [1, 2]) 2 false) up)
    (fun t => t.bus.bar2 == [(16, 1), (17, 2)] && memRead t.bus.bar2 17 == 2) = true := by decide +kernel

/-- A status byte out of range is refused with BAD_ARG in the command's response queue (00 R18). -/
theorem test_bad_arg : afterStep (exec (.laneSlip hd 256) up) (fun t => ((t.port 1).rspOf 3).words.length == 3) = true := by
  decide +kernel


/-! ### Witnesses of the hypotheses of the obligations -/

theorem witness_StepRunsFront :
    ∃ (s : State), s.pending = [] :=
  ⟨up, by decide +kernel⟩

theorem witness_StatusReadsAnswer :
    (∃ (h : Hdr) (s : State), heard h s) ∧
    (∃ (h : Hdr) (s : State) (n : _), heard h s ∧ n ≤ 259) ∧
    (∃ (h : Hdr) (s : State) (n : _) (g : _), heard h s ∧ n ≤ 255 ∧ (s.lane n).enable = 1 ∧ isSdhMode (s.lane n).mode = true ∧ (g = 0xFFFF
      ∨ g ≤ 191 ∧ (s.path n g).cfg.type ≠ 0)) ∧
    (∃ (h : Hdr) (s : State) (n : _), heard h s ∧ n ≤ 255 ∧ (s.lane n).enable = 1 ∧ isCpriMode (s.lane n).mode = true) ∧
    (∃ (h : Hdr) (s : State) (i : Nat), heard h s ∧ i ≤ 19) ∧
    (∃ (h : Hdr) (s : State) (r : _), heard h s ∧ r ≤ 15) ∧
    (∃ (h : Hdr) (s : State) (first : _) (count : _), heard h s ∧ 1 ≤ count ∧ first + count ≤ 64) :=
  ⟨⟨hd, up, by decide +kernel⟩, ⟨hd, up, 259, by decide +kernel⟩, ⟨hd, withPath 255 191 (sdhLane 255 up), 255, 191, by decide +kernel⟩,
    ⟨hd, cpriLane 255 up, 255, by decide +kernel⟩, ⟨hd, up, 19, by decide +kernel⟩, ⟨hd, up, 15, by decide +kernel⟩, ⟨hd, up, 63, 1,
    by decide +kernel⟩⟩

theorem witness_FabricReadsAnswer :
    (∃ (h : Hdr) (s : State) (port : _), heard h s ∧ (port ≤ 423 ∨ port = 0xFFFF)) ∧
    (∃ (h : Hdr) (s : State) (a : CombReadArgs), heard h s ∧ a.tier = 0 ∧ a.port ≤ 423 ∧ 1 ≤ a.count ∧ a.start + a.count ≤ 192) ∧
    (∃ (h : Hdr) (s : State) (a : CombReadArgs), heard h s ∧ a.tier = 1 ∧ a.port ≤ 95 ∧ 1 ≤ a.count ∧ a.count ≤ 1024 ∧ a.start + a.count ≤
      16704) ∧
    (∃ (h : Hdr) (s : State) (a : NurseStatusArgs), heard h s ∧ a.b ≤ 95 ∧ a.g ≤ 191 ∧ a.clear = 0 ∧ nurseMissing a s = false) ∧
    (∃ (h : Hdr) (s : State) (slot : _) (member : _), heard h s ∧ slot ≤ 12287 ∧ (member ≤ 255 ∨ member = 0xFFFF)) ∧
    (∃ (h : Hdr) (s : State) (n : _), heard h s ∧ n ≤ 12287) ∧
    (∃ (h : Hdr) (s : State) (e : _) (n : _), heard h s ∧ (s.mon e).cfg.enable = 1 ∧ (n ≤ 96 ∨ 100 ≤ n ∧ n ≤ 107)) :=
  ⟨⟨hd, up, 423, by decide +kernel⟩, ⟨hd, up, ⟨0, 423, 0, 192⟩, by decide +kernel⟩, ⟨hd, up, ⟨1, 95, 15680, 1024⟩, by decide +kernel⟩, ⟨hd,
    up.onVc 95 191 fun x => { x with cfg := ⟨95, 191, 1, 0, 0, 1, 0, 2, 0⟩ }, ⟨95, 191, 0, 0xFF, 0⟩, by decide +kernel⟩, ⟨hd, up, 12287,
    255, by decide +kernel⟩, ⟨hd, up.onGroup 12287 fun x => { x with cfg := { x.cfg with group := 12287, enable := 1 } }, 12287,
    by decide +kernel⟩, ⟨hd, up.onMon ⟨3, 191, 255, 0⟩ fun x => { x with cfg := ⟨⟨3, 191, 255, 0⟩, 1, 0, 0xFF⟩ }, ⟨3, 191, 255, 0⟩, 107,
    by decide +kernel⟩⟩

theorem witness_OpZeroReadsAnswer :
    (∃ (h : Hdr) (s : State) (a : CpriAxcArgs), heard h s ∧ a.op = 0 ∧ a.lane ≤ 255 ∧ a.axc ≤ 47 ∧ a.dir ≤ 1 ∧ a.enable ≤ 1 ∧ isCpriMode
      (s.lane a.lane).mode = true ∧ (s.lane a.lane).enable = 1 ∧ (s.cpriOf a.lane).cfg.transport = 0 ∧ axcOutside a (iqBits (cpriOption
      (s.lane a.lane).mode)) = false) ∧
    (∃ (h : Hdr) (s : State) (a : CombTestArgs), heard h s ∧ a.op = 0 ∧ 416 ≤ a.port ∧ a.port ≤ 417 ∧ a.stream ≤ 63 ∧ badStream a = false)
      ∧
    (∃ (h : Hdr) (s : State) (a : CombTapArgs), heard h s ∧ a.op = 0 ∧ 1 ≤ a.beats ∧ a.beats ≤ 8000 ∧ a.bar2 % 1024 = 0) ∧
    (∃ (h : Hdr) (s : State) (ch : _), heard h s ∧ ch ≤ 3) ∧
    (∃ (h : Hdr) (s : State) (a : ScoutTodArgs), heard h s ∧ a.op = 0 ∧ a.bfnMode ≤ 1) ∧
    (∃ (h : Hdr) (s : State) (a : ScoutSteerArgs), heard h s ∧ a.op = 0 ∧ 1 ≤ a.count ∧ a.count ≤ 64) ∧
    (∃ (h : Hdr) (s : State) (a : ScoutModelArgs), heard h s ∧ a.op = 0 ∧ a.firstBin ≤ 539 ∧ 1 ≤ a.count ∧ a.count ≤ 64) ∧
    (∃ (h : Hdr) (s : State) (a : PowerTableArgs), heard h s ∧ a.op = 0 ∧ a.slot ≤ 15 ∧ badPowerEntry a.entry = false) ∧
    (∃ (h : Hdr) (s : State) (a : TestBistArgs), heard h s ∧ a.op = 0 ∧ badBist a = false) ∧
    (∃ (h : Hdr) (s : State) (a : SecWorldArgs), heard h s ∧ a.op = 0 ∧ badWorld a = false) ∧
    (∃ (h : Hdr) (s : State), heard h s) :=
  ⟨⟨hd, cpriLane 255 up, ⟨255, 47, 1, 0, 0, 0, 30, 0⟩, by decide +kernel⟩, ⟨hd, up, ⟨417, 63, 0, 0, 192, 0, 0x24⟩, by decide +kernel⟩, ⟨hd,
    up, ⟨0, 0, 8000, 0, 0⟩, by decide +kernel⟩, ⟨hd, up, 3, by decide +kernel⟩, ⟨hd, up, ⟨0, 0, 0, 0, 0⟩, by decide +kernel⟩, ⟨hd, up, ⟨0,
    64, 0⟩, by decide +kernel⟩, ⟨hd, up, ⟨0, 539, 64⟩, by decide +kernel⟩, ⟨hd, up, ⟨0, 15, ⟨0, 0, 0, 0, 0, 0, 0⟩⟩, by decide +kernel⟩,
    ⟨hd, up, ⟨0, 0, 0, 48, 8000⟩, by decide +kernel⟩, ⟨hd, up, ⟨0, 2, 31, 0, 0, 0, 0, 0⟩, by decide +kernel⟩, ⟨hd, up, by decide +kernel⟩⟩

theorem witness_LineSettingsTakeTickets :
    (∃ (h : Hdr) (s : State) (a : LaneArgs), heard h s ∧ mayTicket h s ∧ owns h 2 s ∧ badLane a = false ∧ (s.lane a.lane).bootFailed =
      false ∧ laneFDiffers (s.lane a.lane) a = false ∧ (¬((s.lane a.lane).enable = 1 ↔ a.enable = 1))) ∧
    (∃ (h : Hdr) (s : State) (a : SdhPortArgs), heard h s ∧ mayTicket h s ∧ owns h 3 s ∧ badSdhPort (sdhPortSeen a) = false ∧ isSdhMode
      (s.lane a.lane).mode = true ∧ a.enable = 1 ∧ (s.sdhOf a.lane).cfg.enable = 0 ∧ laneWill h.port a.lane s = true) ∧
    (∃ (h : Hdr) (s : State) (a : SdhPathArgs), heard h s ∧ mayTicket h s ∧ owns h 3 s ∧ badSdhPath (sdhPathSeen a) = false ∧ isSdhMode
      (s.lane a.lane).mode = true ∧ laneWill h.port a.lane s = true ∧ pathFits (sdhPathSeen a) (sdhGranules (s.lane a.lane).mode) = true ∧
      (s.sdhOf a.lane).cfg.enable = 1 ∧ (s.path a.lane a.g).cfg.type = a.type ∧ (s.path a.lane a.g).cfg ≠ sdhPathSeen a) ∧
    (∃ (h : Hdr) (s : State) (a : CpriPortArgs), heard h s ∧ mayTicket h s ∧ owns h 4 s ∧ badCpriPort (cpriPortSeen a) = false ∧ isCpriMode
      (s.lane a.lane).mode = true ∧ a.enable = 1 ∧ (s.cpriOf a.lane).cfg.enable = 0 ∧ laneWill h.port a.lane s = true) ∧
    (∃ (h : Hdr) (s : State) (a : CpriAxcArgs), heard h s ∧ mayTicket h s ∧ owns h 4 s ∧ a.op = 1 ∧ a.lane ≤ 255 ∧ a.axc ≤ 47 ∧ a.dir ≤ 1 ∧
      a.enable = 1 ∧ isCpriMode (s.lane a.lane).mode = true ∧ laneWill h.port a.lane s = true ∧ (s.cpriOf a.lane).cfg.transport = 0 ∧
      axcOutside a (iqBits (cpriOption (s.lane a.lane).mode)) = false ∧ axcClash h.port a s = false ∧ cpriProtected h.port a.lane s = false
      ∧ (s.axc a.lane a.dir a.axc).cfg.enable = 0) ∧
    (∃ (h : Hdr) (s : State) (a : LaneCalArgs), heard h s ∧ mayTicket h s ∧ owns h 2 s ∧ a.op = 1 ∧ a.lane ≤ 259 ∧ a.group ≤ 2 ∧ badCal a =
      false ∧ calActive a s = true ∧ a.ctle = (s.calOf a.lane a.group).ctle ∧ calDiffers a s = true) :=
  ⟨⟨hd, up.onLane 255 fun x => { x with mode := 4 }, ⟨255, 1, 4, 0, 0, 0, 2, 21, 1⟩, by decide +kernel⟩, ⟨hd, onIn 255 4 up, ⟨255, 1, 5,
    809, 0, 8, 0, 15, 10, 5, 8000, 9, List.replicate 15 0x20, List.replicate 15 0x20⟩, by decide +kernel⟩, ⟨hd, withPath 255 191 (sdhLane
    255 up), ⟨255, 191, 1, 0, 1, 255, 255, 10, 5, 8000, 9, 0, [], []⟩, by decide +kernel⟩, ⟨hd, onIn 255 11 up, ⟨255, 1, 1, 1, 2, 31, 7,
    479, 63, 0x7FFFFFFF⟩, by decide +kernel⟩, ⟨hd, cpriLane 255 up, ⟨255, 47, 1, 1, 1, 0, 30, 0⟩, by decide +kernel⟩, ⟨hd, onIn 255 4 up,
    ⟨255, 1, 2, -32, 16, 32, 0⟩, by decide +kernel⟩⟩

theorem witness_DisabledUnitsTakeSettingsAtOnce :
    (∃ (h : Hdr) (s : State) (a : LaneArgs), heard h s ∧ mayTicket h s ∧ owns h 2 s ∧ badLane a = false ∧ (s.lane a.lane).enable = 0 ∧
      a.enable = 0 ∧ touched h.port (.lane a.lane a.enable a.loopback) s = false) ∧
    (∃ (h : Hdr) (s : State) (a : SdhPortArgs), heard h s ∧ mayTicket h s ∧ owns h 3 s ∧ badSdhPort (sdhPortSeen a) = false ∧ isSdhMode
      (s.lane a.lane).mode = true ∧ a.enable = 0 ∧ (s.sdhOf a.lane).cfg.enable = 0 ∧ touched h.port (.sdhPort (sdhPortSeen a)) s = false) ∧
    (∃ (h : Hdr) (s : State) (a : LaneCalArgs), heard h s ∧ mayTicket h s ∧ owns h 2 s ∧ a.op = 1 ∧ a.lane ≤ 259 ∧ a.group ≤ 2 ∧ badCal a =
      false ∧ calActive a s = false ∧ touched h.port (calChange a) s = false) :=
  ⟨⟨hd, up, ⟨255, 0, 11, 1, 3, 1, 2, 21, 1⟩, by decide +kernel⟩, ⟨hd, onIn 255 4 up, ⟨255, 0, 4, 809, 0, 8, 0, 15, 10, 5, 8000, 9,
    List.replicate 15 0x20, List.replicate 15 0x20⟩, by decide +kernel⟩, ⟨hd, up, ⟨255, 1, 2, -32, 16, 32, 15⟩, by decide +kernel⟩⟩

theorem witness_LineActionsAtOnce :
    (∃ (h : Hdr) (s : State) (a : LanePrbsArgs), heard h s ∧ owns h 2 s ∧ a.lane ≤ 259 ∧ a.gen ≤ 4 ∧ a.chk ≤ 4 ∧ a.invert ≤ 3 ∧ a.action ≤
      2) ∧
    (∃ (h : Hdr) (s : State) (n : _), heard h s ∧ owns h 2 s ∧ n ≤ 255 ∧ (s.lane n).align ≠ 0 ∧ isSdhMode (s.lane n).mode = false) ∧
    (∃ (h : Hdr) (s : State) (n : _) (trim : _), heard h s ∧ owns h 2 s ∧ n ≤ 255 ∧ -200000 ≤ trim ∧ trim ≤ 200000 ∧ trimOwned n s = false
      ∧ (isSdhMode (s.lane n).mode = false ∨ trim = 0)) ∧
    (∃ (h : Hdr) (s : State) (a : SdhOhArgs), heard h s ∧ owns h 3 s ∧ a.lane ≤ 255 ∧ a.idleDcc ≤ 255 ∧ a.idleOw ≤ 255 ∧ a.port ≤ 1 ∧
      isSdhMode (s.lane a.lane).mode = true ∧ laneWill h.port a.lane s = true) ∧
    (∃ (h : Hdr) (s : State) (a : CpriCmArgs), heard h s ∧ owns h 4 s ∧ a.lane ≤ 255 ∧ a.idleSlow ≤ 255 ∧ a.idleFast ≤ 255 ∧ a.port ≤ 1 ∧
      isCpriMode (s.lane a.lane).mode = true ∧ laneWill h.port a.lane s = true ∧ (s.cpriOf a.lane).cfg.transport = 0) ∧
    (∃ (h : Hdr) (s : State) (n : _), heard h s ∧ owns h 4 s ∧ n ≤ 255 ∧ isCpriMode (s.lane n).mode = true ∧ laneWill h.port n s = true ∧
      (s.cpriOf n).cfg.role ≠ 1 ∧ (s.cpriOf n).resetLeft = 0) :=
  ⟨⟨hd, up, ⟨259, 4, 4, 3, 2⟩, by decide +kernel⟩, ⟨hd, up.onLane 255 fun x => { x with mode := 5, align := 1 }, 255, by decide +kernel⟩,
    ⟨hd, up, 255, -200000, by decide +kernel⟩, ⟨hd, sdhLane 255 up, ⟨255, 31, 31, 255, 255, 1⟩, by decide +kernel⟩, ⟨hd, cpriLane 255 up,
    ⟨255, 15, 15, 255, 255, 1⟩, by decide +kernel⟩, ⟨hd, cpriLane 255 up, 255, by decide +kernel⟩⟩

theorem witness_ClearingReadsAnswer :
    (∃ (h : Hdr) (s : State) (n : _), heard h s ∧ owns h 2 s ∧ n ≤ 259) ∧
    (∃ (h : Hdr) (s : State) (n : _), heard h s ∧ owns h 3 s ∧ n ≤ 255 ∧ (s.lane n).enable = 1 ∧ isSdhMode (s.lane n).mode = true) ∧
    (∃ (h : Hdr) (s : State) (n : _), heard h s ∧ owns h 4 s ∧ n ≤ 255 ∧ (s.lane n).enable = 1 ∧ isCpriMode (s.lane n).mode = true) ∧
    (∃ (h : Hdr) (s : State) (n : _), heard h s ∧ owns h 8 s ∧ n ≤ 12287) ∧
    (∃ (h : Hdr) (s : State) (i : Nat), heard h s ∧ owns h 10 s ∧ i ≤ 19) ∧
    (∃ (h : Hdr) (s : State) (r : _), heard h s ∧ owns h 12 s ∧ r ≤ 15) ∧
    (∃ (h : Hdr) (s : State), heard h s ∧ owns h 1 s) :=
  ⟨⟨hd, up, 259, by decide +kernel⟩, ⟨hd, sdhLane 255 up, 255, by decide +kernel⟩, ⟨hd, cpriLane 255 up, 255, by decide +kernel⟩, ⟨hd, up,
    12287, by decide +kernel⟩, ⟨hd, up, 19, by decide +kernel⟩, ⟨hd, up, 15, by decide +kernel⟩, ⟨hd, up, by decide +kernel⟩⟩

theorem witness_FabricSettingsTakeTickets :
    (∃ (h : Hdr) (s : State) (op : _) (es : List ConnEntry), heard h s ∧ mayTicket h s ∧ owns h 5 s ∧ es ≠ [] ∧ es.length ≤ 512 ∧ op ≤ 1 ∧
      es.any (badConn op) = false ∧ (es.map fun e => e.width).sum ≤ 4096 ∧ runsClash connClash es = false ∧ (es.any fun e => superOwned
      (groupsWill h.port s) e.dstPort e.dstG e.width) = false ∧ connAdmission h.port op es s = false) ∧
    (∃ (h : Hdr) (s : State) (op : _) (kind : _) (es : List BroodEntry), heard h s ∧ mayTicket h s ∧ owns h 5 s ∧ es ≠ [] ∧ es.length ≤ 512
      ∧ op ≤ 1 ∧ kind ≤ 1 ∧ es.any (badBrood op) = false ∧ (es.map fun e => e.cells).sum ≤ 65536 ∧ runsClash broodClash es = false ∧
      (es.any fun e => broodOwned (groupsWill h.port s) e.dstB fun x => e.dstX ≤ x && x < e.dstX + e.cells) = false) ∧
    (∃ (h : Hdr) (s : State) (es : List TuEntry), heard h s ∧ mayTicket h s ∧ owns h 5 s ∧ es ≠ [] ∧ es.length ≤ 256 ∧ es.any (badTu 0) =
      false ∧ runsClash tuClash es = false ∧ (es.any fun e => broodOwned (groupsWill h.port s) e.dstB fun x => (tuOutputs e).contains x) =
      false ∧ tuWrites 0 es ≠ [] ∧ tooLarge (tuWrites 0 es) = false) ∧
    (∃ (h : Hdr) (s : State) (es : List TuEntry), heard h s ∧ mayTicket h s ∧ owns h 5 s ∧ es ≠ [] ∧ es.length ≤ 256 ∧ es.any (badTu 1) =
      false ∧ runsClash tuClash es = false ∧ (es.any fun e => broodOwned (groupsWill h.port s) e.dstB fun x => (tuOutputs e).contains x) =
      false ∧ tuDrops es ≠ [] ∧ tooLarge (tuDrops es) = false) ∧
    (∃ (h : Hdr) (s : State) (a : NurseVcArgs), heard h s ∧ mayTicket h s ∧ owns h 6 s ∧ badVc a = false ∧ vcClash h.port a s = false ∧
      (s.vcOf a.b a.g).cfg.enable = 0 ∧ a.enable = 1) ∧
    (∃ (h : Hdr) (s : State) (a : NurseTuArgs), heard h s ∧ mayTicket h s ∧ owns h 6 s ∧ a.b ≤ 95 ∧ a.g ≤ 191 ∧ (tuType (s.vcOf a.b
      a.g).cfg a.tu).isSome = true ∧ badTuArgs (tuType (s.vcOf a.b a.g).cfg a.tu == some 4) (tuSeen a) = false ∧ (s.vcOf a.b
      a.g).cfg.enable = 1 ∧ (s.tuOf a.b a.g a.tu).cfg ≠ tuSeen a) ∧
    (∃ (h : Hdr) (s : State) (a : NurseAxvArgs), heard h s ∧ mayTicket h s ∧ owns h 6 s ∧ a.axcs.length = a.nAxc ∧ badAxv a = false ∧
      axvClash h.port a s = false ∧ axvAdmits a = true ∧ playFits h.port a s = true ∧ (s.axvOf a.b a.dir a.g0).cfg.enable = 0 ∧ a.enable =
      1) ∧
    (∃ (h : Hdr) (s : State) (a : NurseAxvArgs), heard h s ∧ mayTicket h s ∧ owns h 6 s ∧ a.axcs.length = a.nAxc ∧ badAxv a = false ∧
      axvClash h.port a s = false ∧ axvAdmits a = true ∧ playFits h.port a s = true ∧ (s.axvOf a.b a.dir a.g0).cfg.enable = 0 ∧ a.enable =
      1) :=
  ⟨⟨hd, up, 0, [⟨421, 0, 192, 417, 0, 1⟩], by decide +kernel⟩, ⟨hd, up, 0, 1, [⟨95, 95, 16703, 16703, 1⟩], by decide +kernel⟩, ⟨hd, up,
    [⟨95, 189, 0x49, 95, 189, 0x49, 2, 0⟩], by decide +kernel⟩, ⟨hd, up, [⟨95, 189, 0x49, 0, 0, 0, 2, 0⟩], by decide +kernel⟩, ⟨hd, up,
    ⟨95, 191, 1, 0, 0, 1, 0, 255, 0⟩, by decide +kernel⟩, ⟨hd, up.onVc 95 191 fun x => { x with cfg := ⟨95, 191, 1, 2, 1, 0, 0, 2, 0⟩ },
    ⟨95, 191, 0x09, 1, 1, 7, 7, 1, 10, 5, 2000, 9, 255, 255, List.replicate 15 0x41, List.replicate 15 0x41⟩, by decide +kernel⟩, ⟨hd, up,
    ⟨95, 0, 191, 1, 2, 1, 1, 255, 0, [⟨12, 0⟩]⟩, by decide +kernel⟩, ⟨hd, up, ⟨95, 1, 191, 1, 2, 1, 1, 255, 7680, [⟨12, 0⟩]⟩,
    by decide +kernel⟩⟩

theorem witness_CombTestsAtOnce :
    (∃ (h : Hdr) (s : State) (a : CombTestArgs), heard h s ∧ owns h 5 s ∧ a.op = 1 ∧ 416 ≤ a.port ∧ a.port ≤ 417 ∧ a.stream ≤ 63 ∧
      badStream a = false ∧ streamClash a s = false ∧ (s.stream a.port a.stream).on = false) ∧
    (∃ (h : Hdr) (s : State) (a : CombTestArgs), heard h s ∧ owns h 5 s ∧ a.op = 3 ∧ 416 ≤ a.port ∧ a.port ≤ 417 ∧ a.stream ≤ 63 ∧
      badStream a = false) ∧
    (∃ (h : Hdr) (s : State) (a : CombTapArgs), heard h s ∧ owns h 5 s ∧ a.op = 1 ∧ 1 ≤ a.beats ∧ a.beats ≤ 8000 ∧ a.bar2 % 1024 = 0 ∧
      a.bar2 + tapSize a ≤ 2 ^ 28 ∧ tapDenied h.port a s = false ∧ s.comb.tap.state ≠ 1 ∧ s.comb.tap.state ≠ 2) ∧
    (∃ (h : Hdr) (s : State) (a : CombTapArgs), heard h s ∧ owns h 5 s ∧ a.op = 2 ∧ 1 ≤ a.beats ∧ a.beats ≤ 8000 ∧ a.bar2 % 1024 = 0 ∧
      (s.comb.tap.state = 1 ∨ s.comb.tap.state = 2)) ∧
    (∃ (h : Hdr) (s : State) (port : _), heard h s ∧ owns h 5 s ∧ port ≤ 423) :=
  ⟨⟨hd, up, ⟨417, 63, 1, 0, 192, 1, 0x24⟩, by decide +kernel⟩, ⟨hd, up.onStream 417 63 fun x =>
    { x with width := 192, mode := 1, pattern := 0x24, locked := true, errors := 7 }, ⟨417, 63, 3, 0, 192, 0, 0x24⟩, by decide +kernel⟩,
    ⟨hd, up, ⟨1, 0xFF, 8000, 0, 15999⟩, by decide +kernel⟩, ⟨hd, up.onComb fun c =>
    { c with tap := { state := 2, mask := 1, beats := 8000 } }, ⟨2, 0, 8000, 0, 0⟩, by decide +kernel⟩, ⟨hd, up, 423, by decide +kernel⟩⟩

theorem witness_PoolCommands :
    (∃ (h : Hdr) (s : State) (c : PoolCfg) (i : Instr) (cmd : Nat) (d : Nat), heard h s ∧ owns h 7 s ∧ mayTicket h s ∧
      (match c with | .delay a => i = .poolDelay h a ∧ cmd = 1 | .group a => i = .poolGroup h a ∧ cmd = 2 | .twin a => i = .poolTwin h a ∧ cmd = 3)
      ∧ c.op = 1 ∧ c.unlisted = false ∧ c.bad = false ∧ c.isOn = true ∧ (s.entry c.first).used = false ∧ (poolsWill h.port s).any (fun e =>
      e.first != c.first && e.meets c) = false ∧ poolChannel h.port c.stored s = some d ∧ s.admits h.port (c.stored.setChan d) = true ∧
      ((poolsWill h.port s).any fun e => e.first == c.first) = false) ∧
    (∃ (h : Hdr) (s : State) (c : PoolCfg) (i : Instr) (cmd : Nat) (d : Nat), heard h s ∧ owns h 7 s ∧ mayTicket h s ∧
      (match c with | .delay a => i = .poolDelay h a ∧ cmd = 1 | .group a => i = .poolGroup h a ∧ cmd = 2 | .twin a => i = .poolTwin h a ∧ cmd = 3)
      ∧ c.op = 1 ∧ c.unlisted = false ∧ c.bad = false ∧ c.isOn = true ∧ (s.entry c.first).used = false ∧ (poolsWill h.port s).any (fun e =>
      e.first != c.first && e.meets c) = false ∧ poolChannel h.port c.stored s = some d ∧ s.admits h.port (c.stored.setChan d) = true ∧
      ((poolsWill h.port s).any fun e => e.first == c.first) = false) ∧
    (∃ (h : Hdr) (s : State) (c : PoolCfg) (i : Instr) (cmd : Nat) (d : Nat), heard h s ∧ owns h 7 s ∧ mayTicket h s ∧
      (match c with | .delay a => i = .poolDelay h a ∧ cmd = 1 | .group a => i = .poolGroup h a ∧ cmd = 2 | .twin a => i = .poolTwin h a ∧ cmd = 3)
      ∧ c.op = 1 ∧ c.unlisted = false ∧ c.bad = false ∧ c.isOn = true ∧ (s.entry c.first).used = false ∧ (poolsWill h.port s).any (fun e =>
      e.first != c.first && e.meets c) = false ∧ poolChannel h.port c.stored s = some d ∧ s.admits h.port (c.stored.setChan d) = true ∧
      ((poolsWill h.port s).any fun e => e.first == c.first) = false) ∧
    (∃ (h : Hdr) (s : State) (c : PoolCfg) (i : Instr) (cmd : Nat), heard h s ∧
      (match c with | .delay a => i = .poolDelay h a ∧ cmd = 1 | .group a => i = .poolGroup h a ∧ cmd = 2 | .twin a => i = .poolTwin h a ∧ cmd = 3)
      ∧ c.op = 0 ∧ c.unlisted = false ∧ poolThere c s = true) ∧
    (∃ (h : Hdr) (s : State) (slot : _) (member : _), heard h s ∧ owns h 7 s ∧ slot ≤ 12287 ∧ (member ≤ 255 ∨ member = 0xFFFF)) ∧
    (∃ (h : Hdr) (s : State) (d : Nat), heard h s ∧ owns h 7 s ∧ d ≤ 3 ∧ (s.pool.waiters.any fun w => w.1 == d) = false ∧ ((s.chan d).state
      = 0 ∨ (s.chan d).state = 1)) ∧
    (∃ (h : Hdr) (s : State) (d : Nat), heard h s ∧ owns h 7 s ∧ d ≤ 3 ∧ (s.pool.waiters.any fun w => w.1 == d) = false ∧ ((s.chan d).state
      = 2 ∨ (s.chan d).state = 5)) ∧
    (∃ (h : Hdr) (s : State) (d : Nat), heard h s ∧ owns h 7 s ∧ d ≤ 3 ∧ (s.pool.waiters.any fun w => w.1 == d) = false ∧ (s.chan d).state
      = 3) ∧
    (∃ (h : Hdr) (s : State) (d : Nat), heard h s ∧ owns h 7 s ∧ d ≤ 3 ∧ (s.pool.waiters.any fun w => w.1 == d) = false ∧ ((s.chan d).state
      = 5 ∨ (s.chan d).state = 2 ∧ (s.chan d).everOff = false)) :=
  ⟨⟨hd, up, .delay ⟨12287, 1, 1, 3, 1, 2048⟩, .poolDelay hd ⟨12287, 1, 1, 3, 1, 2048⟩, 1, 3, ⟨by decide +kernel, by decide +kernel,
    by decide +kernel, ⟨rfl, rfl⟩, by decide +kernel⟩⟩, ⟨hd, up, .group ⟨12031, 256, 1, 1, 0xFF, 1, 2048, 1⟩, .poolGroup hd ⟨12031, 256, 1,
    1, 0xFF, 1, 2048, 1⟩, 2, 0, ⟨by decide +kernel, by decide +kernel, by decide +kernel, ⟨rfl, rfl⟩, by decide +kernel⟩⟩, ⟨hd, up, .twin
    ⟨0, 192, 192, 1, 0xFF, 1, 2048, 1, 1⟩, .poolTwin hd ⟨0, 192, 192, 1, 0xFF, 1, 2048, 1, 1⟩, 3, 0, ⟨by decide +kernel, by decide +kernel,
    by decide +kernel, ⟨rfl, rfl⟩, by decide +kernel⟩⟩, ⟨hd, up.onEntry 12287 fun e =>
    { e with used := true, cfg := .delay ⟨12287, 1, 1, 3, 1, 2048⟩ }, .delay ⟨12287, 1, 0, 3, 0, 1⟩, .poolDelay hd ⟨12287, 1, 0, 3, 0, 1⟩,
    1, ⟨by decide +kernel, ⟨rfl, rfl⟩, by decide +kernel⟩⟩, ⟨hd, up, 12287, 255, by decide +kernel⟩, ⟨hd, up, 3, by decide +kernel⟩, ⟨hd,
    up.onChan 3 fun c => { c with state := 5 }, 3, by decide +kernel⟩, ⟨hd, up.onChan 3 fun c => { c with state := 3 }, 3,
    by decide +kernel⟩, ⟨hd, up.onChan 3 fun c => { c with state := 2 }, 3, by decide +kernel⟩⟩

theorem witness_ProtectionAndPmSettings :
    (∃ (h : Hdr) (s : State) (a : ProtGroupArgs), heard h s ∧ owns h 8 s ∧ mayTicket h s ∧ badProt (protSeen a) = false ∧ a.enable = 1 ∧
      (s.group a.group).cfg.enable = 0 ∧ membersMatch h.port (protSeen a) s = true ∧ ((groupsWill h.port s).filter fun b => b.group !=
      a.group).any (sharesMember (protSeen a)) = false ∧ groupsFull (protSeen a) ((groupsWill h.port s).filter fun b => b.group != a.group)
      = false) ∧
    (∃ (h : Hdr) (s : State) (n : _), heard h s ∧ owns h 8 s ∧ n ≤ 12287 ∧ (s.group n).cfg.enable = 1) ∧
    (∃ (h : Hdr) (s : State) (a : PmConfigArgs), heard h s ∧ owns h 9 s ∧ mayTicket h s ∧ a.dayStart ≤ 95 ∧ a.port ≤ 1 ∧ a.auto ≤ 3 ∧
      a.dayStart ≠ s.pm.dayStart) ∧
    (∃ (h : Hdr) (s : State) (a : PmMonitorArgs), heard h s ∧ owns h 9 s ∧ mayTicket h s ∧ a.enable = 1 ∧ a.bidir ≤ 1 ∧ (a.profile ≤ 63 ∨
      a.profile = 0xFF) ∧ entityThere a.ent s = true ∧ (s.mon a.ent).cfg.enable = 0 ∧ monitoredWill h.port a.ent s < 32768) ∧
    (∃ (h : Hdr) (s : State) (i : Nat) (thr : _), heard h s ∧ owns h 9 s ∧ mayTicket h s ∧ i ≤ 63 ∧ profileDiffers i thr s = true) ∧
    (∃ (h : Hdr) (s : State) (a : PmBulkArgs), heard h s ∧ owns h 9 s ∧ mayTicket h s ∧ 1 ≤ a.depth ∧ a.depth ≤ 96 ∧ a.port ≤ 1 ∧ a.types ≤
      31 ∧ a.bins ≤ 15 ∧ (s.pm.bulk.any fun b => b.2.port == a.port) = false) :=
  ⟨⟨hd, onIn 254 4 (onIn 255 4 up), ⟨12287, 1, 1, 15, 100, 12, .lines 254 255⟩, by decide +kernel⟩, ⟨hd, up.onGroup 12287 fun x =>
    { x with cfg := { x.cfg with group := 12287, kind := 3, enable := 1 } }, 12287, by decide +kernel⟩, ⟨hd, up, ⟨95, 1, 3⟩,
    by decide +kernel⟩, ⟨hd, sdhLane 255 up, ⟨⟨2, 0, 255, 0⟩, 1, 1, 0xFF⟩, by decide +kernel⟩, ⟨hd, up, 63, List.replicate 16 1,
    by decide +kernel⟩, ⟨hd, up, ⟨31, 15, 96, 1⟩, by decide +kernel⟩⟩

theorem witness_ScoutSettingsAtOnce :
    (∃ (h : Hdr) (s : State) (a : ScoutInputArgs), heard h s ∧ owns h 10 s ∧ s.hive.role ≠ .standby ∧ badScoutInput
      { a with flags := a.flags % 16 } = false ∧ sameLaneInput { a with flags := a.flags % 16 } s = false ∧ (s.clk.started = false ∨ (s.inp
      a.input).cfg.nominal = a.nominal)) ∧
    (∃ (h : Hdr) (s : State) (a : ScoutSelectArgs), heard h s ∧ owns h 10 s ∧ s.hive.role ≠ .standby ∧ badSelect a = false ∧ a.mode ≠ 1 ∧
      a.mode ≠ 2 ∧ (s.clk.started = false ∨ s.scout.sel.qlOption = a.qlOption)) ∧
    (∃ (h : Hdr) (s : State) (a : ScoutDpllArgs), heard h s ∧ owns h 10 s ∧ s.hive.role ≠ .standby ∧ badDpll a = false ∧ (a.xoFreq = 0 ∨
      s.clk.started = false)) ∧
    (∃ (h : Hdr) (s : State) (a : ScoutOutputArgs), heard h s ∧ owns h 10 s ∧ s.hive.role ≠ .standby ∧ badOutput a = false ∧ (s.scoutOut
      a.output).cfg.enable ≠ 1) ∧
    (∃ (h : Hdr) (s : State) (a : ScoutOutputArgs), heard h s ∧ owns h 10 s ∧ s.hive.role ≠ .standby ∧ badOutput a = false ∧ (s.scoutOut
      a.output).cfg.enable ≠ 1) :=
  ⟨⟨hd, up.onInp 17 fun x => { x with cfg := { x.cfg with nominal := 255 } }, ⟨17, 1, 15, 1, 15, 12, 60, 15, 255, 9999, 10000, 10000,
    10000, -1000000⟩, by decide +kernel⟩, ⟨hd, up, ⟨4, 19, 1, 3, 15, 15, 3⟩, by decide +kernel⟩, ⟨hd, up, ⟨10000, 1000, 120, 60, 65535, 0,
    100, 200, 30, 1⟩, by decide +kernel⟩, ⟨hd, up, ⟨7, 1, 12, 1, 3, 15, 0, 500000⟩, by decide +kernel⟩, ⟨hd, up, ⟨10, 1, 0, 1, 3, 15,
    -500000000, 500000⟩, by decide +kernel⟩⟩

theorem witness_ScoutActions :
    (∃ (h : Hdr) (s : State), heard h s ∧ owns h 10 s ∧ s.hive.role ≠ .standby ∧ s.clk.started = false ∧ s.clk.startPend = none ∧ s.mode =
      .provision ∧ s.scout.dpllCfg.xoFreq ≠ 0) ∧
    (∃ (h : Hdr) (s : State) (a : ScoutTodArgs), heard h s ∧ owns h 10 s ∧ s.hive.role ≠ .standby ∧ a.op = 1 ∧ s.clk.started = true ∧
      todMode s.mode = true ∧ a.bfnMode ≤ 1 ∧ todOk s (a.atBeat % 2 ^ 48) = true) ∧
    (∃ (h : Hdr) (s : State) (a : ScoutTodArgs), heard h s ∧ owns h 10 s ∧ s.hive.role ≠ .standby ∧ a.op = 2 ∧ mayTicket h s ∧ a.bfnMode ≤
      1 ∧ a.bfnOffset ≤ 4095 ∧ a.bfnOffset ≠ s.scout.bfnOffset) ∧
    (∃ (h : Hdr) (s : State) (a : ScoutSteerArgs), heard h s ∧ owns h 10 s ∧ s.hive.role ≠ .standby ∧ a.op = 1 ∧ 1 ≤ a.count ∧ a.count ≤ 64
      ∧ s.scout.dpllCfg.xoFreq ≠ 0) ∧
    (∃ (h : Hdr) (s : State) (a : ScoutSteerArgs), heard h s ∧ owns h 10 s ∧ s.hive.role ≠ .standby ∧ a.op = 2 ∧ 1 ≤ a.count ∧ a.count ≤ 64
      ∧ s.scout.dpllCfg.xoFreq ≠ 0 ∧ s.scout.state = .hand ∧ a.word.natAbs ≤ 200000000000) ∧
    (∃ (h : Hdr) (s : State) (a : ScoutModelArgs), heard h s ∧ owns h 10 s ∧ s.hive.role ≠ .standby ∧ a.op = 1 ∧ a.firstBin ≤ 539 ∧ 1 ≤
      a.count ∧ a.count ≤ 64 ∧ modelBusy s = false) ∧
    (∃ (h : Hdr) (s : State) (a : ScoutModelArgs), heard h s ∧ owns h 10 s ∧ s.hive.role ≠ .standby ∧ a.op = 3 ∧ a.firstBin ≤ 539 ∧ 1 ≤
      a.count ∧ a.count ≤ 64 ∧ modelBusy s = false ∧ s.mode ≠ .carry) :=
  ⟨⟨hd, { up with clk := {} }, by decide +kernel⟩, ⟨hd, up, ⟨1, 1, 0, 24000, 0xFFFFFFFFFFFF⟩, by decide +kernel⟩, ⟨hd, up, ⟨2, 0, 4095, 0,
    0⟩, by decide +kernel⟩, ⟨hd, up, ⟨1, 64, 0⟩, by decide +kernel⟩, ⟨hd, up.onScout fun x => { x with state := .hand }, ⟨2, 64,
    -200000000000⟩, by decide +kernel⟩, ⟨hd, up, ⟨1, 539, 1⟩, by decide +kernel⟩, ⟨hd, up, ⟨3, 0, 64⟩, by decide +kernel⟩⟩

theorem witness_HiveAndPowerCommands :
    (∃ (h : Hdr) (s : State) (a : HiveConfigArgs), heard h s ∧ owns h 11 s ∧ s.hive.role ≠ .standby ∧ a.bbWindow ≤ 100 ∧ 1 ≤ a.bbLanes ∧
      a.bbLanes ≤ 256) ∧
    (∃ (h : Hdr) (s : State), heard h s ∧ owns h 11 s ∧ s.mode = .provision ∧ s.clk.started = false ∧ s.scout.dpllCfg.xoFreq ≠ 0 ∧
      s.hive.joining = none ∧ s.hive.joinMode = false) ∧
    (∃ (h : Hdr) (s : State), heard h s ∧ owns h 11 s) ∧
    (∃ (h : Hdr) (s : State), heard h s ∧ owns h 11 s ∧ s.hive.switchPend = none ∧ s.hive.token = true) ∧
    (∃ (h : Hdr) (s : State) (a : PowerConfigArgs), heard h s ∧ owns h 12 s ∧ 1 ≤ a.leanMax ∧ a.leanMax ≤ 10000 ∧ 10 ≤ a.exitHold ∧
      a.exitHold ≤ 10000 ∧ 100 ≤ a.wakeHold ∧ a.wakeHold ≤ 60000 ∧ a.powerLimit ≤ 100000) ∧
    (∃ (h : Hdr) (s : State) (a : PowerTableArgs), heard h s ∧ owns h 12 s ∧ a.op = 1 ∧ a.slot ≤ 15 ∧ badPowerEntry a.entry = false ∧
      entryMoves a.entry (s.powerEntry a.slot) = false) ∧
    (∃ (h : Hdr) (s : State) (a : PowerTableArgs), heard h s ∧ owns h 12 s ∧ a.op = 2 ∧ a.slot ≤ 15 ∧ badPowerEntry a.entry = false ∧
      s.sec.saving = []) :=
  ⟨⟨hd, up, ⟨100, 1, 256⟩, by decide +kernel⟩, ⟨hd, { up with clk := {} }, by decide +kernel⟩, ⟨hd, up, by decide +kernel⟩, ⟨hd, up,
    by decide +kernel⟩, ⟨hd, up, ⟨10000, 10000, 60000, 15, 100000⟩, by decide +kernel⟩, ⟨hd, up, ⟨1, 15, ⟨0x77, 15, 31, 3, 100, 4, 4⟩⟩,
    by decide +kernel⟩, ⟨hd, up, ⟨2, 15, ⟨0, 0, 0, 0, 0, 0, 0⟩⟩, by decide +kernel⟩⟩

theorem witness_TestCommands :
    (∃ (h : Hdr) (s : State) (a : TestBistArgs), heard h s ∧ owns h 13 s ∧ a.op = 1 ∧ 1 ≤ a.cycleHours ∧ a.cycleHours ≤ 48 ∧ 1 ≤
      a.sramInterval ∧ a.sramInterval ≤ 8000) ∧
    (∃ (h : Hdr) (s : State) (a : TestBistArgs), heard h s ∧ owns h 13 s ∧ (a.op = 3 ∨ a.op = 4) ∧ badBist a = false) ∧
    (∃ (h : Hdr) (s : State) (a : TestBistArgs), heard h s ∧ owns h 13 s ∧ (a.op = 3 ∨ a.op = 4) ∧ badBist a = false) ∧
    (∃ (h : Hdr) (s : State) (a : TestStingArgs), heard h s ∧ owns h 13 s ∧ a.point = 0x10 ∧ a.unit < 64 ∧ a.sub ≤ 1 ∧ a.mode = 1 ∧
      s.sec.life ≠ 1 ∧ s.test.stings.length < 64) ∧
    (∃ (h : Hdr) (s : State) (k : _) (p : _), heard h s ∧ owns h 13 s ∧ (k = 0 ∨ 8 ≤ k ∧ k ≤ 24) ∧ p ≤ 1) ∧
    (∃ (h : Hdr) (s : State) (first : _) (count : _), heard h s ∧ owns h 14 s ∧ 1 ≤ count ∧ first + count ≤ 64) :=
  ⟨⟨hd, up, ⟨1, 0, 0, 48, 8000⟩, by decide +kernel⟩, ⟨hd, up, ⟨4, 0, 0, 48, 8000⟩, by decide +kernel⟩, ⟨hd, up, ⟨3, 0, 0, 1, 1⟩,
    by decide +kernel⟩, ⟨hd, up.onSec fun c => { c with life := 2 }, ⟨0x10, 1, 63, 0, 0, 1, 0xFFFF⟩, by decide +kernel⟩, ⟨hd, up, 24, 1,
    by decide +kernel⟩, ⟨hd, up, 63, 1, by decide +kernel⟩⟩

theorem witness_ChallengeAndProof :
    (∃ (h : Hdr) (s : State), heard h s ∧ (s.chal h.port).locked = false) ∧
    (∃ (h : Hdr) (s : State) (key : _), heard h s ∧ key ≤ 3) ∧
    (∃ (h : Hdr) (s : State) (key : _) (n : _), heard h s ∧ key ≤ 3 ∧ key < hostKeys s ∧ (s.chal h.port).locked = false ∧ (s.chal
      h.port).nonce = some n) ∧
    (∃ (h : Hdr) (s : State), heard h s ∧ (s.chal h.port).locked = true) :=
  ⟨⟨hd, up, by decide +kernel⟩, ⟨hd, up, 0, by decide +kernel⟩, ⟨hd, (up.onChal 1 fun c => { c with nonce := some 5, fails := 7 }).onSec
    fun c => { c with slots := [(0, { nKeys := 4 })] }, 3, 5, by decide +kernel⟩, ⟨hd, up.onChal 1 fun c =>
    { c with locked := true, fails := 8 }, by decide +kernel⟩⟩

theorem witness_SecurityCommands :
    (∃ (h : Hdr) (s : State) (a : SecWorldArgs), heard h s ∧ owns h 15 s ∧ a.op = 1 ∧ a.kind = 0 ∧ badWorld a = false ∧ opensBridge0 a =
      false ∧ (s.chal h.port).isSealed = true ∧ s.sec.worldWait = none) ∧
    (∃ (h : Hdr) (s : State) (a : SecWorldArgs), heard h s ∧ owns h 15 s ∧ a.op = 1 ∧ badWorld a = false ∧ (s.chal h.port).isSealed =
      false) ∧
    (∃ (h : Hdr) (s : State), heard h s ∧ owns h 15 s ∧ (s.chal h.port).isSealed = true ∧ s.sec.lifePend = none ∧ s.sec.lifeWait = none ∧
      s.sec.toggles < 16) ∧
    (∃ (h : Hdr) (s : State), heard h s ∧ owns h 15 s ∧ (s.chal h.port).isSealed = true ∧ s.sec.dataWait = none ∧ s.sec.activating = none ∧
      s.sec.updState = 0) ∧
    (∃ (h : Hdr) (s : State) (off : Nat), heard h s ∧ owns h 15 s ∧ (s.chal h.port).isSealed = true ∧ s.sec.dataWait = none ∧
      s.sec.activating = none ∧ (s.sec.updState = 1 ∨ s.sec.updState = 2) ∧ off % 65536 = 0 ∧ off < 48 * 2 ^ 20) ∧
    (∃ (h : Hdr) (s : State), heard h s ∧ owns h 15 s ∧ (s.chal h.port).isSealed = true ∧ s.sec.dataWait = none ∧ s.sec.activating = none ∧
      (s.sec.updState = 1 ∨ s.sec.updState = 2)) ∧
    (∃ (h : Hdr) (s : State), heard h s ∧ owns h 15 s ∧ (s.chal h.port).isSealed = true ∧ s.sec.dataWait = none ∧ s.sec.activating = none ∧
      s.sec.updState = 2 ∧ s.sec.updDirty = false ∧ activateMode s = true ∧ s.clk.tickets ≠ []) :=
  ⟨⟨hd, up.onChal 1 fun c => { c with isSealed := true }, ⟨1, 0, 63, 1, 0, 0, 0, 0⟩, by decide +kernel⟩, ⟨hd, up, ⟨1, 0, 63, 1, 0, 0, 0,
    0⟩, by decide +kernel⟩, ⟨hd, up.onChal 1 fun c => { c with isSealed := true }, by decide +kernel⟩, ⟨hd, up.onChal 1 fun c =>
    { c with isSealed := true }, by decide +kernel⟩, ⟨hd, (up.onChal 1 fun c => { c with isSealed := true }).onSec fun c =>
    { c with updState := 2 }, 50266112, by decide +kernel⟩, ⟨hd, (up.onChal 1 fun c => { c with isSealed := true }).onSec fun c =>
    { c with updState := 1 }, by decide +kernel⟩, ⟨hd, ((up.onChal 1 fun c => { c with isSealed := true }).onSec fun c =>
    { c with updState := 2 }).onClk fun c => { c with tickets := [{ id := 1, bclass := 0, target := 16000, changes := [.bfn 1] }] },
    by decide +kernel⟩⟩

theorem witness_HelloAndSession :
    (∃ (h : Hdr) (s : State), s.keeper.serving = true ∧ h.port < 2 ∧ h.queue < 4 ∧ ((s.port h.port).rspOf h.queue).flush = false) ∧
    (∃ (h : Hdr) (s : State) (a : HelloArgs), s.keeper.serving = true ∧ h.port < 2 ∧ h.queue < 4 ∧ ((s.port h.port).rspOf h.queue).flush =
      false ∧ a.major ≠ 1) ∧
    (∃ (h : Hdr) (s : State) (i : Instr) (svc : _) (cmd : _) (fs : _), s.keeper.serving = true ∧ h.port < 2 ∧ h.queue < 4 ∧ ((s.port
      h.port).rspOf h.queue).flush = false ∧ bodyOf i = some (svc, cmd, h, fs) ∧ (¬(svc = 1 ∧ cmd = 1)) ∧ (s.port h.port).version = none) ∧
    (∃ (h : Hdr) (s : State), s.keeper.serving = true ∧ h.port < 2 ∧ h.queue < 4 ∧ ((s.port h.port).rspOf h.queue).flush = false ∧ (s.port
      h.port).version.isSome = true) ∧
    (∃ (h : Hdr) (s : State) (k : _), s.keeper.serving = true ∧ h.port < 2 ∧ h.queue < 4 ∧ ((s.port h.port).rspOf h.queue).flush = false ∧
      (s.port h.port).version.isSome = true ∧ 1 ≤ k ∧ k < 16 ∧ (s.sem k).owner = none ∧ (s.port h.port).session = 0 ∧ s.nextSession ≠ 0) :=
  ⟨⟨hd, up, by decide +kernel⟩, ⟨hd, up, ⟨0, 0⟩, by decide +kernel⟩, ⟨hd, up.onPort 1 fun w => { w with version := none }, .secUpdate hd
    255 0xFFFFFFFF, 15, 6, [(1, 255), (3, 0), (4, 0xFFFFFFFF)], by decide +kernel⟩, ⟨hd, up, by decide +kernel⟩, ⟨hd, (up.onSem 15 fun x =>
    { x with owner := none }).onPort 1 fun w => { w with session := 0 }, 15, by decide +kernel⟩⟩

theorem witness_ModeCommands :
    (∃ (h : Hdr) (s : State), heard h s ∧ owns h 1 s ∧ modeRuns s = false) ∧
    (∃ (h : Hdr) (s : State), heard h s ∧ owns h 1 s ∧ modeRuns s = false ∧ s.mode = .provision ∧ s.clk.started = true) ∧
    (∃ (h : Hdr) (s : State), heard h s ∧ owns h 1 s ∧ modeRuns s = false ∧ s.mode = .maintenance) ∧
    (∃ (h : Hdr) (s : State), heard h s ∧ owns h 1 s ∧ modeRuns s = false ∧ s.mode = .provision ∧ s.hive.token = true ∧ s.clk.started =
      true ∧ (s.chan 0).state = 0 ∧ s.sec.life ≠ 3) :=
  ⟨⟨hd, up, by decide +kernel⟩, ⟨hd, up, by decide +kernel⟩, ⟨hd, { up with mode := .maintenance }, by decide +kernel⟩, ⟨hd, up,
    by decide +kernel⟩⟩

theorem witness_Batches :
    (∃ (h : Hdr) (s : State), heard h s ∧ (s.port h.port).session ≠ 0 ∧ mayTicket h s ∧ s.sec.activating = none) ∧
    (∃ (h : Hdr) (s : State) (b : _) (i : Nat) (thr : _), heard h s ∧ (s.port h.port).session ≠ 0 ∧ s.batchOf h.port = some b ∧ capBlocked
      s.mode = false ∧ (s.hive.token && s.hive.switchPend.isSome) = false ∧ owns h 9 s ∧ i ≤ 63 ∧ profileDiffers i thr s = true ∧ tooLarge
      (b.changes ++ [.pmProfile i thr]) = false) ∧
    (∃ (h : Hdr) (s : State) (b : _), heard h s ∧ (s.port h.port).session ≠ 0 ∧ s.batchOf h.port = some b ∧ capBlocked s.mode = false ∧
      (s.hive.token && s.hive.switchPend.isSome) = false) ∧
    (∃ (h : Hdr) (s : State) (b : _), heard h s ∧ (s.port h.port).session ≠ 0 ∧ s.batchOf h.port = some b ∧ capBlocked s.mode = false ∧
      (s.hive.token && s.hive.switchPend.isSome) = false ∧ b.failed = none ∧ s.clk.started = true ∧ s.clk.tickets.length < 64) :=
  ⟨⟨hd, up, by decide +kernel⟩, ⟨hd, up.onClk fun c => { c with batchB := some { id := 7 } }, { id := 7 }, 63, List.replicate 16 1,
    by decide +kernel⟩, ⟨hd, up.onClk fun c => { c with batchB := some { id := 7 } }, { id := 7 }, by decide +kernel⟩, ⟨hd, up.onClk fun c
    => { c with batchB := some { id := 7 } }, { id := 7 }, by decide +kernel⟩⟩

theorem witness_GatesRefuse :
    (∃ (s : State), s.keeper.serving = false) ∧
    (∃ (h : Hdr) (s : State), s.keeper.serving = true ∧ h.port < 2 ∧ h.queue < 4 ∧ ((s.port h.port).rspOf h.queue).flush = false ∧ (s.port
      h.port).version = none) ∧
    (∃ (h : Hdr) (s : State), heard h s ∧ noDomain h 2 s = true) :=
  ⟨⟨{ up with keeper := {} }, by decide +kernel⟩, ⟨hd, up.onPort 1 fun w => { w with version := none }, by decide +kernel⟩, ⟨hd,
    { up with sems := [] }, by decide +kernel⟩⟩

theorem witness_MessageRoundTrip :
    (∃ (i : Instr) (svc : Nat) (cmd : Nat) (h : Hdr) (fs : Fields), WellFormed.service i = true ∧ bodyOf i = some (svc, cmd, h, fs)) ∧
    (∃ (i : Instr) (svc : Nat) (cmd : Nat) (h : Hdr) (fs : Fields), WellFormed.service i = true ∧ bodyOf i = some (svc, cmd, h, fs)) :=
  ⟨⟨.sysHello hd ⟨255, 255⟩, 1, 1, hd, [(1, 255), (1, 255), (6, 0)], by decide +kernel⟩, ⟨.pmProfile hd 63 (List.replicate 16 0xFFFFFFFF),
    9, 3, hd, [(1, 63), (7, 0)] ++ List.replicate 16 (4, 0xFFFFFFFF), by decide +kernel⟩⟩

theorem witness_StoredMessageRuns :
    ∃ (i : Instr) (svc : Nat) (cmd : Nat) (p : Nat) (q : Nat) (us : Nat) (h : Hdr) (fs : Fields) (rest : List QWord) (s : State),
      WellFormed.service i = true ∧ bodyOf i = some (svc, cmd, h, fs) ∧ fieldsSize fs ≤ 16368 ∧ s.keeper.serving = true ∧ (serveOrder
      s.keeper.serveTurn).find? (fun e => canServe s e.1 e.2) = some (p, q) ∧ ((s.port p).cmdOf q).words = commandWords i ++ rest ∧
      (rest.head?.map fun w => w.start).getD true = true ∧ (s.port p).version.isSome = true ∧ h =
      { port := p, queue := q, seq := h.seq, tag := h.tag, late := decide (0 < ((s.port p).cmdOf q).late), us := us } :=
  ⟨.sysHello hd ⟨255, 255⟩, 1, 1, 1, 3, 124, hd, [(1, 255), (1, 255), (6, 0)], [], up.onCmdQ 1 3 fun c =>
    { c with words := commandWords (.sysHello hd ⟨255, 255⟩) }, by decide +kernel⟩

theorem witness_TicketsTakeEffect :
    (∃ (s : State) (k : Ticket), s.sec.activating = none ∧ k ∈ s.clk.tickets ∧ ((∀ x ∈ s.clk.tickets, x.id = k.id → x = k)) ∧
      s.keeper.serving = true) ∧
    (∃ (s : State) (k : Ticket) (n : _) (en : _) (lb : _), s.sec.activating = none ∧ k ∈ s.clk.tickets ∧ ((∀ x ∈ s.clk.tickets, x.id = k.id
      → x = k)) ∧ ticketDue s k = true ∧ k.changes = [.lane n en lb]) ∧
    (∃ (s : State) (k : Ticket) (d : _) (src : _), s.sec.activating = none ∧ k ∈ s.clk.tickets ∧ ((∀ x ∈ s.clk.tickets, x.id = k.id → x =
      k)) ∧ ticketDue s k = true ∧ k.changes = [.super d src]) ∧
    (∃ (s : State) (k : Ticket) (i : Nat) (thr : _), s.sec.activating = none ∧ k ∈ s.clk.tickets ∧ ((∀ x ∈ s.clk.tickets, x.id = k.id → x =
      k)) ∧ ticketDue s k = true ∧ k.changes = [.pmProfile i thr]) :=
  ⟨⟨up.onClk fun c => { c with tickets := [{ id := 1, bclass := 0, target := 16000, changes := [.bfn 1] }] },
    { id := 1, bclass := 0, target := 16000, changes := [.bfn 1] }, by decide +kernel⟩, ⟨up.onClk fun c =>
    { c with tickets := [{ id := 1, bclass := 0, target := 15999, changes := [.lane 255 1 2], armed := true }] },
    { id := 1, bclass := 0, target := 15999, changes := [.lane 255 1 2], armed := true }, 255, 1, 2, by decide +kernel⟩, ⟨up.onClk fun c =>
    { c with tickets := [{ id := 1, bclass := 0, target := 15999, changes := [.super 81023 (some 0)], armed := true }] },
    { id := 1, bclass := 0, target := 15999, changes := [.super 81023 (some 0)], armed := true }, 81023, some 0, by decide +kernel⟩,
    ⟨up.onClk fun c => { c with tickets := [{ id := 1, bclass := 0, target := 15999, changes := [.pmProfile 63 [1]], armed := true }] },
    { id := 1, bclass := 0, target := 15999, changes := [.pmProfile 63 [1]], armed := true }, 63, [1], by decide +kernel⟩⟩

theorem witness_CommandQueueWrites :
    (∃ (p : Nat) (q : Nat) (s : State), s.portUp p = true ∧ barOpen s p = true ∧ q < 4 ∧ ((s.port p).cmdOf q).flush = false ∧ ((s.port
      p).cmdOf q).words.length < 8192 ∧ ((s.port p).cmdOf q).msg = .closed) ∧
    (∃ (p : Nat) (q : Nat) (s : State) (k : _), s.portUp p = true ∧ barOpen s p = true ∧ q < 4 ∧ ((s.port p).cmdOf q).flush = false ∧
      ((s.port p).cmdOf q).words.length < 8192 ∧ ((s.port p).cmdOf q).msg = .counted k) ∧
    (∃ (p : Nat) (q : Nat) (s : State), s.portUp p = true ∧ barOpen s p = true ∧ q < 4 ∧ ((s.port p).cmdOf q).flush = false ∧ ((s.port
      p).cmdOf q).msg = .closed) :=
  ⟨⟨1, 3, up, by decide +kernel⟩, ⟨1, 3, up.onCmdQ 1 3 fun c => { c with words := List.replicate 8 { data := 0 }, msg := .counted 1 }, 1,
    by decide +kernel⟩, ⟨1, 3, up, by decide +kernel⟩⟩

theorem witness_QueueReadsAndFlushes :
    (∃ (p : Nat) (s : State) (r : _) (w : _) (rest : _), s.portUp p = true ∧ barOpen s p = true ∧ r < 4 ∧ ((s.port p).rspOf r).flush =
      false ∧ ((s.port p).rspOf r).words = w :: rest) ∧
    (∃ (p : Nat) (s : State) (w : _) (rest : _), s.portUp p = true ∧ barOpen s p = true ∧ (s.port p).ntf.flush = false ∧ (s.port
      p).ntf.words = w :: rest) ∧
    (∃ (p : Nat) (s : State) (r : _), s.portUp p = true ∧ barOpen s p = true ∧ r < 4 ∧ ((s.port p).rspOf r).words = []) ∧
    (∃ (p : Nat) (s : State) (q : _), s.portUp p = true ∧ barOpen s p = true ∧ q < 4) ∧
    (∃ (p : Nat) (s : State) (r : _), s.portUp p = true ∧ barOpen s p = true ∧ r < 4) ∧
    (∃ (p : Nat) (s : State), s.portUp p = true ∧ barOpen s p = true) ∧
    (∃ (p : Nat) (s : State) (q : _), s.portUp p = true ∧ q < 4 ∧ ((s.port p).cmdOf q).flush = true ∧ isBegun ((s.port p).cmdOf q) = false)
      ∧
    (∃ (p : Nat) (s : State) (r : _), s.portUp p = true ∧ r < 4 ∧ ((s.port p).rspOf r).flush = true ∧ atBoundary ((s.port p).rspOf r) =
      true) ∧
    (∃ (p : Nat) (s : State) (q : _), s.portUp p = true ∧ q < 4 ∧ s.keeper.serving = true ∧ isBegun ((s.port p).cmdOf q) = true) :=
  ⟨⟨1, up.onRspQ 1 3 fun c => { c with words := [{ data := 5, start := true }] }, 3, { data := 5, start := true }, [], by decide +kernel⟩,
    ⟨1, up.onPort 1 fun c => { c with ntf := { words := [{ data := 5, start := true }] } }, { data := 5, start := true }, [],
    by decide +kernel⟩, ⟨1, up, 3, by decide +kernel⟩, ⟨1, up, 3, by decide +kernel⟩, ⟨1, up, 3, by decide +kernel⟩, ⟨1, up,
    by decide +kernel⟩, ⟨1, up.onCmdQ 1 3 fun c => { c with words := [{ data := 5 }], flush := true }, 3, by decide +kernel⟩, ⟨1, up.onRspQ
    1 3 fun c => { c with flush := true }, 3, by decide +kernel⟩, ⟨1, up.onCmdQ 1 3 fun c =>
    { c with words := { data := 72, start := true } :: List.replicate 7 { data := 0 }, msg := .counted 1, cutThrough := 1 }, 3,
    by decide +kernel⟩⟩

theorem witness_Semaphores :
    (∃ (p : Nat) (n : Nat) (s : State), s.portUp p = true ∧ 16 ≤ n ∧ n < 32 ∧ barOpen s p = true ∧ ((s.sem n).owner = none ∨ (s.sem
      n).owner = some (ownerOf p))) ∧
    (∃ (p : Nat) (n : Nat) (s : State), s.portUp p = true ∧ 16 ≤ n ∧ n < 32 ∧ barOpen s p = true ∧ ((s.sem n).owner = none ∨ (s.sem
      n).owner = some (ownerOf p))) ∧
    (∃ (p : Nat) (n : Nat) (s : State), s.portUp p = true ∧ 16 ≤ n ∧ n < 32 ∧ barOpen s p = true ∧ (s.sem n).owner ≠ none ∧ (s.sem n).owner
      ≠ some (ownerOf p)) ∧
    (∃ (p : Nat) (n : Nat) (s : State), s.portUp p = true ∧ 16 ≤ n ∧ n < 32 ∧ barOpen s p = true ∧ (s.sem n).owner = some (ownerOf p)) ∧
    (∃ (p : Nat) (n : Nat) (s : State), s.portUp p = true ∧ 16 ≤ n ∧ n < 32 ∧ barOpen s p = true ∧ (s.sem n).owner ≠ some (ownerOf p)) ∧
    (∃ (p : Nat) (n : Nat) (s : State), s.portUp p = true ∧ 16 ≤ n ∧ n < 32 ∧ barOpen s p = true) ∧
    (∃ (p : Nat) (n : Nat) (s : State), s.portUp p = true ∧ 16 ≤ n ∧ n < 32 ∧ (s.sem n).owner = some (ownerOf p) ∧ (s.sem n).left = 0 ∧
      s.mode ≠ .quiesce) :=
  ⟨⟨1, 31, up, by decide +kernel⟩, ⟨1, 16, up.onSem 16 fun x => { x with owner := some .portB, left := 5 }, by decide +kernel⟩, ⟨1, 31,
    up.onSem 31 fun x => { x with owner := some .portA, left := 5 }, by decide +kernel⟩, ⟨1, 31, up.onSem 31 fun x =>
    { x with owner := some .portB, left := 5 }, by decide +kernel⟩, ⟨1, 31, up, by decide +kernel⟩, ⟨1, 31, up, by decide +kernel⟩, ⟨1, 31,
    up.onSem 31 fun x => { x with owner := some .portB }, by decide +kernel⟩⟩

theorem witness_RegisterAccesses :
    (∃ (p : Nat) (s : State), s.portUp p = true ∧ barOpen s p = true) ∧
    (∃ (p : Nat) (s : State) (size : _), s.portUp p = true ∧ barOpen s p = true ∧ size ≠ 4 ∧ size ≠ 8) ∧
    (∃ (p : Nat) (s : State) (off : _), s.portUp p = true ∧ barOpen s p = true ∧ off % 8 = 0 ∧ regAt off = none ∧ inDebug s p off = false)
      ∧
    (∃ (p : Nat) (s : State) (i : Instr) (off : _) (b : _), s.portUp p = true ∧ barSealed s p off = some b ∧ inDebug s p off = false ∧ ((∃
      half v, i = .registerWrite p off half v) ∨ (∃ size write, i = .bar0BadAccess p off size write))) ∧
    (∃ (p : Nat) (s : State), s.portUp p = true) :=
  ⟨⟨1, up, by decide +kernel⟩, ⟨1, up, 2, by decide +kernel⟩, ⟨1, up, 0x1FFFF8, by decide +kernel⟩, ⟨1, allSealed, .registerWrite 1 0x20
    .whole 0, 0x20, blockNo false (Config.barBlock (barRow 0x20)), by decide +kernel, allSealed_seals 0x20, by decide +kernel, .inl
    ⟨.whole, 0, rfl⟩⟩, ⟨1, up, by decide +kernel⟩⟩

theorem witness_Bar2Accesses :
    (∃ (p : Nat) (d : Nat) (off : Nat) (s : State) (l : List Byte), s.portUp p = true ∧ l ≠ [] ∧ off + l.length ≤ 2 ^ 28 ∧ s.pool.window =
      some d ∧ (s.chan d).state = 0 ∧ ((∀ k, k < l.length → bar2Open s p (off + k)))) ∧
    (∃ (p : Nat) (d : Nat) (off : Nat) (s : State) (n : _) (unc : _), s.portUp p = true ∧ 1 ≤ n ∧ n ≤ 8 ∧ off + n ≤ 2 ^ 28 ∧ s.pool.window
      = some d ∧ (s.chan d).state = 0 ∧ ((∀ k, k < n → bar2Open s p (off + k))) ∧ unc = false ∧ ((∀ x, x ∈ bar2Lines s off n → x ∉ (s.chan
      d).poison))) ∧
    (∃ (p : Nat) (d : Nat) (off : Nat) (s : State) (n : _) (unc : _), s.portUp p = true ∧ 1 ≤ n ∧ n ≤ 8 ∧ off + n ≤ 2 ^ 28 ∧ s.pool.window
      = some d ∧ (s.chan d).state = 0 ∧ ((∀ k, k < n → bar2Open s p (off + k))) ∧ (unc = true ∨ (∃ x, x ∈ bar2Lines s off n ∧ x ∈ (s.chan
      d).poison))) ∧
    (∃ (p : Nat) (off : Nat) (s : State) (write : Option (List Byte)) (len : _) (n : _), s.portUp p = true ∧
      (match write with | some l => l.length | none => min len 8) = n ∧ off + n ≤ 2 ^ 28 ∧ (∃ k, k < n ∧ bar2Denied s p (off + k) ≠ 0)) ∧
    (∃ (p : Nat) (off : Nat) (s : State) (write : Option (List Byte)) (len : _), s.portUp p = true ∧ bar2Denied s p off = 1 ∧
      (match write with | some l => l.length | none => min len 8) = 1 ∧ off + 1 ≤ 2 ^ 28) ∧
    (∃ (p : Nat) (off : Nat) (s : State) (write : Option (List Byte)) (len : _), s.portUp p = true ∧ bar2Denied s p off = 2 ∧
      (match write with | some l => l.length | none => min len 8) = 1 ∧ off + 1 ≤ 2 ^ 28) :=
  ⟨⟨1, 0, 2 ^ 28 - 1, up, [0xA5], by decide +kernel⟩, ⟨1, 0, 2 ^ 28 - 8, up, 8, false, by decide +kernel⟩, ⟨1, 0, 2 ^ 28 - 8, up, 8, true,
    ⟨by decide +kernel, by decide, by decide, by decide, by decide +kernel, by decide +kernel, by decide +kernel, Or.inl rfl⟩⟩, ⟨1, 2 ^ 28
    - 1, up.onPool fun x => { x with window := none }, none, 1, 1, ⟨by decide +kernel, by decide +kernel, by decide +kernel, 0,
    by decide +kernel, by decide +kernel⟩⟩, ⟨1, 2 ^ 28 - 1, up.onPool fun x => { x with window := none }, none, 1, by decide +kernel⟩, ⟨1,
    2 ^ 28 - 1, up.onSec fun x => { x with ddr := [(7, { isSealed := true, size := 1, base := 367 })] }, some [1], 1, by decide +kernel⟩⟩

theorem witness_DmaRings :
    (∃ (p : Nat) (n : Nat) (s : State), s.portUp p = true ∧ n < 8 ∧ barOpen s p = true) ∧
    (∃ (p : Nat) (n : Nat) (s : State), s.portUp p = true ∧ n < 8 ∧ barOpen s p = true ∧ s.clk.started = false ∧ ((s.port p).ringOf
      n).enable = false) ∧
    (∃ (p : Nat) (n : Nat) (s : State) (on : _), s.portUp p = true ∧ n < 8 ∧ barOpen s p = true ∧ s.clk.started = true ∧ ((s.port p).ringOf
      n).enable ≠ on) ∧
    (∃ (p : Nat) (n : Nat) (s : State) (d : DescView), s.portUp p = true ∧ n < 8 ∧ n = 7 ∧ ((s.port p).ringOf n).enable = true ∧ ((s.port
      p).ringOf n).halted = false ∧ ((s.port p).ringOf n).head ≠ ((s.port p).ringOf n).tail ∧ descOk d = true ∧ d.addr % 8 = 0 ∧
      d.pcieError = false) ∧
    (∃ (p : Nat) (n : Nat) (s : State) (d : DescView), s.portUp p = true ∧ n < 8 ∧ ((s.port p).ringOf n).enable = true ∧ ((s.port p).ringOf
      n).halted = false ∧ ((s.port p).ringOf n).head ≠ ((s.port p).ringOf n).tail ∧ descOk d = false) :=
  ⟨⟨1, 7, up, by decide +kernel⟩, ⟨1, 7, { up with clk := {} }, by decide +kernel⟩, ⟨1, 7, up, true, by decide +kernel⟩, ⟨1, 7, up.onRing 1
    7 fun r => { r with enable := true, log2 := 12, tail := 4095 }, { addr := 8, bufLen := 65536 }, by decide +kernel⟩, ⟨1, 7, up.onRing 1
    7 fun r => { r with enable := true, log2 := 12, tail := 4095 }, { addr := 8, bufLen := 65544 }, by decide +kernel⟩⟩

theorem witness_PortResets :
    (∃ (p : Nat) (s : State), p < 2 ∧ (s.port p).linkUp = true) ∧
    (∃ (p : Nat) (s : State), p < 2 ∧ s.mode ≠ .off ∧ s.mode ≠ .wake) ∧
    (∃ (p : Nat), p < 2) ∧
    (∃ (p : Nat) (s : State), p < 2 ∧ s.portUp p = true) :=
  ⟨⟨1, up, by decide +kernel⟩, ⟨1, up, by decide +kernel⟩, ⟨1, by decide +kernel⟩, ⟨1, up, by decide +kernel⟩⟩

theorem witness_ClaimAndComplete :
    (∃ (p : Nat) (s : State) (n : _) (prio : _), s.portUp p = true ∧ barOpen s p = true ∧ claimable s (4 + p) = some (n, prio)) ∧
    (∃ (p : Nat) (s : State), s.portUp p = true ∧ barOpen s p = true ∧ claimable s (4 + p) = none) ∧
    (∃ (p : Nat) (s : State) (n : _) (prio : _) (rest : _), s.portUp p = true ∧ barOpen s p = true ∧ n < 319 ∧ s.stackOf (4 + p) = (n,
      prio) :: rest) ∧
    (∃ (p : Nat) (s : State) (n : _) (prio : _) (rest : _), s.portUp p = true ∧ barOpen s p = true ∧ n < 319 ∧ s.stackOf (4 + p) = (n,
      prio) :: rest) ∧
    (∃ (p : Nat) (s : State), s.portUp p = true ∧ barOpen s p = true) :=
  ⟨⟨1, up.onEv fun e => { e with srcs := [(242, { prio := 15, edge := true, target := 5, latch := true })] }, 242, 15, by decide +kernel⟩,
    ⟨1, up, by decide +kernel⟩, ⟨1, (up.onEv fun e =>
    { e with srcs := [(318, { prio := 15, edge := true, target := 5, latch := true, inService := true })] }).setStack 5 [(318, 15)], 318,
    15, [], by decide +kernel⟩, ⟨0, (up.onEv fun e =>
    { e with srcs := [(5, { prio := 15, target := 4, asserted := true, inService := true })] }).setStack 4 [(5, 15)], 5, 15, [],
    by decide +kernel⟩, ⟨1, up, by decide +kernel⟩⟩

theorem witness_EventController :
    (∃ (s : State) (p : _) (n : _) (v : Word), s.portUp p = true ∧ barOpen s p = true ∧ n < 243 ∧ hostTarget (s.src n).target = true ∧
      hostTarget (v.toNat / 32 % 8) = true) ∧
    (∃ (s : State) (p : _) (g : _) (v : Word), s.portUp p = true ∧ barOpen s p = true ∧ g < 14 ∧ 1 ≤ v.toNat % 256 ∧ 1 ≤ v.toNat / 256 %
      16384 ∧ v.toNat / 256 % 16384 ≤ 10000 ∧ hostTarget (v.toNat / 2 ^ 24 % 8) = true) ∧
    (∃ (n : _), reservedSource n = false ∧ (n < 243 ∨ 274 < n)) ∧
    (∃ (n : _), reservedSource n = false ∧ (n < 243 ∨ 274 < n)) ∧
    (∃ (n : _), reservedSource n = false ∧ (n < 243 ∨ 274 < n)) ∧
    (∃ (s : State) (p : _) (n : _) (prio : _), s.portUp p = true ∧ barOpen s p = true ∧ claimable s (4 + p) = some (n, prio) ∧ (n < 243 ∨
      274 < n) ∧ (s.src n).edge = true) ∧
    (∃ (s : State) (p : _) (n : _), p < 2 ∧ n < 319 ∧ available s (4 + p) = true ∧ s.ev.srcs.any (fun e => e.1 == n && e.2 == s.src n) =
      true ∧ (s.src n).pends = true ∧ (s.src n).held = false ∧ (s.src n).signalled = false ∧ effTarget s n = 4 + p ∧ aboveLevel s (4 + p)
      (s.src n).prio = true) ∧
    (∃ (s : State) (p : _) (g : _) (n : _), p < 2 ∧ g < 14 ∧ (s.coalOf p g).isOpen = true ∧ (s.src n).target = 4 + p ∧ groupOf n = g ∧ n <
      243) ∧
    (∃ (s : State) (n : _), n < 243 ∧ (s.src n).pends = true ∧ (s.src n).held = false ∧ (s.src n).target < 6 ∧ available s (s.src n).target
      = false ∧ aboveLevel s (s.src n).target (s.src n).prio = true ∧ fallbackOf s n < 6 ∧ available s (fallbackOf s n) = true) :=
  ⟨⟨up.onEv fun e => { e with srcs := [(242, { prio := 15, edge := true, target := 5 })] }, 1, 242, 0xAF#64, by decide +kernel⟩, ⟨up, 1,
    13, 0x052710FF#64, by decide +kernel⟩, ⟨227, by decide +kernel⟩, ⟨318, by decide +kernel⟩, ⟨0, by decide +kernel⟩, ⟨up.onEv fun e =>
    { e with srcs := [(318, { prio := 15, edge := true, target := 5, latch := true })] }, 1, 318, 15, by decide +kernel⟩, ⟨up.onEv fun e =>
    { e with srcs := [(242, { prio := 15, edge := true, target := 5, latch := true })] }, 1, 242, by decide +kernel⟩, ⟨(up.onEv fun e =>
    { e with srcs := [(242, { prio := 15, edge := true, target := 5, latch := true, held := true })] }).onCoal 1 9 fun c =>
    { c with isOpen := true }, 1, 9, 242, by decide +kernel⟩, ⟨(up.onEv fun e =>
    { e with srcs := [(242, { prio := 15, edge := true, target := 5, latch := true })], fallback := [(9, 4)] }).onPort 1 fun w =>
    { w with linkUp := false }, 242, by decide +kernel⟩⟩

theorem witness_TallyRegisters :
    (∃ (m : Word) (n : _), bit m.toNat n = true) ∧
    (∃ (s : State) (m : Word) (n : _), bit m.toNat n = true ∧ (s.counter n).reload < 2 ^ 48) ∧
    (∃ (s : State) (n : _), n < 64 ∧ (s.counter n).enabled = true ∧ tallyRuns s = true ∧ (s.counter n).count < 2 ^ 48 ∧ (s.counter
      n).reload < 2 ^ 48) :=
  ⟨⟨0x8000000000000000#64, 63, by decide +kernel⟩, ⟨up, 0x8000000000000000#64, 63, by decide +kernel⟩, ⟨up.onCounter 63 fun c =>
    { c with cfg := 0x100#64, count := 2 ^ 48 - 1 }, 63, by decide +kernel⟩⟩

theorem witness_KeeperCores :
    ∃ (c : Nat) (r : Nat) (s : State), c < 4 ∧ r < 4 ∧ c ≠ r ∧ s.guard.cores.length = 4 ∧ s.coreOf c = .working ∧ reliefCore s = some r :=
  ⟨0, 3, up, by decide +kernel⟩

theorem witness_FaultQueue :
    (∃ (code : Nat) (kind : Nat) (index : Nat) (e : Nat) (s : State), 1 ≤ code ∧ code ≤ 0x15 ∧ kind ≤ 11 ∧ e < 16 ∧ ((∀ x, x < 16 →
      ¬((s.fqe x).valid = true ∧ (s.fqe x).code = code ∧ (s.fqe x).unit = kind * 4096 + index % 4096))) ∧ (s.fqe e).valid = false ∧ ((∀ x,
      x < e → (s.fqe x).valid = true))) ∧
    (∃ (code : Nat) (kind : Nat) (index : Nat) (e : Nat) (s : State), 1 ≤ code ∧ code ≤ 0x15 ∧ kind ≤ 11 ∧ e < 16 ∧ (s.fqe e).valid = true
      ∧ (s.fqe e).code = code ∧ (s.fqe e).unit = kind * 4096 + index % 4096 ∧ ((∀ x, x < e → ¬((s.fqe x).valid = true ∧ (s.fqe x).code =
      code ∧ (s.fqe x).unit = kind * 4096 + index % 4096)))) ∧
    (∃ (code : Nat) (kind : Nat) (e : Nat) (s : State), 1 ≤ code ∧ code ≤ 0x15 ∧ kind ≤ 11 ∧ e < 16 ∧ ((∀ x, x < 16 → (s.fqe x).valid =
      true ∧ (s.fqe x).code ≠ code))) ∧
    (∃ (code : Nat) (kind : Nat) (e : Nat) (s : State), 1 ≤ code ∧ code ≤ 0x15 ∧ kind ≤ 11 ∧ e < 16 ∧ (s.fqe e).valid = true ∧ (s.fqe
      e).cls < 4 ∧ (s.fqe e).isSealed = false) ∧
    (∃ (code : Nat) (kind : Nat) (e : Nat) (s : State), 1 ≤ code ∧ code ≤ 0x15 ∧ kind ≤ 11 ∧ e < 16 ∧ s.guard.storm = true ∧ s.faultsUsed ≤
      12) :=
  ⟨⟨0x15, 11, 4095, 0, up, by decide +kernel⟩, ⟨0x15, 11, 4095, 15, up.onGuard fun g =>
    { g with fq := [(15, { valid := true, code := 0x15, unit := 11 * 4096 + 4095 })] }, by decide +kernel⟩, ⟨0x15, 11, 15, up.onGuard fun g
    => { g with fq := (List.range 16).map fun k => (k, { valid := true, code := 1, unit := k }) }, by decide +kernel⟩, ⟨0x15, 11, 15,
    up.onGuard fun g => { g with fq := [(15, { valid := true, code := 0x15, cls := 3 })] }, by decide +kernel⟩, ⟨1, 0, 0, up.onGuard fun g
    => { g with storm := true }, by decide +kernel⟩⟩

theorem witness_KeeperLossAndRestart :
    (∃ (s : State), lossDue false s = true ∧ s.guard.keeperLost = false ∧ s.mode = .provision ∧ bit s.hive.cfg.flags 0 = false) ∧
    (∃ (s : State), lossDue false s = true ∧ s.guard.keeperLost = false ∧ (s.mode = .maintenance ∨ s.mode = .isolate)) ∧
    (∃ (s : State), s.faultTop = 5 ∧ (s.mode = .carry ∨ s.mode = .provision)) ∧
    (∃ (s : State), s.guard.clusterRun = true ∧ workingCores s ≠ []) ∧
    (∃ (s : State), s.mode = .carry ∧ (∃ x, x < 16 ∧ (s.fqe x).valid = false) ∧ ((∀ x, x < 16 → (s.fqe x).valid = true → (s.fqe x).code ≠
      0x11 ∧ (s.fqe x).cls ≤ 5))) ∧
    (∃ (s : State), s.mode = .quiesce) ∧
    (∃ (s : State), attemptMode s = true ∧ s.guard.apCause = 1 ∧ s.guard.attempts < s.guard.restartLimit) ∧
    (∃ (s : State), attemptMode s = true ∧ s.guard.storm = false) ∧
    (∃ (s : State), s.guard.attempting = true) ∧
    (∃ (s : State), s.keeper.started = true ∧ s.keeper.serving = false ∧ s.mode = .maintenance) :=
  ⟨⟨(up.onGuard fun g => { g with fq := [(15, { valid := true, code := 0x12, cls := 4 })] }).onHive fun x => { x with cfg := ⟨20, 0, 4⟩ },
    by decide +kernel⟩, ⟨{ up with mode := .maintenance }.onGuard fun g =>
    { g with fq := [(15, { valid := true, code := 0x12, cls := 4 })] }, by decide +kernel⟩, ⟨up.onGuard fun g =>
    { g with fq := [(0, { valid := true, code := 1, cls := 5 })] }, by decide +kernel⟩, ⟨up, by decide +kernel⟩,
    ⟨{ up with mode := .carry }, by decide +kernel⟩, ⟨{ up with mode := .quiesce }, by decide +kernel⟩,
    ⟨{ up with mode := .autopilot }.onGuard fun g => { g with keeperLost := true, apCause := 1, attempts := 2 }, by decide +kernel⟩,
    ⟨{ up with mode := .autopilot }.onGuard fun g => { g with keeperLost := true }, by decide +kernel⟩, ⟨up.onGuard fun g =>
    { g with attempting := true }, by decide +kernel⟩, ⟨{ up with mode := .maintenance }.onKeeper fun k =>
    { k with serving := false, started := true }, by decide +kernel⟩⟩

theorem witness_TokenMoves :
    (∃ (s : State) (b : _) (w : _), s.hive.token = false ∧ s.hive.lineFree = true ∧ s.mode = .provision ∧ s.keeper.modeWait = none ∧
      s.hive.switchPend = some (2, b, w) ∧ b ≤ s.now) ∧
    (∃ (s : State), s.hive.token = false ∧ s.hive.lineFree = true ∧ s.mode = .shadow ∧ bounceDue s = false ∧ s.hive.released = 0) ∧
    (∃ (s : State), s.hive.token = true ∧ (s.mode = .halt ∨ s.mode = .isolate)) ∧
    (∃ (s : State), s.hive.token = true ∧ (s.mode = .halt ∨ s.mode = .isolate)) ∧
    (∃ (s : State), s.hive.token = false ∧ s.hive.lineFree = true ∧ s.hive.released = 4 ∧ s.mode = .shadow ∧ s.power.seq = 2 ∧
      s.hive.switchPend = none) ∧
    (∃ (s : State), s.hive.hbLost = true ∧ s.hive.mateOk = false ∧ 8 ≤ s.hive.mateLow ∧ s.hive.token = false ∧ s.mode = .shadow ∧
      s.hive.switchPend = none) ∧
    (∃ (s : State) (v : Word), v.toNat % 256 = 0xA5 ∧ bit v.toNat 8 = true ∧ mateReady s = true ∧ s.hive.token = true ∧ s.mode =
      .provision) ∧
    (∃ (s : State) (b : _) (w : _), s.hive.switchPend = some (2, b, w) ∧ b ≤ s.now ∧ s.hive.token = true ∧ s.hive.released = 0 ∧ s.mode =
      .provision) :=
  ⟨⟨up.onHive fun x => { x with token := false, lineFree := true, switchPend := some (2, 15999, none) }, 15999, none, by decide +kernel⟩,
    ⟨{ up with mode := .shadow }.onHive fun x => { x with token := false, lineFree := true, role := .standby }, by decide +kernel⟩,
    ⟨{ up with mode := .halt }, by decide +kernel⟩, ⟨{ up with mode := .isolate }, by decide +kernel⟩, ⟨{ up with mode := .shadow }.onHive
    fun x => { x with token := false, lineFree := true, role := .standby, released := 4 }, by decide +kernel⟩,
    ⟨{ up with mode := .shadow }.onHive fun x => { x with token := false, role := .standby, hbLost := true, mateLow := 8 },
    by decide +kernel⟩, ⟨up.onHive fun x => { x with mateOk := true, halfA := true, halfB := true, mateFlags := 0xFFFFFFFF }, 0x1A5#64,
    by decide +kernel⟩, ⟨up.onHive fun x => { x with switchPend := some (2, 15999, none) }, 15999, none, by decide +kernel⟩⟩

theorem witness_HiveAndMirror :
    (∃ (s : State) (level : _), s.hive.mateOk ≠ level) ∧
    (∃ (s : State) (up : _), s.hive.halfA ≠ up ∧ halfUp s false = up) ∧
    (∃ (s : State) (i : Nat) (skew : _) (codes : _) (gs : _), i < 4 ∧ hiveLaneUp s i = true ∧ (laneGroups (256 + i) (stungUnit s 0x0A (256
      + i)) codes s).1 = gs ∧ (skew < -8 ∨ 8 < skew ∨ readHeader gs = none)) ∧
    (∃ (s : State) (i : Nat) (skew : _) (codes : _) (gs : _), i < 4 ∧ hiveLaneUp s i = true ∧ (laneGroups (256 + i) (stungUnit s 0x0A (256
      + i)) codes s).1 = gs ∧ (skew < -8 ∨ 8 < skew ∨ readHeader gs = none)) ∧
    (∃ (s : State) (i : Nat) (skew : _) (codes : _) (gs : _) (hdr : _), i < 4 ∧ hiveLaneUp s i = true ∧ (laneGroups (256 + i) (stungUnit s
      0x0A (256 + i)) codes s).1 = gs ∧ -8 ≤ skew ∧ skew ≤ 8 ∧ readHeader gs = some hdr ∧ s.hive.token = false ∧ s.hive.released = 0 ∧
      s.hive.switchPend = none) ∧
    (∃ (s : State), s.hive.hbSeen = true ∧ s.now % 8 = 0 ∧ s.hive.hbMissAt ≠ s.now + 1 ∧ s.hive.hbFlight ≠ s.now / 8 % 2 ^ 32 ∧
      s.hive.hbMissed = 2 ∧ s.hive.hbLost = false) ∧
    (∃ (s : State), s.hive.bbOpen = true ∧ s.hive.bbLeft = 0) ∧
    (∃ (s : State), s.hive.bbOpen = true ∧ s.hive.token = true) ∧
    (∃ (s : State) (w : _), s.hive.joining = some w) ∧
    (∃ (s : State), s.hive.token = false ∧ s.hive.halfA = true ∧ s.hive.loaded = true) ∧
    (∃ (s : State), s.hive.token = false ∧ s.hive.halfA = true ∧ s.hive.gap = false) ∧
    (∃ (s : State), s.hive.token = false ∧ s.hive.halfA = true ∧ s.hive.snapSeen = true ∧ s.hive.loaded = false ∧ s.hive.buffered = []) :=
  ⟨⟨up, true, by decide +kernel⟩, ⟨(onIn 257 12 (onIn 256 12 up)).onHive fun x =>
    { x with hdrFails := [(0, List.replicate 8 true), (1, List.replicate 8 true)] }, true, by decide +kernel⟩, ⟨hiveUp, 3, 9, hiveCodes,
    hiveGroups, by decide +kernel⟩, ⟨hiveUp, 3, 8, [], [], by decide +kernel⟩, ⟨hiveUp, 3, -8, hiveCodes, hiveGroups,
    { lane := 3, beat := 15999, timing := -1, ack := 0, flags := 0x101 }, by decide +kernel⟩, ⟨at16000 (up.onHive fun x =>
    { x with hbSeen := true, hbMissed := 2, hbFlight := 1999 }), by decide +kernel⟩, ⟨up.onHive fun x => { x with bbOpen := true },
    by decide +kernel⟩, ⟨up.onHive fun x => { x with bbOpen := true, bbLeft := 5 }, by decide +kernel⟩, ⟨up.onHive fun x =>
    { x with token := false, joining := some ⟨hd, 11, 3, .join⟩ }, ⟨hd, 11, 3, .join⟩, by decide +kernel⟩, ⟨up.onHive fun x =>
    { x with token := false, halfA := true, loaded := true }, by decide +kernel⟩, ⟨up.onHive fun x =>
    { x with token := false, halfA := true, loaded := true }, by decide +kernel⟩, ⟨up.onHive fun x =>
    { x with token := false, halfA := true, snapSeen := true }, by decide +kernel⟩⟩

theorem witness_PowerSequence :
    (∃ (s : State), s.power.powered = false) ∧
    (∃ (s : State), s.power.seq = 1 ∧ s.power.pfw = false ∧ s.power.seqStep < 7) ∧
    (∃ (s : State), s.power.seq = 1 ∧ s.power.pfw = false ∧ 7 ≤ s.power.seqStep ∧ s.power.resetLow = false) ∧
    (∃ (s : State), s.power.seq = 1 ∧ s.hive.token = false) ∧
    (∃ (s : State) (c : _), s.power.seq = 3 ∧ s.power.offCause = c ∧ s.power.wakeLatch = false) ∧
    (∃ (s : State), s.power.powered = true ∧ (s.power.seq = 0 ∨ s.power.seq = 4) ∧ s.power.pfw = false) ∧
    (∃ (s : State), s.power.powered = true ∧ s.power.seq = 0 ∧ s.power.pfw = false ∧ s.power.offCause = 0) ∧
    (∃ (s : State), s.power.pfw = true ∧ s.power.seq = 2 ∧ s.mode ≠ .halt ∧ s.hive.token = false) :=
  ⟨⟨{}, by decide +kernel⟩, ⟨up.onPower fun x => { x with seq := 1, seqStep := 6 }, by decide +kernel⟩, ⟨up.onPower fun x =>
    { x with seq := 1, seqStep := 7 }, by decide +kernel⟩, ⟨(up.onPower fun x => { x with seq := 1 }).onHive fun x =>
    { x with token := false }, by decide +kernel⟩, ⟨up.onPower fun x => { x with seq := 3, offCause := 1 }, 1, by decide +kernel⟩,
    ⟨up.onPower fun x => { x with seq := 4 }, by decide +kernel⟩, ⟨up.onPower fun x => { x with seq := 0 }, by decide +kernel⟩,
    ⟨(up.onPower fun x => { x with pfw := true }).onHive fun x => { x with token := false }, by decide +kernel⟩⟩

theorem witness_ResetAndBoot :
    (∃ (s : State), s.power.seq = 2 ∧ s.mode ≠ .off) ∧
    (∃ (s : State), s.power.resetLow = true ∧ s.power.seq = 2 ∧ s.mode = .off) ∧
    (∃ (s : State), s.mode = .wake ∧ s.power.resetLow = false) ∧
    (∃ (s : State) (ok : _), romDue s = true ∧ ((s.mode = .boot → ok = true)) ∧ (bootBlock s).trial = 0 ∧ (bootBlock s).preferred ≤ 1 ∧
      slotValid s (bootBlock s).preferred = true) ∧
    (∃ (s : State), romDue s = true ∧ s.mode = .boot) ∧
    (∃ (s : State), s.mode = .boot ∧ s.keeper.started = true) ∧
    (∃ (s : State) (d : _) (size : _), d < 4 ∧ s.mode = .boot ∧ size ≠ 0 ∧ (s.chan d).size = 0) ∧
    (∃ (s : State) (r : _), r < 32 ∧ (tget ({} : DdrRegion) s.sec.ddr r).clearing = true ∧ (s.chan (tget ({} : DdrRegion) s.sec.ddr
      r).channel).state = 0 ∧ s.sec.worldWait = none) :=
  ⟨⟨up, by decide +kernel⟩, ⟨{ mode := .off, power := { seq := 2, powered := true } }, by decide +kernel⟩, ⟨{ up with mode := .wake },
    by decide +kernel⟩,
    ⟨{ mode := .boot, sec := { rootKey := true, boot0 := { seq := 1, preferred := 1, crcOk := true }, slots := [(1, { headerOk := true, bodyOk := true, dataOk := true })] }, power := { seq := 2, powered := true, resetLow := false } },
    true, by decide +kernel⟩,
    ⟨{ mode := .boot, sec := { rootKey := true, boot0 := { seq := 1, preferred := 1, crcOk := true }, slots := [(1, { headerOk := true, bodyOk := true, dataOk := true })] }, power := { seq := 2, powered := true, resetLow := false } },
    by decide +kernel⟩, ⟨{ up with mode := .boot }.onKeeper fun k => { k with started := true, serving := false }, by decide +kernel⟩,
    ⟨{ up with mode := .boot, pool := {} }, 3, 128, by decide +kernel⟩, ⟨up.onSec fun c =>
    { c with ddr := [(31, { channel := 3, size := 1, clearing := true })] }, 31, by decide +kernel⟩⟩

theorem witness_LeanAndRails :
    (∃ (s : State), s.power.powered = true ∧ s.power.pfw = false ∧ bit s.power.cfg.flags 0 = true ∧ s.power.seq = 2 ∧ leanable s.mode =
      true) ∧
    (∃ (s : State), s.power.powered = true ∧ s.power.pfw = true) ∧
    (∃ (s : State), s.power.powered = true ∧ s.mode = .lean ∧ s.power.pfw = false ∧ s.power.leanFrom ≠ .lean) ∧
    (∃ (s : State) (r : _), s.power.powered = true ∧ r < 16 ∧ s.power.seq = 2) ∧
    (∃ (s : State), s.power.powered = true ∧ s.power.seq = 2 ∧ s.mode ≠ .lean) ∧
    (∃ (s : State) (r : _), s.power.powered = true ∧ r < 16 ∧ (s.rail r).uv = true) ∧
    (∃ (s : State) (l : List Nat), s.power.powered = true ∧ l.any (· != 0) = true) ∧
    (∃ (s : State), s.power.powered = true ∧ s.power.seq ≠ 1) ∧
    (∃ (s : State) (m : _), s.power.powered = true ∧ avsOn s = true ∧ 0 ≤ m ∧ m < 20) ∧
    (∃ (s : State), s.power.powered = true ∧ s.power.seq = 2) :=
  ⟨⟨{ up with mode := .carry }, by decide +kernel⟩, ⟨up.onPower fun x => { x with pfw := true }, by decide +kernel⟩,
    ⟨{ up with mode := .lean }.onPower fun x => { x with isLean := true, leanFrom := .carry }, by decide +kernel⟩, ⟨up, 15,
    by decide +kernel⟩, ⟨up, by decide +kernel⟩, ⟨up.onRail 15 fun x => { x with uv := true }, 15, by decide +kernel⟩, ⟨up, [0, 1],
    by decide +kernel⟩, ⟨up, by decide +kernel⟩, ⟨up, 19, by decide +kernel⟩, ⟨up, by decide +kernel⟩⟩

theorem witness_LaneDetection :
    (∃ (n : Nat) (s : State), (s.lane n).works = true) ∧
    (∃ (n : Nat) (s : State), (s.lane n).works = true ∧ (s.lane n).losNow = false) ∧
    (∃ (n : Nat) (s : State), (s.lane n).works = true ∧ is8b10bMode (s.lane n).mode = true ∧ (s.lane n).align = 0 ∧ (s.lane n).aligned =
      false) ∧
    (∃ (n : Nat) (s : State), (s.lane n).works = true ∧ is8b10bMode (s.lane n).mode = true ∧ (s.lane n).align ≠ 0) ∧
    (∃ (n : Nat) (s : State), (s.lane n).works = true ∧ (s.lane n).align = 0 ∧ (s.lane n).aligned = true ∧ (s.lane n).errFull = true) ∧
    (∃ (n : Nat) (s : State) (rx : _), (s.lane n).works = true ∧ locksOn (.lane n) rx s = true ∧ (s.lane n).prbsChk ≠ 0 ∧ (s.lane
      n).prbsLocked = false) ∧
    (∃ (n : Nat) (s : State) (rx : _), (s.lane n).works = true ∧ locksOn (.lane n) rx s = false) ∧
    (∃ (n : Nat) (s : State), (s.lane n).works = true ∧ (s.lane n).prbsLocked = true) ∧
    (∃ (n : Nat) (s : State), (s.lane n).works = true ∧ (s.lane n).loopback = 2) :=
  ⟨⟨259, onIn 259 12 up, by decide +kernel⟩, ⟨259, onIn 259 12 up, by decide +kernel⟩, ⟨255, (onIn 255 5 up).onLane 255 fun x =>
    { x with aligned := false }, by decide +kernel⟩, ⟨255, (onIn 255 5 up).onLane 255 fun x => { x with align := 1 }, by decide +kernel⟩,
    ⟨255, (onIn 255 5 up).onLane 255 fun x => { x with errFull := true }, by decide +kernel⟩, ⟨255, (onIn 255 5 up).onLane 255 fun x =>
    { x with prbsChk := 1 }, prbs7 71, by decide +kernel⟩, ⟨255, (onIn 255 5 up).onLane 255 fun x => { x with prbsChk := 1 }, prbs7 70,
    by decide +kernel⟩, ⟨255, (onIn 255 5 up).onLane 255 fun x => { x with prbsChk := 4, prbsLocked := true }, by decide +kernel⟩, ⟨255,
    (onIn 255 5 up).onLane 255 fun x => { x with loopback := 2 }, by decide +kernel⟩⟩

theorem witness_SdhFrames :
    (∃ (n : Nat) (s : State) (len : _), n < 256 ∧ sdhUp s n = true ∧ (s.lane n).losNow = false ∧ (s.lane n).lolNow = false ∧ s.test.stings
      = [] ∧ frameBytes (3 * stmN s n) = len) ∧
    (∃ (n : Nat) (s : State), n < 256 ∧ sdhUp s n = true ∧ (s.lane n).losNow = true) ∧
    (∃ (n : Nat) (s : State), n < 256 ∧ sdhUp s n = true ∧ (s.sdhOf n).align ≠ .inFrame ∧ 24 ≤ (s.sdhOf n).oofFrames) ∧
    (∃ (n : Nat) (s : State), n < 256 ∧ sdhUp s n = true ∧ (s.sdhOf n).align = .inFrame ∧ 24 ≤ (s.sdhOf n).inFrames) ∧
    (∃ (n : Nat) (s : State) (g : _), n < 256 ∧ sdhUp s n = true ∧ (s.path n g).cfg.type ≠ 0 ∧ 4 ≤ (s.path n g).sinceAdj) ∧
    (∃ (n : Nat) (s : State), n < 256 ∧ sdhUp s n = true ∧ laneOutput s n = 3) ∧
    (∃ (n : Nat) (s : State) (ch : _), n < 256 ∧ sdhUp s n = true ∧ ch ≤ 4 ∧ bit (s.sdhOf n).oh.capture ch = true ∧ 8 ≤ s.now ∧ tget 0
      (s.sdhOf n).ohMark ch ≤ s.now / 8 * 8 - 8) ∧
    (∃ (n : Nat) (s : State) (ch : _), n < 256 ∧ sdhUp s n = true ∧ ch ≤ 4) :=
  ⟨⟨255, (sdhLane 255 up).onLane 255 fun x => { x with mode := 1 }, 2430, by decide +kernel⟩, ⟨255, (sdhLane 255 up).onLane 255 fun x =>
    { x with los := true }, by decide +kernel⟩, ⟨255, (sdhLane 255 up).onSdh 255 fun x => { x with oofFrames := 24 }, by decide +kernel⟩,
    ⟨255, (sdhLane 255 up).onSdh 255 fun x => { x with align := .inFrame, inFrames := 24, dLof := true }, by decide +kernel⟩, ⟨255,
    (withPath 255 191 (sdhLane 255 up)).onPath 255 191 fun x => { x with sinceAdj := 4 }, 191, by decide +kernel⟩, ⟨255, (sdhLane 255
    up).onLane 255 fun x => { x with mode := 1 }, by decide +kernel⟩, ⟨255, (sdhLane 255 up).onSdh 255 fun x =>
    { x with oh := { x.oh with capture := 31 } }, 4, by decide +kernel⟩, ⟨255, sdhLane 255 up, 4, by decide +kernel⟩⟩

theorem witness_ErrorDetectors :
    (∃ (u : DetUnit) (s : State), detReal u = true ∧ detUp s u = true ∧ s.now % 8000 = 0 ∧ (degOf s u).1.closed ≠ s.now + 1) ∧
    (∃ (u : DetUnit) (s : State), detReal u = true ∧ detUp s u = true ∧ s.now % 8000 = 0 ∧ (degOf s u).1.closed ≠ s.now + 1) ∧
    (∃ (u : DetUnit) (s : State), detReal u = true ∧ detUp s u = true ∧ s.now % 8000 = 0 ∧ (degOf s u).1.closed ≠ s.now + 1) ∧
    (∃ (u : DetUnit) (s : State), detReal u = true ∧ detUp s u = true ∧ s.now % 8000 ≠ 0) ∧
    (∃ (u : DetUnit) (s : State) (isExc : _), detReal u = true ∧ detUp s u = true ∧ s.now % berBeats (berLimits s isExc u).1 = 0 ∧ (berOf s
      isExc u).1.closed ≠ s.now + 1) ∧
    (∃ (u : DetUnit) (s : State) (isExc : _), detReal u = true ∧ detUp s u = true ∧ s.now % berBeats (berLimits s isExc u).1 = 0 ∧ (berOf s
      isExc u).1.closed ≠ s.now + 1) ∧
    (∃ (u : DetUnit) (s : State) (isExc : _), detReal u = true ∧ detUp s u = true ∧ s.now % berBeats (berLimits s isExc u).1 = 0 ∧ (berOf s
      isExc u).1.closed ≠ s.now + 1) :=
  ⟨⟨.hp 255 191, at16000 ((withPath 255 191 (sdhLane 255 up)).onPath 255 191 fun x => { x with deg := { errored := 8000 } }),
    by decide +kernel⟩, ⟨.ms 255, at16000 (sdhLane 255 up), by decide +kernel⟩, ⟨.lp 95 191 0x09, at16000 (up.onVc 95 191 fun x =>
    { x with cfg := ⟨95, 191, 1, 2, 1, 0, 0, 2, 0⟩ }), by decide +kernel⟩, ⟨.ms 255, sdhLane 255 up, by decide +kernel⟩, ⟨.hp 255 191,
    at16000 ((withPath 255 191 (sdhLane 255 up)).onPath 255 191 fun x => { x with exc := { cur := 80000 } }), true, by decide +kernel⟩,
    ⟨.ms 255, at16000 (sdhLane 255 up), false, by decide +kernel⟩, ⟨.lp 95 191 0x09, at16000 (up.onVc 95 191 fun x =>
    { x with cfg := ⟨95, 191, 1, 2, 1, 0, 0, 2, 0⟩ }), true, by decide +kernel⟩⟩

theorem witness_CpriFrames :
    (∃ (n : Nat) (s : State) (codes : _) (w : _) (gs : _) (f : _), n < 256 ∧ cpriUp s n = true ∧ (s.lane n).losNow = false ∧ (s.lane
      n).lolNow = false ∧ (s.lane n).aligned = true ∧ (s.lane n).loopback ≠ 1 ∧ s.test.stings = [] ∧ cpriW (cpriOption (s.lane n).mode) = w
      ∧ hyperGroups s n codes = gs ∧ readHyper w (s.lane n).scramble false gs = f) ∧
    (∃ (n : Nat) (s : State), n < 256 ∧ cpriUp s n = true ∧ (s.lane n).aligned = false) ∧
    (∃ (n : Nat) (s : State), n < 256 ∧ cpriUp s n = true ∧ (s.cpriOf n).dLof = false ∧ 8 ≤ (s.cpriOf n).outBeats) ∧
    (∃ (n : Nat) (s : State), n < 256 ∧ cpriUp s n = true ∧ (s.cpriOf n).dLof = true ∧ 8 ≤ (s.cpriOf n).inBeats) ∧
    (∃ (n : Nat) (s : State), n < 256 ∧ cpriUp s n = true ∧ s.now % 80 = 0 ∧ (s.cpriOf n).rxAt ≠ s.now + 1 ∧ ((s.cpriOf n).synced = false ∨
      (s.cpriOf n).rxMeas = [])) ∧
    (∃ (n : Nat) (s : State) (v : _), n < 256 ∧ cpriUp s n = true ∧ s.now % 80 = 0 ∧ (s.cpriOf n).rxAt ≠ s.now + 1 ∧ (s.cpriOf n).state =
      .bfnSync ∧ offsetMean true (s.cpriOf n).rxMeas = some v) ∧
    (∃ (n : Nat) (s : State) (group : _) (b : _), n < 256 ∧ cpriUp s n = true ∧ cmBounds (s.cpriOf n).rxPtr group = some b ∧ bit (s.cpriOf
      n).cm.capture group = true ∧ 8 ≤ s.now ∧ tget 0 (s.cpriOf n).cmMark group ≤ 8 * (s.now / 8 - 1)) ∧
    (∃ (n : Nat) (s : State) (group : _) (b : _), n < 256 ∧ cpriUp s n = true ∧ cmBounds (s.cpriOf n).cfg.ethPtr group = some b ∧ (s.cpriOf
      n).cfg.transport = 0 ∧ bit (s.cpriOf n).cm.insert group = true ∧ tget [] (s.cpriOf n).cmQueue group = []) ∧
    (∃ (n : Nat) (s : State), n < 256 ∧ cpriUp s n = true ∧ 256 * (s.cpriOf n).resetLeft < (s.cpriOf n).resetRun + 480) ∧
    (∃ (n : Nat) (s : State) (i : Nat), n < 256 ∧ cpriUp s n = true ∧ (s.axc n 1 i).cfg.enable = 1 ∧ (s.axc n 1 i).failed = false ∧
      axcBoundary s n = true ∧ (s.axc n 1 i).fill < 6510) ∧
    (∃ (n : Nat) (s : State) (i : Nat), n < 256 ∧ cpriUp s n = true ∧ (s.axc n 1 i).cfg.enable = 1 ∧ (s.axc n 1 i).failed = false ∧
      axcBoundary s n = true ∧ 45573 < (s.axc n 1 i).fill) ∧
    (∃ (n : Nat) (s : State) (i : Nat), n < 256 ∧ cpriUp s n = true ∧ (s.axc n 1 i).cfg.enable = 1 ∧ (s.axc n 1 i).failed = false ∧
      axcBoundary s n = true ∧ (s.axc n 1 i).realign = true) ∧
    (∃ (n : Nat) (s : State), n < 256 ∧ cpriUp s n = true ∧ servoWorks s n = true) ∧
    (∃ (n : Nat) (s : State), n < 256 ∧ cpriUp s n = true ∧ (s.cpriOf n).idle = true) :=
  ⟨⟨255, (cpriLane 255 up).onLane 255 (fun x => { x with mode := 5 }), [0x305], 1, hyperGroups ((cpriLane 255 up).onLane 255 (fun x =>
    { x with mode := 5 })) 255 [0x305], readHyper 1 (((cpriLane 255 up).onLane 255 (fun x => { x with mode := 5 })).lane 255).scramble
    false (hyperGroups ((cpriLane 255 up).onLane 255 (fun x => { x with mode := 5 })) 255 [0x305]), ⟨by decide +kernel, by decide +kernel,
    by decide +kernel, by decide +kernel, by decide +kernel, by decide +kernel, by decide +kernel, by decide +kernel, rfl, rfl⟩⟩, ⟨255,
    (cpriLane 255 up).onLane 255 fun x => { x with aligned := false }, by decide +kernel⟩, ⟨255, (cpriLane 255 up).onCpri 255 fun x =>
    { x with outBeats := 8 }, by decide +kernel⟩, ⟨255, (cpriLane 255 up).onCpri 255 fun x => { x with dLof := true, inBeats := 8 },
    by decide +kernel⟩, ⟨255, at16000 (cpriLane 255 up), by decide +kernel⟩, ⟨255, at16000 ((cpriLane 255 up).onCpri 255 fun x =>
    { x with state := .bfnSync, rxMeas := [500, 700] }), 600, by decide +kernel⟩, ⟨255, (cpriLane 255 up).onCpri 255 fun x =>
    { x with rxPtr := 20, cm := { x.cm with capture := 15 } }, 2, (20, 44), by decide +kernel⟩, ⟨255, (cpriLane 255 up).onCpri 255 fun x =>
    { x with cfg := { x.cfg with ethPtr := 20 }, cm := { x.cm with insert := 15 } }, 2, (20, 44), by decide +kernel⟩, ⟨255, cpriLane 255
    up, by decide +kernel⟩, ⟨255, at16000 ((cpriLane 255 up).onAxc 255 1 47 fun x =>
    { x with cfg := ⟨255, 47, 1, 1, 1, 0, 30, 0⟩, fill := 6509 }), 47, by decide +kernel⟩, ⟨255, at16000 ((cpriLane 255 up).onAxc 255 1 47
    fun x => { x with cfg := ⟨255, 47, 1, 1, 1, 0, 30, 0⟩, fill := 45574 }), 47, by decide +kernel⟩, ⟨255, at16000 ((cpriLane 255 up).onAxc
    255 1 47 fun x => { x with cfg := ⟨255, 47, 1, 1, 1, 0, 30, 0⟩, realign := true }), 47, by decide +kernel⟩, ⟨255, (cpriLane 255
    up).onCpri 255 fun x => { x with cfg := { x.cfg with transport := 1, flags := 4 }, primed := true, sumNow := (7680, 1) },
    by decide +kernel⟩, ⟨255, (cpriLane 255 up).onCpri 255 fun x =>
    { x with cfg := { x.cfg with transport := 1, flags := 4 }, primed := true, idle := true, sumNow := (7680, 1) }, by decide +kernel⟩⟩

theorem witness_CombEvents :
    (∃ (s : State) (r : _), r < 64 ∧ (s.region r).state = 1 ∧ (s.region r).start + 5 ≤ s.now ∧ s.mode ≠ .lean) ∧
    (∃ (s : State), s.mode = .lean) ∧
    (∃ (r : _), r < 64) ∧
    (∃ (s : State) (port : _) (stream : _) (left : _) (d : _) (seen : _), (prbsPoly (field (s.stream port stream).pattern 0 3)).1 = d ∧
      (bitsOf (s.stream port stream).rx).take ((bitsOf (s.stream port stream).rx).length - left) = seen ∧ locksOn (.comb port stream)
      (seen.drop (seen.length - (64 + d))) s = true ∧ bit (s.stream port stream).pattern 5 = true ∧ (s.stream port stream).locked = false)
      ∧
    (∃ (s : State) (port : _) (stream : _), (s.stream port stream).locked = true ∧ (s.stream port stream).broken = true) ∧
    (∃ (s : State), s.comb.tap.state = 2) :=
  ⟨⟨up.onRegion 63 fun x => { x with state := 1, step := 35, start := 15994 }, 63, by decide +kernel⟩, ⟨{ up with mode := .lean },
    by decide +kernel⟩, ⟨63, by decide +kernel⟩, ⟨up.onStream 417 63 fun x => { x with pattern := 0x21, rx := prbs7Bytes }, 417, 63, 0, 7,
    prbs7 72, by decide +kernel⟩, ⟨up.onStream 417 63 fun x => { x with pattern := 0x24, locked := true, broken := true }, 417, 63,
    by decide +kernel⟩, ⟨up.onComb fun c => { c with tap := { state := 2, mask := 0xFF, beats := 8000, done := 7999, bar2 := 1024 } },
    by decide +kernel⟩⟩

theorem witness_NurseEvents :
    (∃ (b : Nat) (g : Nat) (s : State) (tu : _) (type : _) (fs : _) (rest : _), b < 96 ∧ (s.vcOf b g).cfg.enable = 1 ∧ tuType (s.vcOf b
      g).cfg tu = some type ∧ takePeriod type (s.tuOf b g tu).rx = (some fs, rest) ∧ s.test.stings = []) ∧
    (∃ (b : Nat) (g : Nat) (s : State) (tu : _) (type : _), b < 96 ∧ (s.vcOf b g).cfg.enable = 1 ∧ tuType (s.vcOf b g).cfg tu = some type)
      ∧
    (∃ (b : Nat) (g : Nat) (s : State) (i : Nat) (e : _), b < 96 ∧ (s.axvOf b 0 g).cfg.enable = 1 ∧ (s.axvOf b 0 g).cfg.axcs[i]? = some e)
      ∧
    (∃ (b : Nat) (g : Nat) (s : State) (i : Nat) (late : Bool), b < 96 ∧ (s.axvOf b 1 g).cfg.enable = 1 ∧ i < (s.axvOf b 1
      g).cfg.axcs.length ∧ 0 < (if late then ((s.axvOf b 1 g).axcOf i).slips else ((s.axvOf b 1 g).axcOf i).earlies)) ∧
    (∃ (b : Nat) (g : Nat) (s : State) (i : Nat), b < 96 ∧ (s.axvOf b 1 g).cfg.enable = 1 ∧ i < (s.axvOf b 1 g).cfg.axcs.length) :=
  ⟨⟨95, 191, (up.onVc 95 191 fun x => { x with cfg := ⟨95, 191, 1, 2, 1, 0, 0, 2, 0⟩ }).onTu 95 191 0x09 fun x =>
    { x with rx := tuFour, ptr := { mode := .norm, aisRun := 2 } }, 0x09, 2, tuFour, [], by decide +kernel⟩, ⟨95, 191, up.onVc 95 191 fun x
    => { x with cfg := ⟨95, 191, 1, 2, 1, 0, 0, 2, 0⟩ }, 0x09, 2, by decide +kernel⟩, ⟨95, 191, up.onAxv 95 0 191 fun x =>
    { x with cfg := ⟨95, 0, 191, 1, 2, 1, 1, 255, 0, [⟨12, 0⟩]⟩ }, 0, ⟨12, 0⟩, by decide +kernel⟩, ⟨95, 191, (up.onAxv 95 1 191 fun x =>
    { x with cfg := ⟨95, 1, 191, 1, 2, 1, 1, 255, 7680, [⟨12, 0⟩]⟩ }).onAxvAxc 95 1 191 0 fun x => { x with slips := 1 }, 0, true,
    by decide +kernel⟩, ⟨95, 191, (up.onAxv 95 1 191 fun x => { x with cfg := ⟨95, 1, 191, 1, 2, 1, 1, 255, 7680, [⟨12, 0⟩]⟩ }).onAxvAxc 95
    1 191 0 fun x => { x with slipBeats := 8 }, 0, by decide +kernel⟩⟩

theorem witness_PoolEvents :
    (∃ (k : Nat) (s : State) (i : Nat), (s.entry k).used = true ∧ (s.entry k).cfg.isOn = true ∧ i < (s.entry k).cfg.memberSize.2 ∧
      ((s.entry k).state = 1 ∨ (s.entry k).state = 2 ∨ (s.entry k).state = 3) ∧ ((s.entry k).memberOf i).isIn = false ∧ 2 ≤ ((s.entry
      k).memberOf i).follow1 ∧ 1 ≤ ((s.entry k).memberOf i).follow2) ∧
    (∃ (k : Nat) (s : State) (i : Nat), (s.entry k).used = true ∧ (s.entry k).cfg.isOn = true ∧ i < (s.entry k).cfg.memberSize.2 ∧
      ((s.entry k).state = 1 ∨ (s.entry k).state = 2 ∨ (s.entry k).state = 3) ∧ ((s.entry k).memberOf i).isIn = true ∧ (3 ≤ ((s.entry
      k).memberOf i).break1 ∨ 2 ≤ ((s.entry k).memberOf i).break2 ∨ 8 ≤ ((s.entry k).memberOf i).dead)) ∧
    (∃ (k : Nat) (s : State), (s.entry k).used = true ∧ (s.entry k).cfg.isOn = true ∧ 2 ≤ (if (s.entry k).dLoa then (s.entry k).nearMf else
      (s.entry k).farMf) ∧ ((s.entry k).state = 1 ∨ (s.entry k).state = 2)) ∧
    (∃ (k : Nat) (s : State), (s.entry k).used = true ∧ (s.entry k).cfg.isOn = true ∧ (s.entry k).state = 2 ∧ (if (s.entry k).cfg.isTwin
      then ((s.entry k).memberOf 0).late && ((s.entry k).memberOf 1).late else (s.entry k).starved (s.now + 1)) = true) ∧
    (∃ (k : Nat) (s : State), (s.entry k).used = true ∧ (s.entry k).cfg.isOn = true ∧ (s.entry k).state = 2 ∧ (s.entry k).cfg.kindIsDelay =
      false ∧ 4 ≤ (s.entry k).sinceAdj) ∧
    (∃ (k : Nat) (s : State) (a : _) (F : _) (out : _), (s.entry k).cfg = .twin a ∧ (s.entry k).used = true ∧ a.enable = 1 ∧ (s.entry
      k).state = 2 ∧ ((s.entry k).outFrame + 1) % 4096 = F ∧ 783 * (s.now + 1) + (s.entry k).outOffset = out ∧ ((∀ i, i < 2 → ((s.entry
      k).memberOf i).isIn = true → ∃ n, (s.entry k).agedBy i F = some n ∧ 2 ≤ n)) ∧ (s.entry k).picks.any (fun x => x.1 == F) = false ∧
      a.preferred = 0 ∧ (s.entry k).copyClean 0 F = true ∧ (s.entry k).copyLate 0 F out = false) ∧
    (∃ (k : Nat) (s : State) (a : _) (F : _) (out : _), (s.entry k).cfg = .twin a ∧ (s.entry k).used = true ∧ a.enable = 1 ∧ (s.entry
      k).state = 2 ∧ ((s.entry k).outFrame + 1) % 4096 = F ∧ 783 * (s.now + 1) + (s.entry k).outOffset = out ∧ ((∀ i, i < 2 → ((s.entry
      k).memberOf i).isIn = true → ∃ n, (s.entry k).agedBy i F = some n ∧ 2 ≤ n)) ∧ (s.entry k).picks.any (fun x => x.1 == F) = false ∧
      a.preferred = 0 ∧ (s.entry k).copyClean 0 F = false ∧ (s.entry k).copyClean 1 F = true ∧ (s.entry k).copyLate 1 F out = false) ∧
    (∃ (k : Nat) (s : State) (a : _) (F : _) (out : _), (s.entry k).cfg = .twin a ∧ (s.entry k).used = true ∧ a.enable = 1 ∧ (s.entry
      k).state = 2 ∧ ((s.entry k).outFrame + 1) % 4096 = F ∧ 783 * (s.now + 1) + (s.entry k).outOffset = out ∧ ((∀ i, i < 2 → ((s.entry
      k).memberOf i).isIn = true → ∃ n, (s.entry k).agedBy i F = some n ∧ 2 ≤ n)) ∧ (s.entry k).picks.any (fun x => x.1 == F) = false ∧
      (s.entry k).copyClean 0 F = false ∧ (s.entry k).copyClean 1 F = false) ∧
    (∃ (k : Nat) (s : State) (a : _), (s.entry k).cfg = .twin a ∧ (s.entry k).used = true ∧ (s.entry k).state = 3 ∧ (s.entry k).selB ≠
      (a.preferred == 1) ∧ 8000 ≤ (s.entry k).clean) ∧
    (∃ (k : Nat) (s : State), (s.entry k).used = true ∧ (s.entry k).cfg.isOn = true ∧ (s.entry k).cfg.isTwin = true ∧ (s.entry k).state = 3
      ∧ (s.entry k).returning = true ∧ (s.entry k).canAlign = true ∧ (s.chan (s.entry k).cfg.chan).state = 0 ∧ s.mode ≠ .lean ∧ (s.now + 1)
      % vcatBeats = 0) ∧
    (∃ (k : Nat) (s : State) (slot : _), s.entryAt slot = some k ∧ (s.entry k).cfg.chan < 4) ∧
    (∃ (d : Nat) (s : State) (r : _), d < 4 ∧ (s.chan d).state = 0 ∧ r < (s.chan d).ranks) ∧
    (∃ (d : Nat) (s : State) (r : _), d < 4 ∧ (s.chan d).state = 0 ∧ r < (s.chan d).ranks ∧ tget 0 (s.chan d).postponed r < 4) ∧
    (∃ (d : Nat) (s : State) (r : _), d < 4 ∧ (s.chan d).state = 0 ∧ r < (s.chan d).ranks ∧ 4 ≤ tget 0 (s.chan d).postponed r) ∧
    (∃ (d : Nat) (s : State) (r : _), d < 4 ∧ (s.chan d).state = 0 ∧ r < (s.chan d).ranks ∧ (s.chan d).retrainSince = none) ∧
    (∃ (d : Nat) (s : State), d < 4 ∧ (s.chan d).state = 0) ∧
    (∃ (d : Nat) (s : State), d < 4 ∧ (s.chan d).state = 0 ∧ 8 ≤ (s.chan d).uncSecond) ∧
    (∃ (d : Nat) (s : State) (size : _) (rate : _), d < 4 ∧ (s.chan d).state = 4 ∧ size ≠ 0 ∧ s.pool.rate ≤ rate) ∧
    (∃ (d : Nat) (s : State) (size : _) (rate : _), d < 4 ∧ (s.chan d).state = 4 ∧ size ≠ 0 ∧ rate < s.pool.rate) ∧
    (∃ (d : Nat) (s : State), d < 4 ∧ (s.chan d).state ≠ 0 ∧ (s.pool.waiters.any fun w => w.1 == d) = true) :=
  ⟨⟨12031, up.onEntry 12031 fun e =>
    { e with used := true, cfg := .group ⟨12031, 256, 1, 1, 3, 1, 2048, 1⟩, state := 1, members := [(255, { follow1 := 2, follow2 := 1 })] },
    255, by decide +kernel⟩, ⟨12031, up.onEntry 12031 fun e =>
    { e with used := true, cfg := .group ⟨12031, 256, 1, 1, 3, 1, 2048, 1⟩, state := 1, members := [(255, { isIn := true, dead := 8 })] },
    255, by decide +kernel⟩, ⟨100, up.onEntry 100 fun e =>
    { e with used := true, cfg := .group ⟨100, 1, 1, 1, 3, 1, 2048, 1⟩, state := 2, members := [(0, { isIn := true })], farMf := 2 },
    by decide +kernel⟩, ⟨100, up.onEntry 100 fun e =>
    { e with used := true, cfg := .group ⟨100, 1, 1, 1, 3, 1, 2048, 1⟩, state := 2, members := [(0, { isIn := true, start := 783 * 16010 })] },
    by decide +kernel⟩, ⟨100, up.onEntry 100 fun e => { e with used := true, cfg := .group ⟨100, 1, 1, 1, 3, 1, 2048, 1⟩, state := 2 },
    by decide +kernel⟩, ⟨100, twinOf 0 100 100, ⟨100, 200, 1, 1, 3, 1, 2048, 0, 0⟩, 1, 783 * 16000, by decide +kernel⟩, ⟨100, twinOf 0 300
    100, ⟨100, 200, 1, 1, 3, 1, 2048, 0, 0⟩, 1, 783 * 16000, by decide +kernel⟩, ⟨100, twinOf 1 300 300, ⟨100, 200, 1, 1, 3, 1, 2048, 1,
    0⟩, 1, 783 * 16000, by decide +kernel⟩, ⟨100, up.onEntry 100 fun e =>
    { e with used := true, cfg := .twin ⟨100, 200, 3, 1, 3, 1, 2048, 1, 0⟩, state := 3, clean := 8000 }, ⟨100, 200, 3, 1, 3, 1, 2048, 1,
    0⟩, by decide +kernel⟩, ⟨100, up.onEntry 100 fun e =>
    { e with used := true, cfg := .twin ⟨100, 200, 3, 1, 3, 1, 2048, 1, 0⟩, state := 3, returning := true, members := [(0, { isIn := true }), (1, { isIn := true })] },
    by decide +kernel⟩, ⟨100, up.onEntry 100 fun e => { e with used := true, cfg := .delay ⟨100, 1, 1, 3, 1, 20⟩, state := 2 }, 100,
    by decide +kernel⟩, ⟨3, up, 1, by decide +kernel⟩, ⟨3, up.onChan 3 fun c => { c with postponed := [(1, 3)] }, 1, by decide +kernel⟩,
    ⟨3, up.onChan 3 fun c => { c with postponed := [(1, 4)] }, 1, by decide +kernel⟩, ⟨3, up, 1, by decide +kernel⟩, ⟨3, up,
    by decide +kernel⟩, ⟨3, up.onChan 3 fun c => { c with uncSecond := 8 }, by decide +kernel⟩, ⟨3, up.onChan 3 fun c =>
    { c with state := 4 }, 128, 5600, by decide +kernel⟩, ⟨3, up.onChan 3 fun c => { c with state := 4 }, 128, 5599, by decide +kernel⟩,
    ⟨3, (up.onChan 3 fun c => { c with state := 5 }).onPool fun p => { p with waiters := [(3, ⟨hd, 7, 4, .channel 3⟩)] },
    by decide +kernel⟩⟩

theorem witness_ProtectionEvents :
    (∃ (s : State), s.clk.started = true ∧ s.hive.role ≠ .standby) ∧
    (∃ (n : Nat) (s : State), (s.group n).cfg.enable = 1 ∧ (s.group n).holdW = some 0 ∧ (triggers s (s.group n).cfg).1 ≠ 0) ∧
    (∃ (n : Nat) (s : State), (s.group n).cfg.enable = 1 ∧ (s.group n).holdP = some 0 ∧ (triggers s (s.group n).cfg).2 ≠ 0) ∧
    (∃ (n : Nat) (s : State), (s.group n).cfg.enable = 1 ∧ (s.group n).request = 10 ∧ (s.group n).wtrLeft = 0) ∧
    (∃ (n : Nat) (s : State), (s.group n).cfg.enable = 1 ∧ (s.group n).bidir = true ∧ 400 ≤ (s.group n).cmBeats) ∧
    (∃ (n : Nat) (s : State), (s.group n).cfg.enable = 1 ∧ (s.group n).waitHitless = true ∧ hitlessReady s (s.group n) = true ∧ (s.now + 1)
      % radioBeats = 0) :=
  ⟨⟨up, by decide +kernel⟩, ⟨12287, (onIn 254 4 (onIn 255 4 up)).onLane 254 (fun x => { x with los := true }) |>.onGroup 12287 fun x =>
    { x with cfg := ⟨12287, 1, 1, 15, 100, 12, .lines 254 255⟩, holdW := some 0 }, by decide +kernel⟩, ⟨12287, (onIn 254 4 (onIn 255 4
    up)).onLane 255 (fun x => { x with los := true }) |>.onGroup 12287 fun x =>
    { x with cfg := ⟨12287, 1, 1, 15, 100, 12, .lines 254 255⟩, holdP := some 0 }, by decide +kernel⟩, ⟨12287, up.onGroup 12287 fun x =>
    { x with cfg := ⟨12287, 3, 1, 1, 0, 5, .sncpHo 417 0 3 100 0 101 0⟩, request := 10, sel := true }, by decide +kernel⟩, ⟨12287,
    up.onGroup 12287 fun x => { x with cfg := ⟨12287, 1, 1, 15, 100, 12, .lines 254 255⟩, cmBeats := 400 }, by decide +kernel⟩, ⟨12287,
    ((cpriLane 254 (cpriLane 255 up)).onCpri 254 fun x => { x with state := .bfnSync }).onCpri 255 (fun x => { x with state := .bfnSync })
    |>.onGroup 12287 fun x => { x with cfg := ⟨12287, 5, 1, 1, 0, 5, .cpri 254 255 0⟩, waitHitless := true }, by decide +kernel⟩⟩

theorem witness_ScoutInputs :
    (∃ (i : Nat) (s : State) (cause : _), causeHolds s i cause = true ∧ (s.inp i).state ≠ .disabled ∧ (s.inp i).state ≠ .failed) ∧
    (∃ (i : Nat) (s : State), (s.inp i).failing = true ∧ (s.inp i).state = .failed ∧ ([2, 3, 4, 5].any (causeHolds s i)) = false ∧ ((s.inp
      i).cause = 7 ∨ causeHolds s i 6 = false)) ∧
    (∃ (i : Nat) (s : State), (s.inp i).state = .qualifying ∧ (s.inp i).failing = false ∧ (s.inp i).mean10.natAbs ≤ (s.inp i).cfg.softLimit
      * 10000 ∧ 8000 * (s.inp i).cfg.qualTime ≤ (s.inp i).okBeats) ∧
    (∃ (i : Nat) (s : State), (s.inp i).state = .wtr ∧ (s.inp i).wtrLeft = 0) ∧
    (∃ (i : Nat) (s : State) (raw : Int) (offset : Int) (raws : _), (s.inp i).cfg.enable = 1 ∧ ((raw - monitorRef s) :: (s.inp
      i).raws).take 100 = raws ∧ meanInt (raws.take (offsetSpans i).1) = offset) ∧
    (∃ (i : Nat) (s : State), (s.inp i).cfg.enable = 1 ∧ (s.inp i).suspect = false ∧ (s.inp i).cfg.softLimit * 10000 < (s.inp
      i).mean10.natAbs) ∧
    (∃ (i : Nat) (s : State), (s.inp i).suspect = true ∧ (s.inp i).mean10.natAbs ≤ (s.inp i).cfg.softLimit * 9000 ∧ 480000 ≤ (s.inp
      i).calmBeats) ∧
    (∃ (i : Nat) (s : State) (means : List Int), (s.inp i).cfg.enable = 1 ∧ 10 * (offsetSpans i).2 ≤ (s.inp i).nOff ∧ ((s.inp i).sumOff /
      (max 1 (s.inp i).nOff : Nat) :: (s.inp i).means).take 36 = means) ∧
    (∃ (i : Nat) (s : State) (edge : Int) (e : Int), (i = 0 ∨ i = 1) ∧ edge - (s.inp i).cfg.ppsComp = e) ∧
    (∃ (i : Nat), i = 18 ∨ i = 19) :=
  ⟨⟨19, up.onInp 19 fun x => { x with cfg := { x.cfg with enable := 1 }, state := .qualified, silent := 3 }, 5, by decide +kernel⟩, ⟨19,
    ((onIn 258 12 (onIn 259 12 up)).onInp 19 fun x =>
    { x with cfg := { x.cfg with enable := 1 }, state := .failed, failing := true, cause := 7 }).onHive fun x => { x with halfB := true },
    by decide +kernel⟩, ⟨19, up.onInp 19 fun x => { x with cfg := { x.cfg with enable := 1 }, state := .qualifying, okBeats := 2040000 },
    by decide +kernel⟩, ⟨19, up.onInp 19 fun x => { x with cfg := { x.cfg with enable := 1 }, state := .wtr }, by decide +kernel⟩, ⟨19,
    up.onInp 19 fun x => { x with cfg := { x.cfg with enable := 1 }, state := .qualified }, -5, -5, [-5], by decide +kernel⟩, ⟨19, up.onInp
    19 fun x => { x with cfg := { x.cfg with enable := 1 }, state := .qualified, mean10 := -2000001 }, by decide +kernel⟩, ⟨19, up.onInp 19
    fun x => { x with cfg := { x.cfg with enable := 1 }, state := .qualified, suspect := true, mean10 := -1800000, calmBeats := 480000 },
    by decide +kernel⟩, ⟨19, up.onInp 19 fun x =>
    { x with cfg := { x.cfg with enable := 1 }, state := .qualified, nOff := 600, sumOff := -300000 }, [-500], by decide +kernel⟩, ⟨1, up,
    -1000, -1000, by decide +kernel⟩, ⟨19, by decide +kernel⟩⟩

theorem witness_ScoutControl :
    (∃ (s : State) (k : _), s.scout.dpllCfg.xoFreq ≠ 0 ∧ s.hive.role ≠ .standby ∧ s.scout.sel.mode = 1 ∧ s.scout.sel.input = k ∧
      isQualified s k = true ∧ s.scout.stage = .idle ∧ s.scout.freq ≠ some k) ∧
    (∃ (s : State), s.scout.dpllCfg.xoFreq ≠ 0 ∧ s.hive.role ≠ .standby ∧ s.scout.sel.mode = 4) ∧
    (∃ (s : State), s.scout.stage = .measure ∧ measured1s s.scout = true) ∧
    (∃ (s : State) (k : _), s.scout.stage = .buildOut ∧ 1 ≤ s.scout.stageBeats ∧ s.scout.target = some k) ∧
    (∃ (s : State) (k : _), s.scout.phTarget = some k ∧ 8 ≤ s.scout.phEdges ∧ s.now % 8000 = 0) ∧
    (∃ (s : State), s.scout.state = .acquiring ∧ s.scout.freq.isSome = true ∧ stepBeats s.scout.dpllCfg.bwFinal s.scout.bw ≤
      s.scout.lockBeats) ∧
    (∃ (s : State), (s.scout.state = .locked ∨ s.scout.state = .acquiring) ∧ 8000 ≤ s.scout.strayBeats) ∧
    (∃ (s : State) (w : _), s.scout.wordNext = some w ∧ s.scout.state = .hand) ∧
    (∃ (s : State), s.scout.state = .hand ∧ s.scout.dpllCfg.steerTimeout ≤ s.scout.handBeats) ∧
    (∃ (s : State), s.scout.state = .locked ∧ ((∀ n, s.scout.modelAt = some n → n + 8000 ≤ s.now))) ∧
    (∃ (s : State), 72000 ≤ (s.scout.hist.filter fun e => e.2.2).length ∧ ((∀ n, s.scout.agingLast = some n → n + 28800000 ≤ s.now))) ∧
    (∃ (s : State), s.scout.state = .holdover) ∧
    (∃ (s : State), s.keeper.serving = true) ∧
    (∃ (s : State) (b : _) (sec : _) (bfn : _), s.scout.todPend = some (b, sec, bfn) ∧ b ≤ s.now ∧ s.clk.started = true ∧ (s.mode = .carry
      ∨ s.mode = .provision ∨ s.mode = .autopilot)) ∧
    (∃ (s : State) (o : _), o < 11 ∧ (s.scoutOut o).squelched ≠ squelchHolds s o) :=
  ⟨⟨(up.onInp 19 fun x => { x with cfg := { x.cfg with enable := 1 }, state := .qualified }).onScout fun x =>
    { x with sel := { x.sel with mode := 1, input := 19 } }, 19, by decide +kernel⟩, ⟨up.onScout fun x =>
    { x with sel := { x.sel with mode := 4 }, state := .locked, freq := some 3 }, by decide +kernel⟩, ⟨up.onScout fun x =>
    { x with stage := .measure, target := some 19, stageBeats := 8000 }, by decide +kernel⟩, ⟨up.onScout fun x =>
    { x with stage := .buildOut, target := some 19, stageBeats := 1 }, 19, by decide +kernel⟩, ⟨(up.onScout fun x =>
    { x with phTarget := some 1, phEdges := 8 }).onClk fun c => { c with beat := 16000 }, 1, by decide +kernel⟩, ⟨up.onScout fun x =>
    { x with state := .acquiring, freq := some 19, lockBeats := 10000000 }, by decide +kernel⟩, ⟨up.onScout fun x =>
    { x with state := .locked, freq := some 19, strayBeats := 8000 }, by decide +kernel⟩, ⟨up.onScout fun x =>
    { x with state := .hand, wordNext := some (-200000000000) }, -200000000000, by decide +kernel⟩, ⟨up.onScout fun x =>
    { x with state := .hand, handBeats := 8000 }, by decide +kernel⟩, ⟨up.onScout fun x => { x with state := .locked, freq := some 19 },
    ⟨by decide +kernel, fun _ h => nomatch h⟩⟩, ⟨up.onScout fun x => { x with hist := List.replicate 72000 (1, 0, true) }, ⟨by simp only
    [State.onScout, List.filter_replicate, if_true, List.length_replicate, le_refl], fun _ h => nomatch h⟩⟩, ⟨up.onScout fun x =>
    { x with state := .holdover }, by decide +kernel⟩, ⟨up, by decide +kernel⟩, ⟨up.onScout fun x =>
    { x with todPend := some (15999, 0xFFFFFFFFFFFF, 1) }, 15999, 0xFFFFFFFFFFFF, 1, by decide +kernel⟩, ⟨up.onScout fun x =>
    { x with outputs := [(10, { squelched := true })] }, 10, by decide +kernel⟩⟩

theorem witness_BusEvents :
    (∃ (s : State) (m : _) (addr : _), m < 14 ∧ connected s m (targetOf s addr) = true ∧ worldBreach s m addr = none) ∧
    (∃ (s : State) (m : _) (addr : _), m < 14 ∧ connected s m (targetOf s addr) = false) ∧
    (∃ (s : State) (m : _) (addr : _) (i : Nat), m < 14 ∧ connected s m (targetOf s addr) = true ∧ worldBreach s m addr = some i) ∧
    (∃ (s : State), s.bus.remap = false ∧ s.bus.sramOpen = true) ∧
    (∃ (s : State) (m : _) (addr : _) (off : _), sramOff s addr = some off ∧ connected s m (.sram off) = true ∧ sramSealed s m off 1 = none
      ∧ off < 0x400000 ∧ s.bus.sramOpen = true ∧ off / 65536 ∉ s.bus.fenced) ∧
    (∃ (s : State) (m : _) (addr : _) (off : _) (double : Bool) (l : List Byte), sramOff s addr = some off ∧ connected s m (.sram off) =
      true ∧ sramSealed s m off 1 = none ∧ off < 0x400000 ∧ s.bus.sramOpen = true ∧ off / 65536 ∉ s.bus.fenced ∧ l ≠ [] ∧ off % 8 +
      l.length ≤ 8 ∧ (double = false ∨ l.length = 8)) ∧
    (∃ (s : State) (m : _) (addr : _) (off : _) (double : Bool) (l : List Byte), sramOff s addr = some off ∧ connected s m (.sram off) =
      true ∧ sramSealed s m off 1 = none ∧ off < 0x400000 ∧ s.bus.sramOpen = true ∧ off / 65536 ∉ s.bus.fenced ∧ l ≠ [] ∧ off % 8 +
      l.length ≤ 8 ∧ (double = false ∨ l.length = 8)) ∧
    (∃ (s : State) (m : _) (addr : _) (off : _) (l : List Byte), sramOff s addr = some off ∧ connected s m (.sram off) = true ∧ sramSealed
      s m off 1 = none ∧ off < 0x400000 ∧ s.bus.sramOpen = true ∧ off / 65536 ∉ s.bus.fenced ∧ l ≠ [] ∧ l.length < 8 ∧ off % 8 + l.length ≤
      8) ∧
    (∃ (s : State) (m : _) (addr : _) (off : _) (l : List Nat), sramOff s addr = some off ∧ connected s m (.sram off) = true ∧ sramSealed s
      m off l.length = none ∧ off + l.length < 0x400000 ∧ s.bus.sramOpen = true ∧ off / 65536 ∈ s.bus.fenced) ∧
    (∃ (s : State), s.bus.sramOpen = true ∧ s.mode ≠ .lean ∧ s.bus.bgLine + 1 < 65536 ∧ (s.bus.fenced.contains ((s.bus.bgLine + 1) / 1024))
      = false ∧ ((∀ e, e ∈ s.bus.sramWrong → ¬(e.1 / 8 = s.bus.bgLine ∧ e.2 = 1)))) ∧
    (∃ (s : State), s.bus.sramOpen = true ∧ s.mode ≠ .lean) ∧
    (∃ (s : State) (d : _) (line : _), d < 4 ∧ (s.chan d).state = 0 ∧ s.mode ≠ .lean ∧ line ∉ (s.chan d).poison) ∧
    (∃ (s : State) (d : _) (line : _) (outcome : _), d < 4 ∧ (s.chan d).state = 0 ∧ s.mode ≠ .lean ∧ (outcome = 3 ∨ line ∈ (s.chan
      d).poison)) ∧
    (∃ (s : State) (d : _) (line : _) (outcome : _), d < 4 ∧ (s.chan d).state = 0 ∧ s.mode ≠ .lean ∧ (outcome = 3 ∨ line ∈ (s.chan
      d).poison)) ∧
    (∃ (s : State) (d : _), d < 4 ∧ (s.chan d).size ≠ 0) :=
  ⟨⟨up, 13, 0x20000000, by decide +kernel⟩, ⟨up, 13, 0xFFFFFFFFFF, by decide +kernel⟩, ⟨up.onSec fun c =>
    { c with ddr := [(31, { base := 0, size := 1, channel := 3, isSealed := true })] }, 11, 0x4300000000, 159, by decide +kernel⟩, ⟨up,
    by decide +kernel⟩, ⟨up, 13, 0x203FFFFF, 0x3FFFFF, by decide +kernel⟩, ⟨up, 13, 0x203FFFF8, 0x3FFFF8, true, [1, 2, 3, 4, 5, 6, 7, 8],
    by decide +kernel⟩, ⟨up.onBus fun b => { b with remap := true }, 13, 0x7, 7, false, [1], by decide +kernel⟩, ⟨up, 13, 0x203FFFFF,
    0x3FFFFF, [1], by decide +kernel⟩, ⟨up.onBus fun b => { b with fenced := [63] }, 13, 0x203F0000, 0x3F0000, [1], by decide +kernel⟩,
    ⟨up.onBus fun b => { b with bgLine := 65534 }, by decide +kernel⟩, ⟨up, by decide +kernel⟩, ⟨up, 3, 1073741823, by decide +kernel⟩,
    ⟨up, 3, 1073741823, 3, by decide +kernel⟩, ⟨up.onChan 3 fun c => { c with poison := [5] }, 3, 5, 0, by decide +kernel⟩, ⟨up, 3,
    by decide +kernel⟩⟩

theorem witness_TestEvents :
    (∃ (s : State) (k : _) (i : Nat) (sp : _), s.keeper.serving = true ∧ s.test.suspended = false ∧ s.test.slice = none ∧ sliceMode s =
      true ∧ s.test.position < 127 ∧ sliceUnit s.test.position = (k, i) ∧ unitStung s k i = false ∧ s.test.forSuspended = false ∧ k ≤ 2 ∧
      carrier s k i = none ∧ unitFailed s k i = false ∧ unitBusy s k i = true ∧ freeSpare s k = some sp) ∧
    (∃ (s : State) (k : _) (i : Nat), s.keeper.serving = true ∧ s.test.suspended = false ∧ s.test.slice = none ∧ sliceMode s = true ∧
      s.test.position < 127 ∧ sliceUnit s.test.position = (k, i) ∧ unitStung s k i = false ∧ s.test.forSuspended = false ∧ k ≤ 2 ∧ carrier
      s k i = none ∧ unitFailed s k i = false ∧ unitBusy s k i = false ∧ ((k = 1 → i = 32 → s.test.f32 = none)) ∧ ((k = 1 → i = 33 →
      s.test.f33 = none)) ∧ ((k = 2 → i = 24 → s.test.n24 = none))) ∧
    (∃ (s : State) (k : _) (i : Nat), s.keeper.serving = true ∧ s.test.suspended = false ∧ s.test.slice = none ∧ sliceMode s = true ∧
      s.test.position < 127 ∧ sliceUnit s.test.position = (k, i) ∧ unitStung s k i = false ∧ s.test.forSuspended = false ∧ k = 5 ∧ s.coreOf
      i = .relief) ∧
    (∃ (s : State) (k : _) (i : Nat) (r : _), s.keeper.serving = true ∧ s.test.suspended = false ∧ s.test.slice = none ∧ sliceMode s = true
      ∧ s.test.position < 127 ∧ sliceUnit s.test.position = (k, i) ∧ unitStung s k i = false ∧ s.test.forSuspended = false ∧ k = 5 ∧
      s.guard.cores.length = 4 ∧ s.coreOf i = .working ∧ reliefCore s = some r) ∧
    (∃ (s : State) (k : _) (i : Nat), s.keeper.serving = true ∧ s.test.suspended = false ∧ s.test.slice = none ∧ sliceMode s = true ∧
      s.test.position < 127 ∧ sliceUnit s.test.position = (k, i) ∧ unitStung s k i = false ∧ s.test.forSuspended = false ∧ k = 3 ∧
      unitFailed s 3 i = false) ∧
    (∃ (s : State), s.keeper.serving = true ∧ s.test.suspended = false ∧ s.test.slice.isSome = true) ∧
    (∃ (s : State) (x : _), s.test.slice = some x ∧ x.stage ≠ 2 ∧ x.shadow = false ∧ x.handover ≤ s.now + shadowBeats s x.kind x.index) ∧
    (∃ (s : State) (x : _), s.test.slice = some x ∧ x.kind = 2 ∧ x.stage ≠ 2 ∧ x.shadow = true ∧ x.handover ≤ s.now ∧ x.toSpare = true ∧
      x.hold = false) ∧
    (∃ (s : State) (x : _), s.test.slice = some x ∧ x.stage ≠ 2 ∧ x.shadow = true) ∧
    (∃ (s : State) (x : _) (one : _), s.test.slice = some x ∧ x.stage = 2 ∧ x.kind = 2 ∧ testPasses 2 one = true ∧ x.spare = none ∧ carrier
      s 2 x.index = none) ∧
    (∃ (s : State) (x : _) (one : _) (two : _), s.test.slice = some x ∧ x.stage = 2 ∧ x.kind = 2 ∧ testPasses 2 one = false ∧ testPasses 2
      two = false) ∧
    (∃ (s : State) (i : Nat) (x : Sting), s.test.stings[i]? = some x ∧ x.waits = false ∧ x.due = false ∧ x.args.mode ≠ 2 ∧ x.args.point =
      7) ∧
    (∃ (s : State) (i : Nat) (x : Sting), s.test.stings[i]? = some x ∧ x.waits = false ∧ x.due = false ∧ x.args.mode ≠ 2 ∧ x.args.point =
      0x22 ∧ x.left ≤ 1) ∧
    (∃ (s : State) (n : _) (x : Sting), s.test.stings = [x] ∧ x.due = true ∧ x.left = 0 ∧ onLaneFrame n x.args = true) ∧
    (∃ (s : State) (n : _) (g : _), s.test.tracerK ≠ 0 ∧ n < 256 ∧ g < 192 ∧ (s.lane n).works = true ∧ s.mode ≠ .lean ∧ s.test.lfsr % 2 ^
      s.test.tracerK = 0 ∧ s.test.inFlight.length + legsOf n g s ≤ 4096) ∧
    (∃ (s : State) (id : _) (flags : _), (s.test.inFlight.find? fun e => e.1 == id).isSome = true ∧ bit flags 3 = false ∧ ringTakes
      s.test.tracerPort 4 s = true) :=
  ⟨⟨(up.onVc 92 0 fun x => { x with cfg := ⟨92, 0, 1, 2, 1, 0, 0, 2, 0⟩ }).onTest fun t => { t with position := 57 }, 2, 23, 24,
    by decide +kernel⟩, ⟨up.onTest fun t => { t with position := 31 }, 1, 31, by decide +kernel⟩, ⟨up.onTest fun t =>
    { t with position := 62 }, 5, 3, by decide +kernel⟩, ⟨up.onTest fun t => { t with position := 59 }, 5, 0, 3, by decide +kernel⟩,
    ⟨up.onTest fun t => { t with position := 126 }, 3, 63, by decide +kernel⟩, ⟨up.onTest fun t =>
    { t with slice := some { kind := 2, index := 23, spare := some 24, stage := 1, handover := 16100 } }, by decide +kernel⟩, ⟨up.onTest
    fun t => { t with slice := some { kind := 2, index := 23, spare := some 24, stage := 1, handover := 15999 } },
    { kind := 2, index := 23, spare := some 24, stage := 1, handover := 15999 }, by decide +kernel⟩, ⟨up.onTest fun t =>
    { t with slice := some { kind := 2, index := 23, spare := some 24, stage := 1, handover := 15999, shadow := true } },
    { kind := 2, index := 23, spare := some 24, stage := 1, handover := 15999, shadow := true }, by decide +kernel⟩, ⟨up.onTest fun t =>
    { t with slice := some { kind := 2, index := 23, spare := some 24, stage := 1, handover := 15999, shadow := true } },
    { kind := 2, index := 23, spare := some 24, stage := 1, handover := 15999, shadow := true }, by decide +kernel⟩, ⟨up.onTest fun t =>
    { t with slice := some { kind := 2, index := 23, spare := none, stage := 2, handover := 15999 } },
    { kind := 2, index := 23, spare := none, stage := 2, handover := 15999 }, ⟨Config.testSignature 2, true⟩, rfl, rfl, rfl, by simp
    [testPasses], rfl, by decide +kernel⟩, ⟨up.onTest fun t =>
    { t with slice := some { kind := 2, index := 23, spare := some 24, stage := 2, handover := 15999 } },
    { kind := 2, index := 23, spare := some 24, stage := 2, handover := 15999 }, ⟨0, false⟩, ⟨1, false⟩, rfl, rfl, rfl, by simp
    [testPasses], by simp [testPasses]⟩, ⟨up.onTest fun t => { t with stings := [{ args := ⟨7, 1, 255, 0, 0, 0, 9⟩, left := 1 }] }, 0,
    { args := ⟨7, 1, 255, 0, 0, 0, 9⟩, left := 1 }, by decide +kernel⟩, ⟨up.onTest fun t =>
    { t with stings := [{ args := ⟨0x22, 1, 0, 0, 0, 0, 0⟩, left := 1 }] }, 0, { args := ⟨0x22, 1, 0, 0, 0, 0, 0⟩, left := 1 },
    by decide +kernel⟩, ⟨up.onTest fun t => { t with stings := [{ args := ⟨7, 1, 255, 0, 0, 0, 9⟩, left := 0, due := true }] }, 255,
    { args := ⟨7, 1, 255, 0, 0, 0, 9⟩, left := 0, due := true }, by decide +kernel⟩, ⟨(sdhLane 255 up).onTest fun t =>
    { t with tracerK := 24, lfsr := 2 ^ 24 }, 255, 191, by decide +kernel⟩, ⟨(up.onTest fun t =>
    { t with inFlight := [(5, 0, 0, 0, 15990)], tracerPort := 1 }).onRing 1 4 fun r => { r with enable := true, log2 := 3, tail := 7 }, 5,
    0, by decide +kernel⟩⟩

theorem witness_SecurityEvents :
    (∃ (p : _), p < 2) ∧
    (∃ (s : State) (p : _), p < 2 ∧ (s.chal p).locked = true) ∧
    (∃ (s : State) (w : _) (p : _) (offset : _), s.sec.dataWait = some w ∧ w.hdr.port = p ∧ s.sec.updState ≠ 0 ∧ offset ≠ 0) ∧
    (∃ (s : State) (w : _), s.sec.activating = some w) ∧
    (∃ (s : State) (kind : _) (status : _) (w : _) (rest : _), s.sec.saving = (kind, status, w) :: rest) ∧
    (∃ (s : State) (status : _) (w : _) (rest : _), s.sec.saving = (2, status, w) :: rest) ∧
    (∃ (s : State) (w : _), s.sec.lifeWait = some w) ∧
    (∃ (s : State) (w : _) (r : _), s.sec.worldWait = some (w, 1, r) ∧ s.sec.worldQueue = []) ∧
    (∃ (s : State) (w : _) (kind : _) (r : _), s.sec.worldWait = some (w, kind, r) ∧ kind ≠ 1 ∧ s.sec.worldQueue = []) :=
  ⟨⟨1, by decide +kernel⟩, ⟨up.onChal 1 fun c => { c with locked := true, fails := 8 }, 1, by decide +kernel⟩, ⟨up.onSec fun c =>
    { c with dataWait := some ⟨hd, 15, 6, .update⟩, updState := 1 }, ⟨hd, 15, 6, .update⟩, 1, 65536, by decide +kernel⟩, ⟨up.onSec fun c =>
    { c with activating := some ⟨hd, 15, 6, .update⟩ }, ⟨hd, 15, 6, .update⟩, by decide +kernel⟩, ⟨up.onSec fun c =>
    { c with saving := [(3, 0, ⟨hd, 12, 2, .status⟩)] }, 3, 0, ⟨hd, 12, 2, .status⟩, [], by decide +kernel⟩, ⟨up.onSec fun c =>
    { c with saving := [(2, 0, ⟨hd, 10, 8, .status⟩)] }, 0, ⟨hd, 10, 8, .status⟩, [], by decide +kernel⟩, ⟨up.onSec fun c =>
    { c with lifeWait := some ⟨hd, 15, 5, .lifecycle⟩, lifePend := some 2 }, ⟨hd, 15, 5, .lifecycle⟩, by decide +kernel⟩, ⟨up.onSec fun c
    => { c with worldWait := some (⟨hd, 15, 4, .status⟩, 1, 31) }, ⟨hd, 15, 4, .status⟩, 31, by decide +kernel⟩, ⟨up.onSec fun c =>
    { c with worldWait := some (⟨hd, 15, 4, .status⟩, 2, 31) }, ⟨hd, 15, 4, .status⟩, 2, 31, by decide +kernel⟩⟩

theorem witness_BeatAndKeeperWork :
    (∃ (s : State), s.clk.started = true) ∧
    (∃ (s : State) (w : _), s.clk.started = false ∧ s.mode = .provision ∧ s.clk.startPend = some w) ∧
    (∃ (s : State), s.keeper.present = true ∧ s.clk.snapA.consumed = true) ∧
    (∃ (s : State), s.keeper.present = true ∧ s.clk.snapB.consumed = true) ∧
    (∃ (s : State), s.keeper.serving = true) ∧
    (∃ (s : State), s.keeper.serving = true ∧ 8000 ≤ s.clk.handlerRun ∧ s.guard.keeperLost = false ∧ (autopilotMode s.mode = true ∨
      inPlaceMode s.mode = true) ∧ ((∀ e, e < 16 → (s.fqe e).valid = false))) ∧
    (∃ (s : State), s.keeper.serving = true ∧ s.clk.started = true ∧ (s.now % 8000 = 7999 ∨ (∃ k, k ∈ s.pm.doneSecs ∧ secondDue s k =
      true))) ∧
    (∃ (s : State) (i : Nat), i < 34 ∧ s.clk.started = true) ∧
    (∃ (s : State) (e : _) (day : _) (b : _), (autoBins (s.mon e) day s).head? = some b ∧ s.keeper.serving = true ∧ bit s.pm.auto (boolNat
      day) = true ∧ ringTakes s.pm.port 5 s = true) :=
  ⟨⟨up, by decide +kernel⟩, ⟨{ up with clk := { startPend := some ⟨hd, 10, 4, .start 5⟩ } }, ⟨hd, 10, 4, .start 5⟩, by decide +kernel⟩,
    ⟨up.onClk fun c => { c with snapA := { consumed := true, unreleased := true } }, by decide +kernel⟩, ⟨up.onClk fun c =>
    { c with snapB := { consumed := true, unreleased := true } }, by decide +kernel⟩, ⟨up, by decide +kernel⟩, ⟨up.onClk fun c =>
    { c with handlerRun := 8000 }, by decide +kernel⟩, ⟨up, by decide +kernel⟩, ⟨up, 33, by decide +kernel⟩, ⟨((up.onMon ⟨3, 191, 255, 0⟩
    fun m => { m with histDay := [{ start := 0, elapsed := 1 }] }).onPm fun x => { x with port := 1, auto := 3 }).onRing 1 5 (fun r =>
    { r with enable := true, log2 := 3, tail := 7 }) |>.onClk fun c => { c with beat := 88000 }, ⟨3, 191, 255, 0⟩, true,
    { start := 0, elapsed := 1 }, by decide +kernel⟩⟩

theorem witness_BufferMemoryStaysCanonical :
    (∃ (s : State) (t : State), Memory.wf s.bus.bar2 = true ∧ step s = .next t) ∧
    (∃ (s : State) (t : State), Memory.wf s.bus.sram = true ∧ step s = .next t) :=
  ⟨⟨{ up with pending := [.bar2Access 1 9 (some [7]) 1 false], bus := { up.bus with bar2 := [(3, 5)] } }, _, ⟨by decide +kernel, rfl⟩⟩,
    ⟨{ up with pending := [.sramEccError 0 0x20000009 false [7]], bus := { up.bus with sram := [(3, 5)] } }, _, ⟨by decide +kernel, rfl⟩⟩⟩



end Sys2Proof.Tests
end

section
/-!
PROOFS. The block (00 R15, 13 R402): what one step does. And the reads of the commands that also set (00 R16, 13 R410): op 0 of each
passes its gates without a session, and its own rules make of it an answer that leaves the state as it was.
-/

namespace Sys2Proof.Machine

open Sys2Proof

/-! ### One step -/

theorem step_nil {s : State} (h : s.pending = []) : step s = .next s := by
  unfold step; rw [h]

theorem step_cons (c : Instr) (rest : List Instr) (s : State) :
    step { s with pending := c :: rest } = exec c { s with pending := rest } := rfl

/-- Settles O1: `step` splits on the queue, and each of its two branches is one clause. -/
theorem stepRunsFront : Obligations.StepRunsFront :=
  ⟨step_cons, fun _ => step_nil⟩

/-! ### Commands that read -/

/-- The command answers OK with these fields, and what it changes besides is what every answer may change. -/
abbrev readsAs (i : Instr) (h : Hdr) (svc cmd : Nat) (fs : Fields) (s : State) : Prop :=
  ∃ t, exec i s = .next t ∧ answered h svc cmd stOk fs s t ∧ onlyChanges replyParts s t

/-- A command that needs no session and caps nothing, and whose rules answer with the state untouched, is a read. -/
theorem readsAs_of_serve {i : Instr} {h : Hdr} {svc cmd : Nat} {locked cap : Bool} {shape fs : Fields} {act : Act} {s : State}
    (hs : heard h s) (he : exec i s = done s (serve h svc cmd locked cap shape act s)) (hl : locked = false) (hc : cap = false)
    (ha : act = .ok fs s) : readsAs i h svc cmd fs s := by
  subst hl hc ha
  exact ⟨_, he, serve_answers hs (fun hcap => nomatch hcap) rfl⟩

theorem outside_eq_false {lo hi x : Nat} : outside lo hi x = false ↔ lo ≤ x ∧ x ≤ hi := by
  simp [outside]

/-! ### Op 0 of each command: its own rules -/

theorem cpriAxcAct_read {a : CpriAxcArgs} {s : State} (p : Nat) (hop : a.op = 0) (hlane : a.lane ≤ 255) (haxc : a.axc ≤ 47)
    (hdir : a.dir ≤ 1) (hen : a.enable ≤ 1) (hmode : isCpriMode (s.lane a.lane).mode = true) (hon : (s.lane a.lane).enable = 1)
    (htr : (s.cpriOf a.lane).cfg.transport = 0) (hin : axcOutside a (iqBits (cpriOption (s.lane a.lane).mode)) = false) :
    cpriAxcAct p a s = .ok (axcFields s a.lane a.axc a.dir) s := by
  have hline : isLineLane a.lane = true := decide_eq_true (by omega)
  simp [cpriAxcAct, hop, hline, Nat.not_lt.mpr haxc, Nat.not_lt.mpr hdir, Nat.not_lt.mpr hen, hmode, hon, htr, hin]

theorem combTestAct_read {a : CombTestArgs} (s : State) (hop : a.op = 0) (hlo : 416 ≤ a.port) (hhi : a.port ≤ 417) (hst : a.stream ≤ 63)
    (hbad : badStream a = false) : combTestAct a s = .ok (streamFields a.port a.stream s) s := by
  have hport : outside 416 417 a.port = false := outside_eq_false.mpr ⟨hlo, hhi⟩
  simp [combTestAct, hop, hport, Nat.not_lt.mpr hst, hbad]

theorem combTapAct_read {a : CombTapArgs} (p : Nat) (s : State) (hop : a.op = 0) (hlo : 1 ≤ a.beats) (hhi : a.beats ≤ 8000)
    (hal : a.bar2 % 1024 = 0) : combTapAct p a s = .ok (tapFields s) s := by
  have hbeats : outside 1 8000 a.beats = false := outside_eq_false.mpr ⟨hlo, hhi⟩
  simp [combTapAct, hop, hbeats, hal]

theorem poolChannelAct_read {d : Nat} (h : Hdr) (s : State) (hd : d ≤ 3) : poolChannelAct h d 0 s = .ok (channelFields s d) s := by
  simp [poolChannelAct, Nat.not_lt.mpr hd]

theorem scoutTodAct_read {a : ScoutTodArgs} (p : Nat) (s : State) (hop : a.op = 0) (hbfn : a.bfnMode ≤ 1) :
    scoutTodAct p a s = .ok (todFields s) s := by
  simp [scoutTodAct, hop, Nat.not_lt.mpr hbfn]

theorem scoutSteerAct_read {a : ScoutSteerArgs} (s : State) (hop : a.op = 0) (hlo : 1 ≤ a.count) (hhi : a.count ≤ 64) :
    scoutSteerAct a s = .ok (steerFields a.count s) s := by
  have hcount : outside 1 64 a.count = false := outside_eq_false.mpr ⟨hlo, hhi⟩
  simp [scoutSteerAct, hop, hcount]

theorem scoutModelAct_read {a : ScoutModelArgs} (h : Hdr) (s : State) (hop : a.op = 0) (hbin : a.firstBin ≤ 539) (hlo : 1 ≤ a.count)
    (hhi : a.count ≤ 64) : scoutModelAct h a s = .ok (modelFields s 0 a.firstBin a.count) s := by
  have hcount : outside 1 64 a.count = false := outside_eq_false.mpr ⟨hlo, hhi⟩
  simp [scoutModelAct, hop, Nat.not_lt.mpr hbin, hcount]

theorem powerTableAct_read {a : PowerTableArgs} (h : Hdr) (s : State) (hop : a.op = 0) (hslot : a.slot ≤ 15)
    (hbad : badPowerEntry a.entry = false) : powerTableAct h a s = .ok (powerTableFields a.slot s) s := by
  simp [powerTableAct, hop, Nat.not_lt.mpr hslot, hbad]

theorem testBistAct_read {a : TestBistArgs} (s : State) (hop : a.op = 0) (hbad : badBist a = false) :
    testBistAct a s = .ok (bistFields s) s := by
  simp [testBistAct, hop, hbad, bistOk]

theorem secWorldAct_read {a : SecWorldArgs} (h : Hdr) (s : State) (hop : a.op = 0) (hbad : badWorld a = false) :
    secWorldAct h a s = .ok (worldFields s a) s := by
  simp [secWorldAct, hop, hbad]

theorem secLifecycleAct_read (h : Hdr) (k : Token) (s : State) : secLifecycleAct h 0 k s = .ok (lifeFields s) s := rfl

theorem secUpdateAct_read (h : Hdr) (off : Nat) (s : State) : secUpdateAct h 0 off s = .ok (updateFields s) s := rfl

/-- Settles O5: at op 0 each command's rules answer with the state untouched, and none of its gates asks for a session or a capping
mode, so each is a read. -/
theorem opZeroReadsAnswer : Obligations.OpZeroReadsAnswer := by
  intro h s hs
  refine ⟨?cpriAxc, ?combTest, ?combTap, ?poolChannel, ?scoutTod, ?scoutSteer, ?scoutModel, ?powerTable, ?testBist, ?secWorld,
    ?secLifecycle, ?secUpdate⟩
  case cpriAxc =>
    intro a hop hlane haxc hdir hen hmode hon htr hin
    exact readsAs_of_serve hs rfl (by simp [hop]) (by simp [hop]) (cpriAxcAct_read h.port hop hlane haxc hdir hen hmode hon htr hin)
  case combTest =>
    intro a hop hlo hhi hst hbad
    exact readsAs_of_serve hs rfl (by simp [hop]) rfl (combTestAct_read s hop hlo hhi hst hbad)
  case combTap =>
    intro a hop hlo hhi hal
    exact readsAs_of_serve hs rfl (by simp [hop]) rfl (combTapAct_read h.port s hop hlo hhi hal)
  case poolChannel =>
    intro ch hch
    exact readsAs_of_serve hs rfl rfl rfl (poolChannelAct_read h s hch)
  case scoutTod =>
    intro a hop hbfn
    exact readsAs_of_serve hs rfl (by simp [hop]) (by simp [hop]) (scoutTodAct_read h.port s hop hbfn)
  case scoutSteer =>
    intro a hop hlo hhi
    exact readsAs_of_serve hs rfl (by simp [hop]) rfl (scoutSteerAct_read s hop hlo hhi)
  case scoutModel =>
    intro a hop hbin hlo hhi
    exact readsAs_of_serve hs rfl (by simp [hop]) rfl (scoutModelAct_read h s hop hbin hlo hhi)
  case powerTable =>
    intro a hop hslot hbad
    exact readsAs_of_serve hs rfl (by simp [hop]) rfl (powerTableAct_read h s hop hslot hbad)
  case testBist =>
    intro a hop hbad
    exact readsAs_of_serve hs rfl (by simp [hop]) rfl (testBistAct_read s hop hbad)
  case secWorld =>
    intro a hop hbad
    exact readsAs_of_serve hs rfl (by simp [hop]) rfl (secWorldAct_read h s hop hbad)
  case secLifecycle =>
    intro k
    exact readsAs_of_serve hs rfl rfl rfl (secLifecycleAct_read h k s)
  case secUpdate =>
    intro off
    exact readsAs_of_serve hs rfl rfl rfl (secUpdateAct_read h off s)

end Sys2Proof.Machine
end

section
/-!
PROOFS. The start of the beat (02 R44): the answer to the command that waits for it goes to the response queue that the command's header
names, and publishing it drives that queue's event source (13 R399, R421). Only a header of a queue that exists names a source of the
host ports; the source of any other may belong to the Guard, which keeps a sticky copy (14 R449).
-/

namespace Sys2Proof.Machine

open Sys2Proof

/-- A source of the Guard's group that goes high leaves its mark in the sticky copy. -/
theorem driveSrc_guard_events {n : Nat} (s : State) (hn : 211 ≤ n ∧ n ≤ 242) (hlow : (s.src n).asserted = false) :
    (driveSrc n true s).guard.events = withBit s.guard.events (n - 211) := by
  simp [driveSrc, hlow, sticky, hn]

/-- A response to a queue whose source lies in the Guard's group is marked there too. -/
theorem publishRsp_guard_events {p q : Nat} (m : List QWord) (s : State) (hf : ((s.port p).rspOf q).flush = false)
    (hn : 211 ≤ portSrc p q ∧ portSrc p q ≤ 242) (hlow : (s.src (portSrc p q)).asserted = false) :
    (publishRsp p q m s).guard.events = withBit s.guard.events (portSrc p q - 211) := by
  simp only [publishRsp, hf, Bool.false_eq_true, if_false]
  exact driveSrc_guard_events _ hn hlow

/-- BEAT_START with the epoch at the moment of the command (11 R339): the command is answered and no free value is drawn. -/
theorem beatStarts_at_command {s : State} {w : Waiter} (hidle : s.clk.started = false) (hmode : s.mode = .provision)
    (hw : s.clk.startPend = some w) (hkind : w.kind = .start 2) :
    beatStarts s =
      respond w.hdr w.service w.command stOk [(1, 2), (5, 0)]
        (s.onClk fun c => { c with started := true, beat := 0, startPend := none }) := by
  simp [beatStarts, hidle, hmode, hw, startPhase, answer, hkind, replyFields]

/-- A scout.start of port B on queue 64, where a port has the queues 0 to 3 (13 R389): a header that no well-formed command has, and
that `serve`, which looks at the port alone, does not refuse. -/
def strayStart : Waiter := ⟨{ port := 1, queue := 64, seq := 0, tag := 0 }, 10, 4, .start 2⟩

/-- Provision, with that command waiting for the beat to start. -/
def strayStartWaits : State := { mode := .provision, clk := { startPend := some strayStart } }

/-- Its answer drives source 211, the Guard's first. -/
theorem strayStart_marks_guard (t : State) (ht : exec .beatStart strayStartWaits = .next t) : t.guard.events = 1 := by
  have hrun : exec .beatStart strayStartWaits = .next (counted strayStartWaits (beatStarts strayStartWaits)) := rfl
  obtain rfl : counted strayStartWaits (beatStarts strayStartWaits) = t := by simpa [hrun] using ht
  rw [counted_guard, beatStarts_at_command (w := strayStart) rfl rfl rfl rfl]
  exact publishRsp_guard_events _ _ rfl (by decide) rfl

/-- Refutes O58, by its clause on BEAT_START. The clause takes the command that waits as it comes and leaves its header free, but lists
no part of the Guard among those that may change: with scout.start waiting on queue 64 of port B, the answer drives source
131 + 16 + 64 = 211 and so sets bit 0 of GD_EVENTS. What fails is the missing bound on the header's port and queue. -/
theorem not_beatAndKeeperWork : ¬ Obligations.BeatAndKeeperWork := by
  unfold Obligations.BeatAndKeeperWork
  intro h
  obtain ⟨-, hstart, -⟩ := h strayStartWaits
  obtain ⟨t, ht, honly, -⟩ := hstart strayStart rfl rfl rfl
  have hguard : t.guard = strayStartWaits.guard := honly .guard (by decide)
  have hmark : t.guard.events = 1 := strayStart_marks_guard t ht
  have hclear : strayStartWaits.guard.events = 0 := rfl
  rw [hguard, hclear] at hmark
  exact absurd hmark (by decide)

end Sys2Proof.Machine
end

section
/-!
PROOFS. What a command leaves: which parts each shared operation changes, and from it the two shapes of an accepted command, one that
is answered at once and one that forms a ticket (02 R56-R64; 13 R402).
-/

namespace Sys2Proof.Machine

open Sys2Proof

/-! ### Parts left alone -/

theorem Part.same_trans {s t u : State} {p : Part} (hst : p.same s t) (htu : p.same t u) : p.same s u := by
  cases p <;> exact Eq.trans htu hst

theorem onlyChanges_refl (ps : List Part) (s : State) : onlyChanges ps s s := by
  intro p _
  cases p <;> rfl

theorem onlyChanges_mono {ps qs : List Part} {s t : State} (h : onlyChanges ps s t) (hsub : ps ⊆ qs) : onlyChanges qs s t :=
  fun p hp => h p fun hmem => hp (hsub hmem)

theorem onlyChanges_trans {ps : List Part} {s t u : State} (hst : onlyChanges ps s t) (htu : onlyChanges ps t u) :
    onlyChanges ps s u :=
  fun p hp => Part.same_trans (hst p hp) (htu p hp)

/-- Two steps in a row change what either of them changes. -/
theorem onlyChanges_append {ps qs : List Part} {s t u : State} (hst : onlyChanges ps s t) (htu : onlyChanges qs t u) :
    onlyChanges (ps ++ qs) s u :=
  onlyChanges_trans (onlyChanges_mono hst (List.subset_append_left ps qs)) (onlyChanges_mono htu (List.subset_append_right ps qs))

/-! ### What each operation changes -/

theorem onClk_only (s : State) (f : Clock → Clock) : onlyChanges [.clk] s (s.onClk f) := by
  intro p hp
  cases p <;> simp_all [Part.same]

theorem setBatch_only (s : State) (p : Nat) (b : Option Batch) : onlyChanges [.clk] s (s.setBatch p b) := onClk_only s _

theorem onLane_only (s : State) (n : Nat) (f : Lane → Lane) : onlyChanges [.lanes] s (s.onLane n f) := by
  intro p hp
  cases p <;> simp_all [Part.same]

theorem setCal_only (s : State) (n g : Nat) (c : UserCal) : onlyChanges [.userCal] s (s.setCal n g c) := by
  intro p hp
  cases p <;> simp_all [Part.same]

theorem onSdh_only (s : State) (n : Nat) (f : SdhPort → SdhPort) : onlyChanges [.sdh] s (s.onSdh n f) := by
  intro p hp
  cases p <;> simp_all [Part.same]

theorem onCpri_only (s : State) (n : Nat) (f : CpriPort → CpriPort) : onlyChanges [.cpri] s (s.onCpri n f) := by
  intro p hp
  cases p <;> simp_all [Part.same]

theorem onAxc_only (s : State) (n d i : Nat) (f : Axc → Axc) : onlyChanges [.axcs] s (s.onAxc n d i f) := by
  intro p hp
  cases p <;> simp_all [Part.same]

theorem renewLeases_only (p : Nat) (s : State) : onlyChanges [.sems] s (renewLeases p s) := by
  intro q hq
  cases q <;> simp_all [Part.same]

theorem mirrorSend_only (r : MirrorRec) (s : State) : onlyChanges [.hive] s (mirrorSend r s) := by
  intro p hp
  cases p <;> simp_all [Part.same]

theorem counted_only (s t : State) : onlyChanges [.ev, .tally] t (counted s t) := by
  intro p hp
  cases p <;> simp_all [Part.same]

/-- A response to a queue of a port that exists moves the queue and its event source. -/
theorem respondRaw_only {h : Hdr} {svc cmd st : Nat} {fs : Fields} {s : State} (hs : heard h s) (t : State) :
    onlyChanges [.ports, .ev] t (respondRaw h svc cmd st fs t) := by
  obtain ⟨-, hport, hqueue, -⟩ := hs
  have hguard := publishRsp_guard_same h.port h.queue (message h.seq svc cmd (1 + 8 * boolNat h.late) h.tag ((2, (st : Int)) :: fs)) t
    hport hqueue
  have hhive := publishRsp_hive_same h.port h.queue (message h.seq svc cmd (1 + 8 * boolNat h.late) h.tag ((2, (st : Int)) :: fs)) t
    hport hqueue
  have hpower := publishRsp_power_same h.port h.queue (message h.seq svc cmd (1 + 8 * boolNat h.late) h.tag ((2, (st : Int)) :: fs)) t
    hport hqueue
  intro p hp
  cases p <;> simp_all [Part.same, respondRaw]

/-! ### Writes that take effect at once -/

/-- Such writes are applied, and go into the mirror stream. -/
theorem writeLive_applies (ls : List Live) (s : State) : onlyChanges [.hive] (applyLives ls s) (writeLive ls s) := by
  unfold writeLive
  split
  next hnil => subst hnil; exact onlyChanges_refl _ _
  next => exact mirrorSend_only _ _

theorem writeLive_only {ps : List Part} {ls : List Live} {s : State} (h : onlyChanges ps s (applyLives ls s)) :
    onlyChanges (ps ++ [.hive]) s (writeLive ls s) :=
  onlyChanges_append h (writeLive_applies ls s)

theorem lane_eq {s t : State} (h : t.lanes = s.lanes) (n : Nat) : t.lane n = s.lane n := by simp [State.lane, h]
theorem sdhOf_eq {s t : State} (h : t.sdh = s.sdh) (n : Nat) : t.sdhOf n = s.sdhOf n := by simp [State.sdhOf, h]
theorem cpriOf_eq {s t : State} (h : t.cpri = s.cpri) (n : Nat) : t.cpriOf n = s.cpriOf n := by simp [State.cpriOf, h]
theorem calOf_eq {s t : State} (h : t.userCal = s.userCal) (n g : Nat) : t.calOf n g = s.calOf n g := by simp [State.calOf, h]
theorem batchOf_eq {s t : State} (h : t.clk = s.clk) (p : Nat) : t.batchOf p = s.batchOf p := by simp [State.batchOf, h]

@[simp] theorem writeLive_lane (ls : List Live) (s : State) (n : Nat) : (writeLive ls s).lane n = (applyLives ls s).lane n :=
  lane_eq (writeLive_applies ls s .lanes (by decide)) n
@[simp] theorem writeLive_sdhOf (ls : List Live) (s : State) (n : Nat) : (writeLive ls s).sdhOf n = (applyLives ls s).sdhOf n :=
  sdhOf_eq (writeLive_applies ls s .sdh (by decide)) n
@[simp] theorem writeLive_cpriOf (ls : List Live) (s : State) (n : Nat) : (writeLive ls s).cpriOf n = (applyLives ls s).cpriOf n :=
  cpriOf_eq (writeLive_applies ls s .cpri (by decide)) n
@[simp] theorem writeLive_calOf (ls : List Live) (s : State) (n g : Nat) : (writeLive ls s).calOf n g = (applyLives ls s).calOf n g :=
  calOf_eq (writeLive_applies ls s .userCal (by decide)) n g

/-! ### A unit, or a port's batch, read after a write -/

@[simp] theorem lane_onLane_same (s : State) (n : Nat) (f : Lane → Lane) : (s.onLane n f).lane n = f (s.lane n) := by
  simp [State.onLane, State.lane]
theorem lane_onLane_ne (s : State) {n m : Nat} (f : Lane → Lane) (h : m ≠ n) : (s.onLane n f).lane m = s.lane m := tget_tput_ne _ _ _ h
@[simp] theorem sdhOf_onSdh_same (s : State) (n : Nat) (f : SdhPort → SdhPort) : (s.onSdh n f).sdhOf n = f (s.sdhOf n) := by
  simp [State.onSdh, State.sdhOf]
theorem sdhOf_onSdh_ne (s : State) {n m : Nat} (f : SdhPort → SdhPort) (h : m ≠ n) : (s.onSdh n f).sdhOf m = s.sdhOf m :=
  tget_tput_ne _ _ _ h
@[simp] theorem cpriOf_onCpri_same (s : State) (n : Nat) (f : CpriPort → CpriPort) : (s.onCpri n f).cpriOf n = f (s.cpriOf n) := by
  simp [State.onCpri, State.cpriOf]
theorem cpriOf_onCpri_ne (s : State) {n m : Nat} (f : CpriPort → CpriPort) (h : m ≠ n) : (s.onCpri n f).cpriOf m = s.cpriOf m :=
  tget_tput_ne _ _ _ h
@[simp] theorem calOf_setCal_same (s : State) (n g : Nat) (c : UserCal) : (s.setCal n g c).calOf n g = c := by
  simp [State.setCal, State.calOf]
@[simp] theorem batchOf_setBatch_same (s : State) (p : Nat) (b : Option Batch) : (s.setBatch p b).batchOf p = b := by
  unfold State.batchOf State.setBatch State.onClk
  split <;> rfl
@[simp] theorem tickets_setBatch (s : State) (p : Nat) (b : Option Batch) : (s.setBatch p b).clk.tickets = s.clk.tickets := by
  unfold State.setBatch State.onClk
  split <;> rfl
@[simp] theorem started_setBatch (s : State) (p : Nat) (b : Option Batch) : (s.setBatch p b).clk.started = s.clk.started := by
  unfold State.setBatch State.onClk
  split <;> rfl
@[simp] theorem now_setBatch (s : State) (p : Nat) (b : Option Batch) : (s.setBatch p b).now = s.now := by
  unfold State.now State.setBatch State.onClk
  split <;> rfl

/-! ### The two shapes of an accepted command -/

/-- What a capping command asks of the device, whether or not a batch is open (02 R68; 12 R371). -/
abbrev mayCap (s : State) : Prop := capBlocked s.mode = false ∧ (s.hive.token && s.hive.switchPend.isSome) = false

/-- A command whose rules give an answer `fs` and a state `t`: it is answered at once, and `t` stands but for what every answer moves. -/
theorem exec_answers {i : Instr} {h : Hdr} {svc cmd : Nat} {locked cap : Bool} {shape fs : Fields} {act : Act} {ps : List Part}
    {s t : State} (hs : heard h s) (he : exec i s = done s (serve h svc cmd locked cap shape act s)) (hl : locked = false)
    (hc : cap = true → mayCap s) (ha : act = .ok fs t) (hp : onlyChanges ps s t) (hports : .ports ∉ ps) :
    ∃ u, exec i s = .next u ∧ answered h svc cmd stOk fs s u ∧ onlyChanges (ps ++ replyParts) s u ∧ onlyChanges replyParts t u := by
  subst hl ha
  obtain ⟨hans, honly⟩ := serve_answers (svc := svc) (cmd := cmd) (shape := shape) (fs := fs) hs hc (hp .ports hports)
  exact ⟨_, he, hans, onlyChanges_append hp honly, honly⟩

/-- A capping command whose rules give changes `cs` and a state `t` of its other effects: a ticket holds `cs`, and `t` stands. -/
theorem exec_tickets {i : Instr} {h : Hdr} {svc cmd : Nat} {locked cap : Bool} {shape : Fields} {act : Act} {c : Change}
    {kind : ReplyKind} {ps : List Part} {s t : State} (hs : heard h s) (hm : mayTicket h s)
    (he : exec i s = done s (serve h svc cmd locked cap shape act s)) (hl : locked = false) (hc : cap = true)
    (ha : act = .cap [c] kind t) (hsize : tooLarge [c] = false) (hp : onlyChanges (ps ++ [.hive]) s t) (hclk : .clk ∉ ps) :
    ∃ u, exec i s = .next u ∧ ticketed h svc cmd kind [c] s u ∧ onlyChanges (ps ++ ticketParts) s u ∧ onlyChanges ticketParts t u := by
  subst hl hc ha
  have htclk : t.clk = s.clk := hp .clk (by simpa using hclk)
  obtain ⟨u, hu, htick, hsame⟩ := serve_ticket (svc := svc) (cmd := cmd) (shape := shape) (kind := kind) hs hm (List.cons_ne_nil c [])
    hsize htclk
  have honly : onlyChanges ticketParts t (counted s u) :=
    onlyChanges_trans (onlyChanges_mono hsame (by decide)) (onlyChanges_mono (counted_only s u) (by decide))
  refine ⟨counted s u, by rw [he, hu]; rfl, ?_, ?_, honly⟩
  · simpa [ticketed] using htick
  · have hhive : [Part.hive] ⊆ ticketParts := by decide
    exact onlyChanges_trans (onlyChanges_mono hp (List.append_subset.mpr
      ⟨List.subset_append_left ps _, fun x hx => List.mem_append_right ps (hhive hx)⟩))
      (onlyChanges_mono honly (List.subset_append_right ps _))

end Sys2Proof.Machine
end

section
/-!
PROOFS. The line services (03, 04, 05): what their writes change, and the class L settings, which act at once (02 R64).
-/

namespace Sys2Proof.Machine

open Sys2Proof

/-! ### Lanes -/

/-- A lane that is not enabled loses no consumer when it is set as a disabled one. -/
theorem laneChanges_disabled {n : Nat} {s : State} (loopback : Nat) (h : (s.lane n).enable ≠ 1) :
    laneChanges n 0 loopback s = applyLane n 0 loopback s := by
  simp [laneChanges, h]

theorem applyLane_only (n enable loopback : Nat) (s : State) : onlyChanges [.lanes] s (applyLane n enable loopback s) :=
  onLane_only s n _

theorem applyLane_lane_ne {n m : Nat} (enable loopback : Nat) (s : State) (h : m ≠ n) :
    (applyLane n enable loopback s).lane m = s.lane m :=
  lane_onLane_ne s _ h

/-- Setting a disabled lane takes its loopback and leaves its other settings. -/
theorem applyLane_off_settings (n loopback : Nat) (s : State) :
    ((applyLane n 0 loopback s).lane n).loopback = loopback ∧ ((applyLane n 0 loopback s).lane n).mode = (s.lane n).mode ∧
      ((applyLane n 0 loopback s).lane n).align = (s.lane n).align ∧
      ((applyLane n 0 loopback s).lane n).polarity = (s.lane n).polarity ∧
      ((applyLane n 0 loopback s).lane n).scramble = (s.lane n).scramble ∧
      ((applyLane n 0 loopback s).lane n).losThr = (s.lane n).losThr ∧
      ((applyLane n 0 loopback s).lane n).dfeAdapt = (s.lane n).dfeAdapt := by
  simp [applyLane]

theorem prbsFields_eq {s t : State} {n : Nat} (h : t.lane n = s.lane n) : prbsFields n t = prbsFields n s := by
  simp [prbsFields, h]

theorem calFields_eq {s t : State} {n g : Nat} (h : t.calOf n g = s.calOf n g) : calFields t n g = calFields s n g := by
  simp [calFields, h]

theorem slipLane_only (n : Nat) (s : State) : onlyChanges [.lanes] s (slipLane n s) := onLane_only s n _

/-! ### One write that takes effect at once -/

theorem livePrbs_only (a : LanePrbsArgs) (s : State) : onlyChanges [.lanes] s (livePrbs a s) := onLane_only s a.lane _
theorem liveTrim_only (n : Nat) (trim : Int) (s : State) : onlyChanges [.lanes] s (liveTrim n trim s) := onLane_only s n _
theorem liveSdhOh_only (a : SdhOhArgs) (s : State) : onlyChanges [.sdh] s (liveSdhOh a s) := onSdh_only s a.lane _
theorem liveCpriCm_only (a : CpriCmArgs) (s : State) : onlyChanges [.cpri] s (liveCpriCm a s) := onCpri_only s a.lane _

/-! ### Class L settings -/

/-- Settles O8: the rules of each command answer with the state in which its class L writes are applied, and only the record of the lane
or port that it names is another one there. That lane.trim is taken and held on a lane in mode 0 is the model's choice (log 123). -/
theorem lineActionsAtOnce : Obligations.LineActionsAtOnce := by
  intro h s hs
  refine ⟨?prbs, ?slip, ?trim, ?sdhOh, ?cpriCm, ?cpriL1⟩
  case prbs =>
    intro a hown hlane hgen hchk hinv haction
    obtain ⟨u, hu, hans, hparts, hkeep⟩ := exec_answers (i := .lanePrbs h a) (ps := [.lanes, .hive]) hs rfl hown
      (fun hcap => nomatch hcap) (if_neg (by simp [hlane, hgen, hchk, hinv, haction]))
      (writeLive_only (ps := [.lanes]) (livePrbs_only a s)) (by decide)
    have hlanes : ∀ m, u.lane m = (livePrbs a s).lane m :=
      fun m => (lane_eq (hkeep .lanes (by decide)) m).trans (writeLive_lane _ s m)
    refine ⟨u, hu, ?_, hparts, ?_⟩
    · rwa [prbsFields_eq (lane_eq (hkeep .lanes (by decide)) a.lane)]
    · simp +contextual [hlanes, livePrbs, lane_onLane_ne]
  case slip =>
    intro n hown hline halign hmode
    have hlane : isLineLane n = true ∧ isHiveLane n = false := by simp [isLineLane, isHiveLane]; omega
    obtain ⟨u, hu, hans, hparts, hkeep⟩ := exec_answers (i := .laneSlip h n) (ps := [.lanes]) (t := slipLane n s)
      (fs := [(1, ((slipLane n s).lane n).position)]) hs rfl hown (fun hcap => nomatch hcap)
      (by simp [hlane, halign, hmode, show ¬ 259 < n by omega]) (slipLane_only n s) (by decide)
    have hlanes : ∀ m, u.lane m = (slipLane n s).lane m := lane_eq (hkeep .lanes (by decide))
    refine ⟨u, hu, ?_, hparts, ?_⟩
    · simpa [slipLane] using hans
    · simp +contextual [hlanes, slipLane, lane_onLane_ne]
  case trim =>
    intro n trim hown hline hlo hhi howned hmode
    have hrange : ¬(trim < -200000) ∧ ¬(200000 < trim) := by omega
    have hfree : ¬(isSdhMode (s.lane n).mode = true ∧ ¬trim = 0) := by
      rintro ⟨hsdh, hne⟩
      rcases hmode with hmode | hzero
      · rw [hmode] at hsdh; exact absurd hsdh (by decide)
      · exact hne hzero
    obtain ⟨u, hu, hans, hparts, hkeep⟩ := exec_answers (i := .laneTrim h n trim) (ps := [.lanes, .hive]) (t := writeLive [.trim n trim] s)
      (fs := [(2, 0), (4, ((writeLive [.trim n trim] s).lane n).trimTarget), (4, ((writeLive [.trim n trim] s).lane n).trim)])
      hs rfl hown (fun hcap => nomatch hcap) (by simp [isLineLane, show n < 256 by omega, hrange, howned, hfree])
      (writeLive_only (ps := [.lanes]) (liveTrim_only n trim s)) (by decide)
    have hlanes : ∀ m, u.lane m = (liveTrim n trim s).lane m :=
      fun m => (lane_eq (hkeep .lanes (by decide)) m).trans (writeLive_lane _ s m)
    refine ⟨u, hu, ?_, hparts, ?_⟩
    · simpa [applyLives, applyLive, liveTrim] using hans
    · simp +contextual [hlanes, liveTrim, lane_onLane_ne]
  case sdhOh =>
    intro a hown hline hdcc how hport hmode hwill
    have hline' : isLineLane a.lane = true := decide_eq_true (by omega)
    obtain ⟨u, hu, hans, hparts, hkeep⟩ := exec_answers (i := .sdhOh h a) (ps := [.sdh, .hive]) hs rfl hown (fun hcap => nomatch hcap)
      ((if_neg (by simp [hline', hdcc, how, hport])).trans (if_neg (by simp [hmode, hwill])))
      (writeLive_only (ps := [.sdh]) (liveSdhOh_only _ s)) (by decide)
    have hsdh : ∀ m, u.sdhOf m = (liveSdhOh { a with capture := a.capture % 32, insert := a.insert % 32 } s).sdhOf m :=
      fun m => (sdhOf_eq (hkeep .sdh (by decide)) m).trans (writeLive_sdhOf _ s m)
    refine ⟨u, hu, hans, hparts, ?_⟩
    simp +contextual [hsdh, liveSdhOh, sdhOf_onSdh_ne]
  case cpriCm =>
    intro a hown hline hslow hfast hport hmode hwill htransport
    have hline' : isLineLane a.lane = true := decide_eq_true (by omega)
    obtain ⟨u, hu, hans, hparts, hkeep⟩ := exec_answers (i := .cpriCm h a) (ps := [.cpri, .hive]) hs rfl hown (fun hcap => nomatch hcap)
      ((if_neg (by simp [hline', hslow, hfast, hport])).trans ((if_neg (by simp [hmode, hwill])).trans (if_neg (by simp [htransport]))))
      (writeLive_only (ps := [.cpri]) (liveCpriCm_only _ s)) (by decide)
    have hcpri : ∀ m, u.cpriOf m = (liveCpriCm { a with capture := a.capture % 8, insert := a.insert % 8 } s).cpriOf m :=
      fun m => (cpriOf_eq (hkeep .cpri (by decide)) m).trans (writeLive_cpriOf _ s m)
    refine ⟨u, hu, hans, hparts, ?_⟩
    simp +contextual [hcpri, liveCpriCm, cpriOf_onCpri_ne]
  case cpriL1 =>
    intro n hown hline hmode hwill hrole hidle
    have hline' : isLineLane n = true := decide_eq_true (by omega)
    obtain ⟨u, hu, hans, hparts, hkeep⟩ := exec_answers (i := .cpriL1 h n 1) (ps := [.cpri]) (fs := reserved6)
      (t := s.onCpri n fun p => { p with resetLeft := 16, resetRun := 0 }) hs rfl hown (fun hcap => nomatch hcap)
      (by simp [hline', hmode, hwill, hrole, hidle, okStatus]) (onCpri_only s n _) (by decide)
    have hcpri : ∀ m, u.cpriOf m = (s.onCpri n fun p => { p with resetLeft := 16, resetRun := 0 }).cpriOf m :=
      cpriOf_eq (hkeep .cpri (by decide))
    refine ⟨u, hu, hans, hparts, ?_⟩
    simp +contextual [hcpri, cpriOf_onCpri_ne]

end Sys2Proof.Machine
end

section
/-!
PROOFS. The line services' block settings: a change of an enable, or of a class C field of an enabled unit, forms a ticket; a disabled
unit takes its settings at once (02 R56, R58; 03 R69, R79; 04 R136; 05 R138, R167).
-/

namespace Sys2Proof.Machine

open Sys2Proof

/-! ### A command that sets one block -/

/-- A block that is enabled, or that the command enables, takes the change by a ticket; its other writes are made at once, and a disabled
block that no pending change touches also takes its other settings at once. -/
theorem setBlock_ticket {p : Nat} {on wants differs : Bool} {off c : Change} {live : List Live} {kind : ReplyKind} {s : State}
    (hd : differs = true) (hw : on = true ∨ wants = true) :
    ∃ ls, setBlock p on wants differs off c live kind s = .cap [c] kind (writeLive ls s) ∧
      (ls = live ∨ on = false ∧ ls = live ++ [.now off]) := by
  subst hd
  cases hon : on with
  | true => exact ⟨live, by simp [setBlock, changes], .inl rfl⟩
  | false =>
    have hwants : wants = true := by simpa [hon] using hw
    cases htouched : touched p c s with
    | true => exact ⟨live, by simp [setBlock, changes, htouched], .inl rfl⟩
    | false => exact ⟨live ++ [.now off], by simp [setBlock, htouched, hwants], .inr ⟨rfl, rfl⟩⟩

/-- A disabled block that the command leaves disabled takes its settings at once. -/
theorem setBlock_disabled {p : Nat} {on wants differs : Bool} {off c : Change} {live : List Live} {s : State} (hon : on = false)
    (hw : wants = false) (ht : touched p c s = false) :
    setBlock p on wants differs off c live .status s = .ok reserved6 (writeLive (live ++ if differs then [.now off] else []) s) := by
  simp [setBlock, hon, hw, ht, replyFields]

/-- A command that differs from what is in force is a capping command. -/
theorem changes_of_differs {p : Nat} {c : Change} {differs : Bool} {s : State} (h : differs = true) : changes p c differs s = true := by
  simp [changes, h]

/-! ### The writes of each block -/

theorem liveLane_only (n losThr dfeAdapt : Nat) (s : State) : onlyChanges [.lanes] s (liveLane n losThr dfeAdapt s) := onLane_only s n _
theorem liveLaneF_only (n mode align polarity scramble : Nat) (s : State) :
    onlyChanges [.lanes] s (liveLaneF n mode align polarity scramble s) := onLane_only s n _
theorem liveCpriFlags_only (n flags : Nat) (s : State) : onlyChanges [.cpri] s (liveCpriFlags n flags s) := onCpri_only s n _

/-- A port that is set disabled takes the settings as they are. -/
theorem applySdhPort_disabled {a : SdhPortArgs} (h : a.enable = 0) (s : State) :
    applySdhPort a s = s.onSdh a.lane fun p => { p with cfg := a } := by
  simp [applySdhPort, h]

/-- The same of a CPRI port, whose flags are class L and stay. -/
theorem applyCpriPort_disabled {a : CpriPortArgs} (h : a.enable = 0) (s : State) :
    applyCpriPort a s = s.onCpri a.lane fun p => { p with cfg := { a with flags := (s.cpriOf a.lane).cfg.flags } } := by
  simp [applyCpriPort, h]

theorem applyAxc_disabled_only {a : CpriAxcArgs} (h : a.enable = 0) (s : State) : onlyChanges [.axcs] s (applyAxc a s) := by
  simpa [applyAxc, h] using onAxc_only s a.lane a.dir a.axc _

/-! ### Tickets -/

/-- The writes that a ticketed lane.config makes at once: thresholds of the lane, and of a disabled one the loopback (03 R69, R79). -/
theorem laneConfig_writes {a : LaneArgs} {s : State} {ls : List Live}
    (hls : ls = [.lane a.lane a.losThr a.dfeAdapt] ∨
      ((s.lane a.lane).enable == 1) = false ∧ ls = [.lane a.lane a.losThr a.dfeAdapt] ++ [.now (.lane a.lane 0 a.loopback)]) :
    onlyChanges [.lanes] s (applyLives ls s) ∧ ((applyLives ls s).lane a.lane).losThr = a.losThr ∧
      ((applyLives ls s).lane a.lane).dfeAdapt = a.dfeAdapt ∧ ∀ n, n ≠ a.lane → (applyLives ls s).lane n = s.lane n := by
  have hlive := liveLane_only a.lane a.losThr a.dfeAdapt s
  rcases hls with rfl | ⟨hoff, rfl⟩
  · refine ⟨hlive, ?_⟩
    simp +contextual [applyLives, applyLive, liveLane, lane_onLane_ne]
  · have happly : applyLives ([.lane a.lane a.losThr a.dfeAdapt] ++ [.now (.lane a.lane 0 a.loopback)]) s =
        applyLane a.lane 0 a.loopback (liveLane a.lane a.losThr a.dfeAdapt s) :=
      laneChanges_disabled _ (by simpa [applyLive, liveLane] using hoff)
    obtain ⟨-, -, -, -, -, hlos, hdfe⟩ := applyLane_off_settings a.lane a.loopback (liveLane a.lane a.losThr a.dfeAdapt s)
    rw [happly]
    refine ⟨onlyChanges_trans hlive (applyLane_only _ _ _ _), hlos.trans (by simp [liveLane]), hdfe.trans (by simp [liveLane]), ?_⟩
    intro n hn
    rw [applyLane_lane_ne _ _ _ hn]
    exact lane_onLane_ne s _ hn

/-- The writes that a ticketed sdh.port makes at once: a disabled port takes its other settings (04 R136). -/
theorem sdhPort_writes {a : SdhPortArgs} {s : State} {ls : List Live}
    (hls : ls = [] ∨ ls = [.now (.sdhPort { a with enable := 0 })]) :
    onlyChanges [.sdh] s (applyLives ls s) ∧ ∀ n, n ≠ a.lane → (applyLives ls s).sdhOf n = s.sdhOf n := by
  rcases hls with rfl | rfl
  · exact ⟨onlyChanges_refl _ _, fun n _ => rfl⟩
  · have happly : applyLives [.now (.sdhPort { a with enable := 0 })] s = _ := applySdhPort_disabled (a := { a with enable := 0 }) rfl s
    rw [happly]
    exact ⟨onSdh_only s a.lane _, fun n hn => sdhOf_onSdh_ne s _ hn⟩

/-- The writes that a ticketed cpri.port makes at once: its flags, and of a disabled port the other settings (05 R138). -/
theorem cpriPort_writes {a : CpriPortArgs} {s : State} {ls : List Live}
    (hls : ls = [.cpriFlags a.lane a.flags] ∨ ls = [.cpriFlags a.lane a.flags] ++ [.now (.cpriPort { a with enable := 0 })]) :
    onlyChanges [.cpri] s (applyLives ls s) ∧ ((applyLives ls s).cpriOf a.lane).cfg.flags = a.flags ∧
      ∀ n, n ≠ a.lane → (applyLives ls s).cpriOf n = s.cpriOf n := by
  have hflags := liveCpriFlags_only a.lane a.flags s
  rcases hls with rfl | rfl
  · refine ⟨hflags, ?_⟩
    simp +contextual [applyLives, applyLive, liveCpriFlags, cpriOf_onCpri_ne]
  · have happly : applyLives ([.cpriFlags a.lane a.flags] ++ [.now (.cpriPort { a with enable := 0 })]) s = _ :=
      applyCpriPort_disabled (a := { a with enable := 0 }) rfl (liveCpriFlags a.lane a.flags s)
    rw [happly]
    refine ⟨onlyChanges_trans hflags (onCpri_only _ _ _), ?_⟩
    simp +contextual [liveCpriFlags, cpriOf_onCpri_ne]

/-- The writes that a ticketed cpri.axc makes at once: a disabled container takes its other settings (05 R167). -/
theorem cpriAxc_writes {a : CpriAxcArgs} {s : State} {ls : List Live}
    (hls : ls = [] ∨ ls = [.now (.axc { a with enable := 0 })]) : onlyChanges [.axcs] s (applyLives ls s) := by
  rcases hls with rfl | rfl
  · exact onlyChanges_refl _ _
  · exact applyAxc_disabled_only (a := { a with enable := 0 }) rfl s

/-- Settles O6: the rules of each command give the change, and a state in which at most the unit's class L and disabled settings are
written; the change goes into a ticket of its own. -/
theorem lineSettingsTakeTickets : Obligations.LineSettingsTakeTickets := by
  intro h s hs hm
  refine ⟨?lane, ?sdhPort, ?sdhPath, ?cpriPort, ?cpriAxc, ?laneCal⟩
  case lane =>
    intro a hown hbad hboot hF hen
    have hdiff : laneDiffers a s = true := by
      have hne : (s.lane a.lane).enable ≠ a.enable := fun heq => hen (by rw [heq])
      simp [laneDiffers, hne]
    have hside : ((s.lane a.lane).enable == 1) = true ∨ (a.enable == 1) = true := by
      simp only [beq_iff_eq]; tauto
    obtain ⟨ls, hblock, hls⟩ := setBlock_ticket (p := h.port) (off := .lane a.lane 0 a.loopback) (c := laneChange a)
      (live := [.lane a.lane a.losThr a.dfeAdapt]) (kind := .status) (s := s) hdiff hside
    have hact : laneConfigAct h.port a s = .cap [laneChange a] .status (writeLive ls s) := by
      simpa [laneConfigAct, hbad, hboot, hF] using hblock
    obtain ⟨honly, hlos, hdfe, hrest⟩ := laneConfig_writes hls
    obtain ⟨u, hu, htick, hparts, hkeep⟩ := exec_tickets (i := .laneConfig h a) (ps := [.lanes]) hs hm rfl hown
      (changes_of_differs hdiff) hact rfl (writeLive_only honly) (by decide)
    have hlanes : ∀ m, u.lane m = (applyLives ls s).lane m := fun m => (lane_eq (hkeep .lanes (by decide)) m).trans (writeLive_lane ls s m)
    refine ⟨u, hu, htick, hparts, ?_⟩
    simpa only [hlanes] using ⟨hlos, hdfe, hrest⟩
  case sdhPort =>
    intro a hown hbad hmode hen hoff hwill
    have hdiff : ({ (s.sdhOf a.lane).cfg with lane := a.lane } != sdhPortSeen a) = true :=
      bne_iff_ne.mpr fun heq => by simpa [sdhPortSeen, hen, hoff] using congrArg SdhPortArgs.enable heq
    obtain ⟨ls, hblock, hls⟩ := setBlock_ticket (p := h.port) (on := (s.sdhOf a.lane).cfg.enable == 1) (wants := a.enable == 1)
      (off := .sdhPort { sdhPortSeen a with enable := 0 }) (c := .sdhPort (sdhPortSeen a)) (live := []) (kind := .status) (s := s) hdiff
      (.inr (beq_iff_eq.mpr hen))
    have hact : sdhPortAct h.port (sdhPortSeen a) s = .cap [.sdhPort (sdhPortSeen a)] .status (writeLive ls s) :=
      (if_neg (by simp [hbad])).trans ((if_neg (by simp [sdhPortSeen, hmode, hwill])).trans
        ((if_neg (by simp [sdhPortSeen, hoff])).trans hblock))
    obtain ⟨honly, hrest⟩ := sdhPort_writes (hls.imp_right And.right)
    obtain ⟨u, hu, htick, hparts, hkeep⟩ := exec_tickets (i := .sdhPort h a) (ps := [.sdh]) hs hm rfl hown
      (changes_of_differs hdiff) hact rfl (writeLive_only honly) (by decide)
    have hsdh : ∀ m, u.sdhOf m = (applyLives ls s).sdhOf m := fun m => (sdhOf_eq (hkeep .sdh (by decide)) m).trans (writeLive_sdhOf ls s m)
    exact ⟨u, hu, htick, hparts, fun n hn => (hsdh n).trans (hrest n hn)⟩
  case sdhPath =>
    intro a hown hbad hmode hwill hfits hon htype hne
    have hdiff : ((s.path a.lane a.g).cfg != sdhPathSeen a) = true := bne_iff_ne.mpr hne
    obtain ⟨ls, hblock, hls⟩ := setBlock_ticket (p := h.port) (on := (s.sdhOf a.lane).cfg.enable == 1) (wants := false)
      (off := .sdhPath (sdhPathSeen a)) (c := .sdhPath (sdhPathSeen a)) (live := []) (kind := .status) (s := s) hdiff
      (.inl (beq_iff_eq.mpr hon))
    have hnil : ls = [] := hls.resolve_right fun hoff => by simp [hon] at hoff
    have hact : sdhPathAct h.port (sdhPathSeen a) s = .cap [.sdhPath (sdhPathSeen a)] .status (writeLive ls s) :=
      (if_neg (by simp [hbad])).trans ((if_neg (by simp [sdhPathSeen, hmode, hwill])).trans
        ((if_neg (by simpa [sdhPathSeen] using hfits)).trans ((if_neg (by simp [sdhPathSeen, htype])).trans hblock)))
    subst hnil
    obtain ⟨u, hu, htick, hparts, -⟩ := exec_tickets (i := .sdhPath h a) (ps := []) hs hm rfl hown
      (changes_of_differs hdiff) hact rfl (onlyChanges_refl _ _) (by decide)
    exact ⟨u, hu, htick, hparts⟩
  case cpriPort =>
    intro a hown hbad hmode hen hoff hwill
    have hdiff : (cpriNow (cpriPortSeen a) s != cpriPortSeen a) = true :=
      bne_iff_ne.mpr fun heq => by simpa [cpriNow, cpriPortSeen, hen, hoff] using congrArg CpriPortArgs.enable heq
    obtain ⟨ls, hblock, hls⟩ := setBlock_ticket (p := h.port) (on := (s.cpriOf a.lane).cfg.enable == 1) (wants := a.enable == 1)
      (off := .cpriPort { cpriPortSeen a with enable := 0 }) (c := .cpriPort (cpriPortSeen a))
      (live := [.cpriFlags (cpriPortSeen a).lane (cpriPortSeen a).flags]) (kind := .status) (s := s) hdiff (.inr (beq_iff_eq.mpr hen))
    have hact : cpriPortAct h.port (cpriPortSeen a) s = .cap [.cpriPort (cpriPortSeen a)] .status (writeLive ls s) :=
      (if_neg (by simp [hbad])).trans ((if_neg (by simp [cpriPortSeen, hmode, hwill])).trans
        ((if_neg (by simp [cpriPortSeen, hoff])).trans hblock))
    obtain ⟨honly, hflags, hrest⟩ := cpriPort_writes (hls.imp_right And.right)
    obtain ⟨u, hu, htick, hparts, hkeep⟩ := exec_tickets (i := .cpriPort h a) (ps := [.cpri]) hs hm rfl hown
      (changes_of_differs hdiff) hact rfl (writeLive_only honly) (by decide)
    have hcpri : ∀ m, u.cpriOf m = (applyLives ls s).cpriOf m :=
      fun m => (cpriOf_eq (hkeep .cpri (by decide)) m).trans (writeLive_cpriOf ls s m)
    refine ⟨u, hu, htick, hparts, ?_, fun n hn => (hcpri n).trans (hrest n hn)⟩
    rw [hcpri]
    exact hflags
  case cpriAxc =>
    intro a hown hop hline haxc hdir hen hmode hwill htransport houtside hclash hprot hoff
    have hline' : isLineLane a.lane = true := decide_eq_true (by omega)
    have hdiff : ((s.axc a.lane a.dir a.axc).cfg != a) = true :=
      bne_iff_ne.mpr fun heq => by simpa [hen, hoff] using congrArg CpriAxcArgs.enable heq
    obtain ⟨ls, hblock, hls⟩ := setBlock_ticket (p := h.port) (on := (s.axc a.lane a.dir a.axc).cfg.enable == 1) (wants := a.enable == 1)
      (off := .axc { a with enable := 0 }) (c := .axc a) (live := []) (kind := .axc a.lane a.axc a.dir) (s := s) hdiff
      (.inr (beq_iff_eq.mpr hen))
    have hact : cpriAxcAct h.port a s = .cap [.axc a] (.axc a.lane a.axc a.dir) (writeLive ls s) := by
      rw [← hblock]
      simp [cpriAxcAct, hop, hline', haxc, hdir, hen, hmode, hwill, htransport, houtside, hclash, hprot, hoff]
    have honly : onlyChanges ([.axcs] ++ [.hive]) s (writeLive ls s) := writeLive_only (cpriAxc_writes (hls.imp_right And.right))
    obtain ⟨u, hu, htick, hparts, -⟩ := exec_tickets (i := .cpriAxc h a) (ps := [.axcs, .fresh]) hs hm rfl (by simp [hop, hown])
      (by simp [hop, changes_of_differs hdiff]) hact rfl (onlyChanges_mono honly (by decide)) (by decide)
    exact ⟨u, hu, htick, hparts⟩
  case laneCal =>
    intro a hown hop hlane hgroup hbad hactive hctle hdiff
    have hact : laneCalAct h a s = .cap [calChange a] (.laneCal a) s := by
      simp [laneCalAct, hop, hlane, hgroup, hbad, hactive, hctle, changes_of_differs hdiff]
    obtain ⟨u, hu, htick, hparts, -⟩ := exec_tickets (i := .laneCal h a) (ps := []) hs hm rfl (by simp [hop, hown])
      (by simp [hop, hactive, changes_of_differs hdiff]) hact rfl (onlyChanges_refl _ _) (by decide)
    exact ⟨u, hu, htick, hparts⟩

/-! ### Disabled units: at once -/

theorem applyLives_append (ls ms : List Live) (s : State) : applyLives (ls ++ ms) s = applyLives ms (applyLives ls s) :=
  List.foldl_append

/-- The class F fields of lane.config, written where one differs, are then those in force; nothing else moves (03 R69). -/
theorem laneF_writes (a : LaneArgs) (s : State) :
    let t := applyLives (if laneFDiffers (s.lane a.lane) a then [.laneF a.lane a.mode a.align a.polarity a.scramble] else []) s
    onlyChanges [.lanes] s t ∧ (t.lane a.lane).mode = a.mode ∧ (t.lane a.lane).align = a.align ∧
      (t.lane a.lane).polarity = a.polarity ∧ (t.lane a.lane).scramble = a.scramble ∧
      (t.lane a.lane).enable = (s.lane a.lane).enable ∧ (t.lane a.lane).loopback = (s.lane a.lane).loopback ∧
      ∀ n, n ≠ a.lane → t.lane n = s.lane n := by
  cases hF : laneFDiffers (s.lane a.lane) a with
  | true =>
    refine ⟨liveLaneF_only a.lane a.mode a.align a.polarity a.scramble s, ?_⟩
    simp +contextual [applyLives, applyLive, liveLaneF, lane_onLane_ne]
  | false =>
    have heq : (((s.lane a.lane).mode = a.mode ∧ (s.lane a.lane).align = a.align) ∧ (s.lane a.lane).polarity = a.polarity) ∧
        (s.lane a.lane).scramble = a.scramble := by simpa [laneFDiffers] using hF
    obtain ⟨⟨⟨hmode, halign⟩, hpol⟩, hscr⟩ := heq
    exact ⟨onlyChanges_refl _ _, hmode, halign, hpol, hscr, rfl, rfl, fun _ _ => rfl⟩

/-- The loopback of a disabled lane, written where it differs, is then the one in force; the lane's other settings stay. -/
theorem loopback_writes {n loopback : Nat} {differs : Bool} {s : State} (hoff : (s.lane n).enable ≠ 1)
    (hd : differs = false → (s.lane n).loopback = loopback) :
    let t := applyLives (if differs then [.now (.lane n 0 loopback)] else []) s
    onlyChanges [.lanes] s t ∧ (t.lane n).loopback = loopback ∧ (t.lane n).mode = (s.lane n).mode ∧
      (t.lane n).align = (s.lane n).align ∧ (t.lane n).polarity = (s.lane n).polarity ∧ (t.lane n).scramble = (s.lane n).scramble ∧
      (t.lane n).losThr = (s.lane n).losThr ∧ (t.lane n).dfeAdapt = (s.lane n).dfeAdapt ∧ ∀ m, m ≠ n → t.lane m = s.lane m := by
  cases differs with
  | true =>
    have happly : applyLives [.now (.lane n 0 loopback)] s = applyLane n 0 loopback s := laneChanges_disabled loopback hoff
    simp only [if_true, happly]
    obtain ⟨hloop, hmode, halign, hpol, hscr, hlos, hdfe⟩ := applyLane_off_settings n loopback s
    exact ⟨applyLane_only _ _ _ _, hloop, hmode, halign, hpol, hscr, hlos, hdfe, fun m hm => applyLane_lane_ne _ _ s hm⟩
  | false => exact ⟨onlyChanges_refl _ _, hd rfl, rfl, rfl, rfl, rfl, rfl, rfl, fun _ _ => rfl⟩

/-- The writes of lane.config on a lane that is and stays disabled: every setting is then the one that the command gives. -/
theorem laneConfig_disabled_writes {a : LaneArgs} {differs : Bool} {s : State} (hoff : (s.lane a.lane).enable = 0)
    (hd : differs = false → (s.lane a.lane).loopback = a.loopback) :
    let t := applyLives (((if laneFDiffers (s.lane a.lane) a then [.laneF a.lane a.mode a.align a.polarity a.scramble] else []) ++
      [.lane a.lane a.losThr a.dfeAdapt]) ++ if differs then [.now (.lane a.lane 0 a.loopback)] else []) s
    onlyChanges [.lanes] s t ∧ (t.lane a.lane).mode = a.mode ∧ (t.lane a.lane).align = a.align ∧
      (t.lane a.lane).polarity = a.polarity ∧ (t.lane a.lane).scramble = a.scramble ∧ (t.lane a.lane).loopback = a.loopback ∧
      (t.lane a.lane).losThr = a.losThr ∧ (t.lane a.lane).dfeAdapt = a.dfeAdapt ∧ ∀ n, n ≠ a.lane → t.lane n = s.lane n := by
  obtain ⟨honlyF, hmode, halign, hpol, hscr, hen, hloop, hrestF⟩ := laneF_writes a s
  rw [applyLives_append, applyLives_append]
  generalize applyLives (if laneFDiffers (s.lane a.lane) a then [.laneF a.lane a.mode a.align a.polarity a.scramble] else []) s = sF at *
  let sL : State := liveLane a.lane a.losThr a.dfeAdapt sF
  have hlane : sL.lane a.lane = { sF.lane a.lane with losThr := a.losThr, dfeAdapt := a.dfeAdapt } := lane_onLane_same sF a.lane _
  obtain ⟨honly, hloop', hmode', halign', hpol', hscr', hlos', hdfe', hrest⟩ :=
    loopback_writes (n := a.lane) (loopback := a.loopback) (differs := differs) (s := sL) (by simp [hlane, hen, hoff])
      (fun h => by simpa [hlane, hloop] using hd h)
  rw [hlane] at hmode' halign' hpol' hscr' hlos' hdfe'
  refine ⟨onlyChanges_trans honlyF (onlyChanges_trans (liveLane_only _ _ _ _) honly), hmode'.trans hmode, halign'.trans halign,
    hpol'.trans hpol, hscr'.trans hscr, hloop', hlos', hdfe', fun n hn => ?_⟩
  exact ((hrest n hn).trans (lane_onLane_ne sF _ hn)).trans (hrestF n hn)

/-- The settings of a disabled port, written where they differ, are then those in force. -/
theorem sdhPort_disabled_writes {a : SdhPortArgs} (s : State) (hen : a.enable = 0) :
    let t := applyLives (if { (s.sdhOf a.lane).cfg with lane := a.lane } != a then [.now (.sdhPort { a with enable := 0 })] else []) s
    onlyChanges [.sdh] s t ∧ { (t.sdhOf a.lane).cfg with lane := a.lane } = a ∧ ∀ n, n ≠ a.lane → t.sdhOf n = s.sdhOf n := by
  have hself : { a with enable := 0 } = a := by rw [← hen]
  rw [hself]
  cases hd : { (s.sdhOf a.lane).cfg with lane := a.lane } != a with
  | true =>
    have happly : applyLives [.now (.sdhPort a)] s = s.onSdh a.lane fun p => { p with cfg := a } := applySdhPort_disabled hen s
    simp only [if_true, happly, sdhOf_onSdh_same]
    exact ⟨onSdh_only s a.lane _, trivial, fun n hn => sdhOf_onSdh_ne s _ hn⟩
  | false => exact ⟨onlyChanges_refl _ _, bne_eq_false_iff_eq.mp hd, fun _ _ => rfl⟩

/-- The user offsets of a calibration group, written where they differ, are then those in force (03 R83). -/
theorem cal_writes (a : LaneCalArgs) (s : State) :
    let t := if calDiffers a s then writeLive [.now (calChange a)] s else s
    onlyChanges [.userCal, .hive] s t ∧ t.calOf a.lane a.group = ⟨a.swing, a.pre, a.post, a.ctle⟩ := by
  cases hd : calDiffers a s with
  | true =>
    have honly : onlyChanges [.userCal] s (applyLives [.now (calChange a)] s) := setCal_only s a.lane a.group _
    have hcal : (applyLives [.now (calChange a)] s).calOf a.lane a.group = ⟨a.swing, a.pre, a.post, a.ctle⟩ := calOf_setCal_same s ..
    exact ⟨writeLive_only honly, (writeLive_calOf _ s a.lane a.group).trans hcal⟩
  | false => exact ⟨onlyChanges_refl _ _, by simpa [calDiffers] using hd⟩

/-- Settles O7: no pending change touches the unit and it stays disabled, so the rules of each command write what differs and answer. -/
theorem disabledUnitsTakeSettingsAtOnce : Obligations.DisabledUnitsTakeSettingsAtOnce := by
  intro h s hs hm
  have hcap : mayCap s := by
    obtain ⟨hmode, hswitch, -⟩ := hm
    exact ⟨hmode, hswitch⟩
  refine ⟨?lane, ?sdhPort, ?laneCal⟩
  case lane =>
    intro a hown hbad hoff hen htouched
    have hloopback : laneDiffers a s = false → (s.lane a.lane).loopback = a.loopback := by
      simp [laneDiffers, hoff, hen]
    obtain ⟨honly, hwrites⟩ := laneConfig_disabled_writes hoff hloopback
    have hblock := setBlock_disabled (p := h.port) (on := (s.lane a.lane).enable == 1) (wants := a.enable == 1)
      (differs := laneDiffers a s) (off := .lane a.lane 0 a.loopback)
      (live := (if laneFDiffers (s.lane a.lane) a then [.laneF a.lane a.mode a.align a.polarity a.scramble] else []) ++
        [.lane a.lane a.losThr a.dfeAdapt]) (by simp [hoff]) (by simp [hen]) htouched
    have hact : laneConfigAct h.port a s = _ :=
      (if_neg (by simp [hbad])).trans ((if_neg (by simp [hen])).trans ((if_neg (by simp [hoff])).trans hblock))
    obtain ⟨u, hu, hans, hparts, hkeep⟩ := exec_answers (i := .laneConfig h a) hs rfl hown (fun _ => hcap) hact
      (writeLive_only (ps := [.lanes]) honly) (by decide)
    have hlanes := fun m => (lane_eq (hkeep .lanes (by decide)) m).trans (writeLive_lane _ s m)
    refine ⟨u, hu, hans, hparts, ?_⟩
    simpa only [hlanes] using hwrites
  case sdhPort =>
    intro a hown hbad hmode hen hoff htouched
    obtain ⟨honly, hcfg, hrest⟩ := sdhPort_disabled_writes (a := sdhPortSeen a) s hen
    have hblock := setBlock_disabled (p := h.port) (on := (s.sdhOf a.lane).cfg.enable == 1) (wants := a.enable == 1)
      (differs := { (s.sdhOf a.lane).cfg with lane := a.lane } != sdhPortSeen a) (off := .sdhPort { sdhPortSeen a with enable := 0 })
      (live := []) (by simp [hoff]) (by simp [hen]) htouched
    have hact : sdhPortAct h.port (sdhPortSeen a) s = _ :=
      (if_neg (by simp [hbad])).trans ((if_neg (by simp [sdhPortSeen, hmode, hen])).trans
        ((if_neg (by simp [sdhPortSeen, hoff])).trans hblock))
    obtain ⟨u, hu, hans, hparts, hkeep⟩ := exec_answers (i := .sdhPort h a) hs rfl hown (fun _ => hcap) hact
      (writeLive_only (ps := [.sdh]) honly) (by decide)
    have hsdh := fun m => (sdhOf_eq (hkeep .sdh (by decide)) m).trans (writeLive_sdhOf _ s m)
    refine ⟨u, hu, hans, hparts, ?_, fun n hn => (hsdh n).trans (hrest n hn)⟩
    rw [hsdh]
    exact hcfg
  case laneCal =>
    intro a hown hop hlane hgroup hbad hidle htouched
    obtain ⟨honly, hcal⟩ := cal_writes a s
    have hact : laneCalAct h a s = .ok _ _ :=
      (if_neg (by simp [hlane, hop, hgroup, hbad])).trans ((if_neg (by simp [hop])).trans ((if_neg (by simp [hidle])).trans
        ((if_neg (by simp [hidle, htouched])).trans (if_neg (by simp [hop])))))
    obtain ⟨u, hu, hans, hparts, hkeep⟩ := exec_answers (i := .laneCal h a) hs rfl (by simp [hop, hown]) (fun _ => hcap) hact honly
      (by decide)
    have hcals := calOf_eq (hkeep .userCal (by decide)) a.lane a.group
    refine ⟨u, hu, ?_, hparts, hcals.trans hcal⟩
    rwa [calFields_eq hcals]

end Sys2Proof.Machine
end

section
/-!
PROOFS. Batches (02 R58, R63, R67): a batch is opened, joined by capping commands, and closed into one ticket or aborted.
-/

namespace Sys2Proof.Machine

open Sys2Proof

/-! ### Opening -/

/-- What sys.batch_open leaves to its answer: both numbers are drawn, and an empty batch with them is open. -/
def batchOpened (p : Nat) (s : State) : State :=
  (takeTicket (s.onClk fun c => { c with nextBatch := s.clk.nextBatch % (2 ^ 32 - 1) + 1 })).2.setBatch p
    (some { id := s.clk.nextBatch, ticket := s.clk.nextTicket })

theorem batchOpened_only (p : Nat) (s : State) : onlyChanges [.clk] s (batchOpened p s) :=
  onlyChanges_trans (onlyChanges_trans (onClk_only _ _) (onClk_only _ _)) (setBatch_only _ _ _)

/-! ### Joining -/

/-- A batch with the changes of one more command of a service. -/
def Batch.join (b : Batch) (svc : Nat) (cs : List Change) : Batch :=
  { b with changes := b.changes ++ cs, services := b.services ||| 2 ^ svc }

/-- What a command that joins leaves to its answer: its changes stand in the batch and in the mirror stream. -/
def batchJoined (h : Hdr) (svc : Nat) (cs : List Change) (b : Batch) (s : State) : State :=
  (mirrorSend (.shadow b.ticket cs) (renewLeases h.port s)).setBatch h.port (some (b.join svc cs))

theorem batchJoined_only (h : Hdr) (svc : Nat) (cs : List Change) (b : Batch) (s : State) :
    onlyChanges [.sems, .hive, .clk] s (batchJoined h svc cs b s) :=
  onlyChanges_append (onlyChanges_append (renewLeases_only h.port s) (mirrorSend_only _ _)) (setBatch_only _ _ _)

theorem batchJoined_batchOf (h : Hdr) (svc : Nat) (cs : List Change) (b : Batch) (s : State) :
    (batchJoined h svc cs b s).batchOf h.port = some (b.join svc cs) := batchOf_setBatch_same ..

theorem batchJoined_tickets (h : Hdr) (svc : Nat) (cs : List Change) (b : Batch) (s : State) :
    (batchJoined h svc cs b s).clk.tickets = s.clk.tickets := by
  simp [batchJoined]

/-- A capping command of a port whose batch is open, gates passed: its changes join the batch, and it is answered at once. -/
theorem serve_joins {h : Hdr} {svc cmd : Nat} {shape : Fields} {cs : List Change} {b : Batch} {s : State} (hs : heard h s)
    (hcap : mayCap s) (hb : s.batchOf h.port = some b) (hn : cs ≠ []) (hl : tooLarge (b.changes ++ cs) = false) :
    serve h svc cmd false true shape (.cap cs .status s) s = respondRaw h svc cmd stOk reserved6 (batchJoined h svc cs b s) := by
  have hgate : gate h false true s = none := gate_none hs fun _ => hcap
  obtain ⟨hserving, hport, -⟩ := hs
  simp [serve, hserving, Nat.not_le.mpr hport, hgate, hn, capture, hb, hl, batchJoined, Batch.join, respond_ok, replyFields]

/-- The same of a whole step: what the command leaves is the batch, the mirror stream and what every answer moves. -/
theorem exec_joins {i : Instr} {h : Hdr} {svc cmd : Nat} {locked cap : Bool} {shape : Fields} {act : Act} {c : Change} {b : Batch}
    {s : State} (hs : heard h s) (he : exec i s = done s (serve h svc cmd locked cap shape act s)) (hl : locked = false) (hc : cap = true)
    (hcap : mayCap s) (hb : s.batchOf h.port = some b) (ha : act = .cap [c] .status s) (hsize : tooLarge (b.changes ++ [c]) = false) :
    ∃ u, exec i s = .next u ∧ answered h svc cmd stOk reserved6 s u ∧ onlyChanges (.clk :: .hive :: replyParts) s u ∧
      u.batchOf h.port = some (b.join svc [c]) ∧ u.clk.tickets = s.clk.tickets := by
  subst hl hc ha
  let r : State := respondRaw h svc cmd stOk reserved6 (batchJoined h svc [c] b s)
  have hjoined := batchJoined_only h svc [c] b s
  have hreply : onlyChanges [.ports, .ev] (batchJoined h svc [c] b s) r := respondRaw_only hs _
  have hclk : (counted s r).clk = (batchJoined h svc [c] b s).clk := (counted_only s r .clk (by decide)).trans (hreply .clk (by decide))
  refine ⟨counted s r, ?_, ?_, ?_, ?_, ?_⟩
  · rw [he, serve_joins hs hcap hb (List.cons_ne_nil c []) hsize]
    rfl
  · exact answered_of hs (hjoined .ports (by decide)) (counted_only s r .ports (by decide))
  · exact onlyChanges_mono (onlyChanges_append hjoined (onlyChanges_append hreply (counted_only s r))) (by decide)
  · exact (batchOf_eq hclk _).trans (batchJoined_batchOf ..)
  · rw [hclk]
    exact batchJoined_tickets ..

/-! ### Closing -/

/-- A ticket completed while the beat runs, with a target of its own or at the next boundary of its class, waits with all its changes for
a boundary after the beat in hand. -/
theorem completeTicket_waits (id : Nat) (cs : List Change) {target : Option Nat} (us : Nat) (w : Waiter) {s : State}
    (hb : s.clk.started = true) (ht : ∀ beat ∈ target, s.now < beat) :
    ∃ k : Ticket, completeTicket id cs target us w s =
        mirrorSend (.close id (classOf cs) k.target) (s.onClk fun c => { c with tickets := c.tickets ++ [k] }) ∧
      k.id = id ∧ k.changes = cs ∧ k.bclass = classOf cs ∧ s.now < k.target := by
  have hfirst : s.now < target.getD (nextBoundary (classOf cs) s.now) := by
    cases target with
    | none => exact nextBoundary_gt _ _
    | some beat => exact ht beat rfl
  unfold completeTicket
  simp only [hb, Bool.not_true, Bool.false_eq_true, if_false]
  exact ⟨_, rfl, rfl, rfl, rfl, Nat.lt_of_lt_of_le hfirst (fitTarget_ge s _ _ _ us 66 _ false)⟩

/-- A port's batch is gone and its ticket stands last in the list. -/
def batchClosed (p : Nat) (k : Ticket) (s : State) : State :=
  (s.setBatch p none).onClk fun c => { c with tickets := c.tickets ++ [k] }

theorem batchClosed_only (p : Nat) (k : Ticket) (s : State) : onlyChanges [.clk] s (batchClosed p k s) :=
  onlyChanges_trans (setBatch_only _ _ _) (onClk_only _ _)

theorem batchClosed_tickets (p : Nat) (k : Ticket) (s : State) : (batchClosed p k s).clk.tickets = s.clk.tickets ++ [k] :=
  congrArg (· ++ [k]) (tickets_setBatch s p none)

/-- A batch that no command failed, closed without a target of its own while a ticket more has room: its changes are one ticket. -/
theorem batchCloseAct_close {h : Hdr} {b : Batch} {s : State} (target : Nat) (hb : s.batchOf h.port = some b) (hfailed : b.failed = none)
    (hroom : s.clk.tickets.length < 64) :
    batchCloseAct h ⟨b.id, 0, target⟩ s =
      .later (completeTicket b.ticket b.changes none h.us
        ⟨h, 1, 0x21, .batchClose (classOf b.changes) (supersOf b.changes) (broodsOf b.changes)⟩ (s.setBatch h.port none)) := by
  simp [batchCloseAct, hb, hfailed, Nat.not_le.mpr hroom]

/-! ### The obligation -/

/-- Settles O22: opening and aborting answer with the batch set or gone; a command that joins is answered at once (the model's choice,
log 35) with its changes in the batch alone; closing makes of them one ticket under the batch's number. -/
theorem batches : Obligations.Batches := by
  intro h s hs hsession
  have hlocked : ((s.port h.port).session == 0) = false := beq_eq_false_iff_ne.mpr hsession
  refine ⟨?opens, fun b hb hmode hswitch => ?_⟩
  case opens =>
    rintro ⟨hmode, hswitch, hfree, -⟩ hidle
    have hact : batchOpenAct h.port s = .ok [(2, 0), (4, s.clk.nextBatch)] (batchOpened h.port s) := if_neg (by simp [hfree, hidle])
    obtain ⟨u, hu, hans, hparts, hkeep⟩ := exec_answers (i := .sysBatchOpen h) hs rfl hlocked (fun _ => ⟨hmode, hswitch⟩) hact
      (batchOpened_only h.port s) (by decide)
    have hclk : u.clk = (batchOpened h.port s).clk := hkeep .clk (by decide)
    refine ⟨u, hu, hans, hparts, (batchOf_eq hclk _).trans (batchOf_setBatch_same ..), ?_⟩
    rw [hclk]
    exact tickets_setBatch ..
  have hcap : mayCap s := ⟨hmode, hswitch⟩
  refine ⟨?joins, ?aborts, ?closes⟩
  case joins =>
    intro i thr hown hi hdiff hsize
    have hact : pmProfileAct h.port i thr s = .cap [.pmProfile i thr] .status s := by
      simp [pmProfileAct, Nat.not_lt.mpr hi, changes_of_differs hdiff]
    exact exec_joins (i := .pmProfile h i thr) hs rfl hown (changes_of_differs hdiff) hcap hb hact hsize
  case aborts =>
    intro target
    have hact : batchCloseAct h ⟨b.id, 2, target⟩ s = .ok (zeros [2, 4, 8, 4, 4]) (s.setBatch h.port none) := by
      simp [batchCloseAct, hb]
    obtain ⟨u, hu, hans, hparts, hkeep⟩ := exec_answers (i := .sysBatchClose h ⟨b.id, 2, target⟩) hs rfl hlocked (fun _ => hcap) hact
      (setBatch_only _ _ _) (by decide)
    have hclk : u.clk = (s.setBatch h.port none).clk := hkeep .clk (by decide)
    refine ⟨u, hu, hans, hparts, (batchOf_eq hclk _).trans (batchOf_setBatch_same ..), ?_⟩
    rw [hclk]
    exact tickets_setBatch ..
  case closes =>
    intro target hfailed hstarted hroom
    obtain ⟨k, hk, hid, hchanges, hclass, htarget⟩ := completeTicket_waits b.ticket b.changes (target := none) h.us
      ⟨h, 1, 0x21, .batchClose (classOf b.changes) (supersOf b.changes) (broodsOf b.changes)⟩ (s := s.setBatch h.port none)
      ((started_setBatch ..).trans hstarted) (fun beat hbeat => nomatch hbeat)
    let u : State := renewLeases h.port (mirrorSend (.close b.ticket (classOf b.changes) k.target) (batchClosed h.port k s))
    have hu : onlyChanges [.hive, .sems, .ev, .tally] (batchClosed h.port k s) (counted s u) :=
      onlyChanges_append (onlyChanges_append (mirrorSend_only _ _) (renewLeases_only _ _)) (counted_only s u)
    have hclk : (counted s u).clk = (batchClosed h.port k s).clk := hu .clk (by decide)
    refine ⟨counted s u, k, ?_, onlyChanges_append (batchClosed_only h.port k s) hu, ?_, ?_, hid, hchanges, hclass, ?_⟩
    · have hserve : sysBatchClose h ⟨b.id, 0, target⟩ s = u := by
        rw [sysBatchClose, batchCloseAct_close target hb hfailed hroom, hlocked, serve_later hs fun _ => hcap, hk]
        rfl
      exact congrArg (done s) hserve
    · exact (batchOf_eq hclk _).trans (batchOf_setBatch_same s h.port none)
    · rw [hclk]
      exact batchClosed_tickets ..
    · rwa [now_setBatch] at htarget

end Sys2Proof.Machine
end

section
/-!
PROOFS. The status reads that clear (03 R74, R89; 04 R126; 05 R163; 07 R225; 08 R241): the answer holds the counts as they stood, and what
is cleared is the latched part of the one unit named, or, of sys.bus_status, that of the bus and of the pools' channels.
-/

namespace Sys2Proof.Machine

open Sys2Proof

/-! ### What each clear changes -/

theorem onGroup_only (s : State) (n : Nat) (f : ProtGroup → ProtGroup) : onlyChanges [.prot] s (s.onGroup n f) := by
  intro p hp
  cases p <;> simp_all [Part.same]

theorem onInp_only (s : State) (n : Nat) (f : ScoutIn → ScoutIn) : onlyChanges [.scout] s (s.onInp n f) := by
  intro p hp
  cases p <;> simp_all [Part.same]

theorem onPower_only (s : State) (f : Power → Power) : onlyChanges [.power] s (s.onPower f) := by
  intro p hp
  cases p <;> simp_all [Part.same]

theorem onBus_only (s : State) (f : Bus → Bus) : onlyChanges [.bus] s (s.onBus f) := by
  intro p hp
  cases p <;> simp_all [Part.same]

theorem onPool_only (s : State) (f : Pool → Pool) : onlyChanges [.pool] s (s.onPool f) := by
  intro p hp
  cases p <;> simp_all [Part.same]

theorem clearLane_only (n : Nat) (s : State) : onlyChanges [.lanes] s (clearLane n s) := onLane_only s n _
theorem clearCpri_only (n : Nat) (s : State) : onlyChanges [.cpri] s (clearCpri n s) := onCpri_only s n _
/-- With no path named, sdh.status clears the port's counts alone. -/
theorem clearSdh_noPath (n : Nat) (s : State) :
    clearSdh n 0xFFFF s = s.onSdh n fun p => { p with b1 := 0, b2 := 0, msRei := 0, j0Crc := 0 } := rfl

theorem clearSdh_noPath_only (n : Nat) (s : State) : onlyChanges [.sdh] s (clearSdh n 0xFFFF s) := by
  rw [clearSdh_noPath]
  exact onSdh_only s n _

theorem clearBus_only (s : State) : onlyChanges [.bus, .pool] s (clearBus s) := onlyChanges_append (onBus_only s _) (onPool_only _ _)

/-! ### A unit read after a clear -/

theorem group_eq {s t : State} (h : t.prot = s.prot) (n : Nat) : t.group n = s.group n := by simp [State.group, h]
theorem inp_eq {s t : State} (h : t.scout = s.scout) (n : Nat) : t.inp n = s.inp n := by simp [State.inp, h]
@[simp] theorem group_onGroup_same (s : State) (n : Nat) (f : ProtGroup → ProtGroup) : (s.onGroup n f).group n = f (s.group n) := by
  simp [State.onGroup, State.group]
theorem group_onGroup_ne (s : State) {n m : Nat} (f : ProtGroup → ProtGroup) (h : m ≠ n) : (s.onGroup n f).group m = s.group m :=
  tget_tput_ne _ _ _ h
@[simp] theorem inp_onInp_same (s : State) (n : Nat) (f : ScoutIn → ScoutIn) : (s.onInp n f).inp n = f (s.inp n) := by
  simp [State.onInp, State.inp, State.onScout]
theorem inp_onInp_ne (s : State) {n m : Nat} (f : ScoutIn → ScoutIn) (h : m ≠ n) : (s.onInp n f).inp m = s.inp m := tget_tput_ne _ _ _ h

/-- Settles O9: every clause is one answer of its command's rules, with the fields read before the clear and the state after it, of which
the unit's part stands in the answered state. -/
theorem clearingReadsAnswer : Obligations.ClearingReadsAnswer := by
  intro h s hs
  refine ⟨?lane, ?sdh, ?cpri, ?prot, ?input, ?power, ?bus⟩
  case lane =>
    intro n hown hn
    obtain ⟨u, hu, hans, hparts, hkeep⟩ := exec_answers (i := .laneStatus h n 1) (ps := [.lanes]) hs rfl hown (fun hcap => nomatch hcap)
      (if_neg (by simp [hn])) (clearLane_only n s) (by decide)
    have hlanes : ∀ m, u.lane m = (clearLane n s).lane m := lane_eq (hkeep .lanes (by decide))
    refine ⟨u, hu, hans, hparts, ?_⟩
    simp +contextual [hlanes, clearLane, lane_onLane_ne]
  case sdh =>
    intro n hown hn hon hmode
    obtain ⟨u, hu, hans, hparts, hkeep⟩ := exec_answers (i := .sdhStatus h n 0xFFFF 1) (ps := [.sdh]) (t := clearSdh n 0xFFFF s)
      (fs := sdhStatusFields n 0xFFFF s) hs rfl hown (fun hcap => nomatch hcap)
      (by simp [isLineLane, show n < 256 by omega, sdhReadable, hon, hmode, noPath]) (clearSdh_noPath_only n s) (by decide)
    have hports : ∀ m, u.sdhOf m = (clearSdh n 0xFFFF s).sdhOf m := sdhOf_eq (hkeep .sdh (by decide))
    refine ⟨u, hu, hans, hparts, ?_⟩
    simp +contextual [hports, clearSdh_noPath, sdhOf_onSdh_ne]
  case cpri =>
    intro n hown hn hon hmode
    obtain ⟨u, hu, hans, hparts, hkeep⟩ := exec_answers (i := .cpriStatus h n 1) (ps := [.cpri]) (t := clearCpri n s)
      (fs := cpriStatusFields n s) hs rfl hown (fun hcap => nomatch hcap)
      (by simp [isLineLane, show n < 256 by omega, hon, hmode]) (clearCpri_only n s) (by decide)
    have hports : ∀ m, u.cpriOf m = (clearCpri n s).cpriOf m := cpriOf_eq (hkeep .cpri (by decide))
    refine ⟨u, hu, hans, hparts, ?_⟩
    simp +contextual [hports, clearCpri, cpriOf_onCpri_ne]
  case prot =>
    intro n hown hn
    obtain ⟨u, hu, hans, hparts, hkeep⟩ := exec_answers (i := .protStatus h n 1) (ps := [.prot]) hs rfl hown (fun hcap => nomatch hcap)
      (if_neg (by simp [hn])) (onGroup_only s n fun g => { g with switches := 0 }) (by decide)
    have hgroups := group_eq (hkeep .prot (by decide))
    refine ⟨u, hu, hans, hparts, ?_⟩
    simp +contextual [hgroups, group_onGroup_ne]
  case input =>
    intro i hown hi
    obtain ⟨u, hu, hans, hparts, hkeep⟩ := exec_answers (i := .scoutInputStatus h i 1) (ps := [.scout]) hs rfl hown
      (fun hcap => nomatch hcap) (if_neg (by simp [hi])) (onInp_only s i fun x => { x with failures := 0 }) (by decide)
    have hinputs := inp_eq (hkeep .scout (by decide))
    refine ⟨u, hu, hans, hparts, ?_⟩
    simp +contextual [hinputs, inp_onInp_ne]
  case power =>
    intro r hown hr
    obtain ⟨u, hu, hans, hparts, hkeep⟩ := exec_answers (i := .powerStatus h r 1) (ps := [.power]) hs rfl hown
      (fun hcap => nomatch hcap) (if_neg (by simp [hr])) (onPower_only s fun p => { p with pmbusErr := false }) (by decide)
    exact ⟨u, hu, hans, hparts, hkeep .power (by decide)⟩
  case bus =>
    intro hown
    obtain ⟨u, hu, hans, hparts, hkeep⟩ := exec_answers (i := .sysBusStatus h 1) (ps := [.bus, .pool]) hs rfl hown
      (fun hcap => nomatch hcap) rfl (clearBus_only s) (by decide)
    have hbus : u.bus = (clearBus s).bus := hkeep .bus (by decide)
    refine ⟨u, hu, hans, hparts, ?_⟩
    simp [hbus, clearBus]

end Sys2Proof.Machine
end

section
/-!
PROOFS. The loss of a lane's signal (03 R86; 04 R129): an SDH port whose report changes with it raises the source of its home tile,
n / 8 for lane n (14 R447). Only the lanes that the device has, below 256 on the line side, have a tile; of another lane that number may be
a source of the Guard's group, which keeps a sticky copy (14 R449).
-/

namespace Sys2Proof.Machine

open Sys2Proof

/-- A path of type 1. -/
def shortPath : SdhPath := { cfg := { ({} : SdhPath).cfg with type := 1 } }

/-- Lane 1688 in use as an SDH port, with the paths of its granules 1 and 0 listed in that order, which no canonical table has. The device
has the line lanes 0 to 255 and the hive lanes 256 to 259 (03, lane service). -/
def strayLane : State where
  lanes := [(1688, { enable := 1, mode := 1, los := false, lol := false })]
  sdh := [(1688, { cfg := { ({} : SdhPort).cfg with enable := 1 } })]
  paths := [(192 * 1688 + 1, shortPath), (192 * 1688, shortPath)]

/-- Its LOS masks the paths one by one. The masked path of granule 0 goes in front of the two listed, so the port reports three paths where
it reported two, and that change raises source 1688 / 8 = 211, the Guard's first. -/
theorem strayLane_los_marks_guard : (losDeclares 1688 strayLane).guard.events = 1 := by decide +kernel

/-- Refutes O45, by its clause on LOS_DECLARE. The clause leaves the lane's number and the path table free, but lists no part of the Guard
among those that may change: on lane 1688 with its paths out of order, the step sets bit 0 of GD_EVENTS. What fails is the missing bound
on the lane: the source of the home tile of a lane that the device has is one of 0 to 31, and none of the Guard's. -/
theorem not_laneDetection : ¬ Obligations.LaneDetection := by
  unfold Obligations.LaneDetection
  intro h
  obtain ⟨⟨t, ht, honly, -⟩, -⟩ := h 1688 strayLane (by decide)
  obtain rfl : counted strayLane (losDeclares 1688 strayLane) = t := Host.Outcome.next.inj ht
  have hguard : (losDeclares 1688 strayLane).guard = strayLane.guard := (counted_guard _ _).symm.trans (honly .guard (by decide))
  have hclear : strayLane.guard.events = 0 := rfl
  have hmark := strayLane_los_marks_guard
  rw [hguard, hclear] at hmark
  exact absurd hmark (by decide)

end Sys2Proof.Machine
end

section
/-!
PROOFS. The overhead channels of an SDH port (04 R124-R127): a capture record goes to ring 0 of the host port that sdh.oh named, and a
record that the ring does not take drives that port's event source (13 R420, R421). Only the ports 0 and 1 have a source of their own;
the number that another port would have may be a source of the Guard's group, which keeps a sticky copy (14 R449).
-/

namespace Sys2Proof.Machine

open Sys2Proof

/-- A source of the Guard's group leaves its mark in the sticky copy whenever it is raised. -/
theorem raise_guard_events {n : Nat} (s : State) (hn : 211 ≤ n ∧ n ≤ 242) :
    (raise n s).guard.events = withBit s.guard.events (n - 211) := by
  simp [raise, sticky, hn]

/-- A record that the ring does not take is counted there and raises the ring's source. -/
theorem ringPut_dropped {p n : Nat} {s : State} (rec : List Byte) (h : ringTakes p n s = false) :
    ringPut p n rec s = raise (portSrc p (8 + n)) (s.onRing p n fun r => { r with dropped := satAdd 32 r.dropped 1 }) :=
  if_neg (by simpa [ringTakes] using h)

/-- A capture record that ring 0 of its port does not take, where that ring's source lies in the Guard's group, is marked there. -/
theorem ohCapture_dropped_guard_events {n ch : Nat} {s : State} (hup : sdhUp s n = true) (hch : ch ≤ 4)
    (hon : bit (s.sdhOf n).oh.capture ch = true) (hnow : 8 ≤ s.now) (hdue : tget 0 (s.sdhOf n).ohMark ch ≤ s.now / 8 * 8 - 8)
    (hfull : ringTakes (s.sdhOf n).oh.port 0 s = false)
    (hsrc : 211 ≤ portSrc (s.sdhOf n).oh.port 8 ∧ portSrc (s.sdhOf n).oh.port 8 ≤ 242) :
    (ohCapture n ch s).guard.events = withBit s.guard.events (portSrc (s.sdhOf n).oh.port 8 - 211) := by
  simp [ohCapture, hup, hch, hon, hnow, hdue, hfull, ringPut_dropped, raise_guard_events _ hsrc, State.onRing]

/-- Lane 0 in use as an SDH port, at the end of its first flight, with the capture of channel 0 to a ring of host port 5: a port that the
device does not have, and that sdh.oh refuses (04 R125). -/
def strayCapture : State where
  clk := { started := true, beat := 8 }
  lanes := [(0, { enable := 1, mode := 1, los := false, lol := false })]
  sdh := [(0, { cfg := { ({} : SdhPort).cfg with enable := 1 }, oh := { ({} : SdhPort).oh with capture := 1, port := 5 } })]

/-- Port 5 has no ring that takes the record, and its source would be 131 + 16 · 5 + 8 = 219, of the Guard's group. -/
theorem strayCapture_marks_guard : (ohCapture 0 0 strayCapture).guard.events = 2 ^ 8 :=
  ohCapture_dropped_guard_events (by decide) (by decide) (by decide) (by decide) (by decide) (by decide) (by decide)

/-- Refutes O46, by its clause on OH_CAPTURE_RECORD. The clause leaves the host port of the captured channel free, but lists no part of
the Guard among those that may change: with the capture set to port 5, the record that no ring takes raises source 219 and so sets bit 8 of
GD_EVENTS. What fails is the missing bound on the port: the sources of the ports that the device has are none of the Guard's. -/
theorem not_sdhFrames : ¬ Obligations.SdhFrames := by
  unfold Obligations.SdhFrames
  intro h
  obtain ⟨-, -, -, -, -, -, hcapture, -⟩ := h 0 strayCapture (by decide) (by decide)
  obtain ⟨t, ht, honly, -⟩ := hcapture 0 (by decide) (by decide) (by decide) (by decide)
  obtain rfl : counted strayCapture (ohCapture 0 0 strayCapture) = t := Host.Outcome.next.inj ht
  have hguard : (ohCapture 0 0 strayCapture).guard = strayCapture.guard := (counted_guard _ _).symm.trans (honly .guard (by decide))
  have hclear : strayCapture.guard.events = 0 := rfl
  have hmark := strayCapture_marks_guard
  rw [hguard, hclear] at hmark
  exact absurd hmark (by decide)

end Sys2Proof.Machine
end

section
/-!
PROOFS. The error-rate detectors of sections, paths and tributaries (04 R130, R131; 07 R212): the end of a second and of a sub-window are
each one function of the detector, the same for the three kinds of unit. Each unit's own operation stores that function's result in the
unit's record, and a change of the unit's report raises the source of its tile or nurse unit (04 R129; 07 R213).
-/

namespace Sys2Proof.Machine

open Sys2Proof

/-! ### What the operations of the units change -/

theorem onPath_only (s : State) (n g : Nat) (f : SdhPath → SdhPath) : onlyChanges [.paths] s (s.onPath n g f) := by
  intro p hp
  cases p <;> simp_all [Part.same]

theorem onTu_only (s : State) (b g tu : Nat) (f : NurseTu → NurseTu) : onlyChanges [.nurse] s (s.onTu b g tu f) := by
  intro p hp
  cases p <;> simp_all [Part.same]

/-- A source of a tile or of a nurse unit, which no part keeps a sticky copy of (14 R447, R449). -/
theorem raiseIf_only {n : Nat} (hn : n < 115) (b : Bool) (s : State) : onlyChanges [.ev] s (raiseIf b n s) := by
  have hguard := raiseIf_guard_same b n s (by omega)
  have hhive := raiseIf_hive_same b n s (by omega)
  have hpower := raiseIf_power_same b n s (by omega)
  intro p hp
  cases p <;> simp_all [Part.same]

theorem withSdhEvents_only {n : Nat} (hn : n < 256) (f : State → State) (s : State) : onlyChanges [.ev] (f s) (withSdhEvents n f s) :=
  raiseIf_only (by omega) _ _

theorem withTuEvents_only {b : Nat} (hb : b < 96) (g tu : Nat) (f : State → State) (s : State) :
    onlyChanges [.ev] (f s) (withTuEvents b g tu f s) :=
  raiseIf_only (by unfold nurseSrc; omega) _ _

theorem sdhBerSub_only (n : Nat) (isExc : Bool) (s : State) : onlyChanges [.sdh] s (sdhBerSub n isExc s) := by
  unfold sdhBerSub
  dsimp only
  split <;> exact onSdh_only s n _

theorem pathBerSub_only (n g : Nat) (isExc : Bool) (s : State) : onlyChanges [.paths] s (pathBerSub n g isExc s) := by
  unfold pathBerSub
  dsimp only
  split <;> exact onPath_only s n g _

theorem tuBerSub_only (b g tu : Nat) (isExc : Bool) (s : State) : onlyChanges [.nurse] s (tuBerSub b g tu isExc s) := by
  unfold tuBerSub
  dsimp only
  split <;> exact onTu_only s b g tu _

/-! ### A unit read after a write -/

@[simp] theorem path_onPath_same (s : State) (n g : Nat) (f : SdhPath → SdhPath) : (s.onPath n g f).path n g = f (s.path n g) := by
  simp [State.onPath, State.path]

@[simp] theorem tuOf_onTu_same (s : State) (b g tu : Nat) (f : NurseTu → NurseTu) : (s.onTu b g tu f).tuOf b g tu = f (s.tuOf b g tu) := by
  simp [State.onTu, State.tuOf, State.onNurse]

/-- The parts that hold the detectors. -/
def detParts : List Part := [.sdh, .paths, .nurse]

/-- Where those parts are the same, so is every detector. -/
theorem detectors_eq {ps : List Part} {s t : State} (h : onlyChanges ps s t) (hps : ∀ p ∈ detParts, p ∉ ps) (u : DetUnit) :
    degOf t u = degOf s u ∧ ∀ isExc, berOf t isExc u = berOf s isExc u := by
  have hsdh : t.sdh = s.sdh := h .sdh (hps _ (by decide))
  have hpaths : t.paths = s.paths := h .paths (hps _ (by decide))
  have hnurse : t.nurse = s.nurse := h .nurse (hps _ (by decide))
  cases u <;> simp [degOf, berOf, State.sdhOf, State.path, State.tuOf, hsdh, hpaths, hnurse]

/-! ### One detector -/

/-- Away from the end of a second the detector stands; that the step does nothing then is the model's choice (log 27). -/
theorem Deg.second_idle {now : Nat} (d : Deg) (thr m : Nat) (was : Bool) (h : now % 8000 ≠ 0) : Deg.second now d thr m was = (d, was) := by
  simp [Deg.second, h]

section
variable {now : Nat} {d : Deg} (hend : now % 8000 = 0) (honce : d.closed ≠ now + 1)
include hend honce

theorem Deg.second_masked (thr m : Nat) (was : Bool) (h : d.masked = true) :
    Deg.second now d thr m was = ({ closed := now + 1 }, was) := by
  simp [Deg.second, hend, honce, h]

theorem Deg.second_bad {thr : Nat} (m : Nat) (was : Bool) (h : d.masked = false) (hbad : thr ≤ d.errored) :
    Deg.second now d thr m was = ({ badRun := d.badRun + 1, closed := now + 1 }, was || decide (m ≤ d.badRun + 1)) := by
  simp [Deg.second, hend, honce, h, hbad]

theorem Deg.second_good {thr : Nat} (m : Nat) (was : Bool) (h : d.masked = false) (hgood : d.errored < thr) :
    Deg.second now d thr m was = ({ goodRun := d.goodRun + 1, closed := now + 1 }, was && !decide (m ≤ d.goodRun + 1)) := by
  simp [Deg.second, hend, honce, h, Nat.not_le.mpr hgood]

end

/-- At the end of a sub-window its sum joins the last ten; their total declares the defect from the first count on, and keeps it from the
second one on. -/
theorem Ber.sub_end {now k : Nat} {d : Ber} (wb m : Nat) (was : Bool) (hend : now % berBeats k = 0) (honce : d.closed ≠ now + 1) :
    Ber.sub now d k wb m was = (⟨0, (d.cur :: d.subs).take 10, now + 1⟩,
      decide (berCount k k wb m ≤ d.total) || (was && !decide (d.total < berCount k (k + 1) wb m))) := by
  have hsub : Ber.sub now d k wb m was = (⟨0, (d.cur :: d.subs).take 10, now + 1⟩,
      if berCount k k wb m ≤ d.total then true else if d.total < berCount k (k + 1) wb m then false else was) := by
    simp [Ber.sub, hend, honce, Ber.total]
  rw [hsub]
  by_cases hdeclare : berCount k k wb m ≤ d.total
  · simp [hdeclare]
  · by_cases hclear : d.total < berCount k (k + 1) wb m <;> simp [hdeclare, hclear]

/-! ### The detectors of a unit -/

/-- A second's end in the unit's own record, before its events. -/
def degStored (s : State) : DetUnit → State
  | .ms n => sdhDegSecond n s
  | .hp n g => pathDegSecond n g s
  | .lp b g tu => tuDegSecond b g tu s

/-- A sub-window's end in the unit's own record, before its events. -/
def berStored (s : State) (isExc : Bool) : DetUnit → State
  | .ms n => sdhBerSub n isExc s
  | .hp n g => pathBerSub n g isExc s
  | .lp b g tu => tuBerSub b g tu isExc s

theorem degStored_only (s : State) (u : DetUnit) : onlyChanges detParts s (degStored s u) := by
  cases u with
  | ms n => exact onlyChanges_mono (onSdh_only s n _) (by decide)
  | hp n g => exact onlyChanges_mono (onPath_only s n g _) (by decide)
  | lp b g tu => exact onlyChanges_mono (onTu_only s b g tu _) (by decide)

theorem berStored_only (s : State) (isExc : Bool) (u : DetUnit) : onlyChanges detParts s (berStored s isExc u) := by
  cases u with
  | ms n => exact onlyChanges_mono (sdhBerSub_only n isExc s) (by decide)
  | hp n g => exact onlyChanges_mono (pathBerSub_only n g isExc s) (by decide)
  | lp b g tu => exact onlyChanges_mono (tuBerSub_only b g tu isExc s) (by decide)

/-- The unit's detector is then what `Deg.second` makes of it. -/
theorem degOf_degStored (s : State) (u : DetUnit) :
    degOf (degStored s u) u = Deg.second s.now (degOf s u).1 (degLimits s u).1 (degLimits s u).2 (degOf s u).2 := by
  cases u <;> simp [degOf, degLimits, degStored, sdhDegSecond, pathDegSecond, tuDegSecond]

/-- The unit's one detector is then what `Ber.sub` makes of it. -/
theorem berOf_berStored (s : State) (isExc : Bool) (u : DetUnit) :
    berOf (berStored s isExc u) isExc u = Ber.sub s.now (berOf s isExc u).1 (berLimits s isExc u).1 (berLimits s isExc u).2.1
      (berLimits s isExc u).2.2 (berOf s isExc u).2 := by
  cases u with
  | ms n => cases isExc <;> simp [berOf, berLimits, berStored, sdhBerSub]
  | hp n g => cases isExc <;> simp [berOf, berLimits, berStored, pathBerSub]
  | lp b g tu => cases isExc <;> simp [berOf, berLimits, berStored, tuBerSub]

/-- The other one stands. -/
theorem berOf_berStored_other (s : State) (isExc : Bool) (u : DetUnit) : berOf (berStored s isExc u) (!isExc) u = berOf s (!isExc) u := by
  cases u with
  | ms n => cases isExc <;> simp [berOf, berStored, sdhBerSub]
  | hp n g => cases isExc <;> simp [berOf, berStored, pathBerSub]
  | lp b g tu => cases isExc <;> simp [berOf, berStored, tuBerSub]

section
variable {u : DetUnit} {s : State} (hreal : detReal u = true) (hup : detUp s u = true)
include hreal hup

/-- The step of a unit in use stores the second's end and may raise the unit's source. -/
theorem degSecond_stores : onlyChanges [.ev] (degStored s u) (degSecond u s) := by
  cases u with
  | ms n => simpa [degSecond, degStored, hup] using withSdhEvents_only (of_decide_eq_true hreal) (sdhDegSecond n) s
  | hp n g => simpa [degSecond, degStored, hup] using withSdhEvents_only (of_decide_eq_true hreal) (pathDegSecond n g) s
  | lp b g tu => simpa [degSecond, degStored, hup] using withTuEvents_only (of_decide_eq_true hreal) g tu (tuDegSecond b g tu) s

/-- The same of a sub-window's end. -/
theorem berSub_stores (isExc : Bool) : onlyChanges [.ev] (berStored s isExc u) (berSub u isExc s) := by
  cases u with
  | ms n => simpa [berSub, berStored, hup] using withSdhEvents_only (of_decide_eq_true hreal) (sdhBerSub n isExc) s
  | hp n g => simpa [berSub, berStored, hup] using withSdhEvents_only (of_decide_eq_true hreal) (pathBerSub n g isExc) s
  | lp b g tu => simpa [berSub, berStored, hup] using withTuEvents_only (of_decide_eq_true hreal) g tu (tuBerSub b g tu isExc) s

end

/-! ### The obligation -/

/-- Settles O47: the unit's detector after each step is what its one function makes of it, and each clause is one case of that function.
That the end of a second away from its boundary changes nothing is the model's choice (log 27). -/
theorem errorDetectors : Obligations.ErrorDetectors := by
  intro u s hreal hup
  have hevents : onlyChanges [.ev, .tally] (degStored s u) (counted s (degSecond u s)) :=
    onlyChanges_mono (onlyChanges_append (degSecond_stores hreal hup) (counted_only s _)) (by decide)
  have hparts : onlyChanges [.sdh, .paths, .nurse, .ev, .tally] s (counted s (degSecond u s)) :=
    onlyChanges_append (degStored_only s u) hevents
  have hdeg := (detectors_eq hevents (by decide) u).1.trans (degOf_degStored s u)
  refine ⟨?second, ?idle, ?subwindow⟩
  case second =>
    intro hend honce
    refine ⟨_, rfl, hparts, fun hmask => ?_, fun hmask hbad => ?_, fun hmask hgood => ?_⟩
    · exact hdeg.trans (Deg.second_masked hend honce _ _ _ hmask)
    · exact hdeg.trans (Deg.second_bad hend honce _ _ hmask hbad)
    · exact hdeg.trans (Deg.second_good hend honce _ _ hmask hgood)
  case idle =>
    intro hmid
    exact ⟨_, rfl, hparts, hdeg.trans (Deg.second_idle _ _ _ _ hmid)⟩
  case subwindow =>
    intro isExc hend honce
    have hevents : onlyChanges [.ev, .tally] (berStored s isExc u) (counted s (berSub u isExc s)) :=
      onlyChanges_mono (onlyChanges_append (berSub_stores hreal hup isExc) (counted_only s _)) (by decide)
    obtain ⟨-, hkeep⟩ := detectors_eq hevents (by decide) u
    have hber := (hkeep isExc).trans ((berOf_berStored s isExc u).trans (Ber.sub_end _ _ _ hend honce))
    refine ⟨_, rfl, onlyChanges_append (berStored_only s isExc u) hevents, congrArg Prod.fst hber,
      (hkeep _).trans (berOf_berStored_other s isExc u), fun hdeclare => ?_, fun hbelow => ?_⟩
    · simp [hber, hdeclare]
    · simp [hber, Nat.not_le.mpr hbelow]

end Sys2Proof.Machine
end

section
/-!
PROOFS. The C&M channels of a CPRI port (05 R150, R151): a capture record goes to ring 2 of the host port that cpri.cm named, and a record
that the ring does not take drives that port's event source (13 R420, R421). Only the ports 0 and 1 have a source of their own; the number
that another port would have may be a source of the Guard's group, which keeps a sticky copy (14 R449).
-/

namespace Sys2Proof.Machine

open Sys2Proof

/-- A record that the ring does not take, where the ring's source lies in the Guard's group, is marked there. -/
theorem ringPut_dropped_guard_events {p n : Nat} {s : State} (rec : List Byte) (hfull : ringTakes p n s = false)
    (hsrc : 211 ≤ portSrc p (8 + n) ∧ portSrc p (8 + n) ≤ 242) :
    (ringPut p n rec s).guard.events = withBit s.guard.events (portSrc p (8 + n) - 211) := by
  simp [ringPut_dropped rec hfull, raise_guard_events _ hsrc]

/-- A due C&M capture changes the Guard only as putting the record into its ring does. -/
theorem cmCapture_guard {n group : Nat} {bounds : Nat × Nat} {s : State} (hup : cpriUp s n = true)
    (hbounds : cmBounds (s.cpriOf n).rxPtr group = some bounds) (hon : bit (s.cpriOf n).cm.capture group = true) (hnow : 8 ≤ s.now)
    (hdue : tget 0 (s.cpriOf n).cmMark group ≤ 8 * (s.now / 8 - 1)) :
    ∃ rec, (cmCapture n group s).guard = (ringPut (s.cpriOf n).cm.port 2 rec s).guard := by
  have hgo : (cpriUp s n && bit (s.cpriOf n).cm.capture group && decide (8 ≤ s.now) &&
      decide (tget 0 (s.cpriOf n).cmMark group ≤ 8 * (s.now / 8 - 1))) = true := by
    simp only [hup, hon, hnow, hdue, decide_true, Bool.and_self]
  unfold cmCapture
  simp only [hbounds]
  rw [if_pos hgo]
  split <;> exact ⟨_, rfl⟩

/-- Lane 0 in use as a CPRI port of option 1, at the end of its first flight, with the capture of group 0 to a ring of host port 5: a port
that the device does not have, and that cpri.cm refuses (05, cpri service). -/
def strayCmCapture : State where
  clk := { started := true, beat := 8 }
  lanes := [(0, { enable := 1, mode := 5, los := false, lol := false })]
  cpri := [(0, { cfg := { ({} : CpriPort).cfg with enable := 1 }, cm := { ({} : CpriPort).cm with capture := 1, port := 5 } })]

/-- Port 5 has no ring that takes the record, and its source would be 131 + 16 · 5 + 10 = 221, of the Guard's group. -/
theorem strayCmCapture_marks_guard : (cmCapture 0 0 strayCmCapture).guard.events = 2 ^ 10 := by
  obtain ⟨rec, hrec⟩ := cmCapture_guard (n := 0) (group := 0) (bounds := (1, 1)) (s := strayCmCapture) (by decide) (by decide) (by decide)
    (by decide) (by decide)
  rw [hrec]
  exact ringPut_dropped_guard_events (p := 5) (n := 2) rec (by decide) (by decide)

/-- Refutes O48, by its clause on CM_CAPTURE_RECORD. The clause leaves the host port of the captured group free, but lists no part of the
Guard among those that may change: with the capture set to port 5, the record that no ring takes raises source 221 and so sets bit 10 of
GD_EVENTS. What fails is the missing bound on the port: the sources of the ports that the device has are none of the Guard's. -/
theorem not_cpriFrames : ¬ Obligations.CpriFrames := by
  unfold Obligations.CpriFrames
  intro h
  obtain ⟨-, -, -, -, -, -, hcapture, -⟩ := h 0 strayCmCapture (by decide) (by decide)
  obtain ⟨t, ht, honly, -⟩ := hcapture 0 (1, 1) (by decide) (by decide) (by decide) (by decide)
  obtain rfl : counted strayCmCapture (cmCapture 0 0 strayCmCapture) = t := Host.Outcome.next.inj ht
  have hguard : (cmCapture 0 0 strayCmCapture).guard = strayCmCapture.guard :=
    (counted_guard _ _).symm.trans (honly .guard (by decide))
  have hclear : strayCmCapture.guard.events = 0 := rfl
  have hmark := strayCmCapture_marks_guard
  rw [hguard, hclear] at hmark
  exact absurd hmark (by decide)

end Sys2Proof.Machine
end

section
/-!
PROOFS. The connections of the Comb and the uses of the nurse units (06 R181-R188; 07 R197, R215): a comb command takes a ticket that
writes each output it names, whatever the source in force (log 38), is judged against the pending state (log 39), and counts every write
in the limits (logs 111, 128), which is the model's choice; a nurse command takes one where it enables a use, or changes a tributary of an
enabled one.
-/

namespace Sys2Proof.Machine

open Sys2Proof

/-! ### What the writes of a nurse unit change -/

theorem onVc_only (s : State) (b g : Nat) (f : NurseVc → NurseVc) : onlyChanges [.nurse] s (s.onVc b g f) := by
  intro p hp
  cases p <;> simp_all [Part.same]

theorem onAxv_only (s : State) (b d g : Nat) (f : Axv → Axv) : onlyChanges [.nurse] s (s.onAxv b d g f) := by
  intro p hp
  cases p <;> simp_all [Part.same]

/-- A VC that is set disabled takes the settings as they are (02 R56). -/
theorem applyNurseVc_disabled_only {a : NurseVcArgs} (h : a.enable = 0) (s : State) : onlyChanges [.nurse] s (applyNurseVc a s) := by
  simpa [applyNurseVc, h] using onVc_only s a.b a.g _

/-- The same of an AxC group. -/
theorem applyAxv_disabled_only {a : NurseAxvArgs} (h : a.enable = 0) (s : State) : onlyChanges [.nurse] s (applyAxv a s) := by
  simpa [applyAxv, h] using onAxv_only s a.b a.dir a.g0 _

/-- The writes that a ticketed nurse.vc makes at once: a disabled VC takes its other settings. -/
theorem nurseVc_writes {a : NurseVcArgs} {s : State} {ls : List Live} (hls : ls = [] ∨ ls = [.now (.nurseVc { a with enable := 0 })]) :
    onlyChanges [.nurse] s (applyLives ls s) := by
  rcases hls with rfl | rfl
  · exact onlyChanges_refl _ _
  · exact applyNurseVc_disabled_only (a := { a with enable := 0 }) rfl s

/-- The same of a ticketed nurse.axcvcat. -/
theorem nurseAxv_writes {a : NurseAxvArgs} {s : State} {ls : List Live} (hls : ls = [] ∨ ls = [.now (.axv { a with enable := 0 })]) :
    onlyChanges [.nurse] s (applyLives ls s) := by
  rcases hls with rfl | rfl
  · exact onlyChanges_refl _ _
  · exact applyAxv_disabled_only (a := { a with enable := 0 }) rfl s

/-! ### The writes of a list of runs -/

/-- Super connections alone, at most 4,096 of them, fit a ticket (02 R57, R62). -/
theorem tooLarge_supers {cs : List Change} (hcs : ∀ c ∈ cs, ∃ dst src, c = .super dst src) (hlen : cs.length ≤ 4096) :
    tooLarge cs = false := by
  have hsupers : supersOf cs ≤ cs.length := List.length_filter_le _ _
  have hbroods : broodsOf cs = 0 := by
    refine List.length_eq_zero_iff.mpr (List.filter_eq_nil_iff.mpr fun c hc => ?_)
    obtain ⟨dst, src, rfl⟩ := hcs c hc
    exact Bool.false_ne_true
  simp [tooLarge, hbroods, hsupers.trans hlen]

/-- The same of Brood connections, at most 65,536. -/
theorem tooLarge_broods {cs : List Change} (hcs : ∀ c ∈ cs, ∃ dst src axcKind, c = .brood dst src axcKind) (hlen : cs.length ≤ 65536) :
    tooLarge cs = false := by
  have hbroods : broodsOf cs ≤ cs.length := List.length_filter_le _ _
  have hsupers : supersOf cs = 0 := by
    refine List.length_eq_zero_iff.mpr (List.filter_eq_nil_iff.mpr fun c hc => ?_)
    obtain ⟨dst, src, axcKind, rfl⟩ := hcs c hc
    exact Bool.false_ne_true
  simp [tooLarge, hsupers, hbroods.trans hlen]

/-- Runs make a write for each output, so a list of runs that are not empty makes one at least. -/
theorem runs_ne_nil {α β : Type} {es : List α} {width : α → Nat} {f : α → Nat → β} (hes : es ≠ []) (hw : ∀ e ∈ es, width e ≠ 0) :
    (es.flatMap fun e => (List.range (width e)).map (f e)) ≠ [] := by
  obtain ⟨e, he⟩ := List.exists_mem_of_ne_nil es hes
  intro hnil
  exact hw e he (by simpa using List.flatMap_eq_nil_iff.mp hnil e he)

theorem connWrites_ne_nil {op : Nat} {es : List ConnEntry} (hes : es ≠ []) (hbad : es.any (badConn op) = false) : connWrites op es ≠ [] := by
  refine runs_ne_nil hes fun e he hzero => ?_
  have hgood := List.any_eq_false.mp hbad e he
  simp [badConn, hzero] at hgood

theorem connWrites_fits {op : Nat} {es : List ConnEntry} (hsum : (es.map fun e => e.width).sum ≤ 4096) :
    tooLarge (connWrites op es) = false := by
  refine tooLarge_supers (fun c hc => ?_) (by simpa [connWrites, List.length_flatMap] using hsum)
  obtain ⟨e, -, hc⟩ := List.mem_flatMap.mp hc
  obtain ⟨k, -, rfl⟩ := List.mem_map.mp hc
  exact ⟨_, _, rfl⟩

theorem broodWrites_ne_nil {op kind : Nat} {es : List BroodEntry} (hes : es ≠ []) (hbad : es.any (badBrood op) = false) :
    broodWrites op kind es ≠ [] := by
  refine runs_ne_nil hes fun e he hzero => ?_
  have hgood := List.any_eq_false.mp hbad e he
  simp [badBrood, hzero] at hgood

theorem broodWrites_fits {op kind : Nat} {es : List BroodEntry} (hsum : (es.map fun e => e.cells).sum ≤ 65536) :
    tooLarge (broodWrites op kind es) = false := by
  refine tooLarge_broods (fun c hc => ?_) (by simpa [broodWrites, List.length_flatMap] using hsum)
  obtain ⟨e, -, hc⟩ := List.mem_flatMap.mp hc
  obtain ⟨k, -, rfl⟩ := List.mem_map.mp hc
  exact ⟨_, _, _, rfl⟩

/-! ### Tickets -/

/-- A capping command whose rules only give changes: a ticket of its own holds them all, and nothing else moves. -/
theorem exec_tickets_only {i : Instr} {h : Hdr} {svc cmd : Nat} {locked cap : Bool} {shape : Fields} {act : Act} {cs : List Change}
    {kind : ReplyKind} {s : State} (hs : heard h s) (hm : mayTicket h s) (he : exec i s = done s (serve h svc cmd locked cap shape act s))
    (hl : locked = false) (hc : cap = true) (ha : act = .cap cs kind s) (hne : cs ≠ []) (hsize : tooLarge cs = false) :
    ∃ u, exec i s = .next u ∧ ticketed h svc cmd kind cs s u ∧ onlyChanges ticketParts s u := by
  subst hl hc ha
  obtain ⟨u, hu, htick, hsame⟩ := serve_ticket (svc := svc) (cmd := cmd) (shape := shape) (kind := kind) hs hm hne hsize rfl
  have hserve : onlyChanges [.sems, .clk, .hive] s u := hsame
  refine ⟨counted s u, by rw [he, hu]; rfl, by simpa [ticketed] using htick, ?_⟩
  exact onlyChanges_mono (onlyChanges_append hserve (counted_only s u)) (by decide)

/-- comb.tu, where its rules take the entries: a connection writes the outputs' sources, a disconnection drops them. -/
theorem combTuAct_takes {p op : Nat} {es : List TuEntry} {s : State} (hes : es ≠ []) (hlen : es.length ≤ 256) (hop : op ≤ 1)
    (hbad : es.any (badTu op) = false) (hclash : runsClash tuClash es = false)
    (hfree : (es.any fun e => broodOwned (groupsWill p s) e.dstB fun x => (tuOutputs e).contains x) = false) :
    let cs := if op = 0 then tuWrites op es else tuDrops es
    combTuAct p op es s = .cap cs (.comb (differing cs s)) s :=
  if_neg (by simp only [hbad, hclash, hfree]; simp [hes, hlen, hop])

/-- nurse.tu, on a tributary of an enabled VC: the change alone, since nothing of an enabled use is written at once. -/
theorem nurseTuAct_enabled {p : Nat} {a : NurseTuArgs} {s : State} (hb : a.b ≤ 95) (hg : a.g ≤ 191)
    (htype : (tuType (s.vcOf a.b a.g).cfg a.tu).isSome = true)
    (hbad : badTuArgs (tuType (s.vcOf a.b a.g).cfg a.tu == some 4) a = false) (hon : (s.vcOf a.b a.g).cfg.enable = 1)
    (hdiff : ((s.tuOf a.b a.g a.tu).cfg != a) = true) : nurseTuAct p a s = .cap [.nurseTu a] .status s := by
  have hknown : (tuType (s.vcOf a.b a.g).cfg a.tu).isNone = false := by simpa [Option.isSome_iff_ne_none] using htype
  obtain ⟨ls, hblock, hls⟩ := setBlock_ticket (p := p) (on := (s.vcOf a.b a.g).cfg.enable == 1) (wants := false) (off := .nurseTu a)
    (c := .nurseTu a) (live := []) (kind := .status) (s := s) hdiff (.inl (beq_iff_eq.mpr hon))
  obtain rfl : ls = [] := hls.resolve_right fun hoff => by simp [hon] at hoff
  exact (if_neg (by simp [hb, hg, hknown, hbad])).trans hblock

/-- An AxC group's list holds no more than its AxCs, so nurse.axcvcat takes it as it is. -/
theorem exec_nurseAxcvcat {h : Hdr} {a : NurseAxvArgs} {s : State} (hlen : a.axcs.length = a.nAxc) :
    exec (.nurseAxcvcat h a) s =
      done s (serve h 6 3 (noDomain h 6 s) (changes h.port (.axv a) (axvDiffers a s) s) reserved6 (nurseAxvAct h.port a s) s) := by
  have hall : { a with axcs := a.axcs.take a.nAxc } = a := by rw [List.take_of_length_le hlen.le]
  show done s (nurseAxcvcat h a s) = _
  rw [nurseAxcvcat, hall]

/-- Settles O10: the rules of each comb command give the writes of the outputs it names, which are one at least and within the limits;
those of a nurse command that enables a use, or changes a tributary of an enabled one, give that one change. -/
theorem fabricSettingsTakeTickets : Obligations.FabricSettingsTakeTickets := by
  refine ⟨fun h s hs hm hown => ⟨?connect, ?brood, ?tu, ?tuDrop⟩, fun h s hs hm hown => ⟨?vc, ?nurseTu, ?axv⟩⟩
  case connect =>
    intro op es hes hlen hop hbad hsum hclash hfree hadmit
    have hact : combConnectAct h.port op es s = .cap (connWrites op es) (.comb (differing (connWrites op es) s)) s :=
      (if_neg (by simp only [hbad, hclash, hfree]; simp [hes, hlen, hop, hsum])).trans (if_neg (by simp [hadmit]))
    exact exec_tickets_only (i := .combConnect h op es) hs hm rfl hown rfl hact (connWrites_ne_nil hes hbad) (connWrites_fits hsum)
  case brood =>
    intro op kind es hes hlen hop hkind hbad hsum hclash hfree
    have hact : combBroodAct h.port op kind es s = .cap (broodWrites op kind es) (.comb (differing (broodWrites op kind es) s)) s :=
      if_neg (by simp only [hbad, hclash, hfree]; simp [hes, hlen, hop, hkind, hsum])
    exact exec_tickets_only (i := .combBrood h op kind es) hs hm rfl hown rfl hact (broodWrites_ne_nil hes hbad) (broodWrites_fits hsum)
  case tu =>
    intro es hes hlen hbad hclash hfree hne hsize
    exact exec_tickets_only (i := .combTu h 0 es) hs hm rfl hown rfl (combTuAct_takes hes hlen (by decide) hbad hclash hfree) hne hsize
  case tuDrop =>
    intro es hes hlen hbad hclash hfree hne hsize
    exact exec_tickets_only (i := .combTu h 1 es) hs hm rfl hown rfl (combTuAct_takes hes hlen (by decide) hbad hclash hfree) hne hsize
  case vc =>
    intro a hbad hclash hoff hen
    have hdiff : vcDiffers a s = true := bne_iff_ne.mpr fun heq => by simpa [hen, hoff] using congrArg NurseVcArgs.enable heq
    have hchange : vcChange a s = .nurseVc a := by simp [vcChange, hoff]
    obtain ⟨ls, hblock, hls⟩ := setBlock_ticket (p := h.port) (on := (s.vcOf a.b a.g).cfg.enable == 1) (wants := a.enable == 1)
      (off := .nurseVc { a with enable := 0 }) (c := .nurseVc a) (live := []) (kind := .status) (s := s) hdiff (.inr (beq_iff_eq.mpr hen))
    have hact : nurseVcAct h.port a s = .cap [.nurseVc a] .status (writeLive ls s) := by
      rw [← hblock, ← hchange]
      exact (if_neg (by simp [hbad, hclash])).trans (if_neg (by simp [hoff]))
    obtain ⟨u, hu, htick, hparts, -⟩ := exec_tickets (i := .nurseVc h a) (ps := [.nurse]) hs hm rfl hown (changes_of_differs hdiff) hact rfl
      (writeLive_only (nurseVc_writes (hls.imp_right And.right))) (by decide)
    exact ⟨u, hu, htick, hparts⟩
  case nurseTu =>
    intro a hb hg htype hbad hon hne
    have hdiff : ((s.tuOf a.b a.g a.tu).cfg != tuSeen a) = true := bne_iff_ne.mpr hne
    exact exec_tickets_only (i := .nurseTu h a) hs hm rfl hown (changes_of_differs hdiff)
      (nurseTuAct_enabled (a := tuSeen a) hb hg htype hbad hon hdiff) (List.cons_ne_nil _ _) rfl
  case axv =>
    intro a hlen hbad hclash hadmit hfits hoff hen
    have hdiff : axvDiffers a s = true := bne_iff_ne.mpr fun heq => by simpa [hen, hoff] using congrArg NurseAxvArgs.enable heq
    obtain ⟨ls, hblock, hls⟩ := setBlock_ticket (p := h.port) (on := (s.axvOf a.b a.dir a.g0).cfg.enable == 1) (wants := a.enable == 1)
      (off := .axv { a with enable := 0 }) (c := .axv a) (live := []) (kind := .status) (s := s) hdiff (.inr (beq_iff_eq.mpr hen))
    have hact : nurseAxvAct h.port a s = .cap [.axv a] .status (writeLive ls s) :=
      (if_neg (by simp [hbad, hclash])).trans ((if_neg (by simp [hoff])).trans ((if_neg (by simp [hadmit])).trans
        ((if_neg (by simp [hfits])).trans hblock)))
    obtain ⟨u, hu, htick, hparts, -⟩ := exec_tickets (ps := [.nurse]) hs hm (exec_nurseAxcvcat hlen) hown (changes_of_differs hdiff) hact
      rfl (writeLive_only (nurseAxv_writes (hls.imp_right And.right))) (by decide)
    exact ⟨u, hu, htick, hparts⟩

end Sys2Proof.Machine
end

section
/-!
PROOFS. The Comb's tests and its monitor tap (06 R194, R195): comb.test writes one stream at once, comb.tap the tap's own record, and each
answer holds the fields as they then stand.
-/

namespace Sys2Proof.Machine

open Sys2Proof

/-! ### The Comb's part -/

theorem onComb_only (s : State) (f : Comb → Comb) : onlyChanges [.comb] s (s.onComb f) := by
  intro p hp
  cases p <;> simp_all [Part.same]

theorem stream_eq {s t : State} (h : t.comb = s.comb) (port k : Nat) : t.stream port k = s.stream port k := by simp [State.stream, h]

@[simp] theorem stream_raiseIf (b : Bool) (n : Nat) (s : State) (port k : Nat) : (raiseIf b n s).stream port k = s.stream port k :=
  stream_eq (by simp) port k

theorem streamFields_eq {s t : State} (h : t.comb = s.comb) (port k : Nat) : streamFields port k t = streamFields port k s := by
  simp [streamFields, stream_eq h]

theorem tapFields_eq {s t : State} (h : t.comb = s.comb) : tapFields t = tapFields s := by simp [tapFields, h]

/-! ### Streams -/

/-- A write of a stream may drop its lock, which source 70 shows (06 R194, R196). -/
theorem liveStream_only (a : CombTestArgs) (s : State) : onlyChanges [.comb, .ev] s (liveStream a s) :=
  onlyChanges_append (onComb_only s _) (raiseIf_only (by decide) _ _)

/-- Op 1 gives the stream the settings of the command. -/
theorem liveStream_set {a : CombTestArgs} (hop : a.op = 1) (s : State) :
    let x := (liveStream a s).stream a.port a.stream
    x.firstG = a.firstG ∧ x.width = a.width ∧ x.mode = a.mode ∧ x.pattern = a.pattern % 64 := by
  simp [liveStream, hop]

/-- Op 3 clears the stream's counts. -/
theorem liveStream_clear {a : CombTestArgs} (hop : a.op = 3) (s : State) :
    let x := (liveStream a s).stream a.port a.stream
    x.bits = 0 ∧ x.errors = 0 ∧ x.unavailable = 0 := by
  simp [liveStream, hop]

/-- comb.test on a stream that is there, which op 1 takes only where it changes no stream at work: the write is made at once, and the
answer reads the stream after it. -/
theorem combTest_writes {h : Hdr} {a : CombTestArgs} {s : State} (hs : heard h s) (hown : owns h 5 s) (hop : a.op = 1 ∨ a.op = 3)
    (hlo : 416 ≤ a.port) (hhi : a.port ≤ 417) (hst : a.stream ≤ 63) (hbad : badStream a = false)
    (hfree : a.op = 1 → (s.stream a.port a.stream).on = false ∧ streamClash a s = false) :
    ∃ u, exec (.combTest h a) s = .next u ∧ answered h 5 5 stOk (streamFields a.port a.stream u) s u ∧
      onlyChanges (.comb :: .hive :: replyParts) s u ∧
      u.stream a.port a.stream = (liveStream a s).stream a.port a.stream := by
  have hport : outside 416 417 a.port = false := outside_eq_false.mpr ⟨hlo, hhi⟩
  have hact : combTestAct a s = .ok (streamFields a.port a.stream (writeLive [.stream a] s)) (writeLive [.stream a] s) := by
    rcases hop with hset | hclear
    · obtain ⟨hoff, hclash⟩ := hfree hset
      simp [combTestAct, hset, hport, Nat.not_lt.mpr hst, hbad, hoff, hclash]
    · simp [combTestAct, hclear, hport, Nat.not_lt.mpr hst, hbad]
  obtain ⟨u, hu, hans, hparts, hkeep⟩ := exec_answers (i := .combTest h a) hs rfl (by simp [hown]) (fun hcap => nomatch hcap) hact
    (writeLive_only (ps := [.comb, .ev]) (liveStream_only a s)) (by decide)
  have hcomb : u.comb = (writeLive [.stream a] s).comb := hkeep .comb (by decide)
  refine ⟨u, hu, ?_, onlyChanges_mono hparts (by decide), ?_⟩
  · rwa [streamFields_eq hcomb]
  · exact stream_eq (hcomb.trans (writeLive_applies [.stream a] s .comb (by decide))) _ _

/-! ### The tap -/

/-- comb.tap, where its rules change the Comb alone and answer with the tap as it then stands. -/
theorem combTap_answers {h : Hdr} {a : CombTapArgs} {s : State} {f : Comb → Comb} (hs : heard h s) (hown : owns h 5 s)
    (hact : combTapAct h.port a s = .ok (tapFields (s.onComb f)) (s.onComb f)) :
    ∃ u, exec (.combTap h a) s = .next u ∧ answered h 5 6 stOk (tapFields u) s u ∧ onlyChanges (.comb :: replyParts) s u ∧
      u.comb = f s.comb := by
  obtain ⟨u, hu, hans, hparts, hkeep⟩ := exec_answers (i := .combTap h a) hs rfl (by simp [hown]) (fun hcap => nomatch hcap) hact
    (onComb_only s f) (by decide)
  have hcomb : u.comb = (s.onComb f).comb := hkeep .comb (by decide)
  refine ⟨u, hu, ?_, hparts, hcomb⟩
  rwa [tapFields_eq hcomb]

/-- Op 1 arms a tap that is not at work, over a buffer that lies in BAR2 and that the port may see. -/
theorem combTapAct_arm {p : Nat} {a : CombTapArgs} {s : State} (hop : a.op = 1) (hlo : 1 ≤ a.beats) (hhi : a.beats ≤ 8000)
    (hal : a.bar2 % 1024 = 0) (hfits : a.bar2 + tapSize a ≤ 2 ^ 28) (hseen : tapDenied p a s = false)
    (hidle : s.comb.tap.state ≠ 1 ∧ s.comb.tap.state ≠ 2) :
    ∃ start, combTapAct p a s = .ok (tapFields (s.onComb fun c => { c with tap := ⟨1, a.mask % 256, a.beats, a.bar2, start, 0, 0, 0⟩ }))
      (s.onComb fun c => { c with tap := ⟨1, a.mask % 256, a.beats, a.bar2, start, 0, 0, 0⟩ }) := by
  have hbeats : outside 1 8000 a.beats = false := outside_eq_false.mpr ⟨hlo, hhi⟩
  exact ⟨_, (if_neg (by simp [hop, hbeats, hal])).trans ((if_neg (by simp [hop])).trans ((if_neg (by simp [hop])).trans
    ((if_neg (Nat.not_lt.mpr hfits)).trans ((if_neg (by simp [hseen])).trans (if_neg (by simp [hidle]))))))⟩

/-- Op 2 takes a tap at work back to idle. -/
theorem combTapAct_stop {p : Nat} {a : CombTapArgs} {s : State} (hop : a.op = 2) (hlo : 1 ≤ a.beats) (hhi : a.beats ≤ 8000)
    (hal : a.bar2 % 1024 = 0) (hbusy : s.comb.tap.state = 1 ∨ s.comb.tap.state = 2) :
    combTapAct p a s = .ok (tapFields (s.onComb fun c => { c with tap := { c.tap with state := 0 } }))
      (s.onComb fun c => { c with tap := { c.tap with state := 0 } }) := by
  have hbeats : outside 1 8000 a.beats = false := outside_eq_false.mpr ⟨hlo, hhi⟩
  simp [combTapAct, hop, hbeats, hal, hbusy]

/-! ### The counts of a port -/

theorem clearComb_port {port : Nat} (s : State) :
    (tget {} (clearComb port s).comb.ports port).bip = 0 ∧ (tget {} (clearComb port s).comb.ports port).late = 0 := by
  have hread : tget {} (clearComb port s).comb.ports port = { tget {} s.comb.ports port with bip := 0, late := 0 } := by
    have hmap := tget_tmap (d := ({} : PortCount))
      (fun p x => if port = 0xFFFF || p = port then { x with bip := 0, late := 0 } else x) s.comb.ports port (by simp)
    exact hmap.trans (if_pos (by simp))
  simp [hread]

/-- Settles O11: each command's rules answer at once with a state in which only the Comb's part is another one, but for the event of a
lock that a new setting drops; what they wrote there stands in the answered state. -/
theorem combTestsAtOnce : Obligations.CombTestsAtOnce := by
  intro h s hs hown
  refine ⟨?sets, ?clears, ?arms, ?stops, ?status⟩
  case sets =>
    intro a hop hlo hhi hst hbad hclash hoff
    obtain ⟨u, hu, hans, hparts, hstream⟩ := combTest_writes hs hown (.inl hop) hlo hhi hst hbad fun _ => ⟨hoff, hclash⟩
    exact ⟨u, hu, hans, hparts, hstream ▸ liveStream_set hop s⟩
  case clears =>
    intro a hop hlo hhi hst hbad
    obtain ⟨u, hu, hans, hparts, hstream⟩ := combTest_writes hs hown (.inr hop) hlo hhi hst hbad fun hset => by omega
    exact ⟨u, hu, hans, hparts, hstream ▸ liveStream_clear hop s⟩
  case arms =>
    intro a hop hlo hhi hal hfits hseen hidle hquiet
    obtain ⟨start, hact⟩ := combTapAct_arm hop hlo hhi hal hfits hseen ⟨hidle, hquiet⟩
    obtain ⟨u, hu, hans, hparts, hcomb⟩ := combTap_answers hs hown hact
    exact ⟨u, hu, hans, hparts, by simp [hcomb]⟩
  case stops =>
    intro a hop hlo hhi hal hbusy
    obtain ⟨u, hu, hans, hparts, hcomb⟩ := combTap_answers hs hown (combTapAct_stop hop hlo hhi hal hbusy)
    exact ⟨u, hu, hans, hparts, by rw [hcomb]⟩
  case status =>
    intro port hport
    obtain ⟨u, hu, hans, hparts, hkeep⟩ := exec_answers (i := .combStatus h port 1) (ps := [.comb]) (t := clearComb port s)
      (fs := combStatusFields port s) hs rfl (by simp [hown]) (fun hcap => nomatch hcap) (by simp [Nat.not_lt.mpr hport])
      (onComb_only s _) (by decide)
    refine ⟨u, hu, hans, hparts, ?_⟩
    rw [show u.comb = (clearComb port s).comb from hkeep .comb (by decide)]
    exact clearComb_port s

end Sys2Proof.Machine
end

section
/-!
PROOFS. The rotation of a Comb region (06 R191): the slice of a region is its rotation (16 R491), so the pass that ends the rotation is a
passed slice, which the test service counts and closes (16 R500).
-/

namespace Sys2Proof.Machine

open Sys2Proof

/-- The last bank of a rotating region passes its march test: the region is normal again, and source 66 says so. -/
theorem rotationStep_completes {r : Nat} {s : State} (hr : r < 64) (hrot : (s.region r).state = 1) (hdue : (s.region r).start + 5 ≤ s.now)
    (hlast : 40 ≤ (s.region r).step + 5) :
    rotationStep r true s = raise 66 (s.onRegion r fun x => { x with state := 0, step := 0 }) :=
  (if_neg (by omega)).trans ((if_pos rfl).trans (if_neg (by omega)))

/-- The slice of a region that is normal again has passed and is over. -/
theorem regionSlice_passed {r : Nat} {s : State} (hslice : inSlice s 3 r = true) (hnormal : (s.region r).state = 0) :
    regionSlice r true s = endSlice (slicePassed s) := by
  simp [regionSlice, hslice, hnormal]

/-- A rotation that ends in its region's slice ends the slice. -/
theorem rotationStep_ends_slice {r : Nat} {s : State} (hr : r < 64) (hrot : (s.region r).state = 1)
    (hdue : (s.region r).start + 5 ≤ s.now) (hlast : 40 ≤ (s.region r).step + 5) (hslice : inSlice s 3 r = true) :
    (regionSlice r true (rotationStep r true s)).test.slice = none := by
  have hended := rotationStep_completes hr hrot hdue hlast
  have hnormal : ((rotationStep r true s).region r).state = 0 := by
    simp [hended, State.region, State.onRegion]
  have hstill : inSlice (rotationStep r true s) 3 r = true := by
    simpa [hended, inSlice, State.onRegion] using hslice
  rw [regionSlice_passed hstill hnormal]
  rfl

/-- Beat 41 of a device whose test service started the slice of Comb region 0 in beat 0: the region rotates from beat 1 on, and its eighth
bank has had its five beats. -/
def lastBank : State where
  clk := { started := true, beat := 41 }
  comb := { regions := [(0, { state := 1, step := 35, start := 36 })] }
  test := { slice := some { kind := 3, index := 0, spare := none, stage := 2, handover := 0 } }

/-- Refutes O49, by its clause on a march test that passes. The clause leaves the test service's slice free, but does not list its part
among those that may change: in `lastBank` the rotation of region 0 is its slice, as it is of every region that the test service takes
(16 R491), and the pass of the last bank ends the slice and counts it. What fails is the missing part `test`. -/
theorem not_combEvents : ¬ Obligations.CombEvents := by
  unfold Obligations.CombEvents
  intro h
  obtain ⟨hpasses, -⟩ := h lastBank
  obtain ⟨t, ht, honly, -⟩ := hpasses 0 (by decide) (by decide) (by decide) (by decide)
  obtain rfl : counted lastBank (regionSlice 0 true (rotationStep 0 true lastBank)) = t := Host.Outcome.next.inj ht
  have hsame : (regionSlice 0 true (rotationStep 0 true lastBank)).test = lastBank.test :=
    (counted_test _ _).symm.trans (honly .test (by decide))
  have hended := rotationStep_ends_slice (r := 0) (s := lastBank) (by decide) (by decide) (by decide) (by decide) (by decide)
  rw [hsame] at hended
  exact absurd hended (by decide)

end Sys2Proof.Machine
end

section
/-!
PROOFS. The events of the nurse units (07 R203-R207, R219, R225). One period of a tributary moves its pointer interpreter whatever else it
does with the period's VC bytes: the overhead of the VCs, the masks of its defects and its state entry keep the pointer and the frames yet
to come. The egress, the map rate and the play-out each write one record of a unit.
-/

namespace Sys2Proof.Machine

open Sys2Proof

/-! ### What the operations of a nurse unit change -/

theorem tick_only_tally (code unit n : Nat) (s : State) : onlyChanges [.tally] s (tick code unit n s) := by
  obtain ⟨k, hk⟩ := tick_only code unit n s
  intro p hp
  cases p <;> simp_all [Part.same]

theorem tickIf_only_tally (b : Bool) (code unit : Nat) (s : State) : onlyChanges [.tally] s (tickIf b code unit s) := by
  unfold tickIf
  split
  · exact tick_only_tally _ _ _ s
  · exact onlyChanges_refl _ s

theorem pmAdd_only (e : Entity) (f : Prim → Prim) (s : State) : onlyChanges [.pm] s (pmAdd e f s) := by
  intro p hp
  unfold pmAdd
  split <;> cases p <;> simp_all [Part.same]

theorem onAxvAxc_only (s : State) (b d g i : Nat) (f : AxvAxc → AxvAxc) : onlyChanges [.nurse] s (s.onAxvAxc b d g i f) :=
  onAxv_only s b d g _

/-- The event of a nurse unit (07 R213). -/
theorem raise_nurseSrc_only {b : Nat} (hb : b < 96) (s : State) : onlyChanges [.ev] s (raise (nurseSrc b) s) :=
  raiseIf_only (by unfold nurseSrc; omega) true s

theorem tuOf_eq {s t : State} (h : t.nurse = s.nurse) (b g tu : Nat) : t.tuOf b g tu = s.tuOf b g tu := by simp [State.tuOf, h]
theorem axvOf_eq {s t : State} (h : t.nurse = s.nurse) (b d g : Nat) : t.axvOf b d g = s.axvOf b d g := by simp [State.axvOf, h]

@[simp] theorem tuOf_counted (s t : State) (b g tu : Nat) : (counted s t).tuOf b g tu = t.tuOf b g tu := tuOf_eq (by simp) b g tu
@[simp] theorem axvOf_counted (s t : State) (b d g : Nat) : (counted s t).axvOf b d g = t.axvOf b d g := axvOf_eq (by simp) b d g
@[simp] theorem axvOf_raise (n : Nat) (s : State) (b d g : Nat) : (raise n s).axvOf b d g = s.axvOf b d g := axvOf_eq (by simp) b d g

@[simp] theorem axcOf_onAxvAxc_same (s : State) (b d g i : Nat) (f : AxvAxc → AxvAxc) :
    ((s.onAxvAxc b d g i f).axvOf b d g).axcOf i = f ((s.axvOf b d g).axcOf i) := by
  simp [State.onAxvAxc, State.onAxv, State.onNurse, State.axvOf, Axv.axcOf]

/-! ### The pointer interpreter -/

@[simp] theorem classify_allOnes (range ptr : Nat) : classify range 0xFFFF ptr = .ais := by simp [classify]

/-- The third all-ones word in a row takes a pointer in NORM to AIS (R204; 04 R114). -/
theorem Ptr.step_third_allOnes {p : Ptr} (range : Nat) (hnorm : p.mode = .norm) (hrun : p.aisRun = 2) :
    (p.step range 0xFFFF).1.mode = .ais := by
  simp [Ptr.step, Ptr.onAis, hnorm, hrun]

/-! ### The pointer and the frames yet to come, of a tributary's record -/

/-- An update of a tributary that moves neither its pointer interpreter nor the frames that it has yet to interpret. -/
def KeepsPtr (t u : NurseTu) : Prop := u.ptr = t.ptr ∧ u.rx = t.rx

theorem KeepsPtr.trans {t u v : NurseTu} (htu : KeepsPtr t u) (huv : KeepsPtr u v) : KeepsPtr t v :=
  ⟨huv.1.trans htu.1, huv.2.trans htu.2⟩

theorem NurseTu.common_keeps (t : NurseTu) (label erdi viol rei : Nat) (j rdi : Byte × Bool) :
    KeepsPtr t (t.common label erdi viol rei j rdi) := ⟨rfl, rfl⟩

theorem NurseTu.extBit_keeps (t : NurseTu) (b : Bool) : KeepsPtr t (t.extBit b) := by
  unfold NurseTu.extBit
  dsimp only
  repeat' split
  all_goals exact ⟨rfl, rfl⟩

theorem NurseTu.poh_keeps (t : NurseTu) (type : Nat) (inv : Bool) (vc : List Byte) : KeepsPtr t (t.poh type inv vc) := by
  unfold NurseTu.poh
  dsimp only
  split
  · exact (NurseTu.common_keeps ..).trans (NurseTu.extBit_keeps _ _)
  · exact ⟨rfl, rfl⟩

theorem NurseTu.poh3_keeps (t : NurseTu) (inv : Bool) (vc : List Byte) : KeepsPtr t (t.poh3 inv vc) := ⟨rfl, rfl⟩

theorem NurseTu.feed_keeps (range : Nat) (t : NurseTu) (l : List Byte) : KeepsPtr t (t.feed range l).2 := ⟨rfl, rfl⟩

theorem NurseTu.publish_keeps (t : NurseTu) (place : Nat) (jump : Bool) (v5 : Nat) (bytes : List Byte) :
    KeepsPtr t (t.publish place jump v5 bytes) := ⟨rfl, rfl⟩

theorem NurseTu.mask_keeps (t : NurseTu) : KeepsPtr t t.mask := ⟨rfl, rfl⟩

/-! ### One period of a tributary -/

/-- From `s` to `t` the interpreter of a tributary comes to stand at `p`, with the frames `rest` yet to come. -/
structure Interpreted (b g tu : Nat) (p : Ptr) (rest : List TuFrame) (s t : State) : Prop where
  only : onlyChanges [.nurse, .pm, .tally] s t
  ptr : (t.tuOf b g tu).ptr = p
  rx : (t.tuOf b g tu).rx = rest

section
variable {b g tu : Nat} {p : Ptr} {rest : List TuFrame} {s t : State}

theorem Interpreted.onTu (h : Interpreted b g tu p rest s t) {f : NurseTu → NurseTu} (hf : ∀ x, KeepsPtr x (f x)) :
    Interpreted b g tu p rest s (t.onTu b g tu f) where
  only := onlyChanges_trans h.only (onlyChanges_mono (onTu_only t b g tu f) (by decide))
  ptr := by simp [(hf _).1, h.ptr]
  rx := by simp [(hf _).2, h.rx]

theorem Interpreted.pmAdd (h : Interpreted b g tu p rest s t) (e : Entity) (f : Prim → Prim) :
    Interpreted b g tu p rest s (pmAdd e f t) := by
  have hpm := pmAdd_only e f t
  have htu : (Machine.pmAdd e f t).tuOf b g tu = t.tuOf b g tu := tuOf_eq (hpm .nurse (by decide)) b g tu
  exact ⟨onlyChanges_trans h.only (onlyChanges_mono hpm (by decide)), htu ▸ h.ptr, htu ▸ h.rx⟩

/-- One whole VC of the tributary. -/
theorem Interpreted.vc (h : Interpreted b g tu p rest s t) (type : Nat) (masked : Bool) (vc : List Byte) :
    Interpreted b g tu p rest s (rxLowVc b g tu type masked t vc) := by
  unfold rxLowVc
  split
  · exact h.onTu fun x => x.mask_keeps
  · refine (h.onTu fun x => ?_).pmAdd _ _
    split
    · exact x.poh3_keeps _ _
    · exact x.poh_keeps _ _ _

/-- The whole VCs that end in a period. -/
theorem Interpreted.vcs (type : Nat) (masked : Bool) (l : List (List Byte)) (h : Interpreted b g tu p rest s t) :
    Interpreted b g tu p rest s (l.foldl (rxLowVc b g tu type masked) t) := by
  induction l generalizing t with
  | nil => exact h
  | cons vc l ih => exact ih (h.vc type masked vc)

/-- The record that a period leaves. -/
theorem Interpreted.stored (h : onlyChanges [.tally] s t) {x : NurseTu} (hptr : x.ptr = p) (hrx : x.rx = rest) :
    Interpreted b g tu p rest s (t.onTu b g tu fun _ => x) where
  only := onlyChanges_mono (onlyChanges_append h (onTu_only t b g tu _)) (by decide)
  ptr := by simpa using hptr
  rx := by simpa using hrx

end

@[simp] theorem stung_of_no_stings {s : State} (h : s.test.stings = []) (point unit g tu sub : Nat) :
    stung s point unit g tu sub = false := by
  simp [stung, h]

/-- A whole period of a tributary in use moves its pointer interpreter by the period's pointer word, and may raise the unit's event. -/
theorem tuInterpret_period {b g tu type : Nat} {fs rest : List TuFrame} {s : State} (hb : b < 96)
    (hon : (s.vcOf b g).cfg.enable = 1) (htype : tuType (s.vcOf b g).cfg tu = some type)
    (hperiod : takePeriod type (s.tuOf b g tu).rx = (some fs, rest)) (hcalm : s.test.stings = []) :
    ∃ t, Interpreted b g tu ((s.tuOf b g tu).ptr.step (tuRange type) (tuPeriod type fs).word).1 rest s t ∧
      onlyChanges [.ev] t (tuInterpret b g tu s) := by
  -- The local values below are those of `tuInterpret`, in its order: `t₃` is the record with the new pointer, `t₄` the one stored.
  have hrest : (takePeriod type (s.tuOf b g tu).rx).2 = rest := congrArg Prod.snd hperiod
  unfold tuInterpret
  extract_lets v server
  simp -zeta only [show v.cfg.enable = 1 from hon, show tuType v.cfg tu = some type from htype, if_true]
  extract_lets x range
  simp -zeta only [show x.1 = some fs from congrArg Prod.fst hperiod]
  refine ⟨_, ?_, withTuEvents_only hb g tu _ s⟩
  extract_lets p t word r s' normal f₁ t₁ more here due moved t₂ t₃ f₂ fed t₄ u
  have hword : word = p.word := if_neg (by simp [hcalm])
  rw [← hword]
  have ht₃ : t₃.ptr = r.1 ∧ t₃.rx = rest := by
    unfold t₃
    split
    · exact ⟨rfl, hrest⟩
    · split <;> exact ⟨rfl, hrest⟩
  have ht₄ : KeepsPtr t₃ t₄ := by
    have hfed : KeepsPtr t₃ fed := t₃.feed_keeps range more
    unfold t₄
    split
    · exact hfed.trans (fed.publish_keeps _ _ _ _)
    · exact hfed
  have hu : Interpreted b g tu r.1 rest s u := Interpreted.stored (tickIf_only_tally _ 40 b s) (ht₄.1.trans ht₃.1) (ht₄.2.trans ht₃.2)
  split
  · refine Interpreted.vcs type server _ ?_
    split
    · exact hu.onTu NurseTu.mask_keeps
    · exact hu
  · exact hu.onTu NurseTu.mask_keeps

/-! ### The egress of a tributary -/

/-- A period that carries a source's VC: none of the marks of one without stands. -/
def NurseTu.carries (t : NurseTu) : Prop := t.txAis = false ∧ t.txUneq = false ∧ t.txRaw = false

/-- A period that follows a source is sent out of the store, on a new start as on any of the three pointer moves (R206). -/
theorem NurseTu.follow_carries (t : NurseTu) (cells : List Nat) (type key : Nat) (pubs : List TuPub) :
    (t.follow cells type key pubs).carries := by
  unfold NurseTu.follow
  dsimp only
  repeat' split
  all_goals exact ⟨rfl, rfl, rfl⟩

theorem NurseTu.frames_marks (t : NurseTu) (type word : Nat) (x : List Byte) :
    (t.frames type word x).txUneq = t.txUneq ∧ (t.frames type word x).txAis = t.txAis := by
  unfold NurseTu.frames
  dsimp only
  split <;> exact ⟨rfl, rfl⟩

theorem NurseTu.fixed_ais (t : NurseTu) (type : Nat) : (t.fixed type true).txAis = true ∧ (t.fixed type true).txWord = 0xFFFF :=
  ⟨rfl, rfl⟩

theorem NurseTu.fixed_unequipped (t : NurseTu) (type : Nat) :
    (t.fixed type false).txUneq = true ∧ (t.fixed type false).txAis = false ∧ (t.fixed type false).txPtr = 0 := by
  simp [NurseTu.fixed, NurseTu.frames_marks]

theorem tuBuild_only (b g tu : Nat) (s : State) : onlyChanges [.nurse] s (tuBuild b g tu s) := by
  unfold tuBuild
  dsimp only
  split
  · exact onlyChanges_refl _ s
  · exact onTu_only s b g tu _

section
variable {b g tu type : Nat} {s : State} (hon : (s.vcOf b g).cfg.enable = 1) (htype : tuType (s.vcOf b g).cfg tu = some type)
include hon htype

/-- Cells that nothing feeds carry an unequipped tributary (R207). -/
theorem tuBuild_unconnected (hcells : (tuOutput s b g tu).1 = false) :
    ((tuBuild b g tu s).tuOf b g tu).txUneq = true ∧ ((tuBuild b g tu s).tuOf b g tu).txAis = false ∧
      ((tuBuild b g tu s).tuOf b g tu).txPtr = 0 := by
  simpa [tuBuild, hon, htype, hcells] using NurseTu.fixed_unequipped _ type

/-- One failed cell turns the tributary to AIS (R207). -/
theorem tuBuild_failed (hcells : (tuOutput s b g tu).1 = true) (hfailed : (tuOutput s b g tu).2 = true) :
    ((tuBuild b g tu s).tuOf b g tu).txAis = true ∧ ((tuBuild b g tu s).tuOf b g tu).txWord = 0xFFFF := by
  simpa [tuBuild, hon, htype, hcells, hfailed] using NurseTu.fixed_ais _ type

/-- A source with a state entry is followed (R206). -/
theorem tuBuild_carries {e : Nat × Nat × Nat} (hcells : (tuOutput s b g tu).1 = true) (hfailed : (tuOutput s b g tu).2 = false)
    (hsrc : tuSource s b g tu = some e) (hpubs : (s.tuOf e.1 e.2.1 e.2.2).pubs ≠ []) : ((tuBuild b g tu s).tuOf b g tu).carries := by
  simpa [tuBuild, hon, htype, hcells, hfailed, hsrc, hpubs, NurseTu.carries] using NurseTu.follow_carries _ _ type _ _

end

/-! ### AxC groups -/

/-- A map buffer's rate stays within 200 ppm of nominal, whatever its fill (R219). -/
theorem mapRateOf_bounds (n fill : Nat) :
    axcBytes n * 65536 - axcBytes n * 65536 * 2 / 10000 ≤ mapRateOf n fill ∧
      mapRateOf n fill ≤ axcBytes n * 65536 + axcBytes n * 65536 * 2 / 10000 := by
  unfold mapRateOf
  dsimp only
  omega

section
variable {b g i : Nat} {s : State}

theorem mapRate_sets {e : AxvEntry} (hon : (s.axvOf b 0 g).cfg.enable = 1) (haxc : (s.axvOf b 0 g).cfg.axcs[i]? = some e) :
    mapRate b g i s = s.onAxvAxc b 0 g i fun x => { x with rate := mapRateOf e.nBits (axcBytes e.nBits + x.buf.length) } := by
  simp [mapRate, hon, haxc]

variable (hon : (s.axvOf b 1 g).cfg.enable = 1) (hi : i < (s.axvOf b 1 g).cfg.axcs.length)
include hon hi

theorem playSlip_counts {late : Bool}
    (hwaits : 0 < (if late then ((s.axvOf b 1 g).axcOf i).slips else ((s.axvOf b 1 g).axcOf i).earlies)) :
    playSlip b g i late s = s.onAxvAxc b 1 g i fun x => { x with
      playSlips := satAdd 32 x.playSlips 1, slips := x.slips - boolNat late, earlies := x.earlies - boolNat (!late) } :=
  if_pos ⟨hon, hi, hwaits⟩

/-- Eight beats in a row with a slip declare dPLAY (R225). -/
theorem playDefect_declares (hclear : ((s.axvOf b 1 g).axcOf i).dPlay = false) (hbeats : 8 ≤ ((s.axvOf b 1 g).axcOf i).slipBeats) :
    playDefect b g i s = raise (nurseSrc b) (s.onAxvAxc b 1 g i fun x => { x with dPlay := true }) := by
  simp [playDefect, hon, hclear, hbeats, Nat.not_le.mpr hi]

/-- Eighty beats in a row without one clear it (R225). -/
theorem playDefect_clears (hset : ((s.axvOf b 1 g).axcOf i).dPlay = true) (hbeats : 80 ≤ ((s.axvOf b 1 g).axcOf i).cleanBeats) :
    playDefect b g i s = raise (nurseSrc b) (s.onAxvAxc b 1 g i fun x => { x with dPlay := false }) := by
  simp [playDefect, hon, hset, hbeats, Nat.not_le.mpr hi]

end

theorem playDefect_only {b : Nat} (hb : b < 96) (g i : Nat) (s : State) : onlyChanges [.nurse, .ev] s (playDefect b g i s) := by
  have hstored (f : AxvAxc → AxvAxc) : onlyChanges [.nurse, .ev] s (raise (nurseSrc b) (s.onAxvAxc b 1 g i f)) :=
    onlyChanges_append (onAxvAxc_only s b 1 g i f) (raise_nurseSrc_only hb _)
  unfold playDefect
  dsimp only
  split
  · exact onlyChanges_refl _ s
  · split
    · exact hstored _
    · split
      · exact hstored _
      · exact onlyChanges_refl _ s

/-- The unit's event shows where it was raised in a step, also after the step's events are counted. -/
theorem shows_nurseSrc {b : Nat} (hb : b < 96) (s t : State) : (counted s (raise (nurseSrc b) t)).shows (nurseSrc b) :=
  (shows_counted _ _ _ (.inl (by unfold nurseSrc; omega))).mpr (shows_raise _ _)

/-! ### The obligation -/

/-- Settles O50: each event writes one record of the unit, and each clause reads that record in one case of what the event does. -/
theorem nurseEvents : Obligations.NurseEvents := by
  intro b g s hb
  refine ⟨?pointer, ?egress, ?rate, ?slip, ?defect⟩
  case pointer =>
    intro tu type fs rest hon htype hperiod hcalm
    obtain ⟨t, ⟨honly, hptr, hrx⟩, hevents⟩ := tuInterpret_period hb hon htype hperiod hcalm
    have hspent : stingsSpent (onTuFrame b g tu) (tuInterpret b g tu s) = tuInterpret b g tu s := by
      have htest : (tuInterpret b g tu s).test = s.test := (hevents .test (by decide)).trans (honly .test (by decide))
      simp [stingsSpent, htest, hcalm]
    have htu : (tuInterpret b g tu s).tuOf b g tu = t.tuOf b g tu := tuOf_eq (hevents .nurse (by decide)) b g tu
    refine ⟨counted s (tuInterpret b g tu s), ?_, ?_, ?_, ?_, ?_⟩
    · exact congrArg (done s) hspent
    · exact onlyChanges_mono (onlyChanges_append honly (onlyChanges_append hevents (counted_only s _))) (by decide)
    · rw [tuOf_counted, htu, hptr]
    · rw [tuOf_counted, htu, hrx]
    · intro hnorm hrun hword
      rw [tuOf_counted, htu, hptr, hword]
      exact Ptr.step_third_allOnes _ hnorm hrun
  case egress =>
    intro tu type hon htype
    refine ⟨_, rfl, onlyChanges_append (tuBuild_only b g tu s) (counted_only s _), ?_⟩
    rw [tuOf_counted]
    exact ⟨tuBuild_unconnected hon htype, tuBuild_failed hon htype, fun e => tuBuild_carries hon htype⟩
  case rate =>
    intro i e hon haxc
    refine ⟨_, rfl, ?_⟩
    rw [mapRate_sets hon haxc, axvOf_counted, axcOf_onAxvAxc_same]
    exact ⟨onlyChanges_append (onAxvAxc_only s b 0 g i _) (counted_only s _), rfl, mapRateOf_bounds _ _⟩
  case slip =>
    intro i late hon hi hwaits
    refine ⟨_, rfl, ?_⟩
    rw [playSlip_counts hon hi hwaits, axvOf_counted, axcOf_onAxvAxc_same]
    exact ⟨onlyChanges_append (onAxvAxc_only s b 1 g i _) (counted_only s _), rfl⟩
  case defect =>
    intro i hon hi
    refine ⟨_, rfl, onlyChanges_mono (onlyChanges_append (playDefect_only hb g i s) (counted_only s _)) (by decide), ?_, ?_⟩
    · intro hclear hbeats
      rw [playDefect_declares hon hi hclear hbeats]
      exact ⟨by simp, shows_nurseSrc hb s _⟩
    · intro hset hbeats
      rw [playDefect_clears hon hi hset hbeats]
      exact ⟨by simp, shows_nurseSrc hb s _⟩

end Sys2Proof.Machine
end

section
/-!
PROOFS. The return of a pool channel (08 R254): when the pass over its ring area is over, each pool.channel that waits for it is answered
on the response queue that its header names, and publishing the answer drives that queue's event source (13 R399, R421). Only a header of
a queue that exists names a source of the host ports; the source of any other may belong to the power group, which keeps a sticky copy
(18 R559).
-/

namespace Sys2Proof.Machine

open Sys2Proof

/-! ### The sticky copy of the power group -/

/-- A source of the power group that goes high leaves its mark in the sticky copy. -/
theorem driveSrc_power_events {n : Nat} (s : State) (hn : 275 ≤ n ∧ n ≤ 290) (hlow : (s.src n).asserted = false) :
    (driveSrc n true s).power.events = withBit s.power.events (n - 275) := by
  simp [driveSrc, hlow, sticky, hn, show ¬n ≤ 242 by omega, show ¬n ≤ 130 by omega]

/-- An answer on a queue whose source lies in the power group is marked there too. -/
theorem respond_power_events {h : Hdr} {svc cmd st : Nat} {fs : Fields} {s : State}
    (hflush : ((s.port h.port).rspOf h.queue).flush = false) (hn : 275 ≤ portSrc h.port h.queue ∧ portSrc h.port h.queue ≤ 290)
    (hlow : (s.src (portSrc h.port h.queue)).asserted = false) :
    (respond h svc cmd st fs s).power.events = withBit s.power.events (portSrc h.port h.queue - 275) := by
  simp only [respond, respondRaw, publishRsp, hflush, Bool.false_eq_true, if_false]
  exact driveSrc_power_events _ hn hlow

/-! ### The answer to a return -/

/-- The state in which the waiters of channel `d` are answered: the channel has returned, and none of them waits any longer. -/
def returnAnswered (d : Nat) (s : State) : State :=
  (channelReturned d s).onPool fun p => { p with waiters := p.waiters.filter fun w => w.1 != d }

/-- The one command that waits for the channel is answered there. -/
theorem returnDone_answers {d : Nat} {w : Waiter} {s : State} (hup : ((channelReturned d s).chan d).state = 0)
    (hw : (channelReturned d s).pool.waiters = [(d, w)]) : returnDone d s = answer w stOk 0 (returnAnswered d s) := by
  simp [returnDone, returnAnswered, hup, hw, answerAll]

/-- A pool.channel of port B on queue 128, where a port has the queues 0 to 3 (13 R389): a header that no well-formed command has, and
that `serve`, which looks at the port alone, does not refuse. Its event would be source 131 + 16 + 128 = 275, the power group's first. -/
def strayReturn : Waiter := ⟨{ port := 1, queue := 128, seq := 0, tag := 0 }, 7, 4, .channel 3⟩

/-- Channel 3, ready, with that command waiting for its return. -/
def strayReturnWaits : State where
  pool := { channels := [(3, { state := 5 })], waiters := [(3, strayReturn)] }

theorem strayReturn_marks_power : (returnDone 3 strayReturnWaits).power.events = 1 := by
  rw [returnDone_answers (w := strayReturn) (by decide +kernel) (by decide +kernel)]
  exact (respond_power_events (h := strayReturn.hdr) (by decide +kernel) (by decide) (by decide +kernel)).trans (by decide +kernel)

/-- Refutes O51, by its clause on CHANNEL_RETURN_DONE. The clause takes the commands that wait for the channel as they come and leaves
their headers free, but lists no part of the power service among those that may change: with a pool.channel of channel 3 waiting on queue
128 of port B, the answer drives source 275 and so sets bit 0 of the power group's sticky copy. What fails is the missing bound on the
waiter's header. -/
theorem not_poolEvents : ¬ Obligations.PoolEvents := by
  unfold Obligations.PoolEvents
  intro h
  obtain ⟨-, -, -, -, -, -, -, -, hreturn⟩ := h 0 3 strayReturnWaits
  obtain ⟨t, ht, honly, -⟩ := hreturn (by decide) (by decide) (by decide)
  obtain rfl : counted strayReturnWaits (returnDone 3 strayReturnWaits) = t := Host.Outcome.next.inj ht
  have hpower : (returnDone 3 strayReturnWaits).power = strayReturnWaits.power :=
    (counted_power _ _).symm.trans (honly .power (by decide))
  have hclear : strayReturnWaits.power.events = 0 := rfl
  have hmark := strayReturn_marks_power
  rw [hpower, hclear] at hmark
  exact absurd hmark (by decide)

end Sys2Proof.Machine
end

section
/-!
PROOFS. The pool service (08 R228-R235, R245, R254): a command that enables an entry gives one change, which a ticket holds; pool.channel
moves the one channel that it names. That the cause after a power-off or power-on is 0 (log 45), and that rails 8 to 11 open and close
with the power of their channels (log 135), is the model's choice.
-/

namespace Sys2Proof.Machine

open Sys2Proof

/-! ### What the operations of a pool change -/

theorem onEntry_only (s : State) (k : Nat) (f : PoolEntry → PoolEntry) : onlyChanges [.pool] s (s.onEntry k f) := onPool_only s _
theorem onChan_only (s : State) (d : Nat) (f : Channel → Channel) : onlyChanges [.pool] s (s.onChan d f) := onPool_only s _
theorem loadSwitch_only (d : Nat) (on : Bool) (s : State) : onlyChanges [.power] s (loadSwitch d on s) := onPower_only s _

theorem onPm_only (s : State) (f : Pm → Pm) : onlyChanges [.pm] s (s.onPm f) := by
  intro p hp
  cases p <;> simp_all [Part.same]

/-- The sources of the pool's entries and channels are none of those with a sticky copy (08 R256; 14 R449). -/
theorem entrySrc_lt (c : PoolCfg) : entrySrc c < 115 := by
  unfold entrySrc
  omega

theorem withEntryEvents_only (k : Nat) (f : PoolEntry → PoolEntry) (s : State) : onlyChanges [.pool, .ev] s (withEntryEvents k f s) :=
  onlyChanges_append (onEntry_only s k f) (raiseIf_only (entrySrc_lt _) _ _)

theorem keepCopies_only (s : State) : onlyChanges [.pm] s (keepCopies s) := by
  have hheld : onlyChanges [.pm] s (s.onPm fun p => { p with copies := s.pm.copies.filter fun d => (s.chan d).state == 0 }) :=
    onPm_only s _
  unfold keepCopies
  dsimp only
  split
  · exact onlyChanges_trans (onlyChanges_trans hheld (onPm_only _ _)) (onPm_only _ _)
  · exact onlyChanges_trans hheld (onPm_only _ _)

theorem setChan_only {d : Nat} (hd : d ≤ 3) (st cause : Nat) (s : State) : onlyChanges [.pool, .ev, .pm] s (setChan d st cause s) :=
  onlyChanges_append (onlyChanges_append (onChan_only s d _) (raiseIf_only (n := 75 + 4 * d) (by omega) true _)) (keepCopies_only _)

theorem dropChannel_only (d : Nat) (s : State) : onlyChanges [.pool, .ev] s (dropChannel d s) :=
  List.foldlRecOn _ _ (onlyChanges_refl _ s) fun _ ht k _ => onlyChanges_trans ht (withEntryEvents_only k _ _)

/-! ### A channel read after a write -/

theorem chan_eq {s t : State} (h : t.pool = s.pool) (d : Nat) : t.chan d = s.chan d := by simp [State.chan, h]

@[simp] theorem chan_onChan_same (s : State) (d : Nat) (f : Channel → Channel) : (s.onChan d f).chan d = f (s.chan d) := by
  simp [State.onChan, State.chan]
theorem chan_onChan_ne (s : State) {d e : Nat} (f : Channel → Channel) (h : e ≠ d) : (s.onChan d f).chan e = s.chan e :=
  tget_tput_ne _ _ _ h

/-- A step of an entry leaves the channels. -/
@[simp] theorem chan_withEntryEvents (k : Nat) (f : PoolEntry → PoolEntry) (s : State) (d : Nat) :
    (withEntryEvents k f s).chan d = s.chan d :=
  chan_eq (s := s.onEntry k f) (by simp [withEntryEvents]) d

@[simp] theorem chan_dropChannel (d : Nat) (s : State) (e : Nat) : (dropChannel d s).chan e = s.chan e :=
  List.foldlRecOn (motive := fun t : State => t.chan e = s.chan e) _ _ rfl fun _ ht k _ => (chan_withEntryEvents k _ _ e).trans ht

theorem setChan_pool (d st cause : Nat) (s : State) : (setChan d st cause s).pool =
    (s.onChan d fun c => { c with state := st, cause := cause, retrainSince := none, postponed := [] }).pool :=
  (keepCopies_only _ .pool (by decide)).trans (by simp)

@[simp] theorem chan_setChan_same (d st cause : Nat) (s : State) : (setChan d st cause s).chan d =
    { s.chan d with state := st, cause := cause, retrainSince := none, postponed := [] } :=
  (chan_eq (setChan_pool d st cause s) d).trans (chan_onChan_same s d _)

theorem chan_setChan_ne {d e : Nat} (st cause : Nat) (s : State) (h : e ≠ d) : (setChan d st cause s).chan e = s.chan e :=
  (chan_eq (setChan_pool d st cause s) e).trans (chan_onChan_ne s _ h)

@[simp] theorem chan_loadSwitch (d : Nat) (on : Bool) (s : State) (e : Nat) : (loadSwitch d on s).chan e = s.chan e := rfl

@[simp] theorem rail_loadSwitch (d : Nat) (on : Bool) (s : State) :
    (loadSwitch d on s).rail (8 + d) = { s.rail (8 + d) with enabled := on, good := on } := by
  simp [loadSwitch, State.onRail, State.rail]

theorem rail_eq {s t : State} (h : t.power = s.power) (n : Nat) : t.rail n = s.rail n := by simp [State.rail, h]

/-! ### The source of a channel -/

theorem shows_eq {s t : State} (h : t.ev = s.ev) (n : Nat) : t.shows n ↔ s.shows n := by simp [State.src, h]

/-- A change of a channel's state shows at its source. -/
theorem shows_setChan (d st cause : Nat) (s : State) : (setChan d st cause s).shows (75 + 4 * d) :=
  (shows_eq (keepCopies_only _ .ev (by decide)) _).mpr (shows_raise _ _)

theorem shows_raiseIf_of (b : Bool) (n : Nat) {m : Nat} {s : State} (h : s.shows m) : (raiseIf b n s).shows m := by
  cases b with
  | true => exact shows_raise_of n m s h
  | false => exact h

theorem shows_dropChannel_of (d : Nat) {n : Nat} {s : State} (h : s.shows n) : (dropChannel d s).shows n :=
  List.foldlRecOn (motive := fun t : State => t.shows n) _ _ h fun t ht k _ =>
    shows_raiseIf_of _ _ ((shows_eq (onEntry_only t k _ .ev (by decide)) n).mpr ht)

/-- An answer hides no source but that of its own queue. -/
theorem shows_respondRaw_of {h : Hdr} {svc cmd st n : Nat} {fs : Fields} {s : State} (hn : n < 131) (hshows : s.shows n) :
    (respondRaw h svc cmd st fs s).shows n := by
  unfold respondRaw publishRsp
  split
  · exact hshows
  · exact shows_driveSrc_of _ n true _ (by unfold portSrc; omega) hshows

/-- A source below the host ports' that a command's rules leave showing still shows once the command is answered. -/
theorem exec_answers_shows {i : Instr} {h : Hdr} {svc cmd n : Nat} {locked cap : Bool} {shape fs : Fields} {act : Act} {s t u : State}
    (hs : heard h s) (he : exec i s = done s (serve h svc cmd locked cap shape act s)) (hl : locked = false) (hc : cap = true → mayCap s)
    (ha : act = .ok fs t) (hu : exec i s = .next u) (hn : n < 131) (hshows : t.shows n) : u.shows n := by
  subst hl ha
  obtain rfl : counted s (serve h svc cmd false cap shape (.ok fs t) s) = u := Host.Outcome.next.inj (he.symm.trans hu)
  rw [serve_ok hs hc]
  exact (shows_counted _ _ _ (.inl (by omega))).mpr (shows_respondRaw_of hn hshows)

/-! ### Settings of an entry -/

@[simp] theorem PoolCfg.first_stored (c : PoolCfg) : c.stored.first = c.first := by cases c <;> rfl
@[simp] theorem PoolCfg.first_setChan (c : PoolCfg) (d : Nat) : (c.setChan d).first = c.first := by cases c <;> rfl
@[simp] theorem PoolCfg.first_disabled (c : PoolCfg) : c.disabled.first = c.first := by cases c <;> rfl
@[simp] theorem PoolCfg.isOn_stored (c : PoolCfg) : c.stored.isOn = c.isOn := by cases c <;> rfl
@[simp] theorem PoolCfg.isOn_setChan (c : PoolCfg) (d : Nat) : (c.setChan d).isOn = c.isOn := by cases c <;> rfl
@[simp] theorem PoolCfg.isOn_disabled (c : PoolCfg) : c.disabled.isOn = false := by cases c <;> rfl

/-- The command that sets an entry: pool.delay, pool.group or pool.twin. -/
def poolInstr (h : Hdr) : PoolCfg → Instr
  | .delay a => .poolDelay h a
  | .group a => .poolGroup h a
  | .twin a => .poolTwin h a

/-- The kind of an entry is the number of the command that sets it (08, pool service). -/
theorem exec_poolInstr (h : Hdr) (c : PoolCfg) (s : State) : exec (poolInstr h c) s = done s (poolCommand h c.kind c s) := by
  cases c <;> rfl

/-- An entry that no setting names yet takes its disabled settings without an event. -/
theorem applyPool_unused_only {c : PoolCfg} {s : State} (hunused : (s.entry c.first).used = false) (hoff : c.isOn = false) :
    onlyChanges [.pool] s (applyPool c s) := by
  simpa [applyPool, withEntryEvents, hunused, hoff, raiseIf] using onEntry_only s c.first _

/-- A setting that enables an entry with free slots, on a channel that takes it, is one change; the disabled settings of the entry are
written at once. -/
theorem poolAct_enables {p d : Nat} {c : PoolCfg} {s : State} (hop : c.op = 1) (hlisted : c.unlisted = false) (hbad : c.bad = false)
    (hon : c.isOn = true) (hunused : (s.entry c.first).used = false)
    (hfree : (poolsWill p s).any (fun e => e.first != c.first && e.meets c) = false) (hchan : poolChannel p c.stored s = some d)
    (hadmits : s.admits p (c.stored.setChan d) = true) :
    ∃ ls, poolAct p c s = .cap [.pool (c.stored.setChan d)] (.pool c.first) (writeLive ls s) ∧
      onlyChanges [.pool] s (applyLives ls s) := by
  obtain ⟨ls, hblock, hls⟩ := setBlock_ticket (p := p) (on := false) (wants := (c.stored.setChan d).isOn) (differs := true)
    (off := .pool (c.stored.setChan d).disabled) (c := .pool (c.stored.setChan d)) (live := []) (kind := .pool c.first) (s := s) rfl
    (.inr (by simpa using hon))
  refine ⟨ls, ?_, ?_⟩
  · rw [← hblock]
    simp [poolAct, poolSetAct, hlisted, hop, hbad, hon, hunused, hfree, hchan, hadmits]
  · rcases hls with rfl | ⟨-, rfl⟩
    · exact onlyChanges_refl _ s
    · exact applyPool_unused_only (by simpa using hunused) (by simp)

theorem poolDiffers_unused {p : Nat} {c : PoolCfg} {s : State} (hunused : (s.entry c.first).used = false) : poolDiffers p c s = true := by
  simp [poolDiffers, hunused]

/-- Op 0 answers with the entry as it stands. -/
theorem poolAct_read {p : Nat} {c : PoolCfg} {s : State} (hop : c.op = 0) (hlisted : c.unlisted = false) (hthere : poolThere c s = true) :
    poolAct p c s = .ok (poolFields s c.first 0) s := by
  simp [poolAct, hop, hlisted, hthere]

/-! ### pool.status -/

theorem clearPool_only (slot : Nat) (s : State) : onlyChanges [.pool] s (clearPool slot s) := by
  unfold clearPool
  split
  · exact onlyChanges_refl _ s
  · exact onEntry_only s _ _

theorem clearPool_counts {slot k : Nat} {s : State} (hk : s.entryAt slot = some k) :
    ((clearPool slot s).entry k).realigns = 0 ∧ ((clearPool slot s).entry k).framesA = 0 ∧ ((clearPool slot s).entry k).framesB = 0 := by
  simp [clearPool, hk, State.onEntry, State.entry]

/-! ### pool.channel -/

theorem channelFields_eq {s t : State} (hpool : t.pool = s.pool) (hclk : t.clk = s.clk) (d : Nat) :
    channelFields t d = channelFields s d := by
  simp [channelFields, chan_eq hpool, State.inForce, State.now, hpool, hclk]

/-- A channel in service or failed is isolated: state 2 with cause 5, which its source shows. -/
theorem channelOp_isolate {d : Nat} {s : State} (hd : d ≤ 3) (hstate : (s.chan d).state = 0 ∨ (s.chan d).state = 1) :
    ∃ t, channelOp d 1 s = some t ∧ onlyChanges [.pool, .ev, .pm] s t ∧ t.chan d = (setChan d 2 5 s).chan d ∧ t.shows (75 + 4 * d) := by
  rcases hstate with hup | hfailed
  · exact ⟨_, by simp [channelOp, hup], onlyChanges_mono (onlyChanges_append (setChan_only hd 2 5 s) (dropChannel_only d _)) (by decide),
      chan_dropChannel d _ d, shows_dropChannel_of d (shows_setChan d 2 5 s)⟩
  · exact ⟨_, by simp [channelOp, hfailed], setChan_only hd 2 5 s, rfl, shows_setChan d 2 5 s⟩

/-- The channel off, with the record that its module was powered off; its load switch is still closed (08 R254). -/
def channelOff (d : Nat) (s : State) : State := setChan d 3 0 (s.onChan d fun c => { c with everOff := true })

theorem channelOff_only {d : Nat} (hd : d ≤ 3) (s : State) : onlyChanges [.pool, .ev, .pm] s (channelOff d s) :=
  onlyChanges_trans (onlyChanges_mono (onChan_only s d _) (by decide)) (setChan_only hd 3 0 _)

@[simp] theorem chan_channelOff_same (d : Nat) (s : State) : (channelOff d s).chan d =
    { s.chan d with state := 3, cause := 0, everOff := true, retrainSince := none, postponed := [] } := by
  simp [channelOff]

theorem chan_channelOff_ne {d e : Nat} (s : State) (h : e ≠ d) : (channelOff d s).chan e = s.chan e :=
  (chan_setChan_ne 3 0 _ h).trans (chan_onChan_ne s _ h)

/-- An isolated or a ready channel is powered off. -/
theorem channelOp_powerOff {d : Nat} {s : State} (hstate : (s.chan d).state = 2 ∨ (s.chan d).state = 5) :
    channelOp d 2 s = some (loadSwitch d false (channelOff d s)) := by
  rcases hstate with hisolated | hready
  · simp [channelOp, hisolated, channelOff]
  · simp [channelOp, hready, channelOff]

/-- A channel that is off is powered on, and its training follows. -/
theorem channelOp_powerOn {d : Nat} {s : State} (hstate : (s.chan d).state = 3) :
    channelOp d 3 s = some (loadSwitch d true (setChan d 4 0 s)) := by
  simp [channelOp, hstate]

/-- A ready channel, or an isolated one whose module was never powered off, may return. -/
theorem channelOp_return {d : Nat} {s : State} (hstate : (s.chan d).state = 5 ∨ (s.chan d).state = 2 ∧ (s.chan d).everOff = false) :
    channelOp d 4 s = some s := by
  rcases hstate with hready | ⟨hisolated, hnever⟩
  · simp [channelOp, hready]
  · simp [channelOp, hisolated, hnever]

/-- A channel that is not in training and has no return to wait for does what the op is for its state. -/
theorem poolChannelAct_op {h : Hdr} {d op : Nat} {s t : State} (hd : d ≤ 3) (hop : 1 ≤ op ∧ op ≤ 3) (htraining : (s.chan d).state ≠ 4)
    (hwaits : (s.pool.waiters.any fun w => w.1 == d) = false) (ht : channelOp d op s = some t) :
    poolChannelAct h d op s = .ok (channelFields t d) t := by
  have hrange : ¬3 < d ∧ ¬4 < op ∧ op ≠ 0 ∧ op ≠ 4 := by omega
  simp [poolChannelAct, hrange, htraining, hwaits, ht]

section
variable {h : Hdr} {d : Nat} {s : State} (hs : heard h s) (hown : owns h 7 s) (hd : d ≤ 3)
  (hwaits : (s.pool.waiters.any fun w => w.1 == d) = false)
include hs hown hd hwaits

/-- It is answered at once with the channel as the op leaves it, and the channel's source still shows what the op raised. -/
theorem poolChannel_answers {op : Nat} {t : State} (hop : 1 ≤ op ∧ op ≤ 3) (htraining : (s.chan d).state ≠ 4)
    (ht : channelOp d op s = some t) (honly : onlyChanges [.pool, .pm, .power, .ev] s t) :
    ∃ u, exec (.poolChannel h d op) s = .next u ∧ answered h 7 4 stOk (channelFields u d) s u ∧
      onlyChanges (.pool :: .pm :: .power :: replyParts) s u ∧ (∀ e, u.chan e = t.chan e) ∧ (∀ r, u.rail r = t.rail r) ∧
      (t.shows (75 + 4 * d) → u.shows (75 + 4 * d)) := by
  have hact := poolChannelAct_op (h := h) hd hop htraining hwaits ht
  obtain ⟨u, hu, hans, hparts, hkeep⟩ := exec_answers (i := .poolChannel h d op) hs rfl (by simp [hown]) (fun hcap => nomatch hcap) hact
    honly (by decide)
  have hpool : u.pool = t.pool := hkeep .pool (by decide)
  refine ⟨u, hu, ?_, onlyChanges_mono hparts (by decide), chan_eq hpool, rail_eq (hkeep .power (by decide)),
    exec_answers_shows (i := .poolChannel h d op) hs rfl (by simp [hown]) (by simp) hact hu (by omega)⟩
  rwa [channelFields_eq hpool (hkeep .clk (by decide))]

/-- Op 4, from a state that returns, leaves the command waiting. -/
theorem poolChannel_return_waits (htraining : (s.chan d).state ≠ 4) (ht : channelOp d 4 s = some s) :
    ∃ u, exec (.poolChannel h d 4) s = .next u ∧ onlyChanges [.pool, .sems, .ev, .tally] s u ∧
      u.pool.waiters = s.pool.waiters ++ [(d, ⟨h, 7, 4, .channel d⟩)] := by
  let t : State := s.onPool fun x => { x with waiters := x.waiters ++ [(d, ⟨h, 7, 4, .channel d⟩)] }
  have hact : poolChannelAct h d 4 s = .later t := by
    simp [poolChannelAct, Nat.not_lt.mpr hd, htraining, hwaits, ht, t]
  have hserve : poolChannelCmd h d 4 s = renewLeases h.port t := by
    simp [poolChannelCmd, hact, hown, serve_later hs]
  have honly : onlyChanges [.pool, .sems] s (renewLeases h.port t) := onlyChanges_append (onPool_only s _) (renewLeases_only _ _)
  refine ⟨_, congrArg (done s) hserve, onlyChanges_append honly (counted_only s _), ?_⟩
  simp [t]

end

/-! ### The obligation -/

/-- Settles O12: the rules of each command give one change, an answer that reads, or the one state that the op leaves. -/
theorem poolCommands : Obligations.PoolCommands := by
  refine ⟨fun h s hs => ⟨?enables, ?reads, ?clears⟩, fun h s d hs hown hd hwaits => ⟨?isolates, ?powersOff, ?powersOn, ?returns⟩⟩
  case enables =>
    intro c i cmd d hown hm hi hop hlisted hbad hon hunused hfree hchan hadmits _
    obtain ⟨rfl, rfl⟩ : i = poolInstr h c ∧ cmd = c.kind := by cases c <;> exact hi
    obtain ⟨ls, hact, honly⟩ := poolAct_enables hop hlisted hbad hon hunused hfree hchan hadmits
    obtain ⟨u, hu, htick, hparts, -⟩ := exec_tickets (ps := [.pool]) hs hm (exec_poolInstr h c s) (by simp [hop, hown])
      (by simp [hop, changes_of_differs (poolDiffers_unused hunused)]) hact rfl (writeLive_only honly) (by decide)
    exact ⟨u, hu, htick, hparts⟩
  case reads =>
    intro c i cmd hi hop hlisted hthere
    obtain ⟨rfl, rfl⟩ : i = poolInstr h c ∧ cmd = c.kind := by cases c <;> exact hi
    exact readsAs_of_serve hs (exec_poolInstr h c s) (by simp [hop]) (by simp [hop]) (poolAct_read hop hlisted hthere)
  case clears =>
    intro slot member hown hslot hmember
    have hrange : ¬12287 < slot ∧ ¬(255 < member ∧ member ≠ 0xFFFF) := by omega
    obtain ⟨u, hu, hans, hparts, hkeep⟩ := exec_answers (i := .poolStatus h slot member 1) (ps := [.pool]) (t := clearPool slot s)
      (fs := poolStatusFields slot member s) hs rfl (by simp [hown]) (fun hcap => nomatch hcap)
      ((if_neg (by simpa using hrange)).trans (by simp)) (clearPool_only slot s) (by decide)
    refine ⟨u, hu, hans, hparts, fun k hk => ?_⟩
    have hentry : u.entry k = (clearPool slot s).entry k := by
      simp [State.entry, show u.pool = (clearPool slot s).pool from hkeep .pool (by decide)]
    rw [hentry]
    exact clearPool_counts hk
  case isolates =>
    intro hstate
    obtain ⟨t, ht, honly, hchan, hshows⟩ := channelOp_isolate hd hstate
    obtain ⟨u, hu, hans, -, hchans, -, hkeep⟩ := poolChannel_answers hs hown hd hwaits (by decide) (by omega) ht
      (onlyChanges_mono honly (by decide))
    refine ⟨u, hu, hans, ?_, ?_, hkeep hshows⟩ <;> simp [hchans, hchan]
  case powersOff =>
    intro hstate
    obtain ⟨u, hu, hans, hparts, hchans, hrails, -⟩ := poolChannel_answers hs hown hd hwaits (by decide) (by omega)
      (channelOp_powerOff hstate) (onlyChanges_mono (onlyChanges_append (channelOff_only hd s) (loadSwitch_only d false _)) (by decide))
    refine ⟨u, hu, hans, hparts, by simp [hchans], ?_, fun e he => ?_⟩
    · rw [hrails, rail_loadSwitch, rail_eq (channelOff_only hd s .power (by decide))]
    · rw [hchans, chan_loadSwitch, chan_channelOff_ne s he]
  case powersOn =>
    intro hstate
    obtain ⟨u, hu, hans, hparts, hchans, hrails, -⟩ := poolChannel_answers hs hown hd hwaits (by decide) (by omega)
      (channelOp_powerOn hstate) (onlyChanges_mono (onlyChanges_append (setChan_only hd 4 0 s) (loadSwitch_only d true _)) (by decide))
    refine ⟨u, hu, hans, hparts, by simp [hchans], ?_, fun e he => ?_⟩
    · rw [hrails, rail_loadSwitch, rail_eq (setChan_only hd 4 0 s .power (by decide))]
    · rw [hchans, chan_loadSwitch, chan_setChan_ne 4 0 s he]
  case returns =>
    intro hstate
    exact poolChannel_return_waits hs hown hd hwaits (by omega) (channelOp_return hstate)

end Sys2Proof.Machine
end

section
/-!
PROOFS. The prot and pm services (09 R258-R265; 10 R294-R302): prot.group, pm.config, pm.monitor and pm.profile give one change, which a
ticket holds; prot.command answers with the group that holds the command; pm.bulk waits for the next beat, which is the model's choice
(log 46).
-/

namespace Sys2Proof.Machine

open Sys2Proof

/-! ### What the operations of a protection group change -/

theorem mirrorGroup_only (n : Nat) (s : State) : onlyChanges [.hive] s (mirrorGroup n s) := mirrorSend_only _ _

@[simp] theorem group_mirrorGroup (n m : Nat) (s : State) : (mirrorGroup n s).group m = s.group m :=
  group_eq (mirrorGroup_only n s .prot (by decide)) m

/-- A disabled group that is set disabled takes the settings, and its selector stays where it is. -/
theorem applyProt_disabled_only {a : ProtGroupArgs} {s : State} (hoff : (s.group a.group).cfg.enable = 0) (ha : a.enable = 0) :
    onlyChanges [.prot] s (applyProt a s) := by
  simpa [applyProt, hoff, ha] using onGroup_only s a.group _

@[simp] theorem group_protSeen (a : ProtGroupArgs) : (protSeen a).group = a.group := rfl

/-- The writes that a ticketed prot.group makes at once: a disabled group takes its other settings (09 R258). -/
theorem protGroup_writes {a : ProtGroupArgs} {s : State} {ls : List Live} (hoff : (s.group a.group).cfg.enable = 0)
    (hls : ls = [] ∨ ls = [.now (.prot { a with enable := 0 })]) : onlyChanges [.prot] s (applyLives ls s) := by
  rcases hls with rfl | rfl
  · exact onlyChanges_refl _ s
  · exact applyProt_disabled_only (a := { a with enable := 0 }) hoff rfl

/-! ### prot.command -/

/-- No trigger ranks above the lockout (09 R262). -/
theorem two_le_triggerRank (reqW reqP : Nat) : 2 ≤ triggerRank reqW reqP := by
  unfold triggerRank
  split_ifs <;> decide

/-- No held command ranks above the lockout. -/
theorem one_le_commandRank (c : Nat) : 1 ≤ commandRank c := by
  unfold commandRank
  split <;> decide

/-- A request that the other end sends is never a lockout (09 R268). -/
theorem two_le_of_remote {g : ProtGroup} {p : SdhPort} {r : Nat} (h : g.remote p = some r) : 2 ≤ r := by
  unfold ProtGroup.remote at h
  split at h
  · split at h
    · next k _ =>
      split at h
      · next hrange =>
        rw [← Option.some.inj h]
        exact (show 2 ≤ k ∧ k ≤ 11 by simpa using hrange).1
      · cases h
    · cases h
  · cases h

/-- A lockout is what the host sees, whatever the other end asks for. -/
theorem requestShown_lockout {g : ProtGroup} (s : State) (h : g.request = 1) : requestShown s g = 1 := by
  unfold requestShown
  split
  · split
    · next hr => have := two_le_of_remote hr; omega
    · exact h
  · exact h

/-- A lockout is accepted and is in force at once. -/
theorem protCommand_lockout (g : ProtGroup) : protCommand 1 g = (0, { g with command := 1, request := 1, wtrLeft := 0 }) := by
  have htrig := two_le_triggerRank g.reqW g.reqP
  have hheld := one_le_commandRank g.command
  have hbest : min (triggerRank g.reqW g.reqP) 1 = 1 := by omega
  simp [protCommand, show commandRank 1 = 1 from rfl, Nat.not_lt.mpr hheld, hbest]

/-- A clear is accepted: the command held and the wait-to-restore are over. -/
theorem protCommand_clear (g : ProtGroup) :
    (protCommand 0 g).1 = 0 ∧ (protCommand 0 g).2.command = 0 ∧ (protCommand 0 g).2.wtrLeft = 0 := by
  unfold protCommand
  rw [if_pos rfl]
  dsimp only
  split <;> exact ⟨rfl, rfl, rfl⟩

/-- A command that an enabled group accepts is answered at once, and the group alone has changed. -/
theorem protCommand_answers {h : Hdr} {n c : Nat} {s : State} (hs : heard h s) (hown : owns h 8 s) (hn : n ≤ 12287) (hc : c ≤ 5)
    (hen : (s.group n).cfg.enable = 1) (haccepts : (protCommand c (s.group n)).1 = 0)
    (hshown : c = 0 ∨ commandRank c ≤ requestShown s (protCommand c (s.group n)).2) :
    ∃ t fs, exec (.protCommand h n c) s = .next t ∧ answered h 8 2 stOk ((1, 0) :: fs) s t ∧
      onlyChanges (.prot :: .hive :: replyParts) s t ∧ t.group n = (protCommand c (s.group n)).2 ∧
      ∀ m, m ≠ n → t.group m = s.group m := by
  let g := (protCommand c (s.group n)).2
  have honly : onlyChanges [.prot, .hive] s (mirrorGroup n (s.onGroup n fun _ => g)) :=
    onlyChanges_append (onGroup_only s n _) (mirrorGroup_only n _)
  have hact : protCommandAct n c s = .ok [(1, 0), (1, requestShown s g), (4, 0)] (mirrorGroup n (s.onGroup n fun _ => g)) := by
    have hsees : ¬(c ≠ 0 ∧ requestShown s g < commandRank c) := by
      rintro ⟨hne, hlt⟩
      exact Nat.not_lt.mpr (hshown.resolve_left hne) hlt
    refine (if_neg (by simp [Nat.not_lt.mpr hn, Nat.not_lt.mpr hc, hen])).trans ?_
    simp only [haccepts, true_and]
    rw [if_neg hsees]
    rfl
  obtain ⟨t, ht, hans, hparts, hkeep⟩ := exec_answers (i := .protCommand h n c) hs rfl hown (fun hcap => nomatch hcap) hact honly
    (by decide)
  have hgroups := group_eq (hkeep .prot (by decide))
  refine ⟨t, _, ht, hans, hparts, ?_, fun m hm => ?_⟩
  · simp [hgroups, g]
  · rw [hgroups, group_mirrorGroup, group_onGroup_ne s _ hm]

/-! ### The pm service -/

theorem onMon_only (s : State) (e : Entity) (f : Mon → Mon) : onlyChanges [.pm] s (s.onMon e f) := onPm_only s _

theorem applyMonitor_only (a : PmMonitorArgs) (s : State) : onlyChanges [.pm] s (applyMonitor a s) := by
  unfold applyMonitor
  dsimp only
  split_ifs <;> exact onMon_only s a.ent _

/-- The writes that a ticketed pm.monitor makes at once: an entity not monitored takes its other settings (10 R294). -/
theorem pmMonitor_writes {a : PmMonitorArgs} {s : State} {ls : List Live}
    (hls : ls = [] ∨ ls = [.now (.pmMonitor { a with enable := 0 })]) : onlyChanges [.pm] s (applyLives ls s) := by
  rcases hls with rfl | rfl
  · exact onlyChanges_refl _ s
  · exact applyMonitor_only { a with enable := 0 } s

theorem livePmPort_only (port auto : Nat) (s : State) : onlyChanges [.pm] s (livePmPort port auto s) := onPm_only s _

theorem writeLive_pm (ls : List Live) (s : State) : (writeLive ls s).pm = (applyLives ls s).pm := writeLive_applies ls s .pm (by decide)

/-- pm.bulk leaves the command waiting, with no answer and no change but its place among those that wait (log 46). -/
theorem pmBulk_waits {h : Hdr} {a : PmBulkArgs} {s : State} (hs : heard h s) (hown : owns h 9 s)
    (hact : pmBulkAct h a s = .later (s.onPm fun p => { p with bulk := p.bulk ++ [(⟨h, 9, 5, .bulk 0 0⟩, a)] })) :
    ∃ t, exec (.pmBulk h a) s = .next t ∧ onlyChanges [.pm, .sems, .ev, .tally] s t ∧
      t.pm = { s.pm with bulk := s.pm.bulk ++ [(⟨h, 9, 5, .bulk 0 0⟩, a)] } := by
  have hserve : pmBulk h a s =
      renewLeases h.port (s.onPm fun p => { p with bulk := p.bulk ++ [(⟨h, 9, 5, .bulk 0 0⟩, a)] }) := by
    simp [pmBulk, hact, hown, serve_later hs]
  refine ⟨_, congrArg (done s) hserve, onlyChanges_append (onlyChanges_append (onPm_only s _) (renewLeases_only _ _)) (counted_only s _), ?_⟩
  simp

/-! ### The obligation -/

/-- Settles O13: the rules of each command that takes a ticket give its one change, with at most the disabled settings of its own unit
written; a lockout and a clear give the group that holds them; pm.bulk gives the list of those that wait. -/
theorem protectionAndPmSettings : Obligations.ProtectionAndPmSettings := by
  refine ⟨fun h s hs hown => ⟨?group, ?lockout, ?clear⟩, fun h s hs hown hm => ⟨?config, ?monitor, ?profile, ?bulk⟩⟩
  case group =>
    intro a hm hbad hen hoff hmatch hshare hfull
    have hdiff : protDiffers (protSeen a) s = true :=
      bne_iff_ne.mpr fun heq => by simpa [protSeen, hen, hoff] using congrArg ProtGroupArgs.enable heq
    obtain ⟨ls, hblock, hls⟩ := setBlock_ticket (p := h.port) (on := (s.group a.group).cfg.enable == 1) (wants := a.enable == 1)
      (off := .prot { protSeen a with enable := 0 }) (c := .prot (protSeen a)) (live := []) (kind := .status) (s := s) hdiff
      (.inr (beq_iff_eq.mpr hen))
    have hact : protGroupAct h.port (protSeen a) s = .cap [.prot (protSeen a)] .status (writeLive ls s) :=
      (if_neg (by simp [hbad])).trans ((if_neg (by simp [protSeen, hoff])).trans
        ((if_neg (by simp [hmatch, hshare, -List.any_filter])).trans ((if_neg (by simp [hfull])).trans hblock)))
    obtain ⟨u, hu, htick, hparts, -⟩ := exec_tickets (i := .protGroup h a) (ps := [.prot]) hs hm rfl hown (changes_of_differs hdiff) hact
      rfl (writeLive_only (protGroup_writes (a := protSeen a) hoff (hls.imp_right And.right))) (by decide)
    exact ⟨u, hu, htick, hparts⟩
  case lockout =>
    intro n hn hen
    have hgroup := protCommand_lockout (s.group n)
    obtain ⟨t, fs, ht, hans, hparts, hheld, hrest⟩ := protCommand_answers (c := 1) hs hown hn (by decide) hen (by rw [hgroup])
      (.inr (by rw [hgroup, requestShown_lockout s rfl]; decide))
    exact ⟨t, fs, ht, hans, hparts, by rw [hheld, hgroup], by rw [hheld, hgroup], hrest⟩
  case clear =>
    intro n hn hen
    obtain ⟨haccepts, hcommand, hwtr⟩ := protCommand_clear (s.group n)
    obtain ⟨t, fs, ht, hans, hparts, hheld, hrest⟩ := protCommand_answers (c := 0) hs hown hn (by decide) hen haccepts (.inl rfl)
    exact ⟨t, fs, ht, hans, hparts, by rw [hheld, hcommand], by rw [hheld, hwtr], hrest⟩
  case config =>
    intro a hday hport hauto hne
    have hdiff : (s.pm.dayStart != a.dayStart) = true := bne_iff_ne.mpr hne.symm
    have hact : pmConfigAct h.port a s = .cap [.pmDay a.dayStart] .status (writeLive [.pmPort a.port a.auto] s) := by
      simp [pmConfigAct, hday, hport, hauto, changes_of_differs hdiff]
    obtain ⟨u, hu, htick, hparts, hkeep⟩ := exec_tickets (i := .pmConfig h a) (ps := [.pm]) hs hm rfl hown (changes_of_differs hdiff) hact
      rfl (writeLive_only (livePmPort_only a.port a.auto s)) (by decide)
    have hpm : u.pm = { s.pm with port := a.port, auto := a.auto } := (hkeep .pm (by decide)).trans (writeLive_pm _ s)
    exact ⟨u, hu, htick, hparts, by rw [hpm], by rw [hpm]⟩
  case monitor =>
    intro a hen hbidir hprofile hthere hoff hroom
    have hrange : ¬(63 < a.profile ∧ a.profile ≠ 0xFF) := by omega
    have hdiff : monDiffers a s = true :=
      bne_iff_ne.mpr fun heq => by simpa [hen, hoff] using congrArg PmMonitorArgs.enable heq
    obtain ⟨ls, hblock, hls⟩ := setBlock_ticket (p := h.port) (on := (s.mon a.ent).cfg.enable == 1) (wants := a.enable == 1)
      (off := .pmMonitor { a with enable := 0 }) (c := .pmMonitor a) (live := []) (kind := .status) (s := s) hdiff
      (.inr (beq_iff_eq.mpr hen))
    have hact : pmMonitorAct h.port a s = .cap [.pmMonitor a] .status (writeLive ls s) :=
      (if_neg (by simpa [hen, hbidir, hthere] using hrange)).trans ((if_neg (by simp [Nat.not_le.mpr hroom])).trans hblock)
    obtain ⟨u, hu, htick, hparts, -⟩ := exec_tickets (i := .pmMonitor h a) (ps := [.pm]) hs hm rfl hown (changes_of_differs hdiff) hact
      rfl (writeLive_only (pmMonitor_writes (hls.imp_right And.right))) (by decide)
    exact ⟨u, hu, htick, hparts⟩
  case profile =>
    intro i thr hi hdiff
    have hact : pmProfileAct h.port i thr s = .cap [.pmProfile i thr] .status s := by
      simp [pmProfileAct, hi, changes_of_differs hdiff]
    exact exec_tickets_only (i := .pmProfile h i thr) hs hm rfl hown (changes_of_differs hdiff) hact (List.cons_ne_nil _ _) rfl
  case bulk =>
    intro a hlo hhi hport htypes hbins hfree
    have hdepth : outside 1 96 a.depth = false := outside_eq_false.mpr ⟨hlo, hhi⟩
    exact pmBulk_waits hs hown ((if_neg (by simp [hdepth, hport, htypes, hbins])).trans (if_neg (by simp [hfree])))

end Sys2Proof.Machine
end

section
/-!
PROOFS. The events of the protection groups (09 R262-R277). An evaluation gives a group its requests, timers and K bytes and may ask for a
movement; the group's configuration and its selector stand. That the movement itself comes with the next BEAT is the model's reading of
R280 (log 56). The other events write the one group that they name.
-/

namespace Sys2Proof.Machine

open Sys2Proof

/-! ### The steps of an evaluation leave the configuration and the selector -/

/-- Two records of one group with the same configuration and the same selector. -/
def ProtGroup.keeps (g g' : ProtGroup) : Prop := g'.cfg = g.cfg ∧ g'.sel = g.sel

theorem ProtGroup.keeps.trans {g g' g'' : ProtGroup} (h : g.keeps g') (h' : g'.keeps g'') : g.keeps g'' :=
  ⟨h'.1.trans h.1, h'.2.trans h.2⟩

theorem ProtGroup.keeps_fopStep (g : ProtGroup) (p : SdhPort) (protSf : Bool) : g.keeps (g.fopStep p protSf) := by
  unfold ProtGroup.fopStep
  split_ifs <;> exact ⟨rfl, rfl⟩

theorem ProtGroup.keeps_ownRequest (g : ProtGroup) : g.keeps g.ownRequest := by
  unfold ProtGroup.ownRequest
  dsimp only
  split_ifs <;> exact ⟨rfl, rfl⟩

theorem ProtGroup.keeps_sendK (g : ProtGroup) (p : SdhPort) : g.keeps (g.sendK p) := by
  unfold ProtGroup.sendK
  split_ifs <;> exact ⟨rfl, rfl⟩

/-! ### A held lockout -/

/-- A held lockout is the group's own request, whatever its triggers show (09 R262). -/
theorem ProtGroup.ownRequest_lockout {g : ProtGroup} (h : g.command = 1) :
    g.ownRequest = { g with request := 1, wtrLeft := 0 } := by
  have htrig := two_le_triggerRank g.reqW g.reqP
  have hbest : min (triggerRank g.reqW g.reqP) (commandRank 1) = 1 := by
    rw [show commandRank 1 = 1 from rfl]
    omega
  simp [ProtGroup.ownRequest, h, hbest]

theorem ProtGroup.request_sendK (g : ProtGroup) (p : SdhPort) : (g.sendK p).request = g.request := by
  unfold ProtGroup.sendK
  split_ifs <;> rfl

theorem ProtGroup.command_fopStep (g : ProtGroup) (p : SdhPort) (protSf : Bool) : (g.fopStep p protSf).command = g.command := by
  unfold ProtGroup.fopStep
  split_ifs <;> rfl

/-- An end that is locked out answers no request of the other. -/
theorem ProtGroup.answers_lockout {g : ProtGroup} (p : SdhPort) (h : g.request = 1) : g.answers p = false := by
  unfold ProtGroup.answers
  split
  · next hr => exact decide_eq_false (by have := two_le_of_remote hr; omega)
  · rfl

/-- A group that is locked out asks for the working member. -/
theorem ProtGroup.wants_lockout {g : ProtGroup} (p : SdhPort) (h : g.request = 1) : g.wants p = false := by
  have hown : selectsProt g.request = false := by rw [h]; decide
  simp [ProtGroup.wants, hown, ProtGroup.answers_lockout p h]

/-! ### One group in one beat -/

/-- The group with the conditions that its members show in this beat and its hold-off timers (09 R261, R263). -/
def shownGroup (s : State) (g : ProtGroup) : ProtGroup :=
  let t := triggers s g.cfg
  let hw := holdStep g.cfg.holdoff t.1 g.holdW g.reqW
  let hp := holdStep g.cfg.holdoff t.2 g.holdP g.reqP
  { g with
    sfW := t.1 == 2, sdW := t.1 == 1, sfP := t.2 == 2, sdP := t.2 == 1
    holdW := hw.1, reqW := hw.2, holdP := hp.1, reqP := hp.2 }

/-- The protection port of a group of lines. -/
def ProtGroup.protPort (g : ProtGroup) (s : State) : SdhPort :=
  match g.lanes with
  | some (_, p) => s.sdhOf p
  | none => {}

/-- The group with the request, the K bytes and the bridge of this beat (09 R262-R270). -/
def requestedGroup (s : State) (g : ProtGroup) : ProtGroup :=
  let shown := shownGroup s g
  (shown.fopStep (shown.protPort s) ((triggers s g.cfg).2 == 2)).ownRequest.sendK (shown.protPort s)

theorem shownGroup_keeps (s : State) (g : ProtGroup) : g.keeps (shownGroup s g) := ⟨rfl, rfl⟩

theorem requestedGroup_keeps (s : State) (g : ProtGroup) : g.keeps (requestedGroup s g) :=
  (shownGroup_keeps s g).trans <| (ProtGroup.keeps_fopStep _ _ _).trans <|
    (ProtGroup.keeps_ownRequest _).trans (ProtGroup.keeps_sendK _ _)

/-- What an evaluation does: nothing to a disabled group; a low-order group between its boundaries shows its conditions; any other takes
its request, and then waits for the hitless switch or asks for the movement that it wants. -/
theorem evaluateGroup_eq (n : Nat) (s : State) : evaluateGroup n s =
    if (s.group n).cfg.enable = 0 then s
    else if (s.group n).cfg.kind = 4 ∧ (s.now + 1) % tuBeats ≠ 0 then
      s.onGroup n fun g => { shownGroup s g with wtrLeft := if g.request = 10 then g.wtrLeft - 1 else g.wtrLeft }
    else
      let g := requestedGroup s (s.group n)
      let want := g.wants ((shownGroup s (s.group n)).protPort s)
      if want ≠ g.sel ∧ g.cfg.kind = 5 ∧ !(g.request = 2 ∨ g.request = 5) then
        (s.onGroup n fun _ => g).onGroup n fun g => { g with waitHitless := true }
      else askMove n want (s.onGroup n fun _ => g) := rfl

theorem askMove_only (n : Nat) (prot : Bool) (s : State) : onlyChanges [.prot] s (askMove n prot s) := onGroup_only s n _

@[simp] theorem group_askMove_same (n : Nat) (prot : Bool) (s : State) : (askMove n prot s).group n =
    { s.group n with move := if prot = (s.group n).sel then none else some prot, waitHitless := false } :=
  group_onGroup_same s n _

theorem evaluateGroup_only (n : Nat) (s : State) : onlyChanges [.prot] s (evaluateGroup n s) := by
  rw [evaluateGroup_eq]
  dsimp only
  split_ifs
  · exact onlyChanges_refl _ s
  · exact onGroup_only s n _
  · exact onlyChanges_trans (onGroup_only s n _) (onGroup_only _ n _)
  · exact onlyChanges_trans (onGroup_only s n _) (askMove_only n _ _)

/-- An evaluation writes its own group alone. -/
theorem group_evaluateGroup_ne {n m : Nat} (s : State) (h : m ≠ n) : (evaluateGroup n s).group m = s.group m := by
  rw [evaluateGroup_eq]
  dsimp only
  split_ifs <;> simp [askMove, group_onGroup_ne _ _ h]

/-- And of it neither the configuration nor the selector. -/
theorem evaluateGroup_keeps (n m : Nat) (s : State) : (s.group m).keeps ((evaluateGroup n s).group m) := by
  by_cases h : m = n
  · subst h
    have hkeeps := requestedGroup_keeps s (s.group m)
    rw [evaluateGroup_eq]
    dsimp only
    split_ifs
    · exact ⟨rfl, rfl⟩
    · rw [group_onGroup_same]
      exact shownGroup_keeps s (s.group m)
    · simpa [ProtGroup.keeps] using hkeeps
    · simpa [ProtGroup.keeps] using hkeeps
  · rw [group_evaluateGroup_ne s h]
    exact ⟨rfl, rfl⟩

/-- A group of kinds 0 to 3 that holds a lockout is locked out in the next evaluation, and asks for the working member where it is on
protection. -/
theorem evaluateGroup_lockout {n : Nat} {s : State} (hen : (s.group n).cfg.enable = 1) (hkind : (s.group n).cfg.kind ≤ 3)
    (hcommand : (s.group n).command = 1) :
    ((evaluateGroup n s).group n).request = 1 ∧
      ((evaluateGroup n s).group n).move = if (s.group n).sel then some false else none := by
  obtain ⟨hcfg, hsel⟩ := requestedGroup_keeps s (s.group n)
  have hrequest : (requestedGroup s (s.group n)).request = 1 := by
    have hheld : (shownGroup s (s.group n)).command = 1 := hcommand
    simp [requestedGroup, ProtGroup.request_sendK, ProtGroup.ownRequest_lockout, ProtGroup.command_fopStep, hheld]
  have hsame : evaluateGroup n s = askMove n false (s.onGroup n fun _ => requestedGroup s (s.group n)) := by
    rw [evaluateGroup_eq, if_neg (by omega), if_neg (by omega)]
    dsimp only
    rw [ProtGroup.wants_lockout _ hrequest, hcfg, if_neg (by omega)]
  rw [hsame, group_askMove_same, group_onGroup_same]
  refine ⟨hrequest, ?_⟩
  rw [hsel]
  cases (s.group n).sel <;> rfl

/-! ### Every group in one beat -/

theorem mirrorIfDue_only (n : Nat) (old : ProtGroup) (s : State) : onlyChanges [.hive] s (mirrorIfDue n old s) := by
  unfold mirrorIfDue
  dsimp only
  split_ifs
  · exact mirrorGroup_only n s
  · exact onlyChanges_refl _ s

@[simp] theorem group_mirrorIfDue (n : Nat) (old : ProtGroup) (s : State) (m : Nat) : (mirrorIfDue n old s).group m = s.group m :=
  group_eq (mirrorIfDue_only n old s .prot (by decide)) m

/-- One group's evaluation, and its mirror record where one is due. -/
def evaluateAndMirror (s : State) (n : Nat) : State := mirrorIfDue n (s.group n) (evaluateGroup n s)

theorem evaluateAndMirror_only (s : State) (n : Nat) : onlyChanges [.prot, .hive] s (evaluateAndMirror s n) :=
  onlyChanges_append (evaluateGroup_only n s) (mirrorIfDue_only n _ _)

theorem evaluateAndMirror_keeps (s : State) (n m : Nat) : (s.group m).keeps ((evaluateAndMirror s n).group m) := by
  rw [evaluateAndMirror, group_mirrorIfDue]
  exact evaluateGroup_keeps n m s

theorem protEvaluate_runs {s : State} (hstarted : s.clk.started = true) (hrole : s.hive.role ≠ .standby) :
    protEvaluate s = s.groupsOn.foldl evaluateAndMirror s :=
  if_pos (by simp [hstarted, hrole])

theorem protEvaluate_only (s : State) : onlyChanges [.prot, .hive] s (protEvaluate s) := by
  unfold protEvaluate
  split
  · exact List.foldlRecOn _ _ (onlyChanges_refl _ s) fun _ ht n _ => onlyChanges_trans ht (evaluateAndMirror_only _ n)
  · exact onlyChanges_refl _ s

theorem protEvaluate_keeps (s : State) (m : Nat) : (s.group m).keeps ((protEvaluate s).group m) := by
  unfold protEvaluate
  split
  · exact List.foldlRecOn (motive := fun t : State => (s.group m).keeps (t.group m)) _ _ ⟨rfl, rfl⟩ fun t ht n _ =>
      ht.trans (evaluateAndMirror_keeps t n m)
  · exact ⟨rfl, rfl⟩

/-- A lone enabled group is the one that is evaluated. -/
theorem protEvaluate_single {n : Nat} {g : ProtGroup} {s : State} (hstarted : s.clk.started = true) (hrole : s.hive.role ≠ .standby)
    (hprot : s.prot = [(n, g)]) (hen : g.cfg.enable = 1) : (protEvaluate s).group n = (evaluateGroup n s).group n := by
  have hone : s.groupsOn = [n] := by simp [State.groupsOn, hprot, hen]
  rw [protEvaluate_runs hstarted hrole, hone]
  exact group_mirrorIfDue n _ _ n

/-! ### The obligation -/

@[simp] theorem group_counted (s t : State) (n : Nat) : (counted s t).group n = t.group n := group_eq (by simp) n

/-- An event whose effect is one write of the group it names. -/
theorem done_writes_group {i : Instr} {n : Nat} {s t : State} {g : ProtGroup} (he : exec i s = done s t)
    (ht : t = s.onGroup n fun _ => g) : ∃ u, exec i s = .next u ∧ onlyChanges [.prot, .ev, .tally] s u ∧ u.group n = g := by
  subst ht
  exact ⟨_, he, onlyChanges_append (onGroup_only s n _) (counted_only s _), by simp⟩

/-- Settles O52: an evaluation is a fold over the enabled groups, each step of which keeps every configuration and selector, and each of
the other events writes the one group that it names. -/
theorem protectionEvents : Obligations.ProtectionEvents := by
  refine fun n s => ⟨?evaluates, fun hen => ⟨?holdoffW, ?holdoffP, ?wtr, ?fopCm, ?hitless⟩⟩
  case evaluates =>
    intro hstarted hrole
    obtain ⟨hcfg, hsel⟩ := protEvaluate_keeps s n
    refine ⟨_, rfl, onlyChanges_append (protEvaluate_only s) (counted_only s _), by simpa using hcfg, by simpa using hsel, ?_⟩
    intro g hprot hon hkind hcommand
    have hg : s.group n = g := by simp [State.group, hprot, tget]
    subst hg
    rw [group_counted, protEvaluate_single hstarted hrole hprot hon]
    exact evaluateGroup_lockout hon hkind hcommand
  case holdoffW =>
    intro hleft hshown
    exact done_writes_group (i := .holdoffExpiry n false) rfl (if_pos ⟨hen, hleft, hshown⟩)
  case holdoffP =>
    intro hleft hshown
    exact done_writes_group (i := .holdoffExpiry n true) rfl (if_pos ⟨hen, hleft, hshown⟩)
  case wtr =>
    intro hrequest hleft
    exact done_writes_group (i := .wtrExpiry n) rfl (if_pos ⟨hen, hrequest, hleft⟩)
  case fopCm =>
    intro hbidir hbeats
    exact done_writes_group (i := .fopCmExpiry n) rfl (if_pos ⟨hen, hbidir, hbeats⟩)
  case hitless =>
    intro hwaits hready hboundary
    refine done_writes_group (i := .cpriHitlessSwitch n) rfl ((if_pos ⟨hen, hwaits, hready, hboundary⟩).trans ?_)
    cases hsel : (s.group n).sel <;> simp [askMove, State.onGroup, hsel]

end Sys2Proof.Machine
end

section
/-!
PROOFS. The operations that the Scout's commands and events share (11 R315-R329, R348, R349): which parts each leaves alone, and what it
makes of the Scout's record. A change of state raises a source of the Scout's group, 91 to 114, which no part keeps a sticky copy of, and
notifies both ports, whose response queues stand.
-/

namespace Sys2Proof.Machine

open Sys2Proof

/-! ### What each operation changes -/

theorem onScout_only (s : State) (f : Scout → Scout) : onlyChanges [.scout] s (s.onScout f) := by
  intro p hp
  cases p <;> simp_all [Part.same]

theorem onPort_only (s : State) (p : Nat) (f : WgPort → WgPort) : onlyChanges [.ports] s (s.onPort p f) := by
  intro q hq
  cases q <;> simp_all [Part.same]

/-- A source outside the Guard's, hive and power groups, which alone keep sticky copies (14 R449, 12 R378, 18 R559). -/
abbrev plainSrc (n : Nat) : Prop := n < 115 ∨ 130 < n ∧ n < 211

theorem raise_only {n : Nat} (hn : plainSrc n) (s : State) : onlyChanges [.ev] s (raise n s) := by
  have hguard := raise_guard_same n s (by omega)
  have hhive := raise_hive_same n s (by omega)
  have hpower := raise_power_same n s (by omega)
  intro p hp
  cases p <;> simp_all [Part.same]

theorem driveSrc_only {n : Nat} (hn : plainSrc n) (b : Bool) (s : State) : onlyChanges [.ev] s (driveSrc n b s) := by
  have hguard := driveSrc_guard_same n b s (by omega)
  have hhive := driveSrc_hive_same n b s (by omega)
  have hpower := driveSrc_power_same n b s (by omega)
  intro p hp
  cases p <;> simp_all [Part.same]

/-- The parts that an event of the Scout may change: its own, the notification queues, the sources and the counters. -/
abbrev scoutParts : List Part := [.scout, .ports, .ev, .tally]

/-- What every operation of the Scout leaves: the other parts, the response queues, and the sources below the host ports' that show. -/
structure ScoutActs (s t : State) : Prop where
  parts : onlyChanges scoutParts s t
  rsp : ∀ p q, (t.port p).rspOf q = (s.port p).rspOf q
  shows : ∀ n, n < 131 → s.shows n → t.shows n

theorem ScoutActs.refl (s : State) : ScoutActs s s := ⟨onlyChanges_refl _ s, fun _ _ => rfl, fun _ _ h => h⟩

theorem ScoutActs.trans {s t u : State} (hst : ScoutActs s t) (htu : ScoutActs t u) : ScoutActs s u :=
  ⟨onlyChanges_trans hst.parts htu.parts, fun p q => (htu.rsp p q).trans (hst.rsp p q),
    fun n hn h => htu.shows n hn (hst.shows n hn h)⟩

theorem ScoutActs.hive {s t : State} (h : ScoutActs s t) : t.hive = s.hive := h.parts .hive (by decide)

/-- An operation that changes neither the ports nor the sources. -/
theorem ScoutActs.of_only {ps : List Part} {s t : State} (h : onlyChanges ps s t) (hps : ps ⊆ [.scout, .tally]) : ScoutActs s t :=
  ⟨onlyChanges_mono h (List.Subset.trans hps (by decide)),
    fun p q => by rw [port_eq (h .ports fun hp => absurd (hps hp) (by decide))],
    fun n _ hshows => (shows_eq (h .ev fun hp => absurd (hps hp) (by decide)) n).mpr hshows⟩

theorem onScout_acts (f : Scout → Scout) (s : State) : ScoutActs s (s.onScout f) := .of_only (onScout_only s f) (by decide)
theorem onInp_acts (n : Nat) (f : ScoutIn → ScoutIn) (s : State) : ScoutActs s (s.onInp n f) := .of_only (onInp_only s n f) (by decide)
theorem tick_acts (code unit n : Nat) (s : State) : ScoutActs s (tick code unit n s) := .of_only (tick_only_tally code unit n s) (by decide)

theorem raise_acts {n : Nat} (hn : plainSrc n) (s : State) : ScoutActs s (raise n s) :=
  ⟨onlyChanges_mono (raise_only hn s) (by decide), fun p q => by rw [port_eq (raise_only hn s .ports (by decide))],
    fun m _ h => shows_raise_of n m s h⟩

theorem raiseIf_acts {n : Nat} (hn : plainSrc n) (b : Bool) (s : State) : ScoutActs s (raiseIf b n s) := by
  cases b with
  | true => exact raise_acts hn s
  | false => exact .refl s

/-! ### Notifications -/

/-- An update of a port that keeps its response queues. -/
theorem onPort_acts {p : Nat} {f : WgPort → WgPort} (s : State) (hf : ∀ w, (f w).rsp = w.rsp) : ScoutActs s (s.onPort p f) := by
  refine ⟨onlyChanges_mono (onPort_only s p f) (by decide), fun r q => ?_,
    fun n _ h => (shows_eq (onPort_only s p f .ev (by decide)) n).mpr h⟩
  rw [port_onPort]
  split
  next h => rw [h, WgPort.rspOf, hf, WgPort.rspOf]
  next => rfl

theorem driveSrc_portSrc_acts {p k : Nat} (hp : p < 2) (hk : k < 16) (b : Bool) (s : State) : ScoutActs s (driveSrc (portSrc p k) b s) := by
  have hplain : plainSrc (portSrc p k) := by unfold portSrc; omega
  refine ⟨onlyChanges_mono (driveSrc_only hplain b s) (by decide), fun r q => ?_, fun n hn h => ?_⟩
  · rw [port_eq (driveSrc_only hplain b s .ports (by decide))]
  · exact shows_driveSrc_of _ n b s (by unfold portSrc; omega) h

/-- A notification moves the port's notification queue and its source, whether it is published or dropped (13 R409). -/
theorem notifyPort_acts (svc cmd : Nat) (fs : Fields) (s : State) {p : Nat} (hp : p < 2) : ScoutActs s (notifyPort svc cmd fs s p) := by
  have hseq : ScoutActs s (s.onPort p fun w => { w with ntfSeq := (w.ntfSeq + 1) % 65536 }) := onPort_acts s fun _ => rfl
  have hdrop : ∀ t, ScoutActs s t → ScoutActs s (raise (portSrc p 5) t) :=
    fun t ht => ht.trans (raise_acts (by unfold portSrc; omega) t)
  unfold notifyPort
  dsimp only
  split_ifs
  · exact hseq
  · refine .trans (.trans hseq ?_) (driveSrc_portSrc_acts hp (by decide) true _)
    exact onPort_acts _ fun _ => rfl
  · refine hdrop _ (.trans hseq ?_)
    exact onPort_acts _ fun _ => rfl
  · refine hdrop _ (.trans hseq ?_)
    exact onPort_acts _ fun _ => rfl

theorem notify_acts (svc cmd : Nat) (fs : Fields) (s : State) : ScoutActs s (notify svc cmd fs s) :=
  (notifyPort_acts svc cmd fs s (by decide)).trans (notifyPort_acts svc cmd fs _ (by decide))

theorem notifyPort_scout (svc cmd : Nat) (fs : Fields) (s : State) (p : Nat) : (notifyPort svc cmd fs s p).scout = s.scout := by
  unfold notifyPort
  dsimp only
  split_ifs <;> simp

theorem scoutChange_acts {source : Nat} (hs : source < 115) (i old new : Nat) (s : State) : ScoutActs s (scoutChange source i old new s) :=
  (raise_acts (.inl hs) s).trans (notify_acts _ _ _ _)

@[simp] theorem scoutChange_scout (source i old new : Nat) (s : State) : (scoutChange source i old new s).scout = s.scout := by
  simp [scoutChange, notify, notifyPort_scout]

@[simp] theorem inp_scoutChange (source i old new : Nat) (s : State) (j : Nat) : (scoutChange source i old new s).inp j = s.inp j :=
  inp_eq (scoutChange_scout source i old new s) j

theorem shows_scoutChange {source : Nat} (hs : source < 115) (i old new : Nat) (s : State) :
    (scoutChange source i old new s).shows source :=
  (notify_acts _ _ _ _).shows source (by omega) (shows_raise source s)

/-! ### Inputs -/

@[simp] theorem inp_raise (n : Nat) (s : State) (j : Nat) : (raise n s).inp j = s.inp j := inp_eq (by simp) j
@[simp] theorem inp_raiseIf (b : Bool) (n : Nat) (s : State) (j : Nat) : (raiseIf b n s).inp j = s.inp j := inp_eq (by simp) j

theorem setInState_acts (i : Nat) (st : InState) (s : State) : ScoutActs s (setInState i st s) := by
  unfold setInState
  dsimp only
  split_ifs
  · exact .refl s
  · exact (onInp_acts i _ s).trans (scoutChange_acts (by decide) _ _ _ _)

/-- An input that goes to another state starts to count its good beats anew, and source 97 shows it. -/
theorem inp_setInState {i : Nat} {st : InState} {s : State} (h : (s.inp i).state ≠ st) :
    (setInState i st s).inp i = { s.inp i with state := st, okBeats := 0 } ∧ (setInState i st s).shows 97 := by
  have heq : setInState i st s = scoutChange 97 i (inStateNum (s.inp i).state) (inStateNum st)
      (s.onInp i fun x => { x with state := st, okBeats := 0 }) := if_neg h
  rw [heq]
  exact ⟨by simp, shows_scoutChange (by decide) _ _ _ _⟩

theorem inp_setInState_ne {i j : Nat} (st : InState) (s : State) (h : j ≠ i) : (setInState i st s).inp j = s.inp j := by
  unfold setInState
  dsimp only
  split_ifs
  · rfl
  · simp [inp_onInp_ne _ _ h]

/-- The settings of an input stand whatever state it goes to. -/
theorem inp_setInState_cfg (i : Nat) (st : InState) (s : State) : ((setInState i st s).inp i).cfg = (s.inp i).cfg := by
  by_cases h : (s.inp i).state = st
  · rw [setInState, if_pos h]
  · rw [(inp_setInState h).1]

theorem setOnset_acts (i onset : Nat) (s : State) : ScoutActs s (setOnset i onset s) := by
  unfold setOnset
  dsimp only
  split_ifs
  · exact .refl s
  · exact (onInp_acts i _ s).trans (scoutChange_acts (by decide) _ _ _ _)

@[simp] theorem inp_setOnset_same (i onset : Nat) (s : State) : (setOnset i onset s).inp i = { s.inp i with onset := onset } := by
  unfold setOnset
  dsimp only
  split_ifs with h
  · rw [← h]
  · simp

theorem inp_setOnset_ne {i j : Nat} (onset : Nat) (s : State) (h : j ≠ i) : (setOnset i onset s).inp j = s.inp j := by
  unfold setOnset
  dsimp only
  split_ifs
  · rfl
  · simp [inp_onInp_ne _ _ h]

/-- A recorded onset that changes shows at source 99. -/
theorem shows_setOnset {i onset : Nat} {s : State} (h : (s.inp i).onset ≠ onset) : (setOnset i onset s).shows 99 := by
  have heq : setOnset i onset s = scoutChange 99 i (inStateNum (s.inp i).state) (inStateNum (s.inp i).state)
      (s.onInp i fun x => { x with onset := onset }) := if_neg h
  rw [heq]
  exact shows_scoutChange (by decide) _ _ _ _

/-! ### The DPLL and its references -/

/-- A notification that is sent only on a condition. -/
def scoutChangeIf (c : Prop) [Decidable c] (source i old new : Nat) (s : State) : State :=
  if c then scoutChange source i old new s else s

theorem scoutChangeIf_acts {source : Nat} (hs : source < 115) (c : Prop) [Decidable c] (i old new : Nat) (s : State) :
    ScoutActs s (scoutChangeIf c source i old new s) := by
  unfold scoutChangeIf
  split_ifs
  · exact scoutChange_acts hs i old new s
  · exact .refl s

@[simp] theorem scoutChangeIf_scout (c : Prop) [Decidable c] (source i old new : Nat) (s : State) :
    (scoutChangeIf c source i old new s).scout = s.scout := by
  unfold scoutChangeIf
  split_ifs <;> simp

/-- The DPLL goes to another state: source 93, and 94 or 95 where it enters or leaves HOLDOVER (11 R348). -/
theorem setDpll_ne {st : Dpll} {s : State} (h : s.scout.state ≠ st) :
    setDpll st s =
      scoutChangeIf (s.scout.state = .holdover) 95 (optNum s.scout.freq) (dpllNum s.scout.state) (dpllNum st)
        (scoutChangeIf (st = .holdover) 94 (optNum s.scout.freq) (dpllNum s.scout.state) (dpllNum st)
          (scoutChange 93 (optNum s.scout.freq) (dpllNum s.scout.state) (dpllNum st) (s.onScout fun x => { x with state := st }))) :=
  if_neg h

theorem setDpll_acts (st : Dpll) (s : State) : ScoutActs s (setDpll st s) := by
  by_cases h : s.scout.state = st
  · rw [setDpll, if_pos h]
    exact .refl s
  · rw [setDpll_ne h]
    exact ((onScout_acts _ s).trans (scoutChange_acts (by decide) _ _ _ _)).trans
      ((scoutChangeIf_acts (by decide) _ _ _ _ _).trans (scoutChangeIf_acts (by decide) _ _ _ _ _))

@[simp] theorem setDpll_scout (st : Dpll) (s : State) : (setDpll st s).scout = { s.scout with state := st } := by
  by_cases h : s.scout.state = st
  · rw [setDpll, if_pos h, ← h]
  · simp [setDpll_ne h]

theorem shows_setDpll {st : Dpll} {s : State} (h : s.scout.state ≠ st) : (setDpll st s).shows 93 := by
  rw [setDpll_ne h]
  exact ((scoutChangeIf_acts (by decide) _ _ _ _ _).trans (scoutChangeIf_acts (by decide) _ _ _ _ _)).shows 93 (by decide)
    (shows_scoutChange (by decide) _ _ _ _)

theorem setFreq_acts (r : Option Nat) (s : State) : ScoutActs s (setFreq r s) := by
  unfold setFreq
  dsimp only
  split_ifs
  · exact .refl s
  · exact (onScout_acts _ s).trans (scoutChange_acts (by decide) _ _ _ _)

@[simp] theorem setFreq_scout (r : Option Nat) (s : State) : (setFreq r s).scout = { s.scout with freq := r } := by
  unfold setFreq
  dsimp only
  split_ifs with h
  · rw [← h]
  · simp

theorem setPhase_acts (r : Option Nat) (s : State) : ScoutActs s (setPhase r s) := by
  unfold setPhase
  dsimp only
  split_ifs
  · exact .refl s
  · exact (onScout_acts _ s).trans (scoutChange_acts (by decide) _ _ _ _)
  · exact (onScout_acts _ s).trans (scoutChange_acts (by decide) _ _ _ _)

theorem setPhase_scout (r : Option Nat) (s : State) : (setPhase r s).scout =
    if s.scout.phase = r then s.scout
    else { s.scout with phase := r, aligned := false, phiRate := if r.isNone then 0 else s.scout.phiRate } := by
  by_cases h : s.scout.phase = r <;> simp [setPhase, h]

theorem refreshQl_acts (s : State) : ScoutActs s (refreshQl s) := by
  unfold refreshQl
  dsimp only
  split_ifs
  · exact .refl s
  · exact (onScout_acts _ s).trans (raise_acts (by decide) _)

@[simp] theorem refreshQl_scout (s : State) : (refreshQl s).scout = { s.scout with sysQl := systemQl s } := by
  unfold refreshQl
  dsimp only
  split_ifs with h
  · rw [← h]
  · simp

theorem fixBase_acts (s : State) : ScoutActs s (fixBase s) := by
  unfold fixBase
  exact onScout_acts _ s

theorem abandon_acts (s : State) : ScoutActs s (abandon s) := by
  unfold abandon
  dsimp only
  split_ifs
  · exact .refl s
  · exact ((tick_acts _ _ _ s).trans (onScout_acts _ _)).trans (scoutChange_acts (by decide) _ _ _ _)

/-! ### A step of the Scout -/

/-- An event of the Scout: what its own operation gives stands but for the counted events. -/
theorem done_counts {i : Instr} {ps : List Part} {s t : State} (he : exec i s = done s t) (h : onlyChanges ps s t)
    (hps : [.ev, .tally] ⊆ ps) :
    ∃ u, exec i s = .next u ∧ onlyChanges ps s u ∧ u.scout = t.scout ∧ ∀ n, n < 131 → t.shows n → u.shows n :=
  ⟨_, he, onlyChanges_trans h (onlyChanges_mono (counted_only s t) hps), counted_scout s t,
    fun n hn hshows => (shows_counted n s t (.inl (by omega))).mpr hshows⟩

end Sys2Proof.Machine
end

section
/-!
PROOFS. The inputs of the Scout (11 R313-R317, R328): each event writes the record of the one input that it names, and a change of its
state, of its suspicion or of its drift onset shows at a source of its own. That INPUT_OFFSET_UPDATE takes its operand less the monitor
reference, and that a drift is taken at the end of 100 s of offsets, is the model's choice (log 139).
-/

namespace Sys2Proof.Machine

open Sys2Proof

/-! ### State of an input -/

/-- An input whose fail condition is found, before it leaves its state (11 R314, R315). -/
def ScoutIn.found (cause : Nat) (x : ScoutIn) : ScoutIn :=
  { x with
    failing := true, cause := cause, failures := satAdd 32 x.failures 1, wasFailed := x.state != .disabled, wtrLeft := 0 }

theorem inputFails_found {i cause : Nat} {s : State} (hcause : causeHolds s i cause = true) (hon : (s.inp i).state ≠ .disabled)
    (hfresh : (s.inp i).state ≠ .failed) :
    inputFails i cause s = raiseIf (cause == 6) 100 (setInState i .failed (s.onInp i (ScoutIn.found cause))) := by
  unfold inputFails
  dsimp only
  rw [if_pos (by simp [hcause, hon, hfresh]), if_neg hon]
  rfl

theorem inputFailClears_clears {i : Nat} {s : State} (hfailing : (s.inp i).failing = true) (hstate : (s.inp i).state = .failed)
    (hclear : ([2, 3, 4, 5].any (causeHolds s i)) = false) (hhard : (s.inp i).cause = 7 ∨ causeHolds s i 6 = false) :
    inputFailClears i s = setInState i .qualifying (s.onInp i fun x => { x with failing := false }) :=
  (if_pos (by rcases hhard with h | h <;> simp only [h, hfailing, hclear] <;> simp)).trans (if_pos hstate)

/-- An input that failed before waits to restore; one that never failed is Qualified (11 R315). -/
theorem inputQualifies_moves {i : Nat} {s : State} (hstate : (s.inp i).state = .qualifying) (hgood : (s.inp i).failing = false)
    (hoffset : (s.inp i).mean10.natAbs ≤ (s.inp i).cfg.softLimit * 10000)
    (htime : 8000 * (s.inp i).cfg.qualTime ≤ (s.inp i).okBeats) :
    inputQualifies i s =
      if (s.inp i).wasFailed then setInState i .wtr (s.onInp i fun x => { x with wtrLeft := x.cfg.wtr * 480000 })
      else setInState i .qualified s := by
  unfold inputQualifies
  rw [if_pos (by simp [hstate, hgood, hoffset, htime])]

/-! ### Offset, suspicion and drift -/

/-- An input after an update of its offset by `r` against the monitor reference (11 R313, R314). -/
def ScoutIn.measured (i : Nat) (r : Int) (x : ScoutIn) : ScoutIn :=
  let raws := (r :: x.raws).take 100
  let offset := meanInt (raws.take (offsetSpans i).1)
  { x with
    raws := raws, offset := offset, mean10 := meanInt (raws.take (offsetSpans i).2), sumOff := x.sumOff + r, nOff := x.nOff + 1
    hardRun := if x.cfg.hardLimit * 10000 < offset.natAbs then x.hardRun + 1 else 0 }

/-- SUSPECT_CHANGE, where it sets the mark of suspicion or takes it away. -/
theorem suspectChange_marks {i : Nat} {b : Bool} {s : State}
    (h : suspectChanges i s = raise 98 (s.onInp i fun x => { x with suspect := b })) :
    ∃ t, exec (.suspectChange i) s = .next t ∧ onlyChanges [.scout, .ev, .tally] s t ∧ t.inp i = { s.inp i with suspect := b } ∧
      t.shows 98 := by
  obtain ⟨t, ht, honly, hscout, hshows⟩ := done_counts (i := .suspectChange i) (congrArg (done s) h)
    (onlyChanges_mono (onlyChanges_append (onInp_only s i _) (raise_only (by decide) _)) (by decide : _ ⊆ [Part.scout, .ev, .tally]))
    (by decide)
  exact ⟨t, ht, honly, (inp_eq hscout i).trans (by simp), hshows 98 (by decide) (shows_raise 98 _)⟩

theorem inputOffset_measures {i : Nat} {s : State} (raw : Int) (hen : (s.inp i).cfg.enable = 1) :
    inputOffset i raw s = s.onInp i (ScoutIn.measured i (raw - monitorRef s)) := by
  simp only [inputOffset, if_pos hen, State.onInp, ScoutIn.measured]

/-- The means of an input once that of the 100 s in hand is taken (11 R317). -/
def ScoutIn.nextMeans (y : ScoutIn) : List Int := (y.sumOff / (max 1 y.nOff : Nat) :: y.means).take 36

/-- An input whose mean over 100 s is taken. -/
def ScoutIn.averaged (y : ScoutIn) : ScoutIn := { y with means := y.nextMeans, sumOff := 0, nOff := 0 }

/-- And with the slope of its means taken at beat `now`. -/
def ScoutIn.sloped (now : Nat) (slope : Int) (x : ScoutIn) : ScoutIn :=
  let beyond := x.cfg.driftLimit < slope.natAbs
  { x with
    drift := slope
    driftRun := if beyond then x.driftRun + 1 else 0
    firstOver := if beyond && x.driftRun = 0 then now else x.firstOver
    driftOk := if 2 * slope.natAbs < x.cfg.driftLimit && !x.suspect then x.driftOk + 1 else 0 }

/-- A drift onset is recorded after two slopes beyond the limit in a row, and lapses after 36 well within it. -/
def noteOnset (i : Nat) (y : ScoutIn) (s : State) : State :=
  if 2 ≤ y.driftRun && y.onset = 0 then setOnset i (max 1 (y.firstOver - 28800000)) s
  else if 36 ≤ y.driftOk then setOnset i 0 s
  else s

theorem noteOnset_acts (i : Nat) (y : ScoutIn) (s : State) : ScoutActs s (noteOnset i y s) := by
  unfold noteOnset
  split_ifs
  · exact setOnset_acts i _ s
  · exact setOnset_acts i _ s
  · exact .refl s

theorem inp_noteOnset (i : Nat) (y : ScoutIn) (s : State) : ∃ onset, (noteOnset i y s).inp i = { s.inp i with onset := onset } := by
  unfold noteOnset
  split_ifs
  · exact ⟨_, inp_setOnset_same i _ s⟩
  · exact ⟨_, inp_setOnset_same i _ s⟩
  · exact ⟨(s.inp i).onset, rfl⟩

theorem noteOnset_records {i : Nat} {y : ScoutIn} {s : State} (hrun : 2 ≤ y.driftRun) (hnone : y.onset = 0)
    (hs : (s.inp i).onset = 0) :
    ((noteOnset i y s).inp i).onset = max 1 (y.firstOver - 28800000) ∧ (noteOnset i y s).shows 99 := by
  have heq : noteOnset i y s = setOnset i (max 1 (y.firstOver - 28800000)) s := if_pos (by simp [hrun, hnone])
  rw [heq, inp_setOnset_same]
  exact ⟨rfl, shows_setOnset (by rw [hs]; omega)⟩

/-- A second slope in a row beyond the limit: the run is 2, and it began where the first one was seen. -/
theorem ScoutIn.sloped_again {x : ScoutIn} {slope : Int} (now : Nat) (hbeyond : x.cfg.driftLimit < slope.natAbs) (hrun : x.driftRun = 1) :
    (x.sloped now slope).driftRun = 2 ∧ (x.sloped now slope).firstOver = x.firstOver := by
  simp [ScoutIn.sloped, hbeyond, hrun]

theorem driftUpdates_averages {i : Nat} {s : State} (hen : (s.inp i).cfg.enable = 1) (hfull : 10 * (offsetSpans i).2 ≤ (s.inp i).nOff)
    (hfew : (s.inp i).nextMeans.length < 36) : driftUpdates i s = s.onInp i ScoutIn.averaged :=
  (if_neg (by simp [hen, hfull])).trans (if_pos hfew)

/-- The record of an input that has 36 means, once the drift is taken in this beat. -/
def slopedInput (i : Nat) (s : State) : ScoutIn := (s.inp i).averaged.sloped s.now (driftSlope (s.inp i).nextMeans)

theorem driftUpdates_slopes {i : Nat} {s : State} (hen : (s.inp i).cfg.enable = 1) (hfull : 10 * (offsetSpans i).2 ≤ (s.inp i).nOff)
    (hmany : 36 ≤ (s.inp i).nextMeans.length) :
    ∃ u, driftUpdates i s = noteOnset i (slopedInput i s) u ∧ u.inp i = slopedInput i s ∧ ScoutActs s u := by
  have heq : driftUpdates i s =
      noteOnset i (((s.onInp i ScoutIn.averaged).inp i).sloped s.now (driftSlope (s.inp i).nextMeans))
        ((s.onInp i ScoutIn.averaged).onInp i (ScoutIn.sloped s.now (driftSlope (s.inp i).nextMeans))) :=
    (if_neg (by simp [hen, hfull])).trans ((if_neg (Nat.not_lt.mpr hmany)).trans rfl)
  rw [inp_onInp_same] at heq
  exact ⟨_, heq, by rw [inp_onInp_same, inp_onInp_same, slopedInput], (onInp_acts i _ s).trans (onInp_acts i _ _)⟩

/-! ### Edges -/

/-- An input at which an edge is seen (11 R314, R328): SI0 and SI1 keep 8 of them, SI18 and SI19 the 80 samples of R312. -/
def ScoutIn.seesEdge (i : Nat) (edge : Int) (y : ScoutIn) : ScoutIn :=
  let e := if i < 2 then edge - y.cfg.ppsComp else edge
  let off := i < 2 && y.es != [] && decide (10 * y.cfg.ppsWindow < (e - y.phase).natAbs)
  { y with
    phase := e, es := (e :: y.es).take (if i < 2 then 8 else 80), silent := 0, missed := if off then y.missed + 1 else 0 }

/-- An edge of the input that a phase change goes to is counted (11 R329). -/
def countEdge (i : Nat) (s : State) : State :=
  if s.scout.phTarget = some i then s.onScout fun x => { x with phEdges := x.phEdges + 1 } else s

/-- The phase control of a Scout `x` follows the edges of its own reference (11 R328). -/
def followEdges (x : Scout) (i : Nat) (es : List Int) (s : State) : State :=
  if x.phase = some i then
    raiseIf (decide ((meanInt es).natAbs ≤ 20) && !x.aligned) 104 (s.onScout fun x =>
      { x with
        eBar := meanInt es, phiRate := clampInt (x.dpllCfg.slew * 10) (meanInt es / 10)
        aligned := x.aligned || decide ((meanInt es).natAbs ≤ 20) })
  else s

theorem ppsEdge_follows {i : Nat} (hi : i ∈ [0, 1, 18, 19]) (edge : Int) (s : State) :
    ppsEdge i edge s = followEdges s.scout i ((s.inp i).seesEdge i edge).es (countEdge i (s.onInp i (ScoutIn.seesEdge i edge))) :=
  if_pos hi

theorem countEdge_only (i : Nat) (s : State) : onlyChanges [.scout] s (countEdge i s) := by
  unfold countEdge
  split_ifs
  · exact onScout_only s _
  · exact onlyChanges_refl _ s

theorem followEdges_only (x : Scout) (i : Nat) (es : List Int) (s : State) : onlyChanges [.scout, .ev] s (followEdges x i es s) := by
  unfold followEdges
  split_ifs
  · exact onlyChanges_append (onScout_only s _) (raiseIf_only (by decide) _ _)
  · exact onlyChanges_refl _ s

@[simp] theorem inp_countEdge (i : Nat) (s : State) (j : Nat) : (countEdge i s).inp j = s.inp j := by
  unfold countEdge
  split_ifs <;> rfl

@[simp] theorem inp_followEdges (x : Scout) (i : Nat) (es : List Int) (s : State) (j : Nat) :
    (followEdges x i es s).inp j = s.inp j := by
  unfold followEdges
  split_ifs
  · exact inp_raiseIf _ _ _ j
  · rfl

theorem ppsEdge_only {i : Nat} (hi : i ∈ [0, 1, 18, 19]) (edge : Int) (s : State) :
    onlyChanges [.scout, .ev, .tally] s (ppsEdge i edge s) := by
  rw [ppsEdge_follows hi]
  exact onlyChanges_mono
    (onlyChanges_append (onlyChanges_append (onInp_only s i _) (countEdge_only i _)) (followEdges_only _ i _ _)) (by decide)

theorem inp_ppsEdge {i : Nat} (hi : i ∈ [0, 1, 18, 19]) (edge : Int) (s : State) :
    (ppsEdge i edge s).inp i = (s.inp i).seesEdge i edge := by
  simp [ppsEdge_follows hi]

/-- The mean of the edges of the phase reference is what its control works from. -/
theorem ppsEdge_eBar {i : Nat} (hi : i ∈ [0, 1, 18, 19]) (edge : Int) {s : State} (href : s.scout.phase = some i) :
    (ppsEdge i edge s).scout.eBar = meanInt ((s.inp i).seesEdge i edge).es := by
  simp [ppsEdge_follows hi, followEdges, href]

/-! ### The obligation -/

/-- Settles O53: each event gives the record of its input that the rule names, and the source of that change shows it. -/
theorem scoutInputs : Obligations.ScoutInputs := by
  refine fun i s => ⟨?fails, ?clears, ?qualifies, ?restores, ?offset, ?suspect, ?calm, ?drift, ?edge, ?sample⟩
  case fails =>
    intro cause hcause hon hfresh
    obtain ⟨hset, hshow⟩ := inp_setInState (i := i) (st := .failed) (s := s.onInp i (ScoutIn.found cause))
      (by simpa [ScoutIn.found] using hfresh)
    obtain ⟨t, ht, honly, hscout, hshows⟩ := done_counts (i := .inputFail i cause)
      (congrArg (done s) (inputFails_found hcause hon hfresh))
      (((onInp_acts i _ s).trans (setInState_acts i _ _)).trans (raiseIf_acts (by decide) _ _)).parts (by decide)
    have hinp : ∀ j, t.inp j = (setInState i .failed (s.onInp i (ScoutIn.found cause))).inp j :=
      fun j => (inp_eq hscout j).trans (inp_raiseIf _ _ _ j)
    have hi : t.inp i = { (s.inp i).found cause with state := .failed, okBeats := 0 } := by rw [hinp, hset, inp_onInp_same]
    refine ⟨t, ht, honly, congrArg ScoutIn.state hi, congrArg ScoutIn.failing hi, congrArg ScoutIn.cause hi,
      congrArg ScoutIn.failures hi, hshows 97 (by decide) (shows_raiseIf_of _ _ hshow), fun j hj => ?_⟩
    rw [hinp, inp_setInState_ne _ _ hj, inp_onInp_ne s _ hj]
  case clears =>
    intro hfailing hstate hclear hhard
    obtain ⟨hset, hshow⟩ := inp_setInState (i := i) (st := .qualifying) (s := s.onInp i fun x => { x with failing := false })
      (by simp [hstate])
    obtain ⟨t, ht, honly, hscout, hshows⟩ := done_counts (i := .inputFailClear i)
      (congrArg (done s) (inputFailClears_clears hfailing hstate hclear hhard))
      ((onInp_acts i _ s).trans (setInState_acts i _ _)).parts (by decide)
    have hi := (inp_eq hscout i).trans hset
    rw [inp_onInp_same] at hi
    exact ⟨t, ht, honly, congrArg ScoutIn.failing hi, congrArg ScoutIn.state hi, hshows 97 (by decide) hshow⟩
  case qualifies =>
    intro hstate hgood hoffset htime
    have heq := inputQualifies_moves hstate hgood hoffset htime
    cases hfailed : (s.inp i).wasFailed with
    | true =>
      rw [hfailed, if_pos rfl] at heq
      obtain ⟨hset, hshow⟩ := inp_setInState (i := i) (st := .wtr)
        (s := s.onInp i fun x => { x with wtrLeft := x.cfg.wtr * 480000 }) (by simp [hstate])
      obtain ⟨t, ht, honly, hscout, hshows⟩ := done_counts (i := .inputQualify i) (congrArg (done s) heq)
        ((onInp_acts i _ s).trans (setInState_acts i _ _)).parts (by decide)
      have hi := (inp_eq hscout i).trans hset
      rw [inp_onInp_same] at hi
      exact ⟨t, ht, honly, hshows 97 (by decide) hshow, nofun, fun _ => ⟨congrArg ScoutIn.state hi, congrArg ScoutIn.wtrLeft hi⟩⟩
    | false =>
      rw [hfailed, if_neg Bool.false_ne_true] at heq
      obtain ⟨hset, hshow⟩ := inp_setInState (i := i) (st := .qualified) (s := s) (by simp [hstate])
      obtain ⟨t, ht, honly, hscout, hshows⟩ := done_counts (i := .inputQualify i) (congrArg (done s) heq)
        (setInState_acts i _ s).parts (by decide)
      exact ⟨t, ht, honly, hshows 97 (by decide) hshow, fun _ => congrArg ScoutIn.state ((inp_eq hscout i).trans hset), nofun⟩
  case restores =>
    intro hstate hleft
    obtain ⟨hset, hshow⟩ := inp_setInState (i := i) (st := .qualified) (s := s) (by simp [hstate])
    obtain ⟨t, ht, honly, hscout, hshows⟩ := done_counts (i := .inputWtrExpiry i) (t := setInState i .qualified s)
      (congrArg (done s) (if_pos (by simp [hstate, hleft]))) (setInState_acts i _ s).parts (by decide)
    exact ⟨t, ht, honly, (inp_eq hscout i).trans hset, hshows 97 (by decide) hshow⟩
  case offset =>
    rintro raw offset raws hen rfl rfl
    obtain ⟨t, ht, honly, hscout, -⟩ := done_counts (i := .inputOffsetUpdate i raw) (congrArg (done s) (inputOffset_measures raw hen))
      (onlyChanges_mono (onInp_only s i _) (by decide : _ ⊆ [Part.scout, .ev, .tally])) (by decide)
    exact ⟨t, ht, honly, (inp_eq hscout i).trans (inp_onInp_same s i _)⟩
  case suspect =>
    intro hen hcalm hbeyond
    exact suspectChange_marks (if_pos (by simp [hen, hcalm, hbeyond]))
  case calm =>
    intro hsuspect hwithin hbeats
    exact suspectChange_marks ((if_neg (by simp [hsuspect])).trans (if_pos (by simp [hsuspect, hwithin, hbeats])))
  case drift =>
    rintro means hen hfull rfl
    by_cases hfew : (s.inp i).nextMeans.length < 36
    · obtain ⟨t, ht, honly, hscout, -⟩ := done_counts (i := .driftUpdate i) (congrArg (done s) (driftUpdates_averages hen hfull hfew))
        (onInp_acts i _ s).parts (by decide)
      have hi : t.inp i = (s.inp i).averaged := (inp_eq hscout i).trans (inp_onInp_same s i _)
      exact ⟨t, ht, honly, congrArg ScoutIn.means hi, congrArg ScoutIn.nOff hi, congrArg ScoutIn.sumOff hi,
        fun _ => ⟨(congrArg ScoutIn.drift hi :), (congrArg ScoutIn.onset hi :)⟩, fun hmany => absurd hfew (Nat.not_lt.mpr hmany)⟩
    · obtain ⟨u, heq, hu, hacts⟩ := driftUpdates_slopes hen hfull (Nat.not_lt.mp hfew)
      obtain ⟨t, ht, honly, hscout, hshows⟩ := done_counts (i := .driftUpdate i) (congrArg (done s) heq)
        (hacts.trans (noteOnset_acts i _ u)).parts (by decide)
      obtain ⟨onset, hnote⟩ := inp_noteOnset i (slopedInput i s) u
      rw [hu] at hnote
      have hi := (inp_eq hscout i).trans hnote
      refine ⟨t, ht, honly, congrArg ScoutIn.means hi, congrArg ScoutIn.nOff hi, congrArg ScoutIn.sumOff hi,
        fun hless => absurd hless hfew, fun _ => ⟨congrArg ScoutIn.drift hi, fun hbeyond hrun hnone => ?_⟩⟩
      obtain ⟨htwice, hfirst⟩ : (slopedInput i s).driftRun = 2 ∧ (slopedInput i s).firstOver = (s.inp i).firstOver :=
        ScoutIn.sloped_again s.now hbeyond hrun
      obtain ⟨honset, hshow⟩ := noteOnset_records (i := i) (y := slopedInput i s) htwice.ge hnone (by rw [hu]; exact hnone)
      rw [hfirst] at honset
      exact ⟨(congrArg ScoutIn.onset (inp_eq hscout i)).trans honset, hshows 99 (by decide) hshow⟩
  case edge =>
    rintro edge e hi rfl
    have hmem : i ∈ [0, 1, 18, 19] := by rcases hi with rfl | rfl <;> decide
    have hlow : i < 2 := by omega
    obtain ⟨t, ht, honly, hscout, -⟩ := done_counts (i := .ppsEdge i edge) rfl (ppsEdge_only hmem edge s) (by decide)
    have hinp := (inp_eq hscout i).trans (inp_ppsEdge hmem edge s)
    refine ⟨t, ht, honly, ?_, ?_, fun href => ?_⟩
    · simp [hinp, ScoutIn.seesEdge, hlow]
    · simp [hinp, ScoutIn.seesEdge, hlow]
    · rw [hscout, ppsEdge_eBar hmem edge href]
      simp [ScoutIn.seesEdge, hlow]
  case sample =>
    intro edge hi
    have hmem : i ∈ [0, 1, 18, 19] := by rcases hi with rfl | rfl <;> decide
    have hhigh : ¬i < 2 := by omega
    obtain ⟨t, ht, honly, hscout, -⟩ := done_counts (i := .ppsEdge i edge) rfl (ppsEdge_only hmem edge s) (by decide)
    have hinp := (inp_eq hscout i).trans (inp_ppsEdge hmem edge s)
    refine ⟨t, ht, honly, ?_, ?_⟩ <;> simp [hinp, ScoutIn.seesEdge, hhigh]

end Sys2Proof.Machine
end

section
/-!
PROOFS. The settings of the scout service (11 R307-R345, class L). Each is answered at once with the fields that its rules give, and the
Scout's record is what it makes of it; a change of an input's state notifies both ports besides, whose response queues keep what they hold.
-/

namespace Sys2Proof.Machine

open Sys2Proof

/-! ### Commands that notify -/

/-- As `exec_answers`, for rules that may change the ports but not their response queues. -/
theorem exec_answers_notified {i : Instr} {h : Hdr} {svc cmd : Nat} {locked cap : Bool} {shape fs : Fields} {act : Act} {ps : List Part}
    {s t : State} (hs : heard h s) (he : exec i s = done s (serve h svc cmd locked cap shape act s)) (hl : locked = false)
    (hc : cap = true → mayCap s) (ha : act = .ok fs t) (hp : onlyChanges ps s t)
    (hrsp : ∀ p q, (t.port p).rspOf q = (s.port p).rspOf q) :
    ∃ u, exec i s = .next u ∧ answered h svc cmd stOk fs s u ∧ onlyChanges (ps ++ replyParts) s u ∧ onlyChanges replyParts t u := by
  subst hl ha
  have hport : ∀ p q, ((renewLeases h.port t).port p).rspOf q = (s.port p).rspOf q := by
    intro p q
    rw [port_eq (renewLeases_only h.port t .ports (by decide)), hrsp]
  have honly : onlyChanges replyParts t (counted s (respondRaw h svc cmd stOk fs (renewLeases h.port t))) :=
    onlyChanges_mono (onlyChanges_append (onlyChanges_append (renewLeases_only h.port t) (respondRaw_only hs _)) (counted_only s _))
      (by decide)
  refine ⟨_, he, ?_, ?_⟩
  · rw [serve_ok hs hc, answered, rspWords, port_eq (counted_ports s _), respondRaw,
      publishRsp_words _ _ _ _ (by rw [hport]; exact hs.2.2.2.2), hport]
  · rw [serve_ok hs hc]
    exact ⟨onlyChanges_append hp honly, honly⟩

/-! ### Settings -/

theorem settingScout_of_ne {s : State} (act : Act) (h : s.hive.role ≠ .standby) : settingScout s act = act := if_neg h

theorem writeLive_scout (l : Live) (s : State) : (writeLive [l] s).scout = (applyLive l s).scout :=
  writeLive_applies [l] s .scout (by decide)

theorem scoutOut_eq {s t : State} (h : t.scout = s.scout) (o : Nat) : t.scoutOut o = s.scoutOut o := by simp [State.scoutOut, h]

/-- What an operation on one input leaves: what every operation of the Scout does, and the other inputs. -/
structure InputActs (i : Nat) (s t : State) : Prop where
  acts : ScoutActs s t
  others : ∀ j, j ≠ i → t.inp j = s.inp j

theorem InputActs.refl (i : Nat) (s : State) : InputActs i s s := ⟨.refl s, fun _ _ => rfl⟩

theorem InputActs.trans {i : Nat} {s t u : State} (hst : InputActs i s t) (htu : InputActs i t u) : InputActs i s u :=
  ⟨hst.acts.trans htu.acts, fun j hj => (htu.others j hj).trans (hst.others j hj)⟩

theorem InputActs.onInp {i : Nat} {s t : State} (h : InputActs i s t) (f : ScoutIn → ScoutIn) : InputActs i s (t.onInp i f) :=
  h.trans ⟨onInp_acts i f t, fun _ => inp_onInp_ne t f⟩

theorem InputActs.setInState {i : Nat} {s t : State} (h : InputActs i s t) (st : InState) : InputActs i s (setInState i st t) :=
  h.trans ⟨setInState_acts i st t, fun _ => inp_setInState_ne st t⟩

theorem InputActs.setOnset {i : Nat} {s t : State} (h : InputActs i s t) (onset : Nat) : InputActs i s (setOnset i onset t) :=
  h.trans ⟨setOnset_acts i onset t, fun _ => inp_setOnset_ne onset t⟩

theorem liveScoutInput_acts (a : ScoutInputArgs) (s : State) : InputActs a.input s (liveScoutInput a s) := by
  have hrefl := InputActs.refl a.input s
  unfold liveScoutInput
  dsimp only
  split_ifs
  · exact ((((hrefl.setOnset 0).onInp _).onInp _).onInp _).setInState _
  · exact ((hrefl.onInp _).onInp _).setInState _
  · exact ((((hrefl.setOnset 0).onInp _).onInp _).onInp _).setInState _
  · exact ((hrefl.onInp _).onInp _).setInState _
  · exact ((hrefl.setOnset 0).onInp _).onInp _
  · exact hrefl.onInp _

theorem liveScoutInput_cfg (a : ScoutInputArgs) (s : State) :
    ((liveScoutInput a s).inp a.input).cfg = { a with flags := a.flags % 8 } := by
  unfold liveScoutInput
  dsimp only
  split_ifs <;> simp [inp_setInState_cfg]

theorem liveScoutSelect_only (a : ScoutSelectArgs) (s : State) : onlyChanges [.scout] s (liveScoutSelect a s) := onScout_only s _
theorem liveScoutDpll_only (a : ScoutDpllArgs) (s : State) : onlyChanges [.scout] s (liveScoutDpll a s) := by
  unfold liveScoutDpll
  exact onScout_only s _
theorem liveScoutOutput_only (a : ScoutOutputArgs) (s : State) : onlyChanges [.scout] s (liveScoutOutput a s) := onScout_only s _

/-- A setting that writes the Scout's record alone: it is answered at once, and the record is what the setting makes of it. -/
theorem exec_setsScout {i : Instr} {h : Hdr} {cmd : Nat} {locked : Bool} {shape fs : Fields} {act : Act} (l : Live) {s : State}
    (hs : heard h s) (he : exec i s = done s (serve h 10 cmd locked false shape act s)) (hl : locked = false)
    (ha : act = .ok fs (writeLive [l] s)) (hlive : onlyChanges [.scout] s (applyLive l s)) :
    ∃ t, exec i s = .next t ∧ answered h 10 cmd stOk fs s t ∧ onlyChanges (.scout :: .hive :: replyParts) s t ∧
      t.scout = (applyLive l s).scout := by
  obtain ⟨t, ht, hans, hparts, hkeep⟩ := exec_answers (ps := [.scout, .hive]) hs he hl (fun hcap => nomatch hcap) ha
    (writeLive_only (ps := [.scout]) hlive) (by decide)
  exact ⟨t, ht, hans, hparts, (hkeep .scout (by decide)).trans (writeLive_scout l s)⟩

/-- Settles O14: the rules of each setting answer with the state in which its write is applied; scout.input writes its own input and may
notify a change of that input's state, and the others write one field of the Scout's record. -/
theorem scoutSettingsAtOnce : Obligations.ScoutSettingsAtOnce := by
  intro h s hs hown hrole
  refine ⟨?input, ?select, ?dpll, ?output⟩
  case input =>
    intro a hbad hlane hnominal
    have hfree : ¬((s.inp a.input).cfg.nominal ≠ a.nominal ∧ s.clk.started = true ∧ (s.inp a.input).cfg.enable = 1) := by
      rintro ⟨hne, hstarted, -⟩
      rcases hnominal with h | h
      · exact Bool.false_ne_true (h.symm.trans hstarted)
      · exact hne h
    have hacts := liveScoutInput_acts { a with flags := a.flags % 16 } s
    obtain ⟨t, ht, hans, hparts, hkeep⟩ := exec_answers_notified (i := .scoutInput h a) (ps := scoutParts ++ [.hive])
      (t := writeLive [.scoutInput { a with flags := a.flags % 16 }] s) (fs := reserved6) hs rfl hown (fun hcap => nomatch hcap)
      ((settingScout_of_ne _ hrole).trans ((if_neg (by simp [hbad, hlane])).trans (if_neg (by simpa using hfree))))
      (writeLive_only hacts.acts.parts)
      (fun p q => by rw [port_eq (writeLive_applies _ s .ports (by decide))]; exact hacts.acts.rsp p q)
    have hinp : ∀ i, t.inp i = (liveScoutInput { a with flags := a.flags % 16 } s).inp i :=
      inp_eq ((hkeep .scout (by decide)).trans (writeLive_scout _ s))
    refine ⟨t, ht, hans, onlyChanges_mono hparts (by decide), ?_, fun i hi => ?_⟩
    · rw [hinp, liveScoutInput_cfg { a with flags := a.flags % 16 } s]
      simp [Nat.mod_mod_of_dvd a.flags (show 8 ∣ 16 by decide)]
    · exact congrArg ScoutIn.cfg ((hinp i).trans (hacts.others i hi))
  case select =>
    intro a hbad hfirst hsecond hql
    have hfrozen : ¬(s.scout.sel.qlOption ≠ a.qlOption ∧ s.clk.started = true) := by
      rintro ⟨hne, hstarted⟩
      exact hql.elim (fun h => Bool.false_ne_true (h.symm.trans hstarted)) hne
    have hfields : selectFields (writeLive [.scoutSelect a] s) = selectFields s := by
      simp [selectFields, writeLive_scout, applyLive, liveScoutSelect]
    have hact : scoutSelectAct a s = .ok (selectFields (writeLive [.scoutSelect a] s)) (writeLive [.scoutSelect a] s) :=
      (settingScout_of_ne _ hrole).trans ((if_neg (by simp [hbad, hfirst, hsecond])).trans (if_neg (by simpa using hfrozen)))
    exact exec_setsScout (i := .scoutSelect h a) (.scoutSelect a) hs rfl hown (hfields ▸ hact) (liveScoutSelect_only a s)
  case dpll =>
    intro a hbad hxo
    have hfrozen : ¬(a.xoFreq ≠ 0 ∧ a.xoFreq ≠ s.scout.dpllCfg.xoFreq ∧ s.clk.started = true) := by
      rintro ⟨hne, -, hstarted⟩
      exact hxo.elim hne fun h => Bool.false_ne_true (h.symm.trans hstarted)
    exact exec_setsScout (i := .scoutDpll h a) (.scoutDpll a) hs rfl hown
      ((settingScout_of_ne _ hrole).trans ((if_neg (by simp [hbad])).trans (if_neg (by simpa using hfrozen))))
      (liveScoutDpll_only a s)
  case output =>
    intro a hbad hoff
    obtain ⟨t, ht, hans, hparts, hscout⟩ := exec_setsScout (i := .scoutOutput h a) (.scoutOutput a) hs rfl hown
      ((settingScout_of_ne _ hrole).trans ((if_neg (by simp [hbad])).trans (if_neg (by simp [hoff]))))
      (liveScoutOutput_only a s)
    refine ⟨t, ht, hans, hparts, ?_, fun o ho => ?_⟩
    · simp [State.scoutOut, hscout, applyLive, liveScoutOutput]
    · simp [State.scoutOut, hscout, applyLive, liveScoutOutput, tget_tput_ne _ _ _ ho]

end Sys2Proof.Machine
end

section
/-!
PROOFS. The actions of the scout service (11 R330-R341): a command that waits is kept where its event will find it, and the others are
answered at once. That op 3 of scout.model clears the aging slope too is the model's choice (log 76).
-/

namespace Sys2Proof.Machine

open Sys2Proof

/-! ### Commands that wait -/

/-- A command that a later step answers: `t` keeps it, and stands but for the leases, the sources and the counters. -/
theorem exec_waits {i : Instr} {h : Hdr} {svc cmd : Nat} {locked cap : Bool} {shape : Fields} {act : Act} {ps : List Part} {s t : State}
    (hs : heard h s) (he : exec i s = done s (serve h svc cmd locked cap shape act s)) (hl : locked = false)
    (hc : cap = true → mayCap s) (ha : act = .later t) (hp : onlyChanges ps s t) :
    ∃ u, exec i s = .next u ∧ onlyChanges (ps ++ [.sems, .ev, .tally]) s u ∧ onlyChanges [.sems, .ev, .tally] t u := by
  subst hl ha
  have honly := onlyChanges_append (renewLeases_only h.port t) (counted_only s (renewLeases h.port t))
  rw [← serve_later (svc := svc) (cmd := cmd) (shape := shape) hs hc] at honly
  exact ⟨_, he, onlyChanges_append hp honly, honly⟩

theorem onSec_only (s : State) (f : Sec → Sec) : onlyChanges [.sec] s (s.onSec f) := by
  intro p hp
  cases p <;> simp_all [Part.same]

theorem scoutStartAct_waits {h : Hdr} {s : State} (hidle : s.clk.started = false) (hfree : s.clk.startPend = none)
    (hmode : s.mode = .provision) (hxo : s.scout.dpllCfg.xoFreq ≠ 0) (hrole : s.hive.role ≠ .standby) :
    scoutStartAct h s = .later (s.onClk fun c => { c with startPend := some ⟨h, 10, 4, .start (startEpoch s)⟩ }) :=
  (if_neg (by simp [hidle, hfree])).trans (if_neg (by simp [hmode, hxo, hrole]))

theorem scoutModelAct_saves {h : Hdr} {a : ScoutModelArgs} {s : State} (hop : a.op = 1) (hbin : a.firstBin ≤ 539) (hlo : 1 ≤ a.count)
    (hhi : a.count ≤ 64) (hbusy : modelBusy s = false) :
    scoutModelAct h a s =
      .later (s.onSec fun x => { x with saving := x.saving ++ [(2, stOk, ⟨h, 10, 8, .model 1 a.firstBin a.count⟩)] }) := by
  have hcount : outside 1 64 a.count = false := outside_eq_false.mpr ⟨hlo, hhi⟩
  simp [scoutModelAct, hop, Nat.not_lt.mpr hbin, hcount, hbusy]

/-! ### Commands answered at once -/

theorem steerFields_eq {s t : State} (h : t.scout = s.scout) (count : Nat) : steerFields count t = steerFields count s := by
  simp [steerFields, h]

theorem modelFields_eq {s t : State} (h : t.scout = s.scout) (op first count : Nat) :
    modelFields t op first count = modelFields s op first count := by
  simp [modelFields, h]

/-- scout.tod keeps the time until its beat (11 R340). -/
theorem scoutTodAct_sets {p : Nat} {a : ScoutTodArgs} {s : State} (hop : a.op = 1) (hrole : s.hive.role ≠ .standby)
    (hstarted : s.clk.started = true) (hmode : todMode s.mode = true) (hbfn : a.bfnMode ≤ 1) (hat : todOk s (a.atBeat % 2 ^ 48) = true) :
    scoutTodAct p a s =
      .ok (todFields s) (s.onScout fun x => { x with todPend := some (a.atBeat % 2 ^ 48, a.todSec % 2 ^ 48, a.bfnMode) }) := by
  unfold scoutTodAct
  dsimp only
  rw [if_neg (by simp [hop, Nat.not_lt.mpr hbfn]), if_neg (by simp [hop]), settingScout_of_ne _ hrole, if_neg (by simp [hop]),
    if_neg (by simp [hstarted, hmode]), if_neg (by simpa using hat)]

theorem scoutTodAct_offsets {p : Nat} {a : ScoutTodArgs} {s : State} (hop : a.op = 2) (hrole : s.hive.role ≠ .standby)
    (hbfn : a.bfnMode ≤ 1) (hoffset : a.bfnOffset ≤ 4095) (hdiff : bfnDiffers a s = true) :
    scoutTodAct p a s = .cap [.bfn a.bfnOffset] .tod s := by
  simp [scoutTodAct, hop, Nat.not_lt.mpr hbfn, settingScout_of_ne _ hrole, Nat.not_lt.mpr hoffset, changes_of_differs hdiff]

/-- What scout.steer does at each op (11 R330, R331). -/
theorem scoutSteerAct_steers {a : ScoutSteerArgs} {s : State}
    (hop : a.op = 1 ∨ a.op = 2 ∧ s.scout.state = .hand ∧ a.word.natAbs ≤ 200000000000)
    (hrole : s.hive.role ≠ .standby) (hlo : 1 ≤ a.count) (hhi : a.count ≤ 64) (hxo : s.scout.dpllCfg.xoFreq ≠ 0) {t : State}
    (ht : t = if a.op = 1 then openLoop s else writeSteer a.word s) : scoutSteerAct a s = .ok (steerFields a.count t) t := by
  have hcount : outside 1 64 a.count = false := outside_eq_false.mpr ⟨hlo, hhi⟩
  subst ht
  rcases hop with hop | ⟨hop, hstate, hword⟩
  · simp [scoutSteerAct, hop, hcount, settingScout_of_ne _ hrole, hxo]
  · simp [scoutSteerAct, hop, hcount, settingScout_of_ne _ hrole, hxo, hstate, Nat.not_lt.mpr hword]

theorem openLoop_acts (s : State) : ScoutActs s (openLoop s) := by
  unfold openLoop
  split_ifs
  · exact .refl s
  · exact ((onScout_acts _ s).trans (setDpll_acts _ _)).trans (refreshQl_acts _)

/-- The loop is open, and the NCO keeps its word. -/
theorem openLoop_scout (s : State) : (openLoop s).scout.state = .hand ∧ (openLoop s).scout.word = s.scout.word := by
  unfold openLoop
  split_ifs with hhand
  · exact ⟨hhand, rfl⟩
  · simp

theorem mirrorBins_only (first n : Nat) (s : State) : onlyChanges [.hive] s (mirrorBins first n s) := mirrorSend_only _ s

theorem clearModel_only (s : State) : onlyChanges [.scout, .hive] s (clearModel s) :=
  onlyChanges_append (onScout_only s _) (mirrorBins_only 0 540 _)

theorem clearModel_scout (s : State) :
    (clearModel s).scout = { s.scout with model := [], aging := 0, agingOk := false, modelLoaded := false } :=
  mirrorBins_only 0 540 _ .scout (by decide)

theorem scoutModelAct_clears {h : Hdr} {a : ScoutModelArgs} {s : State} (hop : a.op = 3) (hrole : s.hive.role ≠ .standby)
    (hbin : a.firstBin ≤ 539) (hlo : 1 ≤ a.count) (hhi : a.count ≤ 64) (hbusy : modelBusy s = false) (hmode : s.mode ≠ .carry) :
    scoutModelAct h a s = .ok (modelFields (clearModel s) 3 a.firstBin a.count) (clearModel s) := by
  have hcount : outside 1 64 a.count = false := outside_eq_false.mpr ⟨hlo, hhi⟩
  simp [scoutModelAct, hop, Nat.not_lt.mpr hbin, hcount, hbusy, settingScout_of_ne _ hrole, hmode]

/-! ### The obligation -/

/-- Settles O15: scout.start and a save are kept for the event that answers them, a BFN offset goes into a ticket, and every other op is
answered with the fields of the Scout as it leaves it. -/
theorem scoutActions : Obligations.ScoutActions := by
  intro h s hs hown hrole
  refine ⟨?start, ?tod, ?bfn, ?opens, ?steers, ?save, ?clear⟩
  case start =>
    intro hidle hfree hmode hxo
    obtain ⟨t, ht, hparts, hkeep⟩ := exec_waits (i := .scoutStart h) hs rfl hown (fun hcap => nomatch hcap)
      (scoutStartAct_waits hidle hfree hmode hxo hrole) (onClk_only s _)
    exact ⟨t, ht, hparts, hkeep .clk (by decide)⟩
  case tod =>
    intro a hop hstarted hmode hbfn hat
    obtain ⟨t, ht, hans, hparts, hkeep⟩ := exec_answers (i := .scoutTod h a) hs rfl (by simp [hown]) (by simp [hop])
      (scoutTodAct_sets hop hrole hstarted hmode hbfn hat) (onScout_only s _) (by decide)
    exact ⟨t, ht, hans, hparts, hkeep .scout (by decide)⟩
  case bfn =>
    intro a hop hm hbfn hoffset hne
    have hdiff : bfnDiffers a s = true := bne_iff_ne.mpr hne.symm
    exact exec_tickets_only (i := .scoutTod h a) hs hm rfl (by simp [hown]) (by simp [hop, changes_of_differs hdiff])
      (scoutTodAct_offsets hop hrole hbfn hoffset hdiff) (List.cons_ne_nil _ _) rfl
  case opens =>
    intro a hop hlo hhi hxo
    obtain ⟨t, ht, hans, hparts, hkeep⟩ := exec_answers_notified (i := .scoutSteer h a) hs rfl (by simp [hown])
      (fun hcap => nomatch hcap) (scoutSteerAct_steers (.inl hop) hrole hlo hhi hxo (if_pos hop).symm) (openLoop_acts s).parts
      (openLoop_acts s).rsp
    have hscout : t.scout = (openLoop s).scout := hkeep .scout (by decide)
    refine ⟨t, ht, ?_, onlyChanges_mono hparts (by decide), ?_, ?_⟩
    · rwa [steerFields_eq hscout]
    · rw [hscout, (openLoop_scout s).1]
    · rw [hscout, (openLoop_scout s).2]
  case steers =>
    intro a hop hlo hhi hxo hstate hword
    obtain ⟨t, ht, hans, hparts, hkeep⟩ := exec_answers (i := .scoutSteer h a) (t := writeSteer a.word s) hs rfl (by simp [hown])
      (fun hcap => nomatch hcap) (scoutSteerAct_steers (.inr ⟨hop, hstate, hword⟩) hrole hlo hhi hxo (if_neg (by simp [hop])).symm)
      (onScout_only s _) (by decide)
    exact ⟨t, ht, hans, hparts, hkeep .scout (by decide)⟩
  case save =>
    intro a hop hbin hlo hhi hbusy
    obtain ⟨t, ht, hparts, hkeep⟩ := exec_waits (i := .scoutModel h a) hs rfl (by simp [hown]) (fun hcap => nomatch hcap)
      (scoutModelAct_saves hop hbin hlo hhi hbusy) (onSec_only s _)
    exact ⟨t, ht, hparts, hkeep .sec (by decide)⟩
  case clear =>
    intro a hop hbin hlo hhi hbusy hmode
    obtain ⟨t, ht, hans, hparts, hkeep⟩ := exec_answers (i := .scoutModel h a) hs rfl (by simp [hown]) (fun hcap => nomatch hcap)
      (scoutModelAct_clears hop hrole hbin hlo hhi hbusy hmode) (clearModel_only s) (by decide)
    have hscout : t.scout = (clearModel s).scout := hkeep .scout (by decide)
    refine ⟨t, ht, ?_, hparts, ?_, ?_, ?_⟩
    · rwa [modelFields_eq hscout]
    all_goals rw [hscout, clearModel_scout]

end Sys2Proof.Machine
end

section
/-!
PROOFS. The selectors of the Scout (11 R320-R327). FREQ_SELECT watches the inputs' QLs, notes the standing candidate, takes the target that
the mode asks for and then evaluates the phase selector; of these only the target's own step moves the loop of the DPLL.
-/

namespace Sys2Proof.Machine

open Sys2Proof

/-! ### What leaves the loop alone -/

/-- Two records of the Scout with the same state of the DPLL, the same reference, the same switch in hand and the same selection. -/
def Scout.sameLoop (x y : Scout) : Prop :=
  y.state = x.state ∧ y.freq = x.freq ∧ y.stage = x.stage ∧ y.target = x.target ∧ y.sel = x.sel

/-- An operation of the Scout that leaves the loop of the DPLL alone. -/
structure LoopKept (s t : State) : Prop where
  acts : ScoutActs s t
  loop : s.scout.sameLoop t.scout

theorem LoopKept.refl (s : State) : LoopKept s s := ⟨.refl s, rfl, rfl, rfl, rfl, rfl⟩

theorem LoopKept.trans {s t u : State} (hst : LoopKept s t) (htu : LoopKept t u) : LoopKept s u := by
  obtain ⟨hacts, hstate, hfreq, hstage, htarget, hsel⟩ := hst
  obtain ⟨hacts', hstate', hfreq', hstage', htarget', hsel'⟩ := htu
  exact ⟨hacts.trans hacts', hstate'.trans hstate, hfreq'.trans hfreq, hstage'.trans hstage, htarget'.trans htarget, hsel'.trans hsel⟩

theorem LoopKept.of_scout {s t : State} (h : ScoutActs s t) (hscout : t.scout = s.scout) : LoopKept s t :=
  ⟨h, by rw [hscout]; exact (LoopKept.refl s).loop⟩

theorem onScout_keepsLoop (s : State) (f : Scout → Scout)
    (hf : ∀ x : Scout, x.sameLoop (f x) := by exact fun _ => ⟨rfl, rfl, rfl, rfl, rfl⟩) : LoopKept s (s.onScout f) :=
  ⟨onScout_acts f s, hf s.scout⟩

theorem onInp_keepsLoop (i : Nat) (f : ScoutIn → ScoutIn) (s : State) : LoopKept s (s.onInp i f) :=
  ⟨onInp_acts i f s, rfl, rfl, rfl, rfl, rfl⟩

theorem raise_keepsLoop {n : Nat} (hn : plainSrc n) (s : State) : LoopKept s (raise n s) := .of_scout (raise_acts hn s) (by simp)

theorem raiseIf_keepsLoop {n : Nat} (hn : plainSrc n) (b : Bool) (s : State) : LoopKept s (raiseIf b n s) :=
  .of_scout (raiseIf_acts hn b s) (by simp)

theorem refreshQl_keepsLoop (s : State) : LoopKept s (refreshQl s) :=
  ⟨refreshQl_acts s, by rw [refreshQl_scout]; exact ⟨rfl, rfl, rfl, rfl, rfl⟩⟩

theorem setPhase_keepsLoop (r : Option Nat) (s : State) : LoopKept s (setPhase r s) := by
  refine ⟨setPhase_acts r s, ?_⟩
  rw [setPhase_scout]
  split <;> exact ⟨rfl, rfl, rfl, rfl, rfl⟩

theorem fixBase_keepsLoop (s : State) : LoopKept s (fixBase s) := by
  unfold fixBase
  refine onScout_keepsLoop s _ fun x => ?_
  dsimp only
  split_ifs <;> exact ⟨rfl, rfl, rfl, rfl, rfl⟩

/-! ### The parts of an evaluation -/

/-- One input's QL is compared with that of the last beat (11 R348, source 101). -/
def watchQl (s : State) (i : Nat) : State :=
  let q := inputQl s i
  if (s.inp i).lastQl = q then s
  else raiseIf ((s.inp i).cfg.enable == 1) 101 (s.onInp i fun x => { x with lastQl := q })

theorem watchQl_keepsLoop (s : State) (i : Nat) : LoopKept s (watchQl s i) := by
  unfold watchQl
  dsimp only
  split_ifs
  · exact .refl s
  · exact (onInp_keepsLoop i _ s).trans (raiseIf_keepsLoop (by decide) _ _)

theorem isQualified_watchQl (s : State) (i k : Nat) : isQualified (watchQl s i) k = isQualified s k := by
  unfold watchQl isQualified
  dsimp only
  split_ifs
  · rfl
  · by_cases h : k = i
    · subst h
      simp
    · simp [inp_onInp_ne _ _ h]

/-- Watching the QLs keeps the loop, and which inputs are Qualified. -/
theorem watchQls_keeps (s : State) : LoopKept s (watchQls s) ∧ ∀ k, isQualified (watchQls s) k = isQualified s k :=
  List.foldlRecOn (motive := fun t : State => LoopKept s t ∧ ∀ k, isQualified t k = isQualified s k) (List.range 18) watchQl
    ⟨.refl s, fun _ => rfl⟩ fun t ht i _ =>
      ⟨ht.1.trans (watchQl_keepsLoop t i), fun k => (isQualified_watchQl t i k).trans (ht.2 k)⟩

/-- The standing candidate beside the target, and whether the monitor DPLL was locked to the one before (11 R320, R324). -/
def noteStanding (target : Option Nat) (s : State) : State :=
  let standing := bestOf s ((List.range 18).filter fun i => isCandidate s i && target != some i)
  (raiseIf (standLost s standing) 114 s).onScout fun x => { x with
    standing := standing, standBeats := if standing = x.standing then x.standBeats else 0
    tracked := if standing = x.standing then x.tracked else if 8000 ≤ x.standBeats then x.standing else none }

theorem noteStanding_keepsLoop (target : Option Nat) (s : State) : LoopKept s (noteStanding target s) := by
  unfold noteStanding
  exact (raiseIf_keepsLoop (by decide) _ s).trans (onScout_keepsLoop _ _)

/-- The target of the frequency selector is taken. -/
def takeTarget : Option Nat → State → State
  | none, s => toNoTarget s
  | some i, s => toTarget i s

theorem selectRefs_runs {s : State} (hxo : s.scout.dpllCfg.xoFreq ≠ 0) :
    selectRefs s =
      refreshQl (phaseSelect (takeTarget (freqTarget (manualFails (watchQls s)))
        (noteStanding (freqTarget (manualFails (watchQls s))) (manualFails (watchQls s))))) := by
  unfold selectRefs
  rw [if_neg hxo]
  dsimp only
  generalize manualFails (watchQls s) = u
  unfold noteStanding
  cases freqTarget u <;> rfl

/-- Manual mode alone falls back to automatic (11 R320). -/
theorem manualFails_of_ne {s : State} (h : s.scout.sel.mode ≠ 2) : manualFails s = s := if_neg (by simp [h])

theorem phaseSelect_keepsLoop (s : State) : LoopKept s (phaseSelect s) := by
  have hdrop : LoopKept s (s.onScout fun x => { x with phTarget := none, phEdges := 0 }) :=
    onScout_keepsLoop s _
  have hlost : ∀ lost : Bool, LoopKept s (if lost then setPhase none s else s) := by
    intro lost
    split_ifs
    · exact setPhase_keepsLoop none s
    · exact .refl s
  have helim : ∀ (target : Option Nat) (u : State),
      LoopKept u (target.elim u fun i => u.onInp i fun y => { y with es := [] }) := by
    intro target u
    cases target with
    | none => exact .refl u
    | some i => exact onInp_keepsLoop i (fun y => { y with es := [] }) u
  unfold phaseSelect
  extract_lets x target lost next
  split_ifs
  · exact hdrop.trans (raise_keepsLoop (by decide) _)
  · exact .refl s
  · exact hdrop.trans (setPhase_keepsLoop _ _)
  · exact hdrop.trans (setPhase_keepsLoop _ _)
  · exact hlost lost
  · exact (((hlost lost).trans (raiseIf_keepsLoop (n := 96) (by decide) _ _)).trans (helim _ _)).trans
      (onScout_keepsLoop _ _)

/-! ### Towards a target -/

theorem abandon_idle {s : State} (h : s.scout.stage = .idle) : abandon s = s := if_pos h

/-- After an abandonment no switch is in hand; the selection stands. -/
theorem abandon_scout (s : State) : (abandon s).scout.stage = .idle ∧ (abandon s).scout.sel = s.scout.sel := by
  unfold abandon
  dsimp only
  split_ifs with h
  · exact ⟨h, rfl⟩
  · obtain ⟨k, hk⟩ := tick_only 147 noUnit 1 s
    simp [hk]

/-- Another target than the reference in use, with no switch in hand: the monitor DPLL measures it first (11 R324). -/
theorem toTarget_measures {i : Nat} {s : State} (hfreq : s.scout.freq ≠ some i) (hrole : s.hive.role ≠ .standby)
    (hstage : s.scout.stage = .idle) :
    ∃ u, LoopKept s u ∧
      toTarget i s = u.onScout fun x => { x with stage := .measure, target := some i, oldOk := oldHealthy s, stageBeats := 0 } := by
  unfold toTarget
  dsimp only
  rw [if_neg hfreq, if_neg hrole, if_neg (by simp [hstage]), abandon_idle hstage]
  split_ifs
  · exact ⟨fixBase s, fixBase_keepsLoop s, rfl⟩
  · exact ⟨s, .refl s, rfl⟩

/-- In mode 4 no reference is taken: the DPLL runs free (11 R320). -/
theorem toNoTarget_frees {s : State} (hmode : s.scout.sel.mode = 4) (hrole : s.hive.role ≠ .standby) :
    toNoTarget s = setFreq none (setDpll .freerun (abandon s)) :=
  if_pos ⟨by rw [(abandon_scout s).2, hmode], by rwa [(abandon_acts s).hive]⟩

/-- The input that manual mode names, if it is Qualified. -/
theorem freqTarget_manual {s : State} (hrole : s.hive.role ≠ .standby) (hmode : s.scout.sel.mode = 1)
    (hqual : isQualified s s.scout.sel.input = true) : freqTarget s = some s.scout.sel.input := by
  simp [freqTarget, hrole, hmode, hqual]

theorem freqTarget_freerun {s : State} (hrole : s.hive.role ≠ .standby) (hmode : s.scout.sel.mode = 4) : freqTarget s = none := by
  simp [freqTarget, hrole, hmode]

/-- What FREQ_SELECT does before and after it takes the target leaves the loop alone; `w` is the state in which it finds the target. -/
theorem selectRefs_takes {s : State} (hxo : s.scout.dpllCfg.xoFreq ≠ 0) (hmode : s.scout.sel.mode ≠ 2) :
    ∃ w v, LoopKept s w ∧ (∀ k, isQualified w k = isQualified s k) ∧ LoopKept s v ∧
      LoopKept (takeTarget (freqTarget w) v) (selectRefs s) := by
  obtain ⟨hwatch, hsame⟩ := watchQls_keeps s
  have hruns := selectRefs_runs hxo
  rw [manualFails_of_ne (by rwa [hwatch.loop.2.2.2.2])] at hruns
  exact ⟨_, _, hwatch, hsame, hwatch.trans (noteStanding_keepsLoop _ _),
    hruns ▸ (phaseSelect_keepsLoop _).trans (refreshQl_keepsLoop _)⟩

/-- FREQ_SELECT in mode 1 starts the switch to the input selected (11 R320, R324). -/
theorem selectRefs_measures {s : State} (hxo : s.scout.dpllCfg.xoFreq ≠ 0)
    (hrole : s.hive.role ≠ .standby) (hmode : s.scout.sel.mode = 1)
    (hqual : isQualified s s.scout.sel.input = true) (hstage : s.scout.stage = .idle) (hfreq : s.scout.freq ≠ some s.scout.sel.input) :
    ScoutActs s (selectRefs s) ∧ (selectRefs s).scout.stage = .measure ∧ (selectRefs s).scout.target = some s.scout.sel.input ∧
      (selectRefs s).scout.freq = s.scout.freq := by
  obtain ⟨w, v, hw, hsame, hv, hend⟩ := selectRefs_takes hxo (by rw [hmode]; decide)
  obtain ⟨-, -, -, -, hsel⟩ := hw.loop
  have htarget : freqTarget w = some s.scout.sel.input := by
    rw [← hsel]
    exact freqTarget_manual (by rwa [hw.acts.hive]) (by rwa [hsel]) (by rwa [hsame, hsel])
  obtain ⟨-, hfreqV, hstageV, -, -⟩ := hv.loop
  obtain ⟨u, hu, hto⟩ := toTarget_measures (s := v) (by rwa [hfreqV]) (by rwa [hv.acts.hive]) (hstageV.trans hstage)
  rw [htarget, takeTarget, hto] at hend
  obtain ⟨-, hfreqEnd, hstageEnd, htargetEnd, -⟩ := hend.loop
  obtain ⟨-, hfreqU, -, -, -⟩ := hu.loop
  exact ⟨((hv.acts.trans hu.acts).trans (onScout_acts _ u)).trans hend.acts, hstageEnd, htargetEnd,
    hfreqEnd.trans (hfreqU.trans hfreqV)⟩

/-- FREQ_SELECT in mode 4 leaves the DPLL in FREERUN, without a reference and without a switch in hand (11 R320). -/
theorem selectRefs_frees {s : State} (hxo : s.scout.dpllCfg.xoFreq ≠ 0)
    (hrole : s.hive.role ≠ .standby) (hmode : s.scout.sel.mode = 4) :
    ScoutActs s (selectRefs s) ∧ (selectRefs s).scout.state = .freerun ∧ (selectRefs s).scout.freq = none ∧
      (selectRefs s).scout.stage = .idle := by
  obtain ⟨w, v, hw, -, hv, hend⟩ := selectRefs_takes hxo (by rw [hmode]; decide)
  obtain ⟨-, -, -, -, hsel⟩ := hw.loop
  have htarget : freqTarget w = none := freqTarget_freerun (by rwa [hw.acts.hive]) (by rwa [hsel])
  obtain ⟨-, -, -, -, hselV⟩ := hv.loop
  rw [htarget, takeTarget, toNoTarget_frees (by rwa [hselV]) (by rwa [hv.acts.hive])] at hend
  obtain ⟨hstateEnd, hfreqEnd, hstageEnd, -, -⟩ := hend.loop
  refine ⟨((hv.acts.trans (abandon_acts v)).trans ((setDpll_acts _ _).trans (setFreq_acts _ _))).trans hend.acts, ?_, ?_, ?_⟩
  · rw [hstateEnd]
    simp
  · rw [hfreqEnd]
    simp
  · rw [hstageEnd]
    simp [(abandon_scout v).1]

end Sys2Proof.Machine
end

section
/-!
PROOFS. The DPLL of the Scout, its model, the time of day and its outputs (11 R308-R309, R320-R344): each event gives one record of the
Scout, and its source shows it. That a switch closed at 1 Hz from LOCKED leaves the DPLL ACQUIRING (log 14), and that MODEL_UPDATE takes
one sample a second (log 139), is the model's choice.
-/

namespace Sys2Proof.Machine

open Sys2Proof

/-! ### Switches and the DPLL -/

/-- The state after a switch closes (11 R323; log 14). -/
def closedState (x : Scout) : Dpll :=
  match x.state with
  | .freerun | .acquiring => .acquiring
  | .locked | .holdover | .hand => if 50 < x.freqDiff.natAbs then .acquiring else .locked

theorem closedState_acquiring {x : Scout} (h : x.state = .acquiring ∨ x.state = .freerun ∨ 50 < x.freqDiff.natAbs) :
    closedState x = .acquiring := by
  unfold closedState
  rcases h with h | h | h
  · rw [h]
  · rw [h]
  · cases x.state <;> simp [h]

/-- A switch closes onto its target at some bandwidth. -/
theorem closeSwitch_closes {s : State} (hstage : s.scout.stage = .buildOut) (hbeats : 1 ≤ s.scout.stageBeats) :
    ∃ bw, closeSwitch s = refreshQl (setDpll (closedState s.scout) (setFreq s.scout.target
      (s.onScout fun x => { x with stage := .idle, target := none, bw := bw, lockBeats := 0, strayBeats := 0 }))) :=
  ⟨_, if_pos (by simp [hstage, hbeats])⟩

/-- A phase change closes onto its input, and source 103 shows it (11 R329). -/
theorem phaseCloses_closes {k : Nat} {s : State} (htarget : s.scout.phTarget = some k) (hedges : 8 ≤ s.scout.phEdges)
    (hsecond : s.now % 8000 = 0) :
    ScoutActs s (phaseCloses s) ∧ (phaseCloses s).scout.phase = some k ∧ (phaseCloses s).scout.phTarget = none ∧
      (phaseCloses s).shows 103 := by
  unfold phaseCloses
  simp only [htarget]
  rw [if_pos (by simp [hedges, hsecond])]
  refine ⟨(((onScout_acts _ s).trans (setPhase_acts _ _)).trans (onScout_acts _ _)).trans (raise_acts (by decide) _), ?_, ?_,
    shows_raise 103 _⟩
  all_goals simp only [raise_frame, State.onScout_frame, setPhase_scout]; split_ifs with hsame
  · exact hsame
  all_goals rfl

/-- The lock holds at the bandwidth in force for as long as its step asks (11 R323). -/
abbrev stepDue (x : Scout) : Prop := x.state = .acquiring ∧ x.freq.isSome = true ∧ stepBeats x.dpllCfg.bwFinal x.bw ≤ x.lockBeats

theorem stepDpll_locks {s : State} (hdue : stepDue s.scout) (hfinal : s.scout.bw = s.scout.dpllCfg.bwFinal) :
    stepDpll s = refreshQl (setDpll .locked s) := by
  obtain ⟨hstate, hfreq, hbeats⟩ := hdue
  unfold stepDpll
  dsimp only
  rw [if_pos (by simp [hstate, hfreq, hbeats]), if_pos hfinal]

/-- Before the final bandwidth a step only narrows it. -/
theorem stepDpll_narrows {s : State} (hdue : stepDue s.scout) (hwide : s.scout.bw ≠ s.scout.dpllCfg.bwFinal) :
    ∃ bw, stepDpll s = s.onScout fun x => { x with bw := bw, lockBeats := 0 } := by
  obtain ⟨hstate, hfreq, hbeats⟩ := hdue
  unfold stepDpll
  dsimp only
  rw [if_pos (by simp [hstate, hfreq, hbeats]), if_neg hwide]
  exact ⟨_, rfl⟩

theorem loseLock_acquires {s : State}
    (hstate : s.scout.state = .locked ∨ s.scout.state = .acquiring) (hbeats : 8000 ≤ s.scout.strayBeats) :
    loseLock s = refreshQl (setDpll .acquiring (s.onScout fun x => { x with bw := 1000, lockBeats := 0, strayBeats := 0 })) :=
  if_pos (by simp [hstate, hbeats])

theorem applySteer_ramps {w : Int} {s : State} (hnext : s.scout.wordNext = some w) (hstate : s.scout.state = .hand) :
    applySteer s = s.onScout fun x =>
      { x with word := rampWord s.scout.word w, wordNext := if rampWord s.scout.word w = w then none else some w } := by
  simp [applySteer, hnext, hstate]

theorem steerTimesOut_holds {s : State} (hstate : s.scout.state = .hand) (hbeats : s.scout.dpllCfg.steerTimeout ≤ s.scout.handBeats) :
    steerTimesOut s = refreshQl (raise 105 (setFreq none (setDpll .holdover (abandon (fixBase s))))) :=
  if_pos (by simp [hstate, hbeats])

/-! ### Faults -/

/-- What recording a fault leaves: every part but the Guard's, the mirror stream, the rings, and the sources, none of which is hidden. -/
structure FaultActs (s t : State) : Prop where
  parts : onlyChanges [.guard, .hive, .ports, .ev] s t
  shows : ∀ n, s.shows n → t.shows n

theorem FaultActs.refl (s : State) : FaultActs s s := ⟨onlyChanges_refl _ s, fun _ h => h⟩

theorem FaultActs.trans {s t u : State} (hst : FaultActs s t) (htu : FaultActs t u) : FaultActs s u :=
  ⟨onlyChanges_trans hst.parts htu.parts, fun n h => htu.shows n (hst.shows n h)⟩

theorem FaultActs.of_only {ps : List Part} {s t : State} (h : onlyChanges ps s t) (hps : ps ⊆ [.guard, .hive, .ports]) : FaultActs s t :=
  ⟨onlyChanges_mono h (List.Subset.trans hps (by decide)),
    fun n hshows => (shows_eq (h .ev fun hp => absurd (hps hp) (by decide)) n).mpr hshows⟩

theorem onGuard_only (s : State) (f : Guard → Guard) : onlyChanges [.guard] s (s.onGuard f) := by
  intro p hp
  cases p <;> simp_all [Part.same]

theorem onGuard_faultActs (s : State) (f : Guard → Guard) : FaultActs s (s.onGuard f) := .of_only (onGuard_only s f) (by decide)

/-- A source outside the power group, whose sticky copy a fault leaves alone. -/
theorem raise_faultActs {n : Nat} (hn : n < 275) (s : State) : FaultActs s (raise n s) := by
  have hpower := raise_power_same n s (.inl hn)
  refine ⟨fun p hp => ?_, fun m => shows_raise_of n m s⟩
  cases p <;> simp_all [Part.same]

theorem raiseIf_faultActs {n : Nat} (hn : n < 275) (b : Bool) (s : State) : FaultActs s (raiseIf b n s) := by
  cases b with
  | true => exact raise_faultActs hn s
  | false => exact .refl s

theorem ringPut_faultActs {p : Nat} (hp : p < 2) (rec : List Byte) (s : State) : FaultActs s (ringPut p 6 rec s) := by
  unfold ringPut
  dsimp only
  split_ifs
  · exact .of_only (onPort_only s p _) (by decide)
  · exact .trans (.of_only (onPort_only s p _) (by decide)) (raise_faultActs (by unfold portSrc; omega) _)

theorem logFault_faultActs (code cls flags entry unit repeats detail : Nat) (s : State) :
    FaultActs s (logFault code cls flags entry unit repeats detail s) :=
  (ringPut_faultActs (by decide) _ s).trans (ringPut_faultActs (by decide) _ _)

theorem faultWith_acts (detail code kind index : Nat) (s : State) : FaultActs s (faultWith detail code kind index s) := by
  unfold faultWith
  dsimp only
  split
  · exact (((onGuard_faultActs s _).trans (raise_faultActs (by decide) _)).trans (raiseIf_faultActs (by decide) _ _)).trans
      (logFault_faultActs ..)
  · split
    · exact (((onGuard_faultActs s _).trans (.of_only (mirrorSend_only _ _) (by decide))).trans (raise_faultActs (by decide) _)).trans
        (logFault_faultActs ..)
    · exact (((onGuard_faultActs s _).trans (raise_faultActs (by decide) _)).trans (raiseIf_faultActs (by decide) _ _)).trans
        (logFault_faultActs ..)

/-! ### The model, the bound, the time of day and the outputs -/

/-- The sample of the thermal model that this beat gives: the word less what aging alone would make of it (11 R332). -/
def modelSample (s : State) : Int := s.scout.word - s.scout.aging * ((s.now : Int) - s.scout.agingAt) / 8000000

theorem modelUpdates_samples {s : State} (hstate : s.scout.state = .locked)
    (hdue : ∀ n, s.scout.modelAt = some n → n + 8000 ≤ s.now) :
    modelUpdates s = raise 113 (mirrorBins (modelBin s.scout.xotemp) 1 (s.onScout fun x => { x with
      model := tput {} x.model (modelBin s.scout.xotemp) ((s.scout.bin (modelBin s.scout.xotemp)).add (modelSample s))
      modelAt := some s.now })) := by
  refine if_pos ?_
  cases hat : s.scout.modelAt with
  | none => simp [hstate]
  | some n => simp [hstate, hdue n hat]

theorem agingUpdates_estimates {s : State} (hfull : 72000 ≤ (s.scout.hist.filter fun e => e.2.2).length)
    (hdue : ∀ n, s.scout.agingLast = some n → n + 28800000 ≤ s.now) :
    ∃ b, agingUpdates s = raiseIf b 113 (s.onScout fun x =>
      { x with aging := agingSlope s.scout.hist, agingOk := true, agingAt := s.now, agingLast := some s.now }) := by
  unfold agingUpdates
  dsimp only
  rw [if_neg]
  · simp only [hfull, if_true]
    exact ⟨_, rfl⟩
  · cases hlast : s.scout.agingLast with
    | none => simp
    | some n => simpa using hdue n hlast

/-- The bound of the time error is taken anew, and source 110 shows when it first passes its limit (11 R335). -/
theorem boundUpdates_bounds {s : State} (hstate : s.scout.state = .holdover) :
    ScoutActs s (boundUpdates s) ∧ (boundUpdates s).scout.bound = boundAt s.scout ((s.now - s.scout.lossBeat) / 8000) := by
  unfold boundUpdates
  dsimp only
  rw [if_pos hstate]
  split_ifs
  · exact ⟨(onScout_acts _ s).trans (scoutChange_acts (by decide) _ _ _ _), by simp⟩
  · exact ⟨onScout_acts _ s, rfl⟩

theorem applyBfn_acts (offset : Nat) (s : State) : ScoutActs s (applyBfn offset s) := (onScout_acts _ s).trans (raise_acts (by decide) _)

@[simp] theorem applyBfn_scout (offset : Nat) (s : State) : (applyBfn offset s).scout = { s.scout with bfnOffset := offset } := by
  simp [applyBfn]

/-- The time of day is taken, and the second in hand is marked where it steps (11 R340). -/
def takeTod (sec : Nat) (s : State) : State :=
  let t := s.onScout fun x => { x with todPend := none, todValid := true, tod := sec }
  if !(s.scout.todValid && s.scout.tod == sec) then
    scoutChange 106 0xFF (dpllNum s.scout.state) (dpllNum s.scout.state) (t.onPm fun p => { p with timeStep := true })
  else t

theorem takeTod_only (sec : Nat) (s : State) : onlyChanges (.pm :: scoutParts) s (takeTod sec s) := by
  have hset := onScout_only s fun x => { x with todPend := none, todValid := true, tod := sec }
  unfold takeTod
  dsimp only
  split_ifs
  · exact onlyChanges_mono (onlyChanges_append (onlyChanges_append hset (onPm_only _ _)) (scoutChange_acts (by decide) _ _ _ _).parts)
      (by decide)
  · exact onlyChanges_mono hset (by decide)

@[simp] theorem takeTod_scout (sec : Nat) (s : State) :
    (takeTod sec s).scout = { s.scout with todPend := none, todValid := true, tod := sec } := by
  unfold takeTod
  dsimp only
  split_ifs <;> simp

theorem todApplies_takes {b sec bfn : Nat} {s : State} (hpend : s.scout.todPend = some (b, sec, bfn)) (hbeat : b ≤ s.now)
    (hstarted : s.clk.started = true) (hmode : s.mode = .carry ∨ s.mode = .provision ∨ s.mode = .autopilot) :
    todApplies s =
      if bfn = 1 then applyBfn (((100 * (sec : Int) - (b / 80 : Nat)) % 4096).toNat) (takeTod sec s) else takeTod sec s := by
  unfold todApplies
  rw [hpend]
  dsimp only
  rw [if_neg (by simp [hmode]), if_pos (by simp [hbeat, hstarted])]
  rfl

theorem squelchChanges_squelches {o : Nat} {s : State} (ho : o < 11) (hne : (s.scoutOut o).squelched ≠ squelchHolds s o) :
    squelchChanges o s = raise 112 (s.onScout fun x =>
      { x with outputs := tput {} x.outputs o { s.scoutOut o with squelched := squelchHolds s o } }) :=
  if_pos (by simp [ho, hne])

/-! ### The obligation -/

/-- Settles O54: each event gives one record of the Scout, from which the clause is read, and the last source that the event raises is the
one that shows it. -/
theorem scoutControl : Obligations.ScoutControl := by
  refine fun s => ⟨?selects, ?frees, ?measured, ?closes, ?phase, ?locks, ?loses, ?steers, ?timesOut, ?oscillator, ?diode, ?reads, ?samples,
    ?ages, ?bounds, ?saves, ?tod, ?squelch⟩
  case selects =>
    rintro k hxo hrole hmode rfl hqual hstage hfreq
    obtain ⟨hacts, hmeasure, htarget, hkept⟩ := selectRefs_measures hxo hrole hmode hqual hstage hfreq
    obtain ⟨t, ht, honly, hscout, -⟩ := done_counts (i := .freqSelect) rfl hacts.parts (by decide)
    exact ⟨t, ht, honly, hscout ▸ hmeasure, hscout ▸ htarget, hscout ▸ hkept⟩
  case frees =>
    intro hxo hrole hmode
    obtain ⟨hacts, hstate, hfreq, hstage⟩ := selectRefs_frees hxo hrole hmode
    obtain ⟨t, ht, honly, hscout, -⟩ := done_counts (i := .freqSelect) rfl hacts.parts (by decide)
    exact ⟨t, ht, honly, hscout ▸ hstate, hscout ▸ hfreq, hscout ▸ hstage⟩
  case measured =>
    intro delta freqDiff hstage hlocked
    obtain ⟨t, ht, honly, hscout, -⟩ := done_counts (i := .switchMeasureDone delta freqDiff)
      (congrArg (done s) (if_pos (by simp [hstage, hlocked])))
      (onlyChanges_mono (onScout_only s _) (by decide : _ ⊆ [Part.scout, .ev, .tally])) (by decide)
    exact ⟨t, ht, honly, hscout⟩
  case closes =>
    intro k hstage hbeats htarget
    obtain ⟨bw, heq⟩ := closeSwitch_closes hstage hbeats
    obtain ⟨t, ht, honly, hscout, -⟩ := done_counts (i := .switchClose) (congrArg (done s) heq)
      (((onScout_acts _ s).trans (setFreq_acts _ _)).trans ((setDpll_acts _ _).trans (refreshQl_acts _))).parts (by decide)
    refine ⟨t, ht, honly, ?_, ?_, ?_, fun hwide => ?_⟩
    · simp [hscout]
    · simp [hscout]
    · simp [hscout, htarget]
    · simp [hscout, closedState_acquiring hwide]
  case phase =>
    intro k htarget hedges hsecond
    obtain ⟨hacts, hphase, hdone, hshow⟩ := phaseCloses_closes htarget hedges hsecond
    obtain ⟨t, ht, honly, hscout, hshows⟩ := done_counts (i := .phaseChangeClose) rfl hacts.parts (by decide)
    exact ⟨t, ht, honly, hscout ▸ hphase, hscout ▸ hdone, hshows 103 (by decide) hshow⟩
  case locks =>
    intro hstate hfreq hbeats
    by_cases hfinal : s.scout.bw = s.scout.dpllCfg.bwFinal
    · obtain ⟨t, ht, honly, hscout, hshows⟩ := done_counts (i := .dpllStep)
        (congrArg (done s) (stepDpll_locks ⟨hstate, hfreq, hbeats⟩ hfinal)) ((setDpll_acts .locked s).trans (refreshQl_acts _)).parts
        (by decide)
      refine ⟨t, ht, honly, fun _ => ⟨by simp [hscout], hshows 93 (by decide) ?_⟩, fun hne => absurd hfinal hne⟩
      exact (refreshQl_acts _).shows 93 (by decide) (shows_setDpll (by rw [hstate]; decide))
    · obtain ⟨bw, heq⟩ := stepDpll_narrows ⟨hstate, hfreq, hbeats⟩ hfinal
      obtain ⟨t, ht, honly, hscout, -⟩ := done_counts (i := .dpllStep) (congrArg (done s) heq) (onScout_acts _ s).parts (by decide)
      exact ⟨t, ht, honly, fun heq => absurd heq hfinal, fun _ => (congrArg Scout.state hscout).trans hstate⟩
  case loses =>
    intro hstate hbeats
    obtain ⟨t, ht, honly, hscout, -⟩ := done_counts (i := .dpllLockLoss) (congrArg (done s) (loseLock_acquires hstate hbeats))
      (((onScout_acts _ s).trans (setDpll_acts _ _)).trans (refreshQl_acts _)).parts (by decide)
    exact ⟨t, ht, honly, by simp [hscout], by simp [hscout]⟩
  case steers =>
    intro w hnext hstate
    obtain ⟨t, ht, honly, hscout, -⟩ := done_counts (i := .steerWordApply) (congrArg (done s) (applySteer_ramps hnext hstate))
      (onlyChanges_mono (onScout_only s _) (by decide : _ ⊆ [Part.scout, .ev, .tally])) (by decide)
    exact ⟨t, ht, honly, congrArg Scout.word hscout⟩
  case timesOut =>
    intro hstate hbeats
    obtain ⟨t, ht, honly, hscout, hshows⟩ := done_counts (i := .steerTimeout) (congrArg (done s) (steerTimesOut_holds hstate hbeats))
      (((((fixBase_acts s).trans (abandon_acts _)).trans (setDpll_acts _ _)).trans (setFreq_acts _ _)).trans
        ((raise_acts (by decide) _).trans (refreshQl_acts _))).parts (by decide)
    exact ⟨t, ht, honly, by simp [hscout], by simp [hscout],
      hshows 105 (by decide) ((refreshQl_acts _).shows 105 (by decide) (shows_raise 105 _))⟩
  case oscillator =>
    have hfault := faultWith_acts 0 0x10 0 0 (raise 109 (s.onScout fun x => { x with oscFault := true }))
    obtain ⟨t, ht, honly, hscout, hshows⟩ := done_counts (i := .oscillatorFault) rfl
      (onlyChanges_mono (onlyChanges_append ((onScout_acts _ s).trans (raise_acts (by decide) _)).parts hfault.parts)
        (by decide : _ ⊆ [Part.scout, .guard, .hive, .ports, .ev, .tally])) (by decide)
    refine ⟨t, ht, honly, ?_, hshows 109 (by decide) (hfault.shows 109 (shows_raise 109 _))⟩
    rw [hscout, oscillatorFails, show _ = _ from hfault.parts .scout (by decide)]
    simp
  case diode =>
    obtain ⟨t, ht, honly, hscout, -⟩ := done_counts (i := .xotempRead none) rfl
      (onlyChanges_mono (onlyChanges_append (onScout_only s _) (driveSrc_only (by decide) true _))
        (by decide : _ ⊆ [Part.scout, .ev, .tally])) (by decide)
    exact ⟨t, ht, honly, by simp [hscout, xotempRead]⟩
  case reads =>
    intro v
    obtain ⟨t, ht, honly, hscout, -⟩ := done_counts (i := .xotempRead (some v)) rfl
      (onlyChanges_mono (onlyChanges_append (onScout_only s _) (driveSrc_only (by decide) _ _))
        (by decide : _ ⊆ [Part.scout, .ev, .tally])) (by decide)
    exact ⟨t, ht, honly, by simp [hscout, xotempRead]⟩
  case samples =>
    intro hstate hdue
    obtain ⟨t, ht, honly, hscout, hshows⟩ := done_counts (i := .modelUpdate) (congrArg (done s) (modelUpdates_samples hstate hdue))
      (onlyChanges_mono (onlyChanges_append (onlyChanges_append (onScout_only s _) (mirrorBins_only _ 1 _)) (raise_only (by decide) _))
        (by decide : _ ⊆ [Part.scout, .hive, .ev, .tally])) (by decide)
    refine ⟨t, ht, honly, ?_, hshows 113 (by decide) (shows_raise 113 _)⟩
    simp [hscout, mirrorBins, Scout.bin, modelSample]
  case ages =>
    intro hfull hdue
    obtain ⟨b, heq⟩ := agingUpdates_estimates hfull hdue
    obtain ⟨t, ht, honly, hscout, -⟩ := done_counts (i := .agingRecompute) (congrArg (done s) heq)
      (onlyChanges_mono (onlyChanges_append (onScout_only s _) (raiseIf_only (by decide) b _))
        (by decide : _ ⊆ [Part.scout, .ev, .tally])) (by decide)
    exact ⟨t, ht, honly, by simp [hscout]⟩
  case bounds =>
    intro hstate
    obtain ⟨hacts, hbound⟩ := boundUpdates_bounds hstate
    obtain ⟨t, ht, honly, hscout, -⟩ := done_counts (i := .holdoverBoundUpdate) rfl hacts.parts (by decide)
    exact ⟨t, ht, honly, hscout ▸ hbound⟩
  case saves =>
    intro hserving
    have heq : modelSaves s = s.onSec fun x => { x with modelFlash := some (savedModel s.scout) } := if_pos hserving
    exact ⟨_, congrArg (done s) heq, onlyChanges_append (onSec_only s _) (counted_only s _), by simp⟩
  case tod =>
    intro b sec bfn hpend hbeat hstarted hmode
    have heq := todApplies_takes hpend hbeat hstarted hmode
    have honly : onlyChanges (.pm :: scoutParts) s (todApplies s) := by
      rw [heq]
      split_ifs
      · exact onlyChanges_trans (takeTod_only sec s) (onlyChanges_mono (applyBfn_acts _ _).parts (by decide))
      · exact takeTod_only sec s
    obtain ⟨t, ht, hparts, hscout, -⟩ := done_counts (i := .todApply) rfl honly (by decide)
    rw [heq] at hscout
    refine ⟨t, ht, onlyChanges_mono hparts (by decide), ?_, ?_, ?_⟩
    all_goals rw [hscout]; split_ifs <;> simp
  case squelch =>
    intro o ho hne
    obtain ⟨t, ht, honly, hscout, hshows⟩ := done_counts (i := .squelchChange o) (congrArg (done s) (squelchChanges_squelches ho hne))
      (onlyChanges_mono (onlyChanges_append (onScout_only s _) (raise_only (by decide) _)) (by decide : _ ⊆ [Part.scout, .ev, .tally]))
      (by decide)
    exact ⟨t, ht, honly, by simp [State.scoutOut, hscout], hshows 112 (by decide) (shows_raise 112 _)⟩

end Sys2Proof.Machine
end

section
/-!
PROOFS. The fields of a message's body: the number they spell, and each of them read back from it (13 R403, R404; 00 R8, R9).
-/

namespace Sys2Proof.Machine

open Sys2Proof

theorem fieldsSize_eq_sum (fs : Fields) : fieldsSize fs = (fs.map Prod.fst).sum := by
  rw [fieldsSize, List.sum_eq_foldl]

theorem fieldsSize_cons (k : Nat) (v : Int) (fs : Fields) : fieldsSize ((k, v) :: fs) = k + fieldsSize fs := by
  simp [fieldsSize_eq_sum]

theorem fieldsSize_append (fs gs : Fields) : fieldsSize (fs ++ gs) = fieldsSize fs + fieldsSize gs := by
  simp [fieldsSize_eq_sum]

theorem field_lt (k : Nat) (v : Int) : (v % (256 ^ k : Int)).toNat < 256 ^ k := by
  have hpos : (0 : Int) < 256 ^ k := by positivity
  have hlt := Int.emod_lt_of_pos v hpos
  have hnonneg := Int.emod_nonneg v hpos.ne'
  zify
  rwa [Int.toNat_of_nonneg hnonneg]

/-- The fields of a body spell a number of no more bytes than they have. -/
theorem fieldsNat_lt (fs : Fields) : fieldsNat fs < 256 ^ fieldsSize fs := by
  induction fs with
  | nil => exact Nat.one_pos
  | cons e fs ih =>
    obtain ⟨k, v⟩ := e
    have hv := field_lt k v
    rw [fieldsSize_cons, pow_add, fieldsNat]
    nlinarith

theorem bodyNat_wordsOf (n k : Nat) : bodyNat (wordsOf n k) = n % 2 ^ (64 * k) := by
  induction k generalizing n with
  | zero => simp [wordsOf, bodyNat, Nat.mod_one]
  | succ k ih =>
    rw [wordsOf, bodyNat, ih, show 64 * (k + 1) = 64 + 64 * k by ring, pow_add, Nat.mod_mul]
    rfl

/-- The body words of a message spell the number that its fields do: none of their bytes is cut off (R403, R404). -/
theorem bodyNat_message (seq svc cmd flags tag : Nat) (fs : Fields) :
    bodyNat (((message seq svc cmd flags tag fs).drop 2).map fun w => w.data) = fieldsNat fs := by
  have hfits : fieldsNat fs < 2 ^ (64 * ((fieldsSize fs + 7) / 8)) := by
    refine (fieldsNat_lt fs).trans_le ?_
    rw [show (256 : Nat) = 2 ^ 8 from rfl, ← pow_mul]
    exact Nat.pow_le_pow_right (by decide) (by omega)
  have hwords : ((message seq svc cmd flags tag fs).drop 2).map (fun w => w.data) = wordsOf (fieldsNat fs) ((fieldsSize fs + 7) / 8) := by
    simp [message, List.map_map, Function.comp_def]
  rw [hwords, bodyNat_wordsOf, Nat.mod_eq_of_lt hfits]

/-! ### One field read back -/

theorem fieldsNat_append (pre fs : Fields) : fieldsNat (pre ++ fs) = fieldsNat pre + 256 ^ fieldsSize pre * fieldsNat fs := by
  induction pre with
  | nil => simp [fieldsNat, fieldsSize]
  | cons e pre ih =>
    obtain ⟨k, v⟩ := e
    rw [List.cons_append, fieldsNat, ih, fieldsNat, fieldsSize_cons, pow_add]
    ring

/-- A field behind other fields stands where they end. -/
theorem fld_append (pre fs : Fields) (off n : Nat) : fld (fieldsNat (pre ++ fs)) (fieldsSize pre + off) n = fld (fieldsNat fs) off n := by
  rw [fld, fld, fieldsNat_append, pow_add, ← Nat.div_div_eq_div_mul, Nat.add_mul_div_left _ _ (by positivity),
    Nat.div_eq_of_lt (fieldsNat_lt pre), Nat.zero_add]

@[simp] theorem fld_skip {k off : Nat} (v : Int) (fs : Fields) (n : Nat) (h : k ≤ off) :
    fld (fieldsNat ((k, v) :: fs)) off n = fld (fieldsNat fs) (off - k) n := by
  obtain ⟨d, rfl⟩ := Nat.exists_eq_add_of_le h
  simpa [fieldsSize_cons, fieldsSize] using fld_append [(k, v)] fs d n

theorem fld_head (k : Nat) (v : Int) (fs : Fields) : fld (fieldsNat ((k, v) :: fs)) 0 k = (v % (256 ^ k : Int)).toNat := by
  simp [fld, fieldsNat, Nat.mod_eq_of_lt (field_lt k v)]

/-- An unsigned field is read back as it was laid out. -/
@[simp] theorem fld_unsigned {k x : Nat} (h : WellFormed.u k x = true) (fs : Fields) : fld (fieldsNat ((k, (x : Int)) :: fs)) 0 k = x := by
  have hlt : x < 256 ^ k := of_decide_eq_true h
  rw [fld_head, Int.emod_eq_of_lt (by positivity) (by exact_mod_cast hlt)]
  rfl

@[simp] theorem sfld_skip {k off : Nat} (v : Int) (fs : Fields) (n : Nat) (h : k ≤ off) :
    sfld (fieldsNat ((k, v) :: fs)) off n = sfld (fieldsNat fs) (off - k) n := by
  rw [sfld, sfld, fld_skip v fs n h]

/-- And a signed one: the number is its two's complement (R9). -/
@[simp] theorem sfld_signed {k : Nat} {v : Int} (hk : 0 < k) (h : WellFormed.i k v = true) (fs : Fields) :
    sfld (fieldsNat ((k, v) :: fs)) 0 k = v := by
  simp only [WellFormed.i, Bool.and_eq_true, decide_eq_true_eq] at h
  obtain ⟨hlo, hhi⟩ := h
  have hpow : (256 : Int) ^ k = 2 * 2 ^ (8 * k - 1) := by
    rw [show (256 : Int) = 2 ^ 8 from rfl, ← pow_mul, ← pow_succ', Nat.sub_add_cancel (by omega)]
  have hwhole : (2 : Int) ^ (8 * k) = 256 ^ k := by rw [pow_mul]; rfl
  rw [sfld, fld_head, signedOf, hwhole]
  by_cases hv : 0 ≤ v
  · rw [Int.emod_eq_of_lt hv (by omega), Int.toNat_of_nonneg hv, if_pos]
    zify
    rwa [Int.toNat_of_nonneg hv]
  · have hmod : v % (256 ^ k : Int) = v + 256 ^ k := by
      rw [← Int.add_emod_right, Int.emod_eq_of_lt (by omega) (by omega)]
    have hnat : (((v + 256 ^ k).toNat : Nat) : Int) = v + 256 ^ k := Int.toNat_of_nonneg (by omega)
    rw [hmod, hnat, if_neg]
    · ring
    · zify
      rw [hnat]
      omega

/-! ### Strings of bytes and runs of entries -/

theorem fieldsSize_bytesFields (l : List Byte) : fieldsSize (bytesFields l) = l.length := by
  simp [fieldsSize_eq_sum, bytesFields, Function.comp_def]

@[simp] theorem fld_skipBytes {l : List Byte} {off : Nat} (fs : Fields) (n : Nat) (h : l.length ≤ off) :
    fld (fieldsNat (bytesFields l ++ fs)) off n = fld (fieldsNat fs) (off - l.length) n := by
  obtain ⟨d, rfl⟩ := Nat.exists_eq_add_of_le h
  rw [← fieldsSize_bytesFields, fld_append, Nat.add_sub_cancel_left]

@[simp] theorem byteList_skip {k off : Nat} (v : Int) (fs : Fields) (n : Nat) (h : k ≤ off) :
    byteList (fieldsNat ((k, v) :: fs)) off n = byteList (fieldsNat fs) (off - k) n := by
  refine List.map_congr_left fun i _ => ?_
  rw [fld_skip v fs 1 (h.trans (Nat.le_add_right _ _)), Nat.sub_add_comm h]

@[simp] theorem byteList_skipBytes {l : List Byte} {off : Nat} (fs : Fields) (n : Nat) (h : l.length ≤ off) :
    byteList (fieldsNat (bytesFields l ++ fs)) off n = byteList (fieldsNat fs) (off - l.length) n := by
  refine List.map_congr_left fun i _ => ?_
  rw [fld_skipBytes fs 1 (h.trans (Nat.le_add_right _ _)), Nat.sub_add_comm h]

/-- A run of records of `w` bytes is read back record by record, where a record reads back as itself wherever it stands. -/
theorem reads_flatMap {α : Type} {w : Nat} {mk : Nat → Nat → α} {g : α → Fields} (hsize : ∀ e, fieldsSize (g e) = w)
    (hskip : ∀ pre fs o, mk (fieldsNat (pre ++ fs)) (fieldsSize pre + o) = mk (fieldsNat fs) o) (es : List α)
    (hread : ∀ e ∈ es, ∀ fs, mk (fieldsNat (g e ++ fs)) 0 = e) (pre fs : Fields) :
    (List.range es.length).map (fun i => mk (fieldsNat (pre ++ (es.flatMap g ++ fs))) (fieldsSize pre + w * i)) = es := by
  induction es generalizing pre with
  | nil => rfl
  | cons e es ih =>
    have hrest := ih (fun x hx => hread x (List.mem_cons_of_mem e hx)) (pre ++ g e)
    have hfirst : mk (fieldsNat (pre ++ (g e ++ (es.flatMap g ++ fs)))) (fieldsSize pre) = e :=
      (hskip pre _ 0).trans (hread e (List.mem_cons_self ..) _)
    simp only [fieldsSize_append, hsize, List.append_assoc] at hrest
    simp only [List.length_cons, List.range_succ_eq_map, List.map_cons, List.map_map, Function.comp_def, Nat.mul_zero, Nat.add_zero,
      List.flatMap_cons, List.append_assoc, Nat.mul_succ, hfirst]
    simpa [Nat.add_assoc, Nat.add_comm w] using hrest

/-- Entries of 8 bytes at the end of a body. -/
theorem entries_flatMap {α : Type} {mk : Nat → Nat → α} {g : α → Fields} (hsize : ∀ e, fieldsSize (g e) = 8)
    (hskip : ∀ pre fs o, mk (fieldsNat (pre ++ fs)) (fieldsSize pre + o) = mk (fieldsNat fs) o) {es : List α}
    (hread : ∀ e ∈ es, ∀ fs, mk (fieldsNat (g e ++ fs)) 0 = e) (pre : Fields) :
    entries (mk (fieldsNat (pre ++ es.flatMap g))) (fieldsSize pre) es.length = es := by
  simpa [entries] using reads_flatMap hsize hskip es hread pre []

/-- A string is read back byte by byte. -/
@[simp] theorem byteList_bytesFields {l : List Byte} {n : Nat} (h : l.length = n) (fs : Fields) :
    byteList (fieldsNat (bytesFields l ++ fs)) 0 n = l := by
  subst h
  have hbytes : bytesFields l = l.flatMap fun b => [(1, (b.toNat : Int))] := List.map_eq_flatMap
  have hread := reads_flatMap (w := 1) (mk := fun b o => BitVec.ofNat 8 (fld b o 1)) (g := fun b : Byte => [(1, (b.toNat : Int))])
    (fun _ => rfl) (fun pre fs o => by rw [fld_append]) l
    (fun b _ fs => by simp [fld_unsigned (k := 1) (decide_eq_true b.isLt)]) [] fs
  simpa [byteList, hbytes, fieldsSize] using hread

@[simp] theorem byteList_bytesFields_last {l : List Byte} {n : Nat} (h : l.length = n) : byteList (fieldsNat (bytesFields l)) 0 n = l := by
  simpa using byteList_bytesFields h []

end Sys2Proof.Machine
end

section
/-!
PROOFS. A service command laid out as a Waggle message is read back as itself: O24 (13 R403, R404).
-/

namespace Sys2Proof.Machine

open Sys2Proof

/-! ### The entries of each command that carries some -/

/-- An entry of comb.connect as `parseComb` reads it at offset `o` of the body `b`. -/
def readConn (b o : Nat) : ConnEntry := ⟨fld b o 2, fld b (o + 2) 1, fld b (o + 3) 1, fld b (o + 4) 2, fld b (o + 6) 1, fld b (o + 7) 1⟩

/-- An entry of comb.brood. -/
def readBrood (b o : Nat) : BroodEntry := ⟨fld b o 1, fld b (o + 1) 1, fld b (o + 2) 2, fld b (o + 4) 2, fld b (o + 6) 2⟩

/-- An entry of comb.tu. -/
def readTu (b o : Nat) : TuEntry :=
  ⟨fld b o 1, fld b (o + 1) 1, fld b (o + 2) 1, fld b (o + 3) 1, fld b (o + 4) 1, fld b (o + 5) 1, fld b (o + 6) 1, fld b (o + 7) 1⟩

/-- An entry of nurse.axcvcat. -/
def readAxv (b o : Nat) : AxvEntry := ⟨fld b o 2, fld b (o + 2) 2⟩

theorem connEntries_read {es : List ConnEntry} (hes : es.all WellFormed.conn = true) (pre : Fields) :
    entries (readConn (fieldsNat (pre ++ es.flatMap connFields))) (fieldsSize pre) es.length = es := by
  refine entries_flatMap (fun _ => rfl) (fun pre fs o => by simp only [readConn, Nat.add_assoc, fld_append]) (fun e he fs => ?_) pre
  have hwf := List.all_eq_true.mp hes e he
  simp only [WellFormed.conn, WellFormed.halves, WellFormed.bytes, List.all_cons, List.all_nil, Bool.and_eq_true] at hwf
  simp [readConn, connFields, fld_skip, fld_unsigned, hwf]

theorem broodEntries_read {es : List BroodEntry} (hes : es.all WellFormed.broodEntry = true) (pre : Fields) :
    entries (readBrood (fieldsNat (pre ++ es.flatMap broodFields))) (fieldsSize pre) es.length = es := by
  refine entries_flatMap (fun _ => rfl) (fun pre fs o => by simp only [readBrood, Nat.add_assoc, fld_append]) (fun e he fs => ?_) pre
  have hwf := List.all_eq_true.mp hes e he
  simp only [WellFormed.broodEntry, WellFormed.halves, WellFormed.bytes, List.all_cons, List.all_nil, Bool.and_eq_true] at hwf
  simp [readBrood, broodFields, fld_skip, fld_unsigned, hwf]

theorem tuEntries_read {es : List TuEntry} (hes : es.all WellFormed.tuEntry = true) (pre : Fields) :
    entries (readTu (fieldsNat (pre ++ es.flatMap tuEntryFields))) (fieldsSize pre) es.length = es := by
  refine entries_flatMap (fun _ => rfl) (fun pre fs o => by simp only [readTu, Nat.add_assoc, fld_append]) (fun e he fs => ?_) pre
  have hwf := List.all_eq_true.mp hes e he
  simp only [WellFormed.tuEntry, WellFormed.bytes, List.all_cons, List.all_nil, Bool.and_eq_true] at hwf
  simp [readTu, tuEntryFields, fld_skip, fld_unsigned, hwf]

theorem axvEntries_read {es : List AxvEntry} (hes : (es.all fun e => WellFormed.halves [e.nBits, e.x]) = true) (pre : Fields) :
    entries (readAxv (fieldsNat (pre ++ es.flatMap axvFields))) (fieldsSize pre) es.length = es := by
  refine entries_flatMap (fun _ => rfl) (fun pre fs o => by simp only [readAxv, Nat.add_assoc, fld_append]) (fun e he fs => ?_) pre
  have hwf := List.all_eq_true.mp hes e he
  simp only [WellFormed.halves, List.all_cons, List.all_nil, Bool.and_eq_true] at hwf
  simp [readAxv, axvFields, fld_skip, fld_unsigned, hwf]

/-- The thresholds of pm.profile, words of 4 bytes. -/
theorem thresholds_read {thr : List Nat} (hthr : thr.all (WellFormed.u 4) = true) (hlen : thr.length = 16) (pre : Fields) :
    (List.range 16).map (fun i => fld (fieldsNat (pre ++ thr.map fun x : Nat => (4, (x : Int)))) (fieldsSize pre + 4 * i) 4) = thr := by
  have hread := reads_flatMap (w := 4) (mk := fun b o => fld b o 4) (g := fun x : Nat => [(4, (x : Int))]) (fun _ => rfl)
    (fun pre fs o => fld_append pre fs o 4) thr (fun x hx fs => fld_unsigned (List.all_eq_true.mp hthr x hx) fs) pre []
  rw [← hlen, show (thr.map fun x : Nat => (4, (x : Int))) = thr.flatMap fun x : Nat => [(4, (x : Int))] from List.map_eq_flatMap]
  simpa using hread

/-- A beat number is a field of 6 bytes. -/
theorem beat_eq_u (b : Nat) : WellFormed.beat b = WellFormed.u 6 b := rfl

/-- The members of a protection group are read back by the group's kind (09 R258). -/
theorem parseMembers_protGroup {a : ProtGroupArgs} (hwf : WellFormed.members a.kind a.members = true) {b : Nat}
    (hb : fieldsNat ([(2, (a.group : Int)), (1, a.kind), (1, a.enable), (1, a.flags), (1, a.holdoff), (1, a.wtr), (1, 0)]
      ++ memberFields a.members) = b) : parseMembers a.kind b = a.members := by
  subst hb
  cases hm : a.members with
  | lines w p =>
    simp only [hm, WellFormed.members, WellFormed.halves, Bool.and_eq_true, bne_iff_ne] at hwf
    obtain ⟨⟨⟨hfields, hk3⟩, hk4⟩, hk5⟩ := hwf
    unfold parseMembers
    split
    · contradiction
    · contradiction
    · contradiction
    · simp_all [memberFields]
  | sncpHo => simp_all [parseMembers, memberFields, WellFormed.members, WellFormed.halves, WellFormed.bytes]
  | sncpLo => simp_all [parseMembers, memberFields, WellFormed.members, WellFormed.bytes]
  | cpri => simp_all [parseMembers, memberFields, WellFormed.members, WellFormed.halves]

/-- The command of the tally service (16) is read back from its own fields. -/
theorem tallyRead_parsed {g h : Hdr} {first count snap svc cmd : Nat} {fs : Fields}
    (hwf : WellFormed.service (.tallyRead g first count snap) = true)
    (hbody : bodyOf (.tallyRead g first count snap) = some (svc, cmd, h, fs)) :
    parseCommand svc cmd h (fieldsNat fs) = some (.tallyRead g first count snap) := by
  cases hbody
  dsimp only [WellFormed.service] at hwf
  simp only [Bool.and_eq_true] at hwf
  simp_all [parseCommand, WellFormed.bytes]

/-- A command is read back from its own fields. -/
structure ReadBack (i : Instr) : Prop where
  parsed : ∀ (svc cmd : Nat) (h : Hdr) (fs : Fields), WellFormed.service i = true → bodyOf i = some (svc, cmd, h, fs) →
    parseCommand svc cmd h (fieldsNat fs) = some i

/-- The entries of comb.connect are read back one by one (06). -/
theorem combConnect_readBack (g : Hdr) (op : Nat) (es : List ConnEntry) : ReadBack (.combConnect g op es) := by
  refine ⟨fun svc cmd h fs hwf hbody => ?_⟩
  generalize hb : fieldsNat fs = b
  cases hbody
  dsimp only [WellFormed.service] at hwf
  simp only [Bool.and_eq_true] at hwf
  obtain ⟨⟨⟨-, hop⟩, hlen⟩, hes⟩ := hwf
  have hentries : entries (readConn b) 8 es.length = es := hb ▸ connEntries_read hes [_, _, _, _, _, _, _]
  have hfixed : fld b 0 2 = es.length ∧ fld b 2 1 = op := by simp [← hb, fld_skip, fld_unsigned, hop, hlen]
  show some (Instr.combConnect g (fld b 2 1) (entries (readConn b) 8 (fld b 0 2))) = _
  rw [hfixed.1, hfixed.2, hentries]

/-- The entries of comb.brood are read back one by one (06). -/
theorem combBrood_readBack (g : Hdr) (op kind : Nat) (es : List BroodEntry) : ReadBack (.combBrood g op kind es) := by
  refine ⟨fun svc cmd h fs hwf hbody => ?_⟩
  generalize hb : fieldsNat fs = b
  cases hbody
  dsimp only [WellFormed.service] at hwf
  simp only [WellFormed.bytes, List.all_cons, Bool.and_eq_true] at hwf
  obtain ⟨⟨⟨-, hop, hkind, -⟩, hlen⟩, hes⟩ := hwf
  have hentries : entries (readBrood b) 8 es.length = es := hb ▸ broodEntries_read hes [_, _, _, _, _, _, _]
  have hfixed : fld b 0 2 = es.length ∧ fld b 2 1 = op ∧ fld b 3 1 = kind := by
    simp [← hb, fld_skip, fld_unsigned, hop, hkind, hlen]
  show some (Instr.combBrood g (fld b 2 1) (fld b 3 1) (entries (readBrood b) 8 (fld b 0 2))) = _
  rw [hfixed.1, hfixed.2.1, hfixed.2.2, hentries]

/-- The entries of comb.tu are read back one by one (06). -/
theorem combTu_readBack (g : Hdr) (op : Nat) (es : List TuEntry) : ReadBack (.combTu g op es) := by
  refine ⟨fun svc cmd h fs hwf hbody => ?_⟩
  generalize hb : fieldsNat fs = b
  cases hbody
  dsimp only [WellFormed.service] at hwf
  simp only [Bool.and_eq_true] at hwf
  obtain ⟨⟨⟨-, hop⟩, hlen⟩, hes⟩ := hwf
  have hentries : entries (readTu b) 8 es.length = es := hb ▸ tuEntries_read hes [_, _, _, _, _, _, _]
  have hfixed : fld b 0 2 = es.length ∧ fld b 2 1 = op := by simp [← hb, fld_skip, fld_unsigned, hop, hlen]
  show some (Instr.combTu g (fld b 2 1) (entries (readTu b) 8 (fld b 0 2))) = _
  rw [hfixed.1, hfixed.2, hentries]

/-- The members of nurse.axcvcat are read back one by one (07). -/
theorem nurseAxcvcat_readBack (g : Hdr) (a : NurseAxvArgs) : ReadBack (.nurseAxcvcat g a) := by
  refine ⟨fun svc cmd h fs hwf hbody => ?_⟩
  generalize hb : fieldsNat fs = b
  cases hbody
  dsimp only [WellFormed.service] at hwf
  simp only [WellFormed.nurseAxv, WellFormed.bytes, List.all_cons, Bool.and_eq_true, beq_iff_eq] at hwf
  obtain ⟨-, ⟨⟨hbytes, hplay⟩, hlen⟩, haxcs⟩ := hwf
  have hentries : entries (readAxv b) 16 a.axcs.length = a.axcs := hb ▸ axvEntries_read haxcs [_, _, _, _, _, _, _, _, _, _]
  have hfixed : (fld b 0 1 = a.b ∧ fld b 1 1 = a.dir ∧ fld b 2 1 = a.g0 ∧ fld b 3 1 = a.members ∧ fld b 4 1 = a.type) ∧
      fld b 5 1 = a.nAxc ∧ fld b 6 1 = a.enable ∧ fld b 7 1 = a.txC2 ∧ fld b 8 2 = a.playOut := by
    simp [← hb, fld_skip, fld_unsigned, hbytes, hplay]
  show some (Instr.nurseAxcvcat g ⟨fld b 0 1, fld b 1 1, fld b 2 1, fld b 3 1, fld b 4 1, fld b 5 1, fld b 6 1, fld b 7 1, fld b 8 2,
    entries (readAxv b) 16 (fld b 5 1)⟩) = _
  rw [hlen] at hentries
  simp only [hfixed, hentries]

/-- The thresholds of pm.profile are read back one by one (10). -/
theorem pmProfile_readBack (g : Hdr) (p : Nat) (thr : List Nat) : ReadBack (.pmProfile g p thr) := by
  refine ⟨fun svc cmd h fs hwf hbody => ?_⟩
  generalize hb : fieldsNat fs = b
  cases hbody
  dsimp only [WellFormed.service] at hwf
  simp only [WellFormed.pmProfile, Bool.and_eq_true, beq_iff_eq] at hwf
  obtain ⟨-, ⟨hp, hlen⟩, hthr⟩ := hwf
  have hprofile : fld b 0 1 = p := by simp [← hb, hp]
  have hwords : (List.range 16).map (fun k => fld b (8 + 4 * k) 4) = thr := by
    have hcast : (thr.flatMap fun x : Nat => [(x : Int)]) = thr.map fun x : Nat => (x : Int) := List.map_eq_flatMap.symm
    rw [← hb]
    simpa [fieldsSize, hcast, Function.comp_def] using thresholds_read hthr hlen [(1, p), (7, 0)]
  show some (Instr.pmProfile g (fld b 0 1) ((List.range 16).map fun k => fld b (8 + 4 * k) 4)) = _
  rw [hprofile, hwords]

/-- The members of prot.group are read back by its kind (09 R258). -/
theorem protGroup_readBack (g : Hdr) (a : ProtGroupArgs) : ReadBack (.protGroup g a) := by
  refine ⟨fun svc cmd h fs hwf hbody => ?_⟩
  generalize hb : fieldsNat fs = b
  cases hbody
  dsimp only [WellFormed.service] at hwf
  simp only [WellFormed.protGroup, WellFormed.bytes, List.all_cons, Bool.and_eq_true] at hwf
  obtain ⟨-, ⟨hgroup, hbytes⟩, hmembers⟩ := hwf
  have hm := parseMembers_protGroup hmembers hb
  have hfixed : fld b 0 2 = a.group ∧ fld b 2 1 = a.kind ∧ fld b 3 1 = a.enable ∧ fld b 4 1 = a.flags ∧ fld b 5 1 = a.holdoff ∧
      fld b 6 1 = a.wtr := by simp [← hb, hgroup, hbytes]
  simp [parseCommand, parseProt, hfixed, hm]

/-- The commands of the sys service (13 R422; 02 R53) are read back. -/
theorem sysCommands_readBack : (∀ h a, ReadBack (.sysHello h a)) ∧
    (∀ h a, ReadBack (.sysSession h a)) ∧
    (∀ h m, ReadBack (.sysMode h m)) ∧
    (∀ h c, ReadBack (.sysBusStatus h c)) ∧
    (∀ h, ReadBack (.sysBatchOpen h)) ∧
    (∀ h a, ReadBack (.sysBatchClose h a)) ∧
    (∀ h, ReadBack (.sysBeatStatus h)) := by
  refine ⟨fun _ _ => ?_, fun _ _ => ?_, fun _ _ => ?_, fun _ _ => ?_, fun _ => ?_, fun _ _ => ?_, fun _ => ?_⟩ <;>
  · refine ⟨fun svc cmd h fs hwf hbody => ?_⟩
    cases hbody
    dsimp only [WellFormed.service] at hwf
    simp_all [parseCommand, parseSys, WellFormed.bytes, beat_eq_u]

/-- The commands of the lane service (03) are read back. -/
theorem laneCommands_readBack : (∀ h a, ReadBack (.laneConfig h a)) ∧
    (∀ h l c, ReadBack (.laneStatus h l c)) ∧
    (∀ h a, ReadBack (.laneCal h a)) ∧
    (∀ h a, ReadBack (.lanePrbs h a)) ∧
    (∀ h l, ReadBack (.laneSlip h l)) ∧
    (∀ h l t, ReadBack (.laneTrim h l t)) := by
  refine ⟨fun _ _ => ?_, fun _ _ _ => ?_, fun _ _ => ?_, fun _ _ => ?_, fun _ _ => ?_, fun _ _ _ => ?_⟩ <;>
  · refine ⟨fun svc cmd h fs hwf hbody => ?_⟩
    cases hbody
    dsimp only [WellFormed.service] at hwf
    simp_all [parseCommand, parseLane, WellFormed.bytes, WellFormed.lane, WellFormed.laneCal, WellFormed.lanePrbs]

/-- The commands of the sdh service (04) are read back. -/
theorem sdhCommands_readBack : (∀ h a, ReadBack (.sdhPort h a)) ∧
    (∀ h a, ReadBack (.sdhPath h a)) ∧
    (∀ h a, ReadBack (.sdhOh h a)) ∧
    (∀ h l g c, ReadBack (.sdhStatus h l g c)) ∧
    (∀ h l g, ReadBack (.sdhTrace h l g)) := by
  refine ⟨fun _ _ => ?_, fun _ _ => ?_, fun _ _ => ?_, fun _ _ _ _ => ?_, fun _ _ _ => ?_⟩ <;>
  · refine ⟨fun svc cmd h fs hwf hbody => ?_⟩
    cases hbody
    dsimp only [WellFormed.service] at hwf
    simp_all [parseCommand, parseSdh, WellFormed.bytes, WellFormed.halves, WellFormed.sdhOh, WellFormed.sdhPath, WellFormed.sdhPort,
      WellFormed.trace]

/-- The commands of the cpri service (05) are read back. -/
theorem cpriCommands_readBack : (∀ h a, ReadBack (.cpriPort h a)) ∧
    (∀ h a, ReadBack (.cpriAxc h a)) ∧
    (∀ h a, ReadBack (.cpriCm h a)) ∧
    (∀ h l a, ReadBack (.cpriL1 h l a)) ∧
    (∀ h l c, ReadBack (.cpriStatus h l c)) := by
  refine ⟨fun _ _ => ?_, fun _ _ => ?_, fun _ _ => ?_, fun _ _ _ => ?_, fun _ _ _ => ?_⟩ <;>
  · refine ⟨fun svc cmd h fs hwf hbody => ?_⟩
    cases hbody
    dsimp only [WellFormed.service] at hwf
    simp_all [parseCommand, parseCpri, WellFormed.bytes, WellFormed.cpriAxc, WellFormed.cpriCm, WellFormed.cpriPort, WellFormed.halves]

/-- The commands of the comb service without a list (06) are read back. -/
theorem combCommands_readBack : (∀ h a, ReadBack (.combRead h a)) ∧
    (∀ h a, ReadBack (.combTest h a)) ∧
    (∀ h a, ReadBack (.combTap h a)) ∧
    (∀ h p c, ReadBack (.combStatus h p c)) := by
  refine ⟨fun _ _ => ?_, fun _ _ => ?_, fun _ _ => ?_, fun _ _ _ => ?_⟩ <;>
  · refine ⟨fun svc cmd h fs hwf hbody => ?_⟩
    cases hbody
    dsimp only [WellFormed.service] at hwf
    simp_all [parseCommand, parseComb, WellFormed.bytes, WellFormed.combRead, WellFormed.combTap, WellFormed.combTest, WellFormed.halves,
      beat_eq_u]

/-- The commands of the nurse service without a list (07) are read back. -/
theorem nurseCommands_readBack : (∀ h a, ReadBack (.nurseVc h a)) ∧
    (∀ h a, ReadBack (.nurseTu h a)) ∧
    (∀ h a, ReadBack (.nurseStatus h a)) := by
  refine ⟨fun _ _ => ?_, fun _ _ => ?_, fun _ _ => ?_⟩ <;>
  · refine ⟨fun svc cmd h fs hwf hbody => ?_⟩
    cases hbody
    dsimp only [WellFormed.service] at hwf
    simp_all [parseCommand, parseNurse, WellFormed.bytes, WellFormed.nurseStatus, WellFormed.nurseTu, WellFormed.nurseVc, WellFormed.trace]

/-- The commands of the pool service (08) are read back. -/
theorem poolCommands_readBack : (∀ h a, ReadBack (.poolDelay h a)) ∧
    (∀ h a, ReadBack (.poolGroup h a)) ∧
    (∀ h a, ReadBack (.poolTwin h a)) ∧
    (∀ h c op, ReadBack (.poolChannel h c op)) ∧
    (∀ h s m c, ReadBack (.poolStatus h s m c)) := by
  refine ⟨fun _ _ => ?_, fun _ _ => ?_, fun _ _ => ?_, fun _ _ _ => ?_, fun _ _ _ _ => ?_⟩ <;>
  · refine ⟨fun svc cmd h fs hwf hbody => ?_⟩
    cases hbody
    dsimp only [WellFormed.service] at hwf
    simp_all [parseCommand, parsePool, WellFormed.bytes, WellFormed.halves, WellFormed.poolDelay, WellFormed.poolGroup, WellFormed.poolTwin]

/-- The commands of the prot service without members (09) are read back. -/
theorem protCommands_readBack : (∀ h g c, ReadBack (.protCommand h g c)) ∧
    (∀ h g c, ReadBack (.protStatus h g c)) := by
  refine ⟨fun _ _ _ => ?_, fun _ _ _ => ?_⟩ <;>
  · refine ⟨fun svc cmd h fs hwf hbody => ?_⟩
    cases hbody
    dsimp only [WellFormed.service] at hwf
    simp_all [parseCommand, parseProt]

/-- The commands of the pm service without thresholds (10) are read back. -/
theorem pmCommands_readBack : (∀ h a, ReadBack (.pmConfig h a)) ∧
    (∀ h a, ReadBack (.pmMonitor h a)) ∧
    (∀ h e b, ReadBack (.pmRead h e b)) ∧
    (∀ h a, ReadBack (.pmBulk h a)) := by
  refine ⟨fun _ _ => ?_, fun _ _ => ?_, fun _ _ _ => ?_, fun _ _ => ?_⟩ <;>
  · refine ⟨fun svc cmd h fs hwf hbody => ?_⟩
    cases hbody
    dsimp only [WellFormed.service] at hwf
    simp_all [parseCommand, parsePm, parseEntity, WellFormed.bytes, WellFormed.entity, WellFormed.pmBulk, WellFormed.pmConfig,
      WellFormed.pmMonitor]

/-- The commands of the scout service (11) are read back. -/
theorem scoutCommands_readBack : (∀ h a, ReadBack (.scoutInput h a)) ∧
    (∀ h a, ReadBack (.scoutSelect h a)) ∧
    (∀ h a, ReadBack (.scoutDpll h a)) ∧
    (∀ h, ReadBack (.scoutStart h)) ∧
    (∀ h a, ReadBack (.scoutTod h a)) ∧
    (∀ h a, ReadBack (.scoutSteer h a)) ∧
    (∀ h a, ReadBack (.scoutOutput h a)) ∧
    (∀ h a, ReadBack (.scoutModel h a)) ∧
    (∀ h, ReadBack (.scoutStatus h)) ∧
    (∀ h i c, ReadBack (.scoutInputStatus h i c)) := by
  refine ⟨fun _ _ => ?_, fun _ _ => ?_, fun _ _ => ?_, fun _ => ?_, fun _ _ => ?_, fun _ _ => ?_, fun _ _ => ?_,
    fun _ _ => ?_, fun _ => ?_, fun _ _ _ => ?_⟩ <;>
  · refine ⟨fun svc cmd h fs hwf hbody => ?_⟩
    cases hbody
    dsimp only [WellFormed.service] at hwf
    simp_all [parseCommand, parseScout, WellFormed.bytes, WellFormed.halves, WellFormed.scoutDpll, WellFormed.scoutInput,
      WellFormed.scoutModel, WellFormed.scoutOutput, WellFormed.scoutSelect, WellFormed.scoutSteer, WellFormed.scoutTod, beat_eq_u]

/-- The commands of the hive service (12) are read back. -/
theorem hiveCommands_readBack : (∀ h a, ReadBack (.hiveConfig h a)) ∧
    (∀ h op, ReadBack (.hiveJoin h op)) ∧
    (∀ h op b, ReadBack (.hiveSwitch h op b)) ∧
    (∀ h, ReadBack (.hiveStatus h)) := by
  refine ⟨fun _ _ => ?_, fun _ _ => ?_, fun _ _ _ => ?_, fun _ => ?_⟩ <;>
  · refine ⟨fun svc cmd h fs hwf hbody => ?_⟩
    cases hbody
    dsimp only [WellFormed.service] at hwf
    simp_all [parseCommand, parseHive, WellFormed.bytes, WellFormed.hiveConfig, beat_eq_u]

/-- The commands of the power service (18) are read back. -/
theorem powerCommands_readBack : (∀ h a, ReadBack (.powerConfig h a)) ∧
    (∀ h a, ReadBack (.powerTable h a)) ∧
    (∀ h r c, ReadBack (.powerStatus h r c)) := by
  refine ⟨fun _ _ => ?_, fun _ _ => ?_, fun _ _ _ => ?_⟩ <;>
  · refine ⟨fun svc cmd h fs hwf hbody => ?_⟩
    cases hbody
    dsimp only [WellFormed.service] at hwf
    simp_all [parseCommand, parsePower, parsePowerEntry, WellFormed.bytes, WellFormed.halves, WellFormed.powerConfig,
      WellFormed.powerEntry, WellFormed.powerTable]

/-- The commands of the test service (16) are read back. -/
theorem testCommands_readBack : (∀ h a, ReadBack (.testBist h a)) ∧
    (∀ h a, ReadBack (.testSting h a)) ∧
    (∀ h k p, ReadBack (.testTracer h k p)) := by
  refine ⟨fun _ _ => ?_, fun _ _ => ?_, fun _ _ _ => ?_⟩ <;>
  · refine ⟨fun svc cmd h fs hwf hbody => ?_⟩
    cases hbody
    dsimp only [WellFormed.service] at hwf
    simp_all [parseCommand, parseTest, WellFormed.bytes, WellFormed.halves, WellFormed.testBist, WellFormed.testSting]

/-- The commands of the sec service (17) are read back. -/
theorem secCommands_readBack : (∀ h, ReadBack (.secStatus h)) ∧
    (∀ h, ReadBack (.secChallenge h)) ∧
    (∀ h op k s, ReadBack (.secProve h op k s)) ∧
    (∀ h a, ReadBack (.secWorld h a)) ∧
    (∀ h op t, ReadBack (.secLifecycle h op t)) ∧
    (∀ h op o, ReadBack (.secUpdate h op o)) := by
  refine ⟨fun _ => ?_, fun _ => ?_, fun _ _ _ _ => ?_, fun _ _ => ?_, fun _ _ _ => ?_, fun _ _ _ => ?_⟩ <;>
  · refine ⟨fun svc cmd h fs hwf hbody => ?_⟩
    cases hbody
    dsimp only [WellFormed.service] at hwf
    simp_all [parseCommand, parseSec, parseToken, WellFormed.bytes, WellFormed.halves, WellFormed.secWorld, WellFormed.token]

/-- The parameters of a command, laid out and read back. -/
theorem readBack_all (i : Instr) : ReadBack i := by
  cases i
  case combConnect => simp only [combConnect_readBack]
  case combBrood => simp only [combBrood_readBack]
  case combTu => simp only [combTu_readBack]
  case nurseAxcvcat => simp only [nurseAxcvcat_readBack]
  case pmProfile => simp only [pmProfile_readBack]
  case protGroup => simp only [protGroup_readBack]
  case sysHello | sysSession | sysMode |
      sysBusStatus | sysBatchOpen | sysBatchClose | sysBeatStatus => simp only [sysCommands_readBack]
  case laneConfig | laneStatus | laneCal | lanePrbs | laneSlip | laneTrim => simp only [laneCommands_readBack]
  case sdhPort | sdhPath | sdhOh | sdhStatus | sdhTrace => simp only [sdhCommands_readBack]
  case cpriPort | cpriAxc | cpriCm | cpriL1 | cpriStatus => simp only [cpriCommands_readBack]
  case combRead | combTest | combTap | combStatus => simp only [combCommands_readBack]
  case nurseVc | nurseTu | nurseStatus => simp only [nurseCommands_readBack]
  case poolDelay | poolGroup | poolTwin | poolChannel | poolStatus => simp only [poolCommands_readBack]
  case protCommand | protStatus => simp only [protCommands_readBack]
  case pmConfig | pmMonitor | pmRead | pmBulk => simp only [pmCommands_readBack]
  case scoutInput | scoutSelect | scoutDpll | scoutStart | scoutTod |
      scoutSteer | scoutOutput | scoutModel | scoutStatus | scoutInputStatus => simp only [scoutCommands_readBack]
  case hiveConfig | hiveJoin | hiveSwitch | hiveStatus => simp only [hiveCommands_readBack]
  case powerConfig | powerTable | powerStatus => simp only [powerCommands_readBack]
  case testBist | testSting | testTracer => simp only [testCommands_readBack]
  case secStatus | secChallenge | secProve | secWorld | secLifecycle | secUpdate => simp only [secCommands_readBack]
  case tallyRead => exact ⟨fun _ _ _ _ hwf hbody => tallyRead_parsed hwf hbody⟩
  all_goals
    refine ⟨fun svc cmd h fs _ hbody => ?_⟩
    cases hbody

theorem parseCommand_body {i : Instr} {svc cmd : Nat} {h : Hdr} {fs : Fields} (hwf : WellFormed.service i = true)
    (hbody : bodyOf i = some (svc, cmd, h, fs)) : parseCommand svc cmd h (fieldsNat fs) = some i :=
  (readBack_all i).parsed svc cmd h fs hwf hbody

/-- Settles O24. The message spells the number of its fields (`bodyNat_message`), and each field is read back from that number. -/
theorem messageRoundTrip : Obligations.MessageRoundTrip := by
  intro i svc cmd h fs hwf hbody
  have hwords : commandWords i = message h.seq svc cmd 0 h.tag fs := by simp [commandWords, hbody]
  rw [hwords, bodyNat_message]
  exact parseCommand_body hwf hbody

end Sys2Proof.Machine
end

section
/-!
PROOFS. COMMAND_SERVE runs the command whose message stands first in the queue that is served next: O25 (13 R397, R402-R404).
-/

namespace Sys2Proof.Machine

open Sys2Proof

/-! ### The header of a stored message -/

/-- The service and command numbers of a command's message, and its header, fit their fields. -/
theorem bodyOf_header {i : Instr} {svc cmd : Nat} {h : Hdr} {fs : Fields} (hwf : WellFormed.service i = true)
    (hbody : bodyOf i = some (svc, cmd, h, fs)) : svc < 256 ∧ cmd < 256 ∧ WellFormed.hdr h = true := by
  cases i <;> cases hbody <;> simp only [WellFormed.service, Bool.and_eq_true] at hwf <;> simp [hwf]

theorem head_toNat {seq svc cmd tag : Nat} {fs : Fields} (hseq : seq < 2 ^ 16) (hsvc : svc < 256) (hcmd : cmd < 256)
    (hfs : fieldsSize fs ≤ 16368) : ((message seq svc cmd 0 tag fs).headD { data := 0 }).data.toNat =
      (16 + 8 * ((fieldsSize fs + 7) / 8)) + seq * 2 ^ 16 + svc * 2 ^ 32 + cmd * 2 ^ 40 := by
  simp only [message, List.headD_cons, BitVec.toNat_ofNat]
  omega

theorem tag_toNat {seq svc cmd tag : Nat} {fs : Fields} (htag : tag < 2 ^ 64) :
    (((message seq svc cmd 0 tag fs).drop 1).headD { data := 0 }).data.toNat = tag := by
  simp only [message, List.drop_succ_cons, List.drop_zero, List.headD_cons, BitVec.toNat_ofNat]
  omega

/-- Nothing of a message that `message` lays out is a break mark. -/
theorem isBroken_message (seq svc cmd flags tag : Nat) (fs : Fields) : isBroken (message seq svc cmd flags tag fs) = false := by
  simp [isBroken, message]

/-- The first of the stored messages ends where the next one starts. -/
theorem headMessage_message {rest : List QWord} (hrest : (rest.head?.map fun w => w.start).getD true = true)
    (seq svc cmd flags tag : Nat) (fs : Fields) :
    headMessage (message seq svc cmd flags tag fs ++ rest) = message seq svc cmd flags tag fs := by
  have hstop : rest.takeWhile (fun x => !x.start) = [] := by
    cases rest with
    | nil => rfl
    | cons w t => simp at hrest; simp [hrest]
  simp only [message, List.cons_append, headMessage]
  rw [← List.cons_append, List.takeWhile_append_of_pos (by simp), hstop, List.append_nil]

/-! ### A stored command is served -/

theorem fieldsSize_nil : fieldsSize [] = 0 := rfl

theorem fieldsSize_flatMap {α : Type} {w : Nat} {g : α → Fields} (hsize : ∀ e, fieldsSize (g e) = w) (es : List α) :
    fieldsSize (es.flatMap g) = w * es.length := by
  induction es with
  | nil => rfl
  | cons e es ih => rw [List.flatMap_cons, fieldsSize_append, hsize, ih, List.length_cons]; ring

/-- The fixed part of each command with a table, and the bytes its message has. -/
theorem tableBytes_body {i : Instr} {svc cmd : Nat} {h : Hdr} {fs : Fields} (hwf : WellFormed.service i = true)
    (hbody : bodyOf i = some (svc, cmd, h, fs)) :
    ∃ fixed size, commandSizes svc cmd = some (fixed, size) ∧ tableBytes svc cmd fixed (fieldsNat fs) ≤ fieldsSize fs := by
  cases i
  case combConnect g op es =>
    cases hbody
    simp only [WellFormed.service, Bool.and_eq_true] at hwf
    obtain ⟨⟨-, hlen⟩, -⟩ := hwf
    exact ⟨8, 14, rfl, by
      simp [tableBytes, hlen, fieldsSize_cons, fieldsSize_flatMap (g := connFields) (w := 8) (fun _ => rfl)]
      omega⟩
  case combBrood g op kind es =>
    cases hbody
    simp only [WellFormed.service, Bool.and_eq_true] at hwf
    obtain ⟨⟨-, hlen⟩, -⟩ := hwf
    exact ⟨8, 14, rfl, by
      simp [tableBytes, hlen, fieldsSize_cons, fieldsSize_flatMap (g := broodFields) (w := 8) (fun _ => rfl)]
      omega⟩
  case combTu g op es =>
    cases hbody
    simp only [WellFormed.service, Bool.and_eq_true] at hwf
    obtain ⟨⟨-, hlen⟩, -⟩ := hwf
    exact ⟨8, 14, rfl, by
      simp [tableBytes, hlen, fieldsSize_cons, fieldsSize_flatMap (g := tuEntryFields) (w := 8) (fun _ => rfl)]
      omega⟩
  case nurseAxcvcat g a =>
    cases hbody
    simp only [WellFormed.service, WellFormed.nurseAxv, WellFormed.bytes, List.all_cons, Bool.and_eq_true, beq_iff_eq] at hwf
    obtain ⟨-, ⟨⟨hbytes, -⟩, hlen⟩, -⟩ := hwf
    exact ⟨16, 6, rfl, by
      simp [tableBytes, hbytes, hlen, fieldsSize_cons, fieldsSize_flatMap (g := axvFields) (w := 8) (fun _ => rfl)]
      omega⟩
  case protGroup g a =>
    cases hbody
    refine ⟨32, 6, rfl, ?_⟩
    cases a.members <;> simp [tableBytes, memberFields, fieldsSize]
  case pmProfile g p thr =>
    cases hbody
    simp only [WellFormed.service, WellFormed.pmProfile, Bool.and_eq_true, beq_iff_eq] at hwf
    obtain ⟨-, ⟨-, hlen⟩, -⟩ := hwf
    have hcast : (thr.flatMap fun x : Nat => [(x : Int)]) = thr.map fun x : Nat => (x : Int) := List.map_eq_flatMap.symm
    exact ⟨72, 6, rfl, by simp [tableBytes, fieldsSize_eq_sum, Function.comp_def, hcast, hlen]⟩
  case sdhPort | sdhPath | nurseTu =>
    cases hbody
    simp only [WellFormed.service, WellFormed.sdhPort, WellFormed.sdhPath, WellFormed.nurseTu, WellFormed.trace, Bool.and_eq_true,
      beq_iff_eq] at hwf
    exact ⟨_, _, rfl, by simp [tableBytes, fieldsSize_append, fieldsSize_cons, fieldsSize_bytesFields, fieldsSize_nil, hwf]⟩
  all_goals cases hbody
  all_goals exact ⟨_, _, rfl, by simp [tableBytes, fieldsSize]⟩

theorem raiseIf_ports (b : Bool) (n : Nat) (s : State) : (raiseIf b n s).ports = s.ports := by simp

theorem dropHead_version (p q r : Nat) (s : State) : ((dropHead p q s).port r).version = (s.port r).version := by
  unfold dropHead
  rw [port_eq (raiseIf_ports _ _ _), State.onCmdQ, port_onPort]
  split
  next heq => rw [heq]
  next => rfl

theorem runMessage_body {i : Instr} {svc cmd bytes : Nat} {h : Hdr} {fs : Fields} {s : State} (hwf : WellFormed.service i = true)
    (hbody : bodyOf i = some (svc, cmd, h, fs)) (hbytes : fieldsSize fs ≤ bytes) (hversion : (s.port h.port).version.isSome = true) :
    runMessage h svc cmd (fieldsNat fs) bytes s = runCommand i s := by
  obtain ⟨fixed, size, hsizes, htable⟩ := tableBytes_body hwf hbody
  have hnone : (s.port h.port).version.isNone = false := by simp [hversion]
  simp [runMessage, hsizes, hnone, (htable.trans hbytes).not_gt, parseCommand_body hwf hbody]

theorem takeMessage_command {i : Instr} {svc cmd p q us : Nat} {h : Hdr} {fs : Fields} {rest : List QWord} {s : State}
    (hwf : WellFormed.service i = true) (hbody : bodyOf i = some (svc, cmd, h, fs)) (hsize : fieldsSize fs ≤ 16368)
    (hwords : ((s.port p).cmdOf q).words = commandWords i ++ rest) (hrest : (rest.head?.map fun w => w.start).getD true = true)
    (hversion : (s.port p).version.isSome = true)
    (hh : h = { port := p, queue := q, seq := h.seq, tag := h.tag, late := decide (0 < ((s.port p).cmdOf q).late), us := us }) :
    takeMessage p q us s = runCommand i (dropHead p q (tick 112 p 1 s)) := by
  obtain ⟨hsvc, hcmd, hhdr⟩ := bodyOf_header hwf hbody
  simp only [WellFormed.hdr, Bool.and_eq_true, WellFormed.u, decide_eq_true_eq] at hhdr
  obtain ⟨⟨⟨-, hseq⟩, htag⟩, -⟩ := hhdr
  have hmsg : commandWords i = message h.seq svc cmd 0 h.tag fs := by simp [commandWords, hbody]
  have hhead := head_toNat (tag := h.tag) hseq hsvc hcmd hsize
  have hservice : serviceOf (message h.seq svc cmd 0 h.tag fs) = svc := by
    rw [serviceOf, hhead, field]; omega
  have hcommand : commandOf (message h.seq svc cmd 0 h.tag fs) = cmd := by
    rw [commandOf, hhead, field]; omega
  have hlength : fieldsSize fs ≤ messageLength (message h.seq svc cmd 0 h.tag fs) - 16 := by
    rw [messageLength, hhead]; omega
  have hheader : headerOf p q (decide (0 < ((s.port p).cmdOf q).late)) us (message h.seq svc cmd 0 h.tag fs) = h := by
    have hfield : field ((16 + 8 * ((fieldsSize fs + 7) / 8)) + h.seq * 2 ^ 16 + svc * 2 ^ 32 + cmd * 2 ^ 40) 16 16 = h.seq := by
      rw [field]; omega
    rw [headerOf, hhead, hfield, tag_toNat (by simpa using htag)]
    exact hh.symm
  have hversion' : ((dropHead p q (tick 112 p 1 s)).port h.port).version.isSome = true := by
    rw [dropHead_version, hh]
    exact hversion
  unfold takeMessage
  simp only [hwords, hmsg, headMessage_message hrest, isBroken_message, hheader, hservice, hcommand, bodyNat_message]
  exact runMessage_body hwf hbody hlength hversion'

/-- Settles O25. -/
theorem storedMessageRuns : Obligations.StoredMessageRuns := by
  intro i svc cmd p q us h fs rest s hwf hbody hsize hserving hfind hwords hrest hversion hh
  have hserve : commandServes us s = takeMessage p q us (s.onKeeper fun k => { k with serveTurn := 1 - p }) := by
    simp [commandServes, hserving, hfind]
  show Host.Outcome.next (counted s (commandServes us s)) = _
  rw [hserve, takeMessage_command (s := s.onKeeper _) hwf hbody hsize hwords hrest hversion hh]

end Sys2Proof.Machine
end

section
/-!
PROOFS. The stops of the block (17 R529), the reads of the services (00 R16; 13 R406, R410), and the reset state: O2, O3, O4, O59.
-/

namespace Sys2Proof.Machine

open Sys2Proof

/-! ### Stops -/

/-- Settles O2: every arm but those of REGISTER_WRITE and BAR0_BAD_ACCESS gives a next state whatever its command does, and each of
those two refuses on one condition, that of the debug window. -/
theorem onlyDebugWindowStops : Obligations.OnlyDebugWindowStops := by
  intro i s
  cases i
  case registerWrite p off half v =>
    show (∃ t, execRegisterWrite p off half v s = .next t) ∨ execRegisterWrite p off half v s = .refused .debugWindow ∧ _
    unfold execRegisterWrite
    split
    next hwin =>
      obtain ⟨hup, hdebug⟩ := Bool.and_eq_true_iff.mp hwin
      exact .inr ⟨rfl, p, off, hup, hdebug, .inl ⟨half, v, rfl⟩⟩
    next => exact .inl ⟨_, rfl⟩
  case bar0BadAccess p off size write =>
    show (∃ t, execBar0BadAccess p off size write s = .next t) ∨ execBar0BadAccess p off size write s = .refused .debugWindow ∧ _
    unfold execBar0BadAccess
    split
    next hwin =>
      simp only [Bool.and_eq_true] at hwin
      obtain ⟨⟨⟨hup, hdebug⟩, -⟩, -⟩ := hwin
      exact .inr ⟨rfl, p, off, hup, hdebug, .inr ⟨size, write, rfl⟩⟩
    next => exact .inl ⟨_, rfl⟩
  all_goals exact .inl ⟨_, rfl⟩

/-! ### Reads that may clear: without the clear the state stays -/

theorem busStatusAct_read (p : Nat) (s : State) : busStatusAct p 0 s = .ok (busStatusFields p s) s := rfl

theorem tallyReadAct_read {first count : Nat} (s : State) (hlo : 1 ≤ count) (hhi : first + count ≤ 64) :
    tallyReadAct first count 0 s = .ok (tallyFields first count false s) s := by
  have hcount : outside 1 64 count = false := outside_eq_false.mpr ⟨hlo, by omega⟩
  simp [tallyReadAct, hcount, show ¬ 63 < first by omega, show ¬ 64 < first + count by omega]

theorem combReadAct_super {a : CombReadArgs} (s : State) (htier : a.tier = 0) (hport : a.port ≤ 423) (hlo : 1 ≤ a.count)
    (hhi : a.start + a.count ≤ 192) : combReadAct a s =
      .ok ((2, a.count) :: (4, 0) :: (List.range a.count).flatMap fun i => superEntry (slotOf a.port (a.start + i)) s) s := by
  simp [combReadAct, htier, show ¬ 423 < a.port by omega, show ¬ a.count = 0 by omega, show ¬ 192 < a.count by omega,
    show ¬ 192 < a.start + a.count by omega]

theorem combReadAct_brood {a : CombReadArgs} (s : State) (htier : a.tier = 1) (hport : a.port ≤ 95) (hlo : 1 ≤ a.count)
    (hhi : a.count ≤ 1024) (hend : a.start + a.count ≤ 16704) : combReadAct a s =
      .ok ((2, a.count) :: (4, 0) :: (List.range a.count).flatMap fun i => broodEntry (cellOf a.port (a.start + i)) s) s := by
  simp [combReadAct, htier, show ¬ 95 < a.port by omega, show ¬ a.count = 0 by omega, show ¬ 1024 < a.count by omega,
    show ¬ 16704 < a.start + a.count by omega]

theorem pmReadAct_read {e : Entity} {n : Nat} {s : State} (hon : (s.mon e).cfg.enable = 1) (hn : n ≤ 96 ∨ 100 ≤ n ∧ n ≤ 107) :
    pmReadAct e n s = .ok (pmReadFields e n s) s := by
  have hbin : (96 < n && outside 100 107 n) = false := by
    rw [Bool.and_eq_false_iff, outside_eq_false, decide_eq_false_iff_not]
    omega
  simp [pmReadAct, hon, hbin]

/-- Settles O3: each read's own rules answer and leave the state as it is. -/
theorem statusReadsAnswer : Obligations.StatusReadsAnswer := by
  refine ⟨fun h s hs => ⟨readsAs_of_serve hs rfl rfl rfl rfl, readsAs_of_serve hs rfl rfl rfl (busStatusAct_read h.port s),
      ?lane, ?sdh, ?cpri⟩,
    fun h s hs => ⟨readsAs_of_serve hs rfl rfl rfl rfl, ?input, readsAs_of_serve hs rfl rfl rfl rfl, ?power, ?tally,
      readsAs_of_serve hs rfl rfl rfl rfl⟩⟩
  case lane =>
    intro n hn
    exact readsAs_of_serve hs rfl rfl rfl (if_neg (by simp [hn]))
  case sdh =>
    intro n hn hon hmode g hg
    have hline : isLineLane n = true := decide_eq_true (by omega)
    have hplace : ¬ (191 < g ∧ g ≠ 0xFFFF) := by omega
    have hreadable : sdhReadable n s = true := by simp [sdhReadable, hmode, hon]
    have hpath : noPath n g s = false := by
      rcases hg with rfl | ⟨hle, htype⟩
      · rfl
      · simp [noPath, htype, hle]
    exact ⟨readsAs_of_serve hs rfl rfl rfl (by simp [hline, hplace, hreadable, hpath]),
      readsAs_of_serve hs rfl rfl rfl (by simp [hline, hplace, hreadable, hpath])⟩
  case cpri =>
    intro n hn hon hmode
    have hline : isLineLane n = true := decide_eq_true (by omega)
    exact readsAs_of_serve hs rfl rfl rfl (by simp [hline, hmode, hon])
  case input =>
    intro i hi
    exact readsAs_of_serve hs rfl rfl rfl (if_neg (by simp [hi]))
  case power =>
    intro r hr
    exact readsAs_of_serve hs rfl rfl rfl (if_neg (by simp [hr]))
  case tally =>
    intro first count hlo hhi
    exact readsAs_of_serve hs rfl rfl rfl (tallyReadAct_read s hlo hhi)

/-- Settles O4: as O3; a pm read of bins that are not kept answers OK by log 54. -/
theorem fabricReadsAnswer : Obligations.FabricReadsAnswer := by
  intro h s hs
  refine ⟨?comb, ?super, ?brood, ?nurse, ?pool, ?prot, ?pm⟩
  case comb =>
    intro port hport
    have hreal : ¬ (423 < port ∧ port ≠ 0xFFFF) := by omega
    exact readsAs_of_serve hs rfl rfl rfl (if_neg (by simpa using hreal))
  case super =>
    intro a htier hport hlo hhi
    exact readsAs_of_serve hs rfl rfl rfl (combReadAct_super s htier hport hlo hhi)
  case brood =>
    intro a htier hport hlo hhi hend
    exact readsAs_of_serve hs rfl rfl rfl (combReadAct_brood s htier hport hlo hhi hend)
  case nurse =>
    intro a hb hg hclear hmissing
    exact readsAs_of_serve hs rfl (by simp [hclear]) rfl (by simp [hclear, hmissing, hb, hg])
  case pool =>
    intro slot member hslot hmember
    have hreal : ¬ (255 < member ∧ member ≠ 0xFFFF) := by omega
    exact readsAs_of_serve hs rfl rfl rfl (if_neg (by simpa [hslot] using hreal))
  case prot =>
    intro n hn
    exact readsAs_of_serve hs rfl rfl rfl (if_neg (by simp [hn]))
  case pm =>
    intro e n hon hn
    exact readsAs_of_serve hs rfl rfl rfl (pmReadAct_read hon hn)

/-- Settles O59: the reset state is concrete; only the claims about each entry, lane and slot of its empty tables need their default. -/
theorem resetState : Obligations.ResetState := by
  refine ⟨rfl, rfl, rfl, rfl, rfl, rfl, rfl, rfl, ?entries, ?lanes, ?pool, rfl, rfl, rfl, rfl⟩
  case entries => exact fun _ => rfl
  case lanes => exact fun _ => rfl
  case pool => exact fun _ => rfl

end Sys2Proof.Machine
end

section
/-!
PROOFS. The BAR2 window (13 R386; 15 R487) and the channel that it is on: O31 fails.
-/

namespace Sys2Proof.Machine

open Sys2Proof

/-- Host port A up, with the BAR2 window on channel 42, which is in service; the device has the channels 0 to 3 (08 R254). Counter 0 of the
tally counts the bus accesses of every unit (event 96) and stands at its last count (16 R509). -/
def strayWindow : State where
  ports := [(0, { linkUp := true })]
  pool := { channels := [(42, { state := 0 })], window := some 42 }
  tally := { counters := [(0, { cfg := BitVec.ofNat 64 (96 + 2 ^ 8 + 2 ^ 11), count := 2 ^ 48 - 1 })] }

/-- A read of one byte that meets an uncorrectable error raises source 76 + 4 · 42 = 244. The access is counted too: the counter passes its
last count, and the overflow sources follow their pairs of counters, so source 244, that of counters 2 and 3, is driven low. -/
theorem strayWindow_read_hides :
    ¬ (counted strayWindow (bar2Access 0 0 none 1 true strayWindow)).shows (76 + 4 * 42) := by decide +kernel

/-- Refutes O31, by its clause on a read that meets an uncorrectable error. The clause leaves the number of the window's channel free, and
asks that source 76 + 4 d shows; with the window on channel 42 that is the overflow source of counters 2 and 3, which the count of this very
access drives low. What fails is the missing bound on the channel: the sources of the channels that the device has are 76, 80, 84 and 88. -/
theorem not_bar2Accesses : ¬ Obligations.Bar2Accesses := by
  unfold Obligations.Bar2Accesses
  intro h
  obtain ⟨-, hread, -⟩ := h 0 42 0 strayWindow (by decide)
  obtain ⟨-, hfails⟩ := hread 1 true (by decide) (by decide) (by decide) rfl (by decide) (by decide)
  obtain ⟨t, ht, -, -, -, -, -, hshows⟩ := hfails (.inl rfl)
  obtain rfl : counted strayWindow (bar2Access 0 0 none 1 true strayWindow) = t := Host.Outcome.next.inj ht
  exact strayWindow_read_hides hshows

end Sys2Proof.Machine
end

section
/-!
PROOFS. A tally counter that passes its last count (16 R509) and the events which that brings: O36 fails.
-/

namespace Sys2Proof.Machine

open Sys2Proof

/-- Lane 0 listed twice, aligned and not aligned, as no canonical table lists it; counter 0 of the tally counts the lanes that lose their
alignment (event 6). -/
def laneTwice : State where
  lanes := [(0, { aligned := true }), (0, {})]
  tally := { counters := [(0, { cfg := BitVec.ofNat 64 (6 + 2 ^ 8 + 2 ^ 11) })] }

/-- Every step on that state counts one loss of alignment: the second record of the lane is compared with the first. A clear of the counter
is such a step, so the counter stands at 1 after it. -/
theorem laneTwice_clear_counts : ((counted laneTwice (tallyClear 1 laneTwice)).counter 0).count = 1 := by decide +kernel

/-- Refutes O36, by its clause on TL_CLEAR. The clause takes every state, and has the cleared counter stand at 0 after the step; the step's
events are counted after the clear, and on a state whose lane table lists lane 0 twice a step that
changes no lane counts a loss of alignment.
What fails is the missing condition that the tables are canonical, or that the step has no event of the counter. -/
theorem not_tallyRegisters : ¬ Obligations.TallyRegisters := by
  unfold Obligations.TallyRegisters
  intro h
  obtain ⟨-, -, hclear, -, -⟩ := h laneTwice
  obtain ⟨t, ht, -, hcount⟩ := hclear 1 0 (by decide)
  obtain rfl : counted laneTwice (tallyClear 1 laneTwice) = t := Host.Outcome.next.inj ht
  rw [laneTwice_clear_counts] at hcount
  exact absurd hcount (by decide)

end Sys2Proof.Machine
end

section
/-!
PROOFS. The commands that wait for a security operation to end (17 R538): O57 fails.
-/

namespace Sys2Proof.Machine

open Sys2Proof

/-- A sec.update of port B on queue 64, where a port has the queues 0 to 3 (13 R389): a header that no well-formed command has. -/
def strayActivate : Waiter := ⟨{ port := 1, queue := 64, seq := 0, tag := 0 }, 15, 6, .update⟩

/-- The block with that command waiting to activate an update. -/
def strayActivates : State := { sec := { activating := some strayActivate } }

/-- Its answer drives source 131 + 16 + 64 = 211, the Guard's first. -/
theorem strayActivate_marks_guard : (activateExpires strayActivates).guard.events = 1 :=
  publishRsp_guard_events _ _ rfl (by decide) rfl

/-- Refutes O57, by its clause on ACTIVATE_WAIT_EXPIRY. The clause takes the command that waits as it comes and leaves its header free, but
lists no part of the Guard among those that may change: with sec.update waiting on queue 64 of port B, the answer drives source 211 and so
sets bit 0 of GD_EVENTS. What fails is the missing bound on the header's port and queue. -/
theorem not_securityEvents : ¬ Obligations.SecurityEvents := by
  unfold Obligations.SecurityEvents
  intro h
  obtain ⟨-, -, -, hactivate, -⟩ := h strayActivates
  obtain ⟨t, ht, honly, -⟩ := hactivate strayActivate rfl
  obtain rfl : counted strayActivates (activateExpires strayActivates) = t := Host.Outcome.next.inj ht
  have hguard : (activateExpires strayActivates).guard = strayActivates.guard := (counted_guard _ _).symm.trans (honly .guard (by decide))
  have hclear : strayActivates.guard.events = 0 := rfl
  have hmark := strayActivate_marks_guard
  rw [hguard, hclear] at hmark
  exact absurd hmark (by decide)

end Sys2Proof.Machine
end

section
/-!
PROOFS. The queues of a host port (13 R390, R397-R400): each command writes one queue and the source that goes with it. O27, O28.
-/

namespace Sys2Proof.Machine

open Sys2Proof

/-! ### A step of the block: what counting its events leaves -/

@[simp] theorem port_counted (s t : State) (p : Nat) : (counted s t).port p = t.port p := port_eq (counted_ports s t) p
@[simp] theorem sem_counted (s t : State) (n : Nat) : (counted s t).sem n = t.sem n := by simp [State.sem]
@[simp] theorem chal_counted (s t : State) (p : Nat) : (counted s t).chal p = t.chal p := by simp [State.chal]
@[simp] theorem evStack_counted (s t : State) : (counted s t).ev.evStack = t.ev.evStack :=
  counted_part (fun s => s.ev.evStack) (fun _ _ => rfl) (fun s p b _ => (driveSrc_ev (243 + p) b s).1) s t
@[simp] theorem stackOf_counted (s t : State) (c : Nat) : (counted s t).stackOf c = t.stackOf c := by simp [State.stackOf]
@[simp] theorem portUp_counted (s t : State) (p : Nat) : (counted s t).portUp p = t.portUp p := by simp [State.portUp]

/-- What the command itself changes is what the step changes, but for the tally counters and their sources. -/
theorem counted_changes {ps qs : List Part} {s t : State} (h : onlyChanges ps s t) (hsub : ps ++ [.ev, .tally] ⊆ qs := by decide) :
    onlyChanges qs s (counted s t) := onlyChanges_mono (onlyChanges_append h (counted_only s t)) hsub

/-! ### Host ports -/

theorem onCmdQ_only (s : State) (p q : Nat) (f : CmdQueue → CmdQueue) : onlyChanges [.ports] s (s.onCmdQ p q f) := onPort_only s p _
theorem onRspQ_only (s : State) (p q : Nat) (f : RspQueue → RspQueue) : onlyChanges [.ports] s (s.onRspQ p q f) := onPort_only s p _
theorem onRing_only (s : State) (p n : Nat) (f : Ring → Ring) : onlyChanges [.ports] s (s.onRing p n f) := onPort_only s p _
theorem onSem_only (s : State) (n : Nat) (f : Sem → Sem) : onlyChanges [.sems] s (s.onSem n f) := by
  intro p hp
  cases p <;> simp_all [Part.same]

theorem setRead_only (p : Nat) (v : Word) (s : State) : onlyChanges [.ports] s (setRead p v s) := onPort_only s p _

@[simp] theorem port_onPort_same (s : State) (p : Nat) (f : WgPort → WgPort) : (s.onPort p f).port p = f (s.port p) := by
  simp [port_onPort]

theorem port_onPort_ne (s : State) {p r : Nat} (f : WgPort → WgPort) (h : r ≠ p) : (s.onPort p f).port r = s.port r := by
  simp [port_onPort, h]

@[simp] theorem port_raise (n p : Nat) (s : State) : (raise n s).port p = s.port p := port_eq (by simp) p
@[simp] theorem port_raiseIf (b : Bool) (n p : Nat) (s : State) : (raiseIf b n s).port p = s.port p := port_eq (by simp) p
@[simp] theorem port_driveSrc (n : Nat) (b : Bool) (p : Nat) (s : State) : (driveSrc n b s).port p = s.port p := port_eq (by simp) p
@[simp] theorem port_tick (code unit n p : Nat) (s : State) : (tick code unit n s).port p = s.port p := by
  obtain ⟨k, hk⟩ := tick_only code unit n s
  rw [hk]
  rfl

@[simp] theorem port_onSem (n p : Nat) (f : Sem → Sem) (s : State) : (s.onSem n f).port p = s.port p := rfl
@[simp] theorem port_setBatch (p r : Nat) (b : Option Batch) (s : State) : (s.setBatch p b).port r = s.port r := rfl
@[simp] theorem port_onBus (p : Nat) (f : Bus → Bus) (s : State) : (s.onBus f).port p = s.port p := rfl

@[simp] theorem cmdOf_onCmdQ_same (s : State) (p q : Nat) (f : CmdQueue → CmdQueue) :
    ((s.onCmdQ p q f).port p).cmdOf q = f ((s.port p).cmdOf q) := by
  simp [State.onCmdQ, WgPort.cmdOf]

@[simp] theorem rspOf_onRspQ_same (s : State) (p q : Nat) (f : RspQueue → RspQueue) :
    ((s.onRspQ p q f).port p).rspOf q = f ((s.port p).rspOf q) := by
  simp [rspOf_onRspQ]

@[simp] theorem ringOf_onRing_same (s : State) (p n : Nat) (f : Ring → Ring) :
    ((s.onRing p n f).port p).ringOf n = f ((s.port p).ringOf n) := by
  simp [State.onRing, WgPort.ringOf]

@[simp] theorem setRead_data (p : Nat) (v : Word) (s : State) : ((setRead p v s).port p).readData = v := by simp [setRead]
@[simp] theorem setRead_cmdOf (p q : Nat) (v : Word) (s : State) : ((setRead p v s).port p).cmdOf q = (s.port p).cmdOf q := by
  simp [setRead, WgPort.cmdOf]
@[simp] theorem setRead_rspOf (p q : Nat) (v : Word) (s : State) : ((setRead p v s).port p).rspOf q = (s.port p).rspOf q := by
  simp [setRead, WgPort.rspOf]
@[simp] theorem setRead_ntf (p : Nat) (v : Word) (s : State) : ((setRead p v s).port p).ntf = (s.port p).ntf := by simp [setRead]

theorem portUp_lt {s : State} {p : Nat} (h : s.portUp p = true) : p < 2 := by
  simp only [State.portUp, Bool.and_eq_true, decide_eq_true_eq] at h
  exact h.1.1

/-- The sources of a port's own events have no sticky copy (13 R421). -/
theorem portSrc_plain {p k : Nat} (hp : p < 2) (hk : k < 16) : plainSrc (portSrc p k) := by
  unfold plainSrc portSrc
  omega

theorem portSrc_counts {p k : Nat} (hp : p < 2) (hk : k < 16) : portSrc p k < 243 ∨ 274 < portSrc p k := by
  unfold portSrc
  omega

/-! ### Pushes (13 R390, R397) -/

theorem wgStart_whole {p q : Nat} {s : State} (d : Word) (hup : s.portUp p = true) (hq : q < 4) :
    wgStart p q .whole d s = startWord p q d (s.onCmdQ p q fun c => { c with startLo := none }) :=
  if_neg (by simp [hup, hq])

theorem wgPush_whole {p q : Nat} {s : State} (d : Word) (hup : s.portUp p = true) (hq : q < 4) :
    wgPush p q .whole d s = pushWord p q d (s.onCmdQ p q fun c => { c with pushLo := none }) :=
  if_neg (by simp [hup, hq])

/-- A START with no message open stores its word and opens one of the length it gives. -/
theorem startWord_stores {p q : Nat} {d : Word} {s : State} (hflush : ((s.port p).cmdOf q).flush = false)
    (hroom : ((s.port p).cmdOf q).words.length < 8192) :
    startWord p q d s = s.onCmdQ p q fun c => storeWord { data := d, start := true }
      (if lengthOk (d.toNat % 65536) then .counted (d.toNat % 65536 / 8 - 1) else .endless) (closeOpen c) := by
  unfold startWord
  dsimp only
  rw [if_neg (by simp [hflush]), if_neg (by omega)]

theorem pushWord_stores {p q k : Nat} {d : Word} {s : State} (hflush : ((s.port p).cmdOf q).flush = false)
    (hroom : ((s.port p).cmdOf q).words.length < 8192) (hmsg : ((s.port p).cmdOf q).msg = .counted k) :
    pushWord p q d s = s.onCmdQ p q (storeWord { data := d } (if k ≤ 1 then .closed else .counted (k - 1))) := by
  unfold pushWord
  dsimp only
  rw [if_neg (by simp [hflush]), if_neg (by simp [hmsg]), if_neg (by omega), hmsg]

theorem pushWord_drops {p q : Nat} {d : Word} {s : State} (hflush : ((s.port p).cmdOf q).flush = false)
    (hmsg : ((s.port p).cmdOf q).msg = .closed) : pushWord p q d s = dropPush p q id s := by
  unfold pushWord
  dsimp only
  rw [if_neg (by simp [hflush]), if_pos hmsg]

/-- Settles O27: with no flush waiting the three writes are a stored START, a stored PUSH and a dropped PUSH, each on the queue with its
latched half forgotten. -/
theorem commandQueueWrites : Obligations.CommandQueueWrites := by
  intro p q d s hup hopen hq hflush
  have hp := portUp_lt hup
  refine ⟨fun hroom hmsg => ?start, fun k hroom hmsg => ?push, fun hmsg => ?dropped⟩
  case start =>
    have heq : barAccess p (0x1000 + 0x40 * q) (wgStart p q .whole d) s = _ :=
      (barAccess_open hopen _ _).trans ((wgStart_whole d hup hq).trans (startWord_stores (by simpa using hflush) (by simpa using hroom)))
    refine ⟨_, congrArg (done s) heq, counted_changes (onlyChanges_trans (onCmdQ_only s p q _) (onCmdQ_only _ p q _)), ?_, ?_⟩
    · simp [storeWord, closeOpen, hmsg]
    · simp [storeWord]
  case push =>
    have heq : barAccess p (0x1008 + 0x40 * q) (wgPush p q .whole d) s = _ :=
      (barAccess_open hopen _ _).trans ((wgPush_whole d hup hq).trans
        (pushWord_stores (by simpa using hflush) (by simpa using hroom) (by simpa using hmsg)))
    refine ⟨_, congrArg (done s) heq, counted_changes (onlyChanges_trans (onCmdQ_only s p q _) (onCmdQ_only _ p q _)), ?_, ?_⟩ <;>
      simp [storeWord]
  case dropped =>
    have heq : barAccess p (0x1008 + 0x40 * q) (wgPush p q .whole d) s = _ :=
      (barAccess_open hopen _ _).trans ((wgPush_whole d hup hq).trans (pushWord_drops (by simpa using hflush) (by simpa using hmsg)))
    refine ⟨_, congrArg (done s) heq, counted_changes (onlyChanges_append (onlyChanges_trans (onCmdQ_only s p q _) (onCmdQ_only _ p q _))
      (raise_only (portSrc_plain hp (by decide)) _)), ?_, ?_, ?_, ?_⟩
    · simp [dropPush]
    · simp [dropPush]
    · simp [dropPush]
    · exact (shows_counted _ s _ (portSrc_counts hp (by decide))).mpr (shows_raise _ _)

/-! ### Pops (13 R390, R399) -/

theorem popHost_whole {p r : Nat} {s : State} (hup : s.portUp p = true) (hr : r < 5) :
    popHost p r .whole s = setRead p (popWord p r s).1 (popWord p r s).2 := if_neg (by simp [hup, hr])

theorem onHostQueue_only (p r : Nat) (f : RspQueue → RspQueue) (s : State) : onlyChanges [.ports] s (onHostQueue p r f s) := by
  unfold onHostQueue
  split_ifs
  · exact onRspQ_only s p r f
  · exact onPort_only s p _

@[simp] theorem hostQueue_onHostQueue_same (p r : Nat) (f : RspQueue → RspQueue) (s : State) :
    hostQueue ((onHostQueue p r f s).port p) r = f (hostQueue (s.port p) r) := by
  unfold hostQueue onHostQueue
  split_ifs <;> simp

theorem hostQueue_rsp {w : WgPort} {r : Nat} (hr : r < 4) : hostQueue w r = w.rspOf r := if_pos hr
theorem hostQueue_ntf (w : WgPort) : hostQueue w 4 = w.ntf := rfl

@[simp] theorem setRead_hostQueue (p r : Nat) (v : Word) (s : State) :
    hostQueue ((setRead p v s).port p) r = hostQueue (s.port p) r := by
  simp [hostQueue]

theorem poppable_of_no_flush {x : RspQueue} (h : x.flush = false) : poppable x = x.words := by simp [poppable, h]

theorem poppable_empty {x : RspQueue} (h : x.words = []) : poppable x = [] := by simp [poppable, h]

/-- A line goes low on a condition. -/
def lowIf (b : Bool) (n : Nat) (s : State) : State := if b then driveSrc n false s else s

theorem lowIf_only {n : Nat} (hn : plainSrc n) (b : Bool) (s : State) : onlyChanges [.ev] s (lowIf b n s) := by
  cases b with
  | true => exact driveSrc_only hn false s
  | false => exact onlyChanges_refl _ s

@[simp] theorem port_lowIf (b : Bool) (n p : Nat) (s : State) : (lowIf b n s).port p = s.port p := by
  cases b <;> simp [lowIf]

/-- A pop takes the first word of its queue, and drives the queue's source low with the last one. -/
theorem popWord_takes {p r : Nat} {w : QWord} {rest : List QWord} {s : State} (hflush : (hostQueue (s.port p) r).flush = false)
    (hwords : (hostQueue (s.port p) r).words = w :: rest) :
    popWord p r s = (w.data, lowIf (decide (rest = [])) (portSrc p r) (onHostQueue p r (fun x => { x with words := rest }) s)) := by
  unfold popWord
  rw [poppable_of_no_flush hflush, hwords]
  simp [lowIf]

theorem popWord_empty {p r : Nat} {s : State} (hwords : (hostQueue (s.port p) r).words = []) :
    popWord p r s = (emptyWord, tick 118 p 1 s) := by
  unfold popWord
  rw [poppable_empty hwords]

/-- A whole pop of a host queue that holds a word and waits for no flush. -/
theorem popHost_takes {p r : Nat} {w : QWord} {rest : List QWord} {s : State} (hup : s.portUp p = true) (hr : r < 5)
    (hflush : (hostQueue (s.port p) r).flush = false) (hwords : (hostQueue (s.port p) r).words = w :: rest) :
    onlyChanges [.ports, .ev] s (popHost p r .whole s) ∧ ((popHost p r .whole s).port p).readData = w.data ∧
      (hostQueue ((popHost p r .whole s).port p) r).words = rest ∧
      (r < 4 → ((popHost p r .whole s).port p).ntf = (s.port p).ntf) := by
  rw [popHost_whole hup hr, popWord_takes hflush hwords]
  have hplain : plainSrc (portSrc p r) := portSrc_plain (portUp_lt hup) (by omega)
  refine ⟨onlyChanges_mono (onlyChanges_append (onlyChanges_append (onHostQueue_only p r _ s) (lowIf_only hplain _ _))
    (setRead_only p _ _)) (by decide), by simp, by simp, fun hr4 => ?_⟩
  simp [onHostQueue, hr4, State.onRspQ]

/-! ### Flushes (13 R400) -/

theorem hostFlush_requests {p k lo n : Nat} {s : State} (hup : s.portUp p = true) (hk : k < n) :
    hostFlush p k lo n s = requestFlush p (lo + k) s := if_pos (by simp [hup, hk])

theorem requestFlush_only (p k : Nat) (s : State) : onlyChanges [.ports] s (requestFlush p k s) := by
  unfold requestFlush
  split_ifs
  · exact onCmdQ_only s p k _
  · exact onRspQ_only s p _ _
  · exact onPort_only s p _

theorem requestFlush_cmdOf {p q : Nat} (hq : q < 4) (s : State) :
    ((requestFlush p q s).port p).cmdOf q = { (s.port p).cmdOf q with flush := true } := by
  rw [requestFlush, if_pos hq, cmdOf_onCmdQ_same]

theorem requestFlush_rspOf {p r : Nat} (hr : r < 4) (s : State) :
    ((requestFlush p (4 + r) s).port p).rspOf r = { (s.port p).rspOf r with flush := true } := by
  rw [requestFlush, if_neg (by omega), if_pos (by omega), Nat.add_sub_cancel_left, rspOf_onRspQ_same]

theorem requestFlush_ntf (p : Nat) (s : State) : ((requestFlush p 8 s).port p).ntf = { (s.port p).ntf with flush := true } := by
  simp [requestFlush]

/-- A command queue at its message boundary is emptied; one that had been full shows that it has room again (13 R421). -/
theorem flushEnds_cmd {p q : Nat} {s : State} (hp : p < 2) (hq : q < 4) (hflush : ((s.port p).cmdOf q).flush = true)
    (hbegun : isBegun ((s.port p).cmdOf q) = false) :
    flushEnds p q s = raiseIf ((s.port p).cmdOf q).wasFull (portSrc p 7) (s.onCmdQ p q fun c =>
      { c with words := [], msg := .closed, flush := false, late := 0, wasFull := false }) := by
  unfold flushEnds
  rw [if_neg (by simp; omega), if_pos hq]
  dsimp only
  rw [if_pos (by simp [hflush, hbegun])]

theorem flushEnds_rsp {p r : Nat} {s : State} (hp : p < 2) (hr : r < 4) (hflush : ((s.port p).rspOf r).flush = true)
    (hbound : atBoundary ((s.port p).rspOf r) = true) :
    flushEnds p (4 + r) s = driveSrc (portSrc p r) false (s.onRspQ p r fun x => { x with words := [], flush := false }) := by
  unfold flushEnds
  rw [if_neg (by simp; omega), if_neg (by omega), Nat.add_sub_cancel_left, hostQueue_rsp hr]
  dsimp only
  rw [if_pos (by simp [hflush, hbound]), onHostQueue, if_pos hr]

theorem raiseIf_plain {n : Nat} (hn : plainSrc n) (b : Bool) (s : State) : onlyChanges [.ev] s (raiseIf b n s) := by
  cases b with
  | true => exact raise_only hn s
  | false => exact onlyChanges_refl _ s

/-! ### A message that stalls under cut-through (13 R398) -/

theorem dropHead_only {p : Nat} (hp : p < 2) (q : Nat) (s : State) : onlyChanges [.ports, .ev] s (dropHead p q s) :=
  onlyChanges_append (onCmdQ_only s p q _) (raiseIf_plain (portSrc_plain hp (by decide)) _ _)

theorem dropHead_cmdOf (p q : Nat) (s : State) : ((dropHead p q s).port p).cmdOf q = { (s.port p).cmdOf q with
    words := ((s.port p).cmdOf q).words.drop (headMessage ((s.port p).cmdOf q).words).length
    late := ((s.port p).cmdOf q).late - (headMessage ((s.port p).cmdOf q).words).length
    wasFull := ((s.port p).cmdOf q).wasFull && !(((s.port p).cmdOf q).wasFull &&
      decide ((((s.port p).cmdOf q).words.drop (headMessage ((s.port p).cmdOf q).words).length).length < 4096)) } := by
  simp [dropHead]

theorem publishRsp_only {p q : Nat} (hp : p < 2) (hq : q < 4) (m : List QWord) (s : State) :
    onlyChanges [.ports, .ev] s (publishRsp p q m s) := by
  unfold publishRsp
  split_ifs
  · exact onlyChanges_refl _ s
  · exact onlyChanges_append (onRspQ_only s p q _) (driveSrc_only (portSrc_plain hp (by omega)) true _)

theorem publishRsp_cmdOf (p q k : Nat) (m : List QWord) (s : State) :
    ((publishRsp p q m s).port p).cmdOf k = (s.port p).cmdOf k := by
  unfold publishRsp
  split_ifs
  · rfl
  · rw [port_driveSrc]
    simp [State.onRspQ, WgPort.cmdOf]

theorem discardBroken_only {h : Hdr} (hp : h.port < 2) (hq : h.queue < 4) (m : List QWord) (s : State) :
    onlyChanges [.tally, .ports, .ev] s (discardBroken h m s) := by
  have ht : onlyChanges [.tally, .ports, .ev] s (raise (portSrc h.port 6)
      ((tick 117 h.port 1 s).onCmdQ h.port h.queue fun c => { c with broken := true })) :=
    onlyChanges_append (onlyChanges_append (tick_only_tally 117 h.port 1 s) (onCmdQ_only _ _ _ _))
      (raise_only (portSrc_plain hp (by decide)) _)
  unfold discardBroken
  dsimp only
  split_ifs
  · exact ht
  all_goals exact onlyChanges_trans ht (onlyChanges_mono (publishRsp_only hp hq _ _) (by decide))

theorem discardBroken_cmdOf (h : Hdr) (m : List QWord) (s : State) :
    ((discardBroken h m s).port h.port).cmdOf h.queue = { (s.port h.port).cmdOf h.queue with broken := true } := by
  unfold discardBroken
  dsimp only
  split_ifs <;> simp [publishRsp_cmdOf]

/-- Settles O28: each pop is the one equation of a queue that holds a word or none, a request sets its flag, and the two ends (of a flush,
of a stall) write the one queue they name. -/
theorem queueReadsAndFlushes : Obligations.QueueReadsAndFlushes := by
  refine ⟨fun p s hup hopen => ⟨?response, ?notification, ?empty⟩,
    fun p s hup => ⟨?cmdRequest, ?rspRequest, ?ntfRequest, ?cmdDone, ?rspDone, ?stall⟩⟩
  case response =>
    intro r w rest hr hflush hwords
    obtain ⟨honly, hdata, hrest, hntf⟩ := popHost_takes hup (by omega : r < 5) (by rwa [hostQueue_rsp hr]) (by rwa [hostQueue_rsp hr])
    have heq : (if r < 4 then barAccess p (0x1100 + 0x40 * r) (popHost p r .whole) s else s) = popHost p r .whole s :=
      (if_pos hr).trans (barAccess_open hopen _ _)
    exact ⟨_, congrArg (done s) heq, counted_changes honly, by simpa using hdata, by simpa [hostQueue_rsp hr] using hrest,
      by simpa using hntf hr⟩
  case notification =>
    intro w rest hflush hwords
    obtain ⟨honly, hdata, hrest, -⟩ := popHost_takes (r := 4) hup (by decide) hflush hwords
    exact ⟨_, congrArg (done s) (barAccess_open hopen 0x1200 (popHost p 4 .whole)), counted_changes honly, by simpa using hdata,
      by simpa [hostQueue_ntf] using hrest⟩
  case empty =>
    intro r hr hwords
    have heq : (if r < 4 then barAccess p (0x1100 + 0x40 * r) (popHost p r .whole) s else s) = setRead p emptyWord (tick 118 p 1 s) := by
      rw [if_pos hr, barAccess_open hopen, popHost_whole hup (by omega), popWord_empty (by rwa [hostQueue_rsp hr])]
    exact ⟨_, congrArg (done s) heq, counted_changes (onlyChanges_append (tick_only_tally 118 p 1 s) (setRead_only p _ _)),
      by simp [emptyWord], by simp⟩
  case cmdRequest =>
    intro q hopen hq
    have heq : barAccess p (0x1018 + 0x40 * q) (hostFlush p q 0 4) s = requestFlush p q s := by
      rw [barAccess_open hopen, hostFlush_requests hup hq, Nat.zero_add]
    exact ⟨_, congrArg (done s) heq, counted_changes (requestFlush_only p q s), by simp [requestFlush_cmdOf hq]⟩
  case rspRequest =>
    intro r hopen hr
    have heq : barAccess p (0x1118 + 0x40 * r) (hostFlush p r 4 4) s = requestFlush p (4 + r) s := by
      rw [barAccess_open hopen, hostFlush_requests hup hr]
    exact ⟨_, congrArg (done s) heq, counted_changes (requestFlush_only p _ s), by simp [requestFlush_rspOf hr]⟩
  case ntfRequest =>
    intro hopen
    have heq : barAccess p 0x1218 (hostFlush p 0 8 1) s = requestFlush p 8 s := by
      rw [barAccess_open hopen, hostFlush_requests hup (by decide)]
    exact ⟨_, congrArg (done s) heq, counted_changes (requestFlush_only p _ s), by simp [requestFlush_ntf]⟩
  case cmdDone =>
    intro q hq hflush hbegun
    refine ⟨_, congrArg (done s) (flushEnds_cmd (portUp_lt hup) hq hflush hbegun), counted_changes (onlyChanges_append
      (onCmdQ_only s p q _) (raiseIf_plain (portSrc_plain (portUp_lt hup) (by decide)) _ _)), ?_, ?_, ?_⟩ <;> simp
  case rspDone =>
    intro r hr hflush hbound
    exact ⟨_, congrArg (done s) (flushEnds_rsp (portUp_lt hup) hr hflush hbound), counted_changes (onlyChanges_append
      (onRspQ_only s p r _) (driveSrc_only (portSrc_plain (portUp_lt hup) (by omega)) _ _)), by simp⟩
  case stall =>
    intro q hq hserving hbegun
    have hp := portUp_lt hup
    have heq : stallEnds p q s = discardBroken (headerOf p q (0 < ((s.port p).cmdOf q).late) 0 (headMessage ((s.port p).cmdOf q).words))
        (headMessage ((s.port p).cmdOf q).words) (dropHead p q (s.onCmdQ p q fun c => { c with msg := .closed })) :=
      if_pos (by simp [hp, hq, hserving, hbegun])
    have honly := onlyChanges_append (onlyChanges_append (onCmdQ_only s p q fun c => { c with msg := .closed }) (dropHead_only hp q _))
      (discardBroken_only (h := headerOf p q (0 < ((s.port p).cmdOf q).late) 0 (headMessage ((s.port p).cmdOf q).words)) hp hq
        (headMessage ((s.port p).cmdOf q).words) _)
    have hqueue := discardBroken_cmdOf (headerOf p q (0 < ((s.port p).cmdOf q).late) 0 (headMessage ((s.port p).cmdOf q).words))
      (headMessage ((s.port p).cmdOf q).words) (dropHead p q (s.onCmdQ p q fun c => { c with msg := .closed }))
    rw [show (headerOf _ _ _ _ _).port = p from rfl, show (headerOf _ _ _ _ _).queue = q from rfl, dropHead_cmdOf] at hqueue
    refine ⟨_, congrArg (done s) heq, counted_changes honly, ?_, ?_⟩ <;> rw [port_counted, hqueue] <;> simp

end Sys2Proof.Machine
end

section
/-!
PROOFS. What a chain of operations keeps: the parts that it changes, and every source that shows its event (14 R450).
-/

namespace Sys2Proof.Machine

open Sys2Proof

/-! ### What a chain of operations keeps -/

/-- `t` differs from `s` in the parts `ps` alone, and every source that `s` shows it shows too. -/
structure Keeps (ps : List Part) (s t : State) : Prop where
  parts : onlyChanges ps s t
  shows : ∀ n, s.shows n → t.shows n

theorem Keeps.refl (ps : List Part) (s : State) : Keeps ps s s := ⟨onlyChanges_refl ps s, fun _ h => h⟩

theorem Keeps.mono {ps qs : List Part} {s t : State} (h : Keeps ps s t) (hsub : ps ⊆ qs := by decide) : Keeps qs s t :=
  ⟨onlyChanges_mono h.parts hsub, h.shows⟩

theorem Keeps.trans {ps : List Part} {s t u : State} (hst : Keeps ps s t) (htu : Keeps ps t u) : Keeps ps s u :=
  ⟨onlyChanges_trans hst.parts htu.parts, fun n h => htu.shows n (hst.shows n h)⟩

theorem Keeps.append {ps qs : List Part} {s t u : State} (hst : Keeps ps s t) (htu : Keeps qs t u) : Keeps (ps ++ qs) s u :=
  ⟨onlyChanges_append hst.parts htu.parts, fun n h => htu.shows n (hst.shows n h)⟩

/-- An operation that leaves the sources keeps what they show. -/
theorem Keeps.of_only {ps : List Part} {s t : State} (h : onlyChanges ps s t) (hev : .ev ∉ ps := by decide) : Keeps ps s t :=
  ⟨h, fun n hshows => (shows_eq (h .ev hev) n).mpr hshows⟩

theorem Keeps.ite {ps : List Part} {s t u : State} {c : Prop} [Decidable c] (ht : Keeps ps s t) (hu : Keeps ps s u) :
    Keeps ps s (if c then t else u) := by
  split_ifs
  · exact ht
  · exact hu

theorem Keeps.when {ps : List Part} {s t : State} {c : Prop} [Decidable c] (ht : Keeps ps s t) : Keeps ps s (if c then t else s) :=
  .ite ht (.refl ps s)

theorem Keeps.foldl {α : Type} {ps : List Part} {f : State → α → State} (hf : ∀ s a, Keeps ps s (f s a)) (l : List α) (s : State) :
    Keeps ps s (l.foldl f s) :=
  List.foldlRecOn (motive := fun t => Keeps ps s t) l f (.refl ps s) fun t ht a _ => ht.trans (hf t a)

/-- The step counts its events on top, which drives none but the overflow sources 243 to 274 (16 R509). -/
theorem Keeps.counted {ps : List Part} {s t : State} (h : Keeps ps s t) {n : Nat} (hn : n < 243 ∨ 274 < n := by decide)
    (hshows : s.shows n) : (Machine.counted s t).shows n := (shows_counted n s t hn).mpr (h.shows n hshows)

/-- Sources that have no sticky copy (14 R449; 12 R378; 18 R559). -/
abbrev noCopy (n : Nat) : Prop := (n < 115 ∨ 130 < n) ∧ (n < 211 ∨ 242 < n) ∧ (n < 275 ∨ 290 < n)

/-- The parts that a source of any group writes: its own, and the sticky copies. -/
abbrev copyParts : List Part := [.ev, .hive, .guard, .power]

theorem raise_ev_only {n : Nat} (hn : noCopy n) (s : State) : onlyChanges [.ev] s (raise n s) := by
  obtain ⟨hhive, hguard, hpower⟩ := hn
  have h1 := raise_hive_same n s hhive
  have h2 := raise_guard_same n s hguard
  have h3 := raise_power_same n s hpower
  intro p hp
  cases p <;> simp_all [Part.same]

theorem raise_keeps (n : Nat) (s : State) : Keeps copyParts s (raise n s) := by
  refine ⟨fun p hp => ?_, fun m h => shows_raise_of n m s h⟩
  cases p <;> simp_all [Part.same]

theorem raise_keeps_ev {n : Nat} (hn : noCopy n) (s : State) : Keeps [.ev] s (raise n s) :=
  ⟨raise_ev_only hn s, fun m h => shows_raise_of n m s h⟩

theorem raiseIf_keeps (b : Bool) (n : Nat) (s : State) : Keeps copyParts s (raiseIf b n s) := by
  cases b with
  | true => exact raise_keeps n s
  | false => exact .refl _ s

theorem raiseIf_keeps_ev {n : Nat} (hn : noCopy n) (b : Bool) (s : State) : Keeps [.ev] s (raiseIf b n s) := by
  cases b with
  | true => exact raise_keeps_ev hn s
  | false => exact .refl _ s

/-- A line driven high shows where it goes to high. -/
theorem shows_driveSrc_high (n : Nat) (s : State) (h : s.shows n ∨ (s.src n).asserted = false) : (driveSrc n true s).shows n := by
  have hline : ((driveSrc n true s).src n).line =
      ({ s.src n with asserted := true, latch := (s.src n).latch || ((s.src n).edge && !(s.src n).asserted) } : Src).line := by
    unfold driveSrc
    dsimp only
    split <;> simp [sticky_src, setSrc_line]
  show Src.up _ = true
  rw [← up_line, hline, up_line]
  unfold State.shows Src.up at *
  dsimp only at *
  split_ifs at * with hedge
  · rcases h with hlatch | hlow
    · simp [hlatch]
    · simp [hlow, hedge]
  · rfl

theorem driveSrc_high_keeps (n : Nat) (s : State) : Keeps copyParts s (driveSrc n true s) := by
  refine ⟨fun p hp => ?_, fun m h => ?_⟩
  · cases p <;> simp_all [Part.same]
  · by_cases hm : m = n
    · subst hm
      exact shows_driveSrc_high m s (.inl h)
    · exact shows_driveSrc_of n m true s hm h

theorem driveSrc_high_keeps_ev {n : Nat} (hn : noCopy n) (s : State) : Keeps [.ev] s (driveSrc n true s) := by
  obtain ⟨hhive, hguard, hpower⟩ := hn
  have h1 := driveSrc_hive_same n true s hhive
  have h2 := driveSrc_guard_same n true s hguard
  have h3 := driveSrc_power_same n true s hpower
  refine ⟨fun p hp => ?_, (driveSrc_high_keeps n s).shows⟩
  cases p <;> simp_all [Part.same]

theorem portSrc_noCopy {p k : Nat} (hp : p < 2) (hk : k < 16) : noCopy (portSrc p k) := by
  unfold noCopy portSrc
  omega

theorem tick_keeps (code unit n : Nat) (s : State) : Keeps [.tally] s (tick code unit n s) := .of_only (tick_only_tally code unit n s)
theorem onPort_keeps (p : Nat) (f : WgPort → WgPort) (s : State) : Keeps [.ports] s (s.onPort p f) := .of_only (onPort_only s p f)
theorem onBus_keeps (f : Bus → Bus) (s : State) : Keeps [.bus] s (s.onBus f) := .of_only (onBus_only s f)
theorem onSem_keeps (n : Nat) (f : Sem → Sem) (s : State) : Keeps [.sems] s (s.onSem n f) := .of_only (onSem_only s n f)
theorem onGuard_keeps (f : Guard → Guard) (s : State) : Keeps [.guard] s (s.onGuard f) := .of_only (onGuard_only s f)

theorem onHive_only (s : State) (f : Hive → Hive) : onlyChanges [.hive] s (s.onHive f) := by
  intro p hp
  cases p <;> simp_all [Part.same]

theorem onHive_keeps (f : Hive → Hive) (s : State) : Keeps [.hive] s (s.onHive f) := .of_only (onHive_only s f)

theorem faultWith_keeps (detail code kind index : Nat) (s : State) :
    Keeps [.guard, .hive, .ports, .ev] s (faultWith detail code kind index s) :=
  ⟨(faultWith_acts detail code kind index s).parts, (faultWith_acts detail code kind index s).shows⟩

theorem fault_keeps (code kind index : Nat) (s : State) : Keeps [.guard, .hive, .ports, .ev] s (fault code kind index s) :=
  faultWith_keeps 0 code kind index s

/-- A notification to a port publishes or drops a message (13 R409). -/
theorem notifyPort_keeps (svc cmd : Nat) (fs : Fields) (s : State) {p : Nat} (hp : p < 2) :
    Keeps [.ports, .ev] s (notifyPort svc cmd fs s p) := by
  have hseq := onPort_keeps p (fun w => { w with ntfSeq := (w.ntfSeq + 1) % 65536 }) s
  have hdrop : ∀ f, Keeps [.ports, .ev] s
      (raise (portSrc p 5) ((s.onPort p fun w => { w with ntfSeq := (w.ntfSeq + 1) % 65536 }).onPort p f)) :=
    fun f => (hseq.append ((onPort_keeps p f _).append (raise_keeps_ev (portSrc_noCopy hp (by decide)) _))).mono
  unfold notifyPort
  dsimp only
  split_ifs
  · exact hseq.mono
  · exact (hseq.append ((onPort_keeps p _ _).append (driveSrc_high_keeps_ev (portSrc_noCopy hp (by decide)) _))).mono
  · exact hdrop _
  · exact hdrop _

theorem notify_keeps (svc cmd : Nat) (fs : Fields) (s : State) : Keeps [.ports, .ev] s (notify svc cmd fs s) :=
  (notifyPort_keeps svc cmd fs s (by decide)).trans (notifyPort_keeps svc cmd fs _ (by decide))

/-! ### What a fault leaves of a port: the value last read -/

theorem ringPut_readData (p n r : Nat) (rec : List Byte) (s : State) : ((ringPut p n rec s).port r).readData = (s.port r).readData := by
  unfold ringPut
  dsimp only
  split_ifs <;> simp only [port_raise, State.onRing, port_onPort] <;> split_ifs with h <;> simp [h]

theorem logFault_readData (code cls flags entry unit repeats detail r : Nat) (s : State) :
    ((logFault code cls flags entry unit repeats detail s).port r).readData = (s.port r).readData :=
  (ringPut_readData 1 6 r _ _).trans (ringPut_readData 0 6 r _ _)

@[simp] theorem port_onGuard (p : Nat) (f : Guard → Guard) (s : State) : (s.onGuard f).port p = s.port p := rfl
@[simp] theorem port_onHive (p : Nat) (f : Hive → Hive) (s : State) : (s.onHive f).port p = s.port p := rfl

theorem mirrorSend_port (rec : MirrorRec) (s : State) (r : Nat) : (mirrorSend rec s).port r = s.port r :=
  port_eq (mirrorSend_only rec s .ports (by decide)) r

theorem faultWith_readData (detail code kind index r : Nat) (s : State) :
    ((faultWith detail code kind index s).port r).readData = (s.port r).readData := by
  unfold faultWith
  dsimp only
  split
  · simp [logFault_readData]
  · split <;> simp [logFault_readData, mirrorSend_port]

end Sys2Proof.Machine
end

section
/-!
PROOFS. Semaphores, register accesses and DMA rings (13 R384-R388, R411-R420; 15 R474; 17 R519): O29, O30, O32.
-/

namespace Sys2Proof.Machine

open Sys2Proof

/-! ### Semaphores (13 R411-R413) -/

@[simp] theorem sem_onSem_same (s : State) (n : Nat) (f : Sem → Sem) : (s.onSem n f).sem n = f (s.sem n) := by simp [State.onSem, State.sem]

theorem sem_onSem_ne (s : State) {n m : Nat} (f : Sem → Sem) (h : m ≠ n) : (s.onSem n f).sem m = s.sem m := by
  simp [State.onSem, State.sem, tget_tput_ne _ _ _ h]

@[simp] theorem sem_onPort (s : State) (p n : Nat) (f : WgPort → WgPort) : (s.onPort p f).sem n = s.sem n := rfl
@[simp] theorem sem_setRead (p n : Nat) (v : Word) (s : State) : (setRead p v s).sem n = s.sem n := rfl
@[simp] theorem sem_raise (k n : Nat) (s : State) : (raise k s).sem n = s.sem n := by simp [State.sem]

theorem ownedBy_iff (m : Sem) (p : Nat) : m.ownedBy p = true ↔ m.owner = some (ownerOf p) := by simp [Sem.ownedBy]

theorem sem_renewLeases (p n : Nat) (s : State) : (renewLeases p s).sem n =
    if (s.sem n).ownedBy p then { s.sem n with left := (s.port p).lease } else s.sem n := by
  unfold State.sem renewLeases
  rw [tget_tmap]
  simp [Sem.ownedBy]

/-- A read of a semaphore that is free, or the reader's own, grants it. -/
theorem semAcquire_grants {p n : Nat} {s : State} (hup : s.portUp p = true) (hlo : 16 ≤ n) (hhi : n < 32)
    (hfree : (s.sem n).owner = none ∨ (s.sem n).owner = some (ownerOf p)) :
    semAcquire p n .whole false s = setRead p 0 (grantSem n p s) := by
  unfold semAcquire
  rw [if_neg (by simp [hup]; omega)]
  dsimp only
  rw [if_neg (by omega), if_neg, if_neg (by simp)]
  rcases hfree with hnone | hown
  · simp [hnone]
  · simp [Sem.ownedBy, hown]

theorem semAcquire_shows_owner {p n : Nat} {s : State} (hup : s.portUp p = true) (hlo : 16 ≤ n) (hhi : n < 32)
    (howned : (s.sem n).owner ≠ none) (hother : (s.sem n).owner ≠ some (ownerOf p)) :
    semAcquire p n .whole false s = setRead p (semWord s n) (tick 141 noUnit 1 s) := by
  unfold semAcquire
  rw [if_neg (by simp [hup]; omega)]
  dsimp only
  rw [if_neg (by omega), if_pos]
  simp [Sem.ownedBy, hother, Option.isSome_iff_ne_none, howned]

theorem semRelease_frees {p n : Nat} {s : State} (hup : s.portUp p = true) (hlo : 16 ≤ n) (hhi : n < 32)
    (hown : (s.sem n).owner = some (ownerOf p)) : semRelease p n s = freeSem n s :=
  if_pos (by simp [hup, hlo, hhi, Sem.ownedBy, hown])

theorem semRelease_ignores {p n : Nat} {s : State} (hother : (s.sem n).owner ≠ some (ownerOf p)) : semRelease p n s = s :=
  if_neg (by simp [Sem.ownedBy, hother])

theorem semRenew_renews {p : Nat} {s : State} (hup : s.portUp p = true) :
    semRenew p .whole s = setRead p (BitVec.ofNat 64 ((List.range 32).filter fun n => (s.sem n).ownedBy p).length) (renewLeases p s) :=
  if_neg (by simp [hup])

/-- A lease of a host semaphore that ends outside Quiesce frees it. -/
theorem leaseExpires_frees {p n : Nat} {s : State} (hlo : 16 ≤ n) (hhi : n < 32) (hown : (s.sem n).owner = some (ownerOf p))
    (hleft : (s.sem n).left = 0) (hmode : s.mode ≠ .quiesce) : leaseExpires n s = raise 169 (freeSem n s) := by
  have hport : ownerOf p = .portA ∨ ownerOf p = .portB := by unfold ownerOf; split_ifs <;> simp
  unfold leaseExpires
  dsimp only
  rw [if_pos, if_pos hlo]
  rcases hport with hp | hp <;> simp [hhi, hown, hleft, hmode, hp]

/-- Settles O29: a read grants the semaphore or shows its owner, and the other three write it or every lease of the port. -/
theorem semaphores : Obligations.Semaphores := by
  intro p n s hup hlo hhi
  refine ⟨fun hopen hfree => ?grants, fun hopen howned hother => ?shows, fun hopen hown => ?frees, fun hopen hother => ?ignores,
    fun hopen => ?renews, fun hown hleft hmode => ?expires⟩
  case grants =>
    have heq : barAccess p (0x4000 + 8 * n) (semAcquire p n .whole false) s = _ :=
      (barAccess_open hopen _ _).trans (semAcquire_grants hup hlo hhi hfree)
    refine ⟨_, congrArg (done s) heq, counted_changes (onlyChanges_append (onSem_only s n _) (setRead_only p 0 _)), by simp, ?_, ?_,
      fun m hm => ?_⟩
    · simp [grantSem]
    · simp [grantSem]
    · simp [grantSem, sem_onSem_ne s _ hm]
  case shows =>
    have heq : barAccess p (0x4000 + 8 * n) (semAcquire p n .whole false) s = _ :=
      (barAccess_open hopen _ _).trans (semAcquire_shows_owner hup hlo hhi howned hother)
    exact ⟨_, congrArg (done s) heq, counted_changes (onlyChanges_append (tick_only_tally 141 noUnit 1 s) (setRead_only p _ _)), by simp⟩
  case frees =>
    have heq : barAccess p (0x4000 + 8 * n) (semRelease p n) s = _ := (barAccess_open hopen _ _).trans (semRelease_frees hup hlo hhi hown)
    exact ⟨_, congrArg (done s) heq, counted_changes (onSem_only s n _), by simp [freeSem],
      fun m hm => by simp [freeSem, sem_onSem_ne s _ hm]⟩
  case ignores =>
    have heq : barAccess p (0x4000 + 8 * n) (semRelease p n) s = s := (barAccess_open hopen _ _).trans (semRelease_ignores hother)
    exact ⟨_, congrArg (done s) heq, counted_only s s⟩
  case renews =>
    have heq : barAccess p 0x4100 (semRenew p .whole) s = _ := (barAccess_open hopen _ _).trans (semRenew_renews hup)
    refine ⟨_, congrArg (done s) heq, counted_changes (onlyChanges_append (renewLeases_only p s) (setRead_only p _ _)), fun m => ?_⟩
    rw [sem_counted, sem_setRead, sem_renewLeases]
    simp only [ownedBy_iff]
    split_ifs <;> simp
  case expires =>
    refine ⟨_, congrArg (done s) (leaseExpires_frees hlo hhi hown hleft hmode),
      counted_changes (onlyChanges_append (onSem_only s n _) (raise_only (by decide) _)), by simp [freeSem], ?_, fun m hm => ?_⟩
    · exact (shows_counted 169 s _ (by decide)).mpr (shows_raise 169 _)
    · simp [freeSem, sem_onSem_ne s _ hm]

/-! ### The default target, answering a host port (15 R474, R476; 17 R519) -/

theorem bit_withBit_same (n b : Nat) : bit (withBit n b) b = true := by
  simp [bit, withBit, Nat.testBit_or]

/-- What an answer to a breach of the worlds through a port changes and leaves. -/
structure SealedAnswered (s t : State) : Prop where
  keeps : Keeps [.bus, .guard, .hive, .ports, .ev, .tally] s t
  idErr : bit t.bus.idErr 3 = true
  kind : t.bus.lastKind = 4
  readData : ∀ r, (t.port r).readData = (s.port r).readData
  shows : t.shows 317

/-- Its answer to a request of a port that broke a world rule: what it notes, the fault and sources 307 and 317 (14 R434). -/
def sealedAnswer (p addr b : Nat) (s : State) : State :=
  fault 0x13 11 b (raise 317 (raise 307 ((tick 99 (8 + p) 1 (tick 96 (8 + p) 1 s)).onBus fun x =>
    { x with defaultHits := satAdd 32 x.defaultHits 1 })))

theorem defaultTarget_sealed {p : Nat} (hp : p < 2) (addr b : Nat) (s : State) :
    defaultTarget (8 + p) addr (some b) s = setIdErr 3 ((tick 101 (8 + p) 1 (sealedAnswer p addr b s)).onBus fun x =>
      { x with lastMaster := 8 + p, lastKind := 4, lastAddr := addr % 2 ^ 40, lastSealed := true }) := by
  unfold defaultTarget
  rw [if_pos (by omega)]
  dsimp only
  unfold errorResponse
  dsimp only
  rw [if_neg (by omega), if_pos (by omega), if_pos rfl]
  rfl

theorem sealedAnswer_keeps (p addr b : Nat) (s : State) :
    Keeps [.tally, .bus, .guard, .hive, .ports, .ev] s (sealedAnswer p addr b s) :=
  ((((tick_keeps 96 (8 + p) 1 s).append (tick_keeps 99 (8 + p) 1 _)).append (onBus_keeps _ _)).append
    (((raise_keeps_ev (by decide) _).append (raise_keeps_ev (by decide) _)).append (fault_keeps 0x13 11 b _))).mono

theorem sealedAnswer_shows (p addr b : Nat) (s : State) : (sealedAnswer p addr b s).shows 317 :=
  (fault_keeps 0x13 11 b _).shows 317 (shows_raise 317 _)

theorem sealedAnswer_readData (p addr b r : Nat) (s : State) : ((sealedAnswer p addr b s).port r).readData = (s.port r).readData := by
  simp [sealedAnswer, fault, faultWith_readData]

theorem defaultTarget_sealed_answers {p : Nat} (hp : p < 2) (addr b : Nat) (s : State) :
    SealedAnswered s (defaultTarget (8 + p) addr (some b) s) := by
  rw [defaultTarget_sealed hp]
  have hend : ∀ u : State, Keeps [.tally, .bus] u (setIdErr 3 ((tick 101 (8 + p) 1 u).onBus fun x =>
      { x with lastMaster := 8 + p, lastKind := 4, lastAddr := addr % 2 ^ 40, lastSealed := true })) := fun u =>
    ((tick_keeps 101 (8 + p) 1 u).append ((onBus_keeps _ _).append (onBus_keeps _ _))).mono
  refine ⟨((sealedAnswer_keeps p addr b s).append (hend _)).mono, bit_withBit_same _ 3, rfl, fun r => ?_,
    (hend _).shows 317 (sealedAnswer_shows p addr b s)⟩
  rw [setIdErr, port_onBus, port_onBus, port_tick, sealedAnswer_readData]

/-! ### Register accesses (13 R384-R388) -/

theorem regWrite_scratch (p : Nat) (v : Word) (s : State) :
    hostWrite p 0x30 .whole v.toNat s = s.onPort p fun w => { w with scratch := v } := by
  show (s.onPort p fun w => { w with scratch := BitVec.ofNat 64 (v.toNat % 2 ^ 64) }) = _
  rw [Nat.mod_eq_of_lt v.isLt, BitVec.ofNat_toNat, BitVec.setWidth_eq]

theorem bar0Access_size {p off size : Nat} {write : Bool} {s : State} (h4 : size ≠ 4) (h8 : size ≠ 8) :
    bar0Access p off size write s = setIdErr 1 s := if_pos (by simp [h4, h8])

theorem bar0Access_undecoded {p off : Nat} {s : State} (halign : off % 8 = 0) (hreg : regAt off = none) :
    bar0Access p off 8 false s = returns p 0 (setIdErr 0 s) := by
  unfold bar0Access
  rw [if_neg (by simp [halign]), show off / 8 * 8 = off by omega, hreg]
  rfl

/-- An access outside the debug window runs, whatever its size. -/
theorem execBar0BadAccess_runs {p off size : Nat} {write : Bool} {s : State} (hup : s.portUp p = true)
    (hdebug : inDebug s p off = false ∨ (size ≠ 4 ∧ size ≠ 8)) :
    execBar0BadAccess p off size write s = done s (barAccess p off (bar0Access p off size write) s) := by
  unfold execBar0BadAccess
  rw [if_neg, if_pos hup]
  rcases hdebug with hno | ⟨h4, h8⟩
  · simp [hno]
  · simp [h4, h8]

theorem execRegisterWrite_runs {p off : Nat} {half : Half} {v : Word} {s : State} (hup : s.portUp p = true)
    (hdebug : inDebug s p off = false) :
    execRegisterWrite p off half v s = done s (barAccess p off (hostWrite p off half v.toNat) s) := by
  unfold execRegisterWrite
  rw [if_neg (by simp [hdebug]), if_pos hup]

/-- Settles O30: a good write is its register's, a bad access only sets its bit of ID_ERR, and an access to a sealed block is the default
target's answer, whichever of the two commands brings it. -/
theorem registerAccesses : Obligations.RegisterAccesses := by
  intro p s hup
  refine ⟨fun v hopen => ?scratch, fun off size write hopen h4 h8 => ?size, fun off hopen halign hreg hdebug => ?undecoded,
    fun i off b hsealed hdebug hi => ?sealed, fun d3hot msix => ?power⟩
  case scratch =>
    have heq : barAccess p 0x30 (hostWrite p 0x30 .whole v.toNat) s = _ := (barAccess_open hopen _ _).trans (regWrite_scratch p v s)
    exact ⟨_, (execRegisterWrite_runs hup rfl).trans (congrArg (done s) heq), counted_changes (onPort_only s p _), by simp,
      fun r hr => by simp [port_onPort_ne s _ hr]⟩
  case size =>
    have heq : barAccess p off (bar0Access p off size write) s = _ := (barAccess_open hopen _ _).trans (bar0Access_size h4 h8)
    exact ⟨_, (execBar0BadAccess_runs hup (.inr ⟨h4, h8⟩)).trans (congrArg (done s) heq), counted_changes (onBus_only s _),
      by simp [setIdErr]⟩
  case undecoded =>
    have heq : barAccess p off (bar0Access p off 8 false) s = _ := (barAccess_open hopen _ _).trans (bar0Access_undecoded halign hreg)
    refine ⟨_, (execBar0BadAccess_runs hup (.inl hdebug)).trans (congrArg (done s) heq),
      counted_changes (onlyChanges_append (onBus_only s _) (setRead_only p _ _)), ?_, ?_, fun r hr => ?_⟩
    · simp [returns, setRead, setIdErr]
    · simp [returns, setRead, setIdErr]
    · simp [returns, setRead, setIdErr, port_onPort_ne _ _ hr]
  case sealed =>
    obtain ⟨hkeeps, hbit, hkind, hdata, hshows⟩ := defaultTarget_sealed_answers (portUp_lt hup) (0x52000000 + off) b s
    have hrun : exec i s = done s (defaultTarget (8 + p) (0x52000000 + off) (some b) s) := by
      rcases hi with ⟨half, v, rfl⟩ | ⟨size, write, rfl⟩
      · exact (execRegisterWrite_runs hup hdebug).trans (congrArg (done s) (barAccess_sealed hup hsealed _))
      · exact (execBar0BadAccess_runs hup (.inl hdebug)).trans (congrArg (done s) (barAccess_sealed hup hsealed _))
    exact ⟨_, hrun, counted_changes hkeeps.parts, by simpa using hbit, by simpa using hkind, fun r => by simpa using hdata r,
      (shows_counted 317 s _ (by decide)).mpr hshows⟩
  case power =>
    have heq : portPower p d3hot msix s = _ := if_pos (portUp_lt hup)
    exact ⟨_, congrArg (done s) heq, counted_changes (onPort_only s p _), by simp⟩

/-! ### DMA rings (13 R416-R420) -/

/-- The command of a ring that the port has, in the block that is open to it. -/
theorem ringAccess_runs {p n off : Nat} {f : State → State} {s : State} (hup : s.portUp p = true) (hn : n < 8)
    (hopen : barOpen s p = true) : (if s.portUp p && n < 8 then barAccess p off f s else s) = f s := by
  rw [if_pos (by simp [hup, hn]), barAccess_open hopen]

theorem setRingEnable_starts {p n : Nat} {s : State} (hbeat : s.clk.started = false) (hoff : ((s.port p).ringOf n).enable = false) :
    ((setRingEnable p n true s).port p).ringOf n = ringEnabled true ((s.port p).ringOf n) := by
  simp [setRingEnable, hbeat, hoff]

theorem setRingEnable_waits {p n : Nat} {on : Bool} {s : State} (hbeat : s.clk.started = true)
    (hchange : ((s.port p).ringOf n).enable ≠ on) :
    ((setRingEnable p n on s).port p).ringOf n = { (s.port p).ringOf n with pendEnable := some on } := by
  simp [setRingEnable, hbeat, hchange]

/-- The device has a descriptor of a ring to be done with. -/
abbrev ringRuns (r : Ring) : Prop := r.enable = true ∧ r.halted = false ∧ r.head ≠ r.tail

theorem descriptorCloses_owned {p n : Nat} (d : DescView) {s : State} (hup : s.portUp p = true) (hn : n < 8)
    (hrun : ringRuns ((s.port p).ringOf n)) : descriptorCloses p n d s =
      if !descOk d || d.addr % 8 ≠ 0 then haltRing p n 0 s
      else if d.pcieError then haltRing p n 1 (tick 110 (10 + p) 1 s)
      else if n = 1 || n = 3 then closeInsert p n d s
      else if n = 7 then raise (portSrc p 15) (s.onRing p n fun r => r.writeBack d.recs false)
      else if ((s.port p).ringOf n).cur = [] then s
      else closeCapture p n d s := by
  obtain ⟨hon, hhalted, howns⟩ := hrun
  unfold descriptorCloses
  dsimp only
  rw [if_neg]
  simp [hup, hon, hhalted, howns]
  omega

/-- Settles O32: TAIL and the enable are one write of the ring (an enable acts at once before the beat starts, log 41), and a descriptor
that the device is done with is written back, the newest first, with flags 0 where it took no beat (log 119), or halts its ring. -/
theorem dmaRings : Obligations.DmaRings := by
  intro p n s hup hn
  have hp := portUp_lt hup
  refine ⟨fun v hopen => ?tail, fun hopen hbeat hoff => ?starts, fun on hopen hbeat hchange => ?waits,
    fun d hseven hon hhalted howns hok halign hpcie => ?done, fun d hon hhalted howns hbad => ?halts⟩
  case tail =>
    exact ⟨_, congrArg (done s) (ringAccess_runs hup hn hopen), counted_changes (onRing_only s p n _), by simp [setRingTail]⟩
  case starts =>
    have hring := setRingEnable_starts hbeat hoff
    exact ⟨_, congrArg (done s) (ringAccess_runs hup hn hopen), counted_changes (onRing_only s p n _), by simp [hring, ringEnabled],
      by simp [hring, ringEnabled]⟩
  case waits =>
    exact ⟨_, congrArg (done s) (ringAccess_runs hup hn hopen), counted_changes (onRing_only s p n _),
      by simp [setRingEnable_waits hbeat hchange]⟩
  case done =>
    subst hseven
    have heq : descriptorCloses p 7 d s = raise (portSrc p 15) (s.onRing p 7 fun r => r.writeBack d.recs false) := by
      rw [descriptorCloses_owned d hup hn ⟨hon, hhalted, howns⟩, if_neg (by simp [hok, halign]), if_neg (by simp [hpcie]),
        if_neg (by decide), if_pos rfl]
    exact ⟨_, congrArg (done s) heq, counted_changes (onlyChanges_append
      (onRing_only s p 7 _) (raise_only (portSrc_plain hp (by decide)) _)),
      by simp [Ring.writeBack], (shows_counted _ s _ (portSrc_counts hp (by decide))).mpr (shows_raise _ _)⟩
  case halts =>
    have heq : descriptorCloses p n d s = haltRing p n 0 s := by
      rw [descriptorCloses_owned d hup hn ⟨hon, hhalted, howns⟩, if_pos (by simp [hbad])]
    exact ⟨_, congrArg (done s) heq, counted_changes (onlyChanges_append
      (onRing_only s p n _) (raise_only (portSrc_plain hp (by omega)) _)),
      by simp [haltRing], by simp [haltRing, bit_withBit_same], (shows_counted _ s _ (portSrc_counts hp (by omega))).mpr (shows_raise _ _)⟩

end Sys2Proof.Machine
end

section
/-!
PROOFS. A port that loses its link or is reset (13 R383, R413; 19 R570): the session, the semaphores and the version go. O33.
-/

namespace Sys2Proof.Machine

open Sys2Proof

/-- What link loss and a function level reset have in common: no agreed version, no session, no sealed world, and no semaphore. -/
structure PortLost (p : Nat) (s t : State) : Prop where
  version : (t.port p).version = none
  session : (t.port p).session = 0
  rsp : (t.port p).rsp = (s.port p).rsp
  linkUp : (t.port p).linkUp = (s.port p).linkUp
  isOpen : (t.chal p).isSealed = false
  host : ∀ n, 16 ≤ n → n < 32 → (t.sem n).owner ≠ some (ownerOf p)
  domains : (s.port p).session ≠ 0 → ∀ n, n < 16 → (t.sem n).owner ≠ some (ownerOf p)

/-! ### Sessions that end (13 R413, R414) -/

@[simp] theorem lanes_freeSem (n : Nat) (s : State) : (freeSem n s).lanes = s.lanes := rfl

theorem freeSem_only (n : Nat) (s : State) : onlyChanges [.sems] s (freeSem n s) := onSem_only s n _

theorem freeSem_keeps (n : Nat) (s : State) : Keeps [.sems] s (freeSem n s) := onSem_keeps n _ s

/-- Freeing a semaphore gives none to a port. -/
theorem freeSem_owner {n m : Nat} {o : Owner} {s : State} (h : (s.sem m).owner ≠ some o) : ((freeSem n s).sem m).owner ≠ some o := by
  by_cases hm : m = n
  · subst hm
    simp [freeSem]
  · rwa [freeSem, sem_onSem_ne _ _ hm]

/-- A pass that frees the semaphores of a port leaves it none of those it passes. -/
theorem freeAll_owner {f : State → Nat → State} {o : Owner} {l : List Nat} {n : Nat} (s : State)
    (hkeep : ∀ t k, (t.sem n).owner ≠ some o → ((f t k).sem n).owner ≠ some o)
    (hfree : ∀ t, ((f t n).sem n).owner ≠ some o) (h : n ∈ l ∨ (s.sem n).owner ≠ some o) :
    ((l.foldl f s).sem n).owner ≠ some o := by
  induction l generalizing s with
  | nil => exact h.resolve_left (by simp)
  | cons k l ih =>
    refine ih (f s k) ?_
    rcases h with hmem | hother
    · rcases List.mem_cons.mp hmem with rfl | hl
      · exact .inr (hfree s)
      · exact .inl hl
    · exact .inr (hkeep s k hother)

/-- Frees a semaphore that the port owns. -/
def freeOwned (p : Nat) (s : State) (k : Nat) : State := if (s.sem k).ownedBy p then freeSem k s else s

theorem freeOwned_keeps (p : Nat) (s : State) (k : Nat) : Keeps [.sems] s (freeOwned p s k) := .when (freeSem_keeps k s)

theorem freeOwned_keeps_owner {p k n : Nat} {o : Owner} {s : State} (h : (s.sem n).owner ≠ some o) :
    ((freeOwned p s k).sem n).owner ≠ some o := by
  unfold freeOwned
  split_ifs
  · exact freeSem_owner h
  · exact h

theorem freeOwned_frees (p n : Nat) (s : State) : ((freeOwned p s n).sem n).owner ≠ some (ownerOf p) := by
  unfold freeOwned
  split_ifs with h
  · simp [freeSem]
  · exact fun hown => h ((ownedBy_iff _ p).mpr hown)

/-- Frees the domains of a port. -/
def freeDomains (p : Nat) (s : State) : State := (List.range 16).foldl (freeOwned p) s

theorem endSession_eq (p : Nat) (s : State) :
    endSession p s = ((freeDomains p s).setBatch p none).onPort p fun w => { w with session := 0 } := rfl

theorem freeDomains_keeps (p : Nat) (s : State) : Keeps [.sems] s (freeDomains p s) := .foldl (freeOwned_keeps p) _ s

theorem freeDomains_keeps_owner {p n : Nat} {o : Owner} {s : State} (h : (s.sem n).owner ≠ some o) :
    ((freeDomains p s).sem n).owner ≠ some o :=
  List.foldlRecOn (motive := fun t : State => (t.sem n).owner ≠ some o) _ _ h fun _ ht _ _ => freeOwned_keeps_owner ht

theorem freeDomains_frees {p n : Nat} (s : State) (hn : n < 16) : ((freeDomains p s).sem n).owner ≠ some (ownerOf p) :=
  freeAll_owner s (fun _ _ h => freeOwned_keeps_owner h) (fun t => freeOwned_frees p n t) (.inl (List.mem_range.mpr hn))

theorem setBatch_keeps (p : Nat) (b : Option Batch) (s : State) : Keeps [.clk] s (s.setBatch p b) := .of_only (setBatch_only s p b)

theorem endSession_keeps (p : Nat) (s : State) : Keeps [.sems, .clk, .ports] s (endSession p s) := by
  rw [endSession_eq]
  exact ((freeDomains_keeps p s).append ((setBatch_keeps p none _).append (onPort_keeps p _ _))).mono

@[simp] theorem sem_setBatch (s : State) (p n : Nat) (b : Option Batch) : (s.setBatch p b).sem n = s.sem n := rfl

theorem endSession_sem (p n : Nat) (s : State) : (endSession p s).sem n = (freeDomains p s).sem n := by
  rw [endSession_eq, sem_onPort, sem_setBatch]

/-- The port's own parts that a notification leaves: all but the notification queue. -/
theorem notifyPort_portPart {β : Type} (g : WgPort → β) (hg : ∀ w q n, g { w with ntf := q, ntfSeq := n } = g w) (svc cmd : Nat)
    (fs : Fields) (s : State) (p r : Nat) : g ((notifyPort svc cmd fs s p).port r) = g (s.port r) := by
  unfold notifyPort
  dsimp only
  by_cases hr : r = p
  · subst hr
    split_ifs <;> simp [hg]
  · split_ifs <;> simp [port_onPort_ne _ _ hr]

theorem notify_portPart {β : Type} (g : WgPort → β) (hg : ∀ w q n, g { w with ntf := q, ntfSeq := n } = g w) (svc cmd : Nat)
    (fs : Fields) (s : State) (r : Nat) : g ((notify svc cmd fs s).port r) = g (s.port r) :=
  (notifyPort_portPart g hg svc cmd fs _ 1 r).trans (notifyPort_portPart g hg svc cmd fs s 0 r)

theorem loseSession_keeps {p : Nat} (hp : p < 2) (s : State) : Keeps [.sems, .clk, .ports, .ev] s (loseSession p s) := by
  unfold loseSession
  dsimp only
  split_ifs
  · exact .refl _ s
  · exact ((endSession_keeps p s).append ((raise_keeps_ev (by unfold noCopy; omega) _).append (notify_keeps _ _ _ _))).mono

/-- A port with no session, whether it had one or not; its link, version and response queues are as before. -/
theorem loseSession_port (p : Nat) (s : State) : ((loseSession p s).port p).session = 0 ∧
    ((loseSession p s).port p).linkUp = (s.port p).linkUp ∧ ((loseSession p s).port p).rsp = (s.port p).rsp := by
  unfold loseSession
  dsimp only
  split_ifs with h
  · exact ⟨h, rfl, rfl⟩
  · have hfold : (freeDomains p s).port p = s.port p := port_eq ((freeDomains_keeps p s).parts .ports (by decide)) p
    refine ⟨?_, ?_, ?_⟩
    · rw [notify_portPart WgPort.session (fun _ _ _ => rfl)]
      simp [endSession_eq]
    · rw [notify_portPart WgPort.linkUp (fun _ _ _ => rfl)]
      simp [endSession_eq, hfold]
    · rw [notify_portPart WgPort.rsp (fun _ _ _ => rfl)]
      simp [endSession_eq, hfold]

theorem loseSession_sem {p n : Nat} {o : Owner} {s : State} (h : (s.sem n).owner ≠ some o) :
    ((loseSession p s).sem n).owner ≠ some o := by
  unfold loseSession
  dsimp only
  split_ifs
  · exact h
  · rw [State.sem, (notify_keeps _ _ _ _).parts .sems (by decide)]
    show ((raise (166 + p) (endSession p s)).sem n).owner ≠ _
    rw [sem_raise, endSession_sem]
    exact freeDomains_keeps_owner h

/-- The domains of a session that is lost are free. -/
theorem loseSession_domain {p n : Nat} {s : State} (hsession : (s.port p).session ≠ 0) (hn : n < 16) :
    ((loseSession p s).sem n).owner ≠ some (ownerOf p) := by
  unfold loseSession
  dsimp only
  rw [if_neg hsession, State.sem, (notify_keeps _ _ _ _).parts .sems (by decide)]
  show ((raise (166 + p) (endSession p s)).sem n).owner ≠ _
  rw [sem_raise, endSession_sem]
  exact freeDomains_frees s hn

/-! ### Link loss and resets (13 R383; 19 R570) -/

/-- Frees the host semaphores of a port. -/
def freeHost (p : Nat) (s : State) : State :=
  ((List.range 32).filter fun n => 16 ≤ n && (s.sem n).ownedBy p).foldl (fun s n => freeSem n s) s

theorem freeHost_keeps (p : Nat) (s : State) : Keeps [.sems] s (freeHost p s) := .foldl (fun s n => freeSem_keeps n s) _ s

theorem freeHost_frees {p n : Nat} {s : State} (hlo : 16 ≤ n) (hhi : n < 32) : ((freeHost p s).sem n).owner ≠ some (ownerOf p) := by
  refine freeAll_owner s (fun t k h => freeSem_owner h) (fun t => by simp [freeSem]) ?_
  by_cases hown : (s.sem n).owner = some (ownerOf p)
  · exact .inl (by simp [hlo, hhi, Sem.ownedBy, hown])
  · exact .inr hown

theorem releasePort_eq (p : Nat) (s : State) : ∃ b, releasePort p s = loseSession p (raiseIf b 169 (freeHost p s)) := ⟨_, rfl⟩

theorem releasePort_keeps {p : Nat} (hp : p < 2) (s : State) : Keeps [.sems, .ev, .clk, .ports] s (releasePort p s) := by
  obtain ⟨b, hb⟩ := releasePort_eq p s
  rw [hb]
  exact ((freeHost_keeps p s).append ((raiseIf_keeps_ev (by decide) b _).append (loseSession_keeps hp _))).mono

theorem port_freeHost (p r : Nat) (s : State) : (freeHost p s).port r = s.port r :=
  port_eq ((freeHost_keeps p s).parts .ports (by decide)) r

theorem sem_raiseIf (b : Bool) (k n : Nat) (s : State) : (raiseIf b k s).sem n = s.sem n := by cases b <;> simp [raiseIf]

theorem releasePort_port (p : Nat) (s : State) : ((releasePort p s).port p).session = 0 ∧
    ((releasePort p s).port p).linkUp = (s.port p).linkUp ∧ ((releasePort p s).port p).rsp = (s.port p).rsp := by
  obtain ⟨b, hb⟩ := releasePort_eq p s
  have hport := loseSession_port p (raiseIf b 169 (freeHost p s))
  rwa [port_raiseIf, port_freeHost, ← hb] at hport

theorem releasePort_host {p n : Nat} {s : State} (hlo : 16 ≤ n) (hhi : n < 32) :
    ((releasePort p s).sem n).owner ≠ some (ownerOf p) := by
  obtain ⟨b, hb⟩ := releasePort_eq p s
  rw [hb]
  refine loseSession_sem ?_
  rw [sem_raiseIf]
  exact freeHost_frees hlo hhi

theorem releasePort_domain {p n : Nat} {s : State} (hsession : (s.port p).session ≠ 0) (hn : n < 16) :
    ((releasePort p s).sem n).owner ≠ some (ownerOf p) := by
  obtain ⟨b, hb⟩ := releasePort_eq p s
  rw [hb]
  exact loseSession_domain (by rwa [port_raiseIf, port_freeHost]) hn

@[simp] theorem chal_onChal_same (s : State) (p : Nat) (f : Chal → Chal) : (s.onChal p f).chal p = f (s.chal p) := by
  simp [State.onChal, State.chal]

@[simp] theorem port_onChal (s : State) (p r : Nat) (f : Chal → Chal) : (s.onChal p f).port r = s.port r := rfl
@[simp] theorem sem_onChal (s : State) (p n : Nat) (f : Chal → Chal) : (s.onChal p f).sem n = s.sem n := rfl
@[simp] theorem chal_onPort (s : State) (p r : Nat) (f : WgPort → WgPort) : (s.onPort p f).chal r = s.chal r := rfl

theorem onChal_keeps (p : Nat) (f : Chal → Chal) (s : State) : Keeps [.sec] s (s.onChal p f) := .of_only (onSec_only s _)

theorem portLost_keeps {p : Nat} (hp : p < 2) (s : State) : Keeps [.sems, .ev, .clk, .ports, .sec] s (portLost p s) := by
  unfold portLost
  exact ((releasePort_keeps hp s).append ((onPort_keeps p _ _).append (onChal_keeps p _ _))).mono

theorem portLost_lost (p : Nat) (s : State) : PortLost p s (portLost p s) := by
  obtain ⟨hsession, hlink, hrsp⟩ := releasePort_port p s
  exact {
    version := by simp [portLost]
    session := by simp [portLost, hsession]
    rsp := by simp [portLost, hrsp]
    linkUp := by simp [portLost, hlink]
    isOpen := by simp [portLost]
    host := fun n hlo hhi => by simpa [portLost] using releasePort_host hlo hhi
    domains := fun hne n hn => by simpa [portLost] using releasePort_domain hne hn }

theorem linkDown_keeps {p : Nat} (hp : p < 2) (s : State) : Keeps [.sems, .ev, .clk, .ports, .sec] s (linkDown p s) := by
  unfold linkDown
  exact ((portLost_keeps hp s).append (onPort_keeps p _ _)).mono

/-- Settles O33: link loss and a reset share `portLost`, after which each writes the port's own record. -/
theorem portResets : Obligations.PortResets := by
  intro p s hp
  refine ⟨fun hlink => ?down, fun hoff hwake => ?up, ?perst, fun hup => ?flr⟩
  case down =>
    have heq : pcieLinkDown p s = linkDown p s := if_pos (by simp [hp, hlink])
    have hlost := portLost_lost p s
    have hparts := (linkDown_keeps hp s).parts
    refine ⟨_, congrArg (done s) heq, ?_, ?_, ?_, ?_, fun n hlo hhi => ?_, fun hne n hn => ?_, fun r => ?_, ?_, ?_⟩
    · simp [linkDown]
    · simpa [linkDown] using hlost.version
    · simpa [linkDown] using hlost.session
    · simpa [linkDown] using hlost.isOpen
    · simpa [linkDown] using hlost.host n hlo hhi
    · simpa [linkDown] using hlost.domains hne n hn
    · simp [linkDown, WgPort.rspOf, hlost.rsp]
    · exact (counted_lanes s _).trans (hparts .lanes (by decide))
    · exact (counted_comb s _).trans (hparts .comb (by decide))
  case up =>
    have heq : pcieLinkUp p s = _ := if_pos (by simp [hp, hoff, hwake])
    exact ⟨_, congrArg (done s) heq, by simp, by simp, by simp, counted_changes ((onPort_keeps p _ s).append (onChal_keeps p _ _)).parts⟩
  case perst =>
    have heq : perstAsserts p s = _ := if_pos hp
    refine ⟨_, congrArg (done s) heq, by simp, ?_⟩
    rw [port_counted, port_onPort_same]
    show ((if (s.port p).linkUp = true then linkDown p s else s).port p).linkUp = false
    split_ifs with hlink
    · simp [linkDown]
    · simpa using hlink
  case flr =>
    have heq : pcieFlr p s = _ := if_pos hup
    have hlost := portLost_lost p s
    have hlink : (s.port p).linkUp = true := by
      simp only [State.portUp, Bool.and_eq_true] at hup
      exact hup.1.2
    refine ⟨_, congrArg (done s) heq, ?_, ?_, ?_, ?_, ?_, fun n => ?_⟩ <;>
      simp only [List.foldl_cons, List.foldl_nil, port_counted, port_driveSrc, port_onPort_same]
    · exact hlost.linkUp.trans hlink
    · exact hlost.version
    · exact hlost.session
    · unfold WgPort.ringOf
      dsimp only
      rw [tget_tmap]
      rfl

end Sys2Proof.Machine
end

section
/-!
PROOFS. Claims and completions (14 R453-R455, R462): the source goes in and out of service, the port's stack grows and shrinks. O34.
-/

namespace Sys2Proof.Machine

open Sys2Proof

/-! ### A source after an operation of the controller -/

theorem setSrc_src_line (n : Nat) (x : Src) (s : State) : ((setSrc n x s).src n).line = x.line := by simp [setSrc_line]

theorem setSrc_only (n : Nat) (x : Src) (s : State) : onlyChanges [.ev] s (setSrc n x s) := by
  intro p hp
  cases p <;> simp_all [Part.same]

theorem setStack_only (c : Nat) (l : List (Nat × Nat)) (s : State) : onlyChanges [.ev] s (s.setStack c l) := by
  intro p hp
  cases p <;> simp_all [Part.same, State.setStack]

@[simp] theorem src_setStack (c n : Nat) (l : List (Nat × Nat)) (s : State) : (s.setStack c l).src n = s.src n := rfl
@[simp] theorem src_onPort (p n : Nat) (f : WgPort → WgPort) (s : State) : (s.onPort p f).src n = s.src n := rfl
@[simp] theorem src_onTally (n : Nat) (f : Tally → Tally) (s : State) : (s.onTally f).src n = s.src n := rfl
@[simp] theorem stackOf_setStack_same (c : Nat) (l : List (Nat × Nat)) (s : State) : (s.setStack c l).stackOf c = l := by
  simp [State.setStack, State.stackOf]

theorem stackOf_setStack_ne {c d : Nat} (l : List (Nat × Nat)) (s : State) (h : d ≠ c) : (s.setStack c l).stackOf d = s.stackOf d := by
  simp [State.setStack, State.stackOf, tget_tput_ne _ _ _ h]

@[simp] theorem stackOf_setSrc (n c : Nat) (x : Src) (s : State) : (setSrc n x s).stackOf c = s.stackOf c := by simp [State.stackOf]
@[simp] theorem stackOf_onPort (p c : Nat) (f : WgPort → WgPort) (s : State) : (s.onPort p f).stackOf c = s.stackOf c := rfl
@[simp] theorem stackOf_outOfService (n c : Nat) (s : State) : (outOfService n s).stackOf c = s.stackOf c := by simp [outOfService]

/-- Counting drives the overflow sources, and takes none in or out of service. -/
theorem inService_counted (n : Nat) (s t : State) : ((counted s t).src n).inService = (t.src n).inService := by
  refine counted_part (fun s => (s.src n).inService) (fun _ _ => rfl) (fun u p b _ => ?_) s t
  have hline : ((driveSrc (243 + p) b u).src n).line.inService = (u.src n).line.inService := by
    unfold driveSrc
    dsimp only
    split <;> simp only [sticky_src, setSrc_line] <;> split_ifs with h <;> simp [Src.line, h]
  exact hline

theorem pends_line (x : Src) : x.line.pends = x.pends := rfl

/-! ### Claims and completions (14 R453-R455, R462) -/

/-- A source that a target has claimed: in service, its latch taken (14 R453). -/
def Src.claimed (x : Src) : Src := { x with latch := if x.edge then false else x.latch, inService := true }

theorem claimFor_some {c n prio : Nat} {s : State} (h : claimable s c = some (n, prio)) :
    claimFor c s = (some (n, prio), (setSrc n (s.src n).claimed s).setStack c ((n, prio) :: s.stackOf c)) := by
  simp [claimFor, h, Src.claimed]

theorem claimFor_none {c : Nat} {s : State} (h : claimable s c = none) : claimFor c s = (none, s) := by simp [claimFor, h]

theorem evClaim_whole {p : Nat} {s : State} (hup : s.portUp p = true) :
    evClaim p .whole s = (claimFor (4 + p) s).2.onPort p fun w => { w with readData := claimWord s (claimFor (4 + p) s).1 } := if_pos hup

/-- The source number is the low nine bits of the word that a claim returns. -/
theorem claimWord_source (s : State) (n prio : Nat) : (claimWord s (some (n, prio))).toNat % 512 = n % 512 := by
  simp only [claimWord, at', BitVec.toNat_ofNat]
  omega

/-- A claim that the controller has a source for. -/
theorem evClaim_claims {p n prio : Nat} {s : State} (hup : s.portUp p = true) (h : claimable s (4 + p) = some (n, prio)) :
    onlyChanges [.ev, .ports] s (evClaim p .whole s) ∧
      ((evClaim p .whole s).src n).line = (s.src n).claimed.line ∧
      (evClaim p .whole s).stackOf (4 + p) = (n, prio) :: s.stackOf (4 + p) ∧
      ((evClaim p .whole s).port p).readData = claimWord s (some (n, prio)) := by
  rw [evClaim_whole hup, claimFor_some h]
  refine ⟨onlyChanges_append (onlyChanges_trans (setSrc_only _ _ s) (setStack_only _ _ _)) (onPort_only _ p _), ?_, by simp, by simp⟩
  simp [setSrc_src_line]

theorem outOfService_only (n : Nat) (s : State) : onlyChanges [.ev] s (outOfService n s) := setSrc_only n _ s

theorem outOfService_line (n : Nat) (s : State) : ((outOfService n s).src n).line = Src.line { s.src n with inService := false } :=
  setSrc_src_line n _ s

theorem completeFor_top {c n prio : Nat} {rest : List (Nat × Nat)} {s : State} (h : s.stackOf c = (n, prio) :: rest) :
    completeFor c n s = outOfService n (s.setStack c rest) := by
  simp [completeFor, h]

theorem clearStack_only (c : Nat) (s : State) : onlyChanges [.ev] s (clearStack c s) :=
  List.foldlRecOn (motive := fun t => onlyChanges [.ev] s t) _ _ (setStack_only c [] s) fun _ ht e _ =>
    onlyChanges_trans ht (outOfService_only e.1 _)

theorem clearStack_stackOf (c d : Nat) (s : State) : (clearStack c s).stackOf d = (s.setStack c []).stackOf d :=
  List.foldlRecOn (motive := fun t : State => t.stackOf d = (s.setStack c []).stackOf d) _ _ rfl fun _ ht e _ =>
    (stackOf_outOfService e.1 d _).trans ht

/-- Settles O34: a claim and its completion each write the source and the stack of the port, and the reset writes the stack. -/
theorem claimAndComplete : Obligations.ClaimAndComplete := by
  intro p s hup hopen
  refine ⟨fun n prio hclaim => ?claims, fun hnone => ?nothing, fun n prio rest hn hstack => ?completes, ?resets⟩
  case claims =>
    obtain ⟨honly, hline, hstack, hdata⟩ := evClaim_claims hup hclaim
    refine ⟨_, congrArg (done s) (barAccess_open hopen 0x5A00 _), counted_changes honly, ?_, ?_, ?_⟩
    · rw [inService_counted]
      exact congrArg Src.inService hline
    · rw [stackOf_counted, hstack]
    · rw [port_counted, hdata, claimWord_source]
  case nothing =>
    have heq : barAccess p 0x5A00 (evClaim p .whole) s = s.onPort p fun w => { w with readData := 0x8000 } := by
      rw [barAccess_open hopen, evClaim_whole hup, claimFor_none hnone]
      rfl
    exact ⟨_, congrArg (done s) heq, counted_changes (onPort_only s p _), by simp, by simp⟩
  case completes =>
    have heq : barAccess p 0x5A08 (evComplete p n) s = outOfService n (s.setStack (4 + p) rest) := by
      rw [barAccess_open hopen, evComplete, if_pos hup, Nat.mod_eq_of_lt (by omega), completeFor_top hstack]
    have hline := outOfService_line n (s.setStack (4 + p) rest)
    have hpends : n < 243 → ((counted s (outOfService n (s.setStack (4 + p) rest))).src n).pends =
        if (s.src n).edge then (s.src n).latch else (s.src n).asserted := fun hlow => by
      rw [← pends_line, counted_line n s _ (.inl hlow), hline]
      cases hedge : (s.src n).edge <;> simp [Src.pends, Src.line, hedge]
    refine ⟨_, congrArg (done s) heq, counted_changes (onlyChanges_trans (setStack_only _ rest s) (outOfService_only n _)), ?_, ?_,
      fun hlow hlevel => ?_, fun hlow hedge => ?_⟩
    · simp
    · rw [inService_counted]
      exact congrArg Src.inService hline
    · rw [hpends hlow, hlevel, if_neg (by decide)]
    · rw [hpends hlow, hedge, if_pos rfl]
  case resets =>
    have heq : barAccess p 0x5A18 (evReset p 0xA5) s = clearStack (4 + p) s :=
      (barAccess_open hopen _ _).trans (if_pos (by simp [hup]))
    refine ⟨_, congrArg (done s) heq, counted_changes (clearStack_only (4 + p) s), ?_, fun c hc => ?_⟩
    · simp [clearStack_stackOf]
    · simp [clearStack_stackOf, stackOf_setStack_ne _ s hc]

end Sys2Proof.Machine
end

section
/-!
PROOFS. The event controller (14 R450-R463): lines, arbitration and MSI-X, coalescing and the fallback of a group. O35.
-/

namespace Sys2Proof.Machine

open Sys2Proof

/-! ### Counting, as a rule for a predicate (16 R506, R509) -/

theorem setOvf_rec {P : State → Prop} (htally : ∀ s f, P s → P (State.onTally s f))
    (hdrive : ∀ s p b, p < 32 → P s → P (driveSrc (243 + p) b s)) (l : List Nat) {s : State} (h : P s) : P (setOvf l s) := by
  refine List.foldlRecOn (motive := P) _ _ (htally s _ h) fun t ht p hp => ?_
  dsimp only
  split_ifs
  · exact ht
  · exact hdrive t p _ (List.mem_range.mp hp) ht

theorem addCount_rec {P : State → Prop} (htally : ∀ s f, P s → P (State.onTally s f))
    (hdrive : ∀ s p b, p < 32 → P s → P (driveSrc (243 + p) b s)) (n inc : Nat) {s : State} (h : P s) : P (addCount n inc s) := by
  unfold addCount
  dsimp only
  split_ifs
  · exact htally s _ h
  all_goals exact setOvf_rec htally hdrive _ (htally s _ h)

/-- What neither the tally nor the overflow sources take away still holds after the events of a step are counted. -/
theorem counted_rec {P : State → Prop} (htally : ∀ s f, P s → P (State.onTally s f))
    (hdrive : ∀ s p b, p < 32 → P s → P (driveSrc (243 + p) b s)) (s : State) {t : State} (h : P t) : P (counted s t) := by
  unfold counted
  split_ifs
  · refine List.foldlRecOn (motive := P) _ _ h fun u hu e _ => ?_
    dsimp only
    split_ifs
    · exact hu
    · exact addCount_rec htally hdrive _ _ hu
  · exact h

/-! ### A source's record, written from elsewhere -/

theorem releaseHeld_src (port g m : Nat) (s : State) : (releaseHeld port g s).src m =
    if (s.src m).target == 4 + port && groupOf m == g then { s.src m with held := false } else s.src m := by
  simp only [releaseHeld, State.src, State.onEv_frame]
  rw [tget_tmap]
  · rfl
  · split <;> rfl

/-- A source that another one's change may only release from its window. -/
theorem setSrc_src_ne {n m : Nat} (x : Src) (s : State) (h : m ≠ n) :
    (setSrc n x s).src m = s.src m ∨ (setSrc n x s).src m = { s.src m with held := false } := by
  unfold setSrc
  dsimp only
  generalize (if (s.coalOf (x.target - 4) (groupOf n)).isOpen = true then (s.coalOf (x.target - 4) (groupOf n)).got + 1 else 1) = got
  split_ifs
  · rw [releaseHeld_src]
    split_ifs <;> simp [h]
  all_goals simp [h]

theorem driveSrc_src_ne {n m : Nat} (b : Bool) (s : State) (h : m ≠ n) :
    (driveSrc n b s).src m = s.src m ∨ (driveSrc n b s).src m = { s.src m with held := false } := by
  unfold driveSrc
  dsimp only
  split
  · rw [sticky_src]
    exact setSrc_src_ne _ s h
  · exact setSrc_src_ne _ s h

theorem counted_held {n : Nat} (s t : State) (hn : n < 243) (h : (t.src n).held = false) : ((counted s t).src n).held = false := by
  refine counted_rec (P := fun u => (u.src n).held = false) (fun _ _ h => h) (fun u p b _ hu => ?_) s h
  rcases driveSrc_src_ne b u (show n ≠ 243 + p by omega) with heq | heq <;> simp [heq, hu]

theorem counted_fallen {n : Nat} (s t : State) (hn : n < 243) : ((counted s t).src n).fallen = (t.src n).fallen := by
  refine counted_part (fun u => (u.src n).fallen) (fun _ _ => rfl) (fun u p b _ => ?_) s t
  rcases driveSrc_src_ne b u (show n ≠ 243 + p by omega) with heq | heq <;> simp [heq]

/-! ### Coalescing settings (14 R452, R463) -/

@[simp] theorem coalOf_onCoal_same (s : State) (p g : Nat) (f : Coal → Coal) : (s.onCoal p g f).coalOf p g = f (s.coalOf p g) := by
  simp [State.onCoal, State.coalOf]

/-- A window that opens or closes keeps its settings. -/
theorem coal_window (s : State) (p g r k : Nat) (b : Bool) (n : Nat) :
    ((s.onCoal r k fun c => { c with isOpen := b, got := n }).coalOf p g).count = (s.coalOf p g).count ∧
      ((s.onCoal r k fun c => { c with isOpen := b, got := n }).coalOf p g).time = (s.coalOf p g).time := by
  simp only [State.onCoal, State.coalOf, State.onEv, tget_tput]
  split_ifs with h <;> simp [h]

theorem releaseHeld_coalOf (r k p g : Nat) (s : State) :
    (releaseHeld r k s).coalOf p g = (s.onCoal r k fun c => { c with isOpen := false, got := 0 }).coalOf p g := rfl

theorem setSrc_coal (n : Nat) (x : Src) (s : State) (p g : Nat) :
    ((setSrc n x s).coalOf p g).count = (s.coalOf p g).count ∧ ((setSrc n x s).coalOf p g).time = (s.coalOf p g).time := by
  unfold setSrc
  dsimp only
  generalize (if (s.coalOf (x.target - 4) (groupOf n)).isOpen = true then (s.coalOf (x.target - 4) (groupOf n)).got + 1 else 1) = got
  split_ifs
  · rw [releaseHeld_coalOf]
    exact coal_window _ p g _ _ false 0
  · exact coal_window _ p g _ _ true got
  all_goals exact ⟨rfl, rfl⟩

theorem sticky_coalOf (n : Nat) (s : State) (p g : Nat) : (sticky n s).coalOf p g = s.coalOf p g := by simp [State.coalOf]

theorem driveSrc_coal (n : Nat) (b : Bool) (s : State) (p g : Nat) :
    ((driveSrc n b s).coalOf p g).count = (s.coalOf p g).count ∧ ((driveSrc n b s).coalOf p g).time = (s.coalOf p g).time := by
  unfold driveSrc
  dsimp only
  split
  · rw [sticky_coalOf]
    exact setSrc_coal n _ s p g
  · exact setSrc_coal n _ s p g

theorem counted_coal (s t : State) (p g : Nat) :
    ((counted s t).coalOf p g).count = (t.coalOf p g).count ∧ ((counted s t).coalOf p g).time = (t.coalOf p g).time :=
  ⟨counted_part (fun u => (u.coalOf p g).count) (fun _ _ => rfl) (fun u k b _ => (driveSrc_coal (243 + k) b u p g).1) s t,
    counted_part (fun u => (u.coalOf p g).time) (fun _ _ => rfl) (fun u k b _ => (driveSrc_coal (243 + k) b u p g).2) s t⟩

theorem counted_fallback (s t : State) : (counted s t).ev.fallback = t.ev.fallback :=
  counted_part (fun u => u.ev.fallback) (fun _ _ => rfl) (fun u k b _ => (driveSrc_ev (243 + k) b u).2.1) s t

/-! ### The host's writes (14 R459, R461, R463) -/

theorem evSrcWrite_writes {p n v : Nat} {s : State} (hup : s.portUp p = true) (hn : n < 319) (hold : hostTarget (s.src n).target = true)
    (hnew : hostTarget (v / 32 % 8) = true) : evSrcWrite p n v s = setSrc n { s.src n with
      prio := v % 16, edge := bit v 4, target := v / 32 % 8, fallen := false
      signalled := (s.src n).signalled && v / 32 % 8 == (s.src n).target, held := (s.src n).held && v / 32 % 8 == (s.src n).target } s := by
  unfold evSrcWrite
  rw [if_neg (by simp [hup, hn])]
  dsimp only
  rw [if_pos (by simp [hold, hnew])]

theorem evGrpWrite_writes {p g v : Nat} {s : State} (hup : s.portUp p = true) (hg : g < 14) (hcount : 1 ≤ v % 256)
    (hlo : 1 ≤ v / 256 % 16384) (hhi : v / 256 % 16384 ≤ 10000) (hfb : hostTarget (v / 2 ^ 24 % 8) = true) :
    evGrpWrite p g v s = (s.onCoal p g fun c => { c with count := v % 256, time := v / 256 % 16384 }).onEv fun e =>
      { e with fallback := tput 7 e.fallback g (v / 2 ^ 24 % 8) } := by
  unfold evGrpWrite
  rw [if_neg (by simp [hup, hg])]
  dsimp only
  rw [if_pos hfb]
  simp [hlo, hhi, show ¬ v % 256 = 0 by omega]

theorem onEv_only (s : State) (f : Events → Events) : onlyChanges [.ev] s (s.onEv f) := by
  intro p hp
  cases p <;> simp_all [Part.same]

theorem onCoal_only (s : State) (p g : Nat) (f : Coal → Coal) : onlyChanges [.ev] s (s.onCoal p g f) := onEv_only s _

/-! ### Lines (14 R450) -/

theorem driveSrc_src_line (n : Nat) (b : Bool) (s : State) : ((driveSrc n b s).src n).line =
    Src.line { s.src n with asserted := b, latch := (s.src n).latch || ((s.src n).edge && b && !(s.src n).asserted) } := by
  unfold driveSrc
  dsimp only
  split
  · rw [sticky_src, setSrc_src_line]
  · rw [setSrc_src_line]

theorem driveSrc_copies (n : Nat) (b : Bool) (s : State) : onlyChanges copyParts s (driveSrc n b s) := by
  intro p hp
  cases p <;> simp_all [Part.same]

/-! ### Arbitration (14 R451) -/

theorem available_port {s : State} {p : Nat} (h : available s (4 + p) = true) : p < 2 → s.portUp p = true ∧ (s.port p).d3hot = false ∧
    (s.port p).msix = true := by
  intro hp
  unfold available at h
  rw [if_neg (by omega), if_pos (by omega), Nat.add_sub_cancel_left] at h
  simp only [Bool.and_eq_true, Bool.not_eq_true'] at h
  obtain ⟨⟨hup, hd3⟩, hmsix⟩ := h
  exact ⟨hup, hd3, hmsix⟩

/-- The sources that become deliverable to a port, in the order in which the arbitration takes them. -/
def deliverable (s : State) (c : Nat) : List (Nat × Nat) :=
  s.ev.srcs.foldl (fun l e =>
    if e.1 < 319 && e.2.pends && !e.2.held && !e.2.signalled && effTarget s e.1 == c && aboveLevel s c e.2.prio then
      insertSource (e.1, e.2.prio) l
    else l) []

theorem mem_insertSource (c : Nat × Nat) (l : List (Nat × Nat)) (d : Nat × Nat) : d ∈ insertSource c l ↔ d = c ∨ d ∈ l := by
  induction l with
  | nil => simp [insertSource]
  | cons e l ih =>
    unfold insertSource
    split_ifs
    · simp
    · simp only [List.mem_cons, ih]
      tauto

/-- A source of the list that pends for the target, neither held nor signalled, above the target's level. -/
abbrev delivers (s : State) (c : Nat) (e : Nat × Src) : Prop :=
  (e.1 < 319 && e.2.pends && !e.2.held && !e.2.signalled && effTarget s e.1 == c && aboveLevel s c e.2.prio) = true

theorem mem_deliverable (s : State) (c : Nat) (d : Nat × Nat) :
    d ∈ deliverable s c ↔ ∃ e ∈ s.ev.srcs, delivers s c e ∧ d = (e.1, e.2.prio) := by
  unfold deliverable
  suffices H : ∀ (es : Tbl Src) (l : List (Nat × Nat)), d ∈ es.foldl (fun l e =>
      if e.1 < 319 && e.2.pends && !e.2.held && !e.2.signalled && effTarget s e.1 == c && aboveLevel s c e.2.prio then
        insertSource (e.1, e.2.prio) l else l) l ↔ d ∈ l ∨ ∃ e ∈ es, delivers s c e ∧ d = (e.1, e.2.prio) by
    simpa using H s.ev.srcs []
  intro es
  induction es with
  | nil => simp
  | cons e es ih =>
    intro l
    rw [List.foldl_cons, ih]
    by_cases he : delivers s c e
    · rw [if_pos he, mem_insertSource]
      simp only [List.mem_cons, exists_eq_or_imp]
      tauto
    · rw [if_neg he]
      simp only [List.mem_cons, exists_eq_or_imp, he, false_and, false_or]

/-- The vectors of the sources, each once. -/
def vectorsOf (p : Nat) (l : List (Nat × Nat)) : List Nat :=
  (l.map fun c => vectorOf p c.1 c.2).foldl (fun l v => if l.contains v then l else l ++ [v]) []

theorem mem_vectorsOf {p : Nat} {l : List (Nat × Nat)} {c : Nat × Nat} (h : c ∈ l) : vectorOf p c.1 c.2 ∈ vectorsOf p l := by
  unfold vectorsOf
  suffices H : ∀ (vs acc : List Nat) v, v ∈ acc ∨ v ∈ vs → v ∈ vs.foldl (fun l v => if l.contains v then l else l ++ [v]) acc from
    H _ [] _ (.inr (List.mem_map_of_mem h))
  intro vs
  induction vs with
  | nil => exact fun acc v hv => hv.resolve_right (by simp)
  | cons w vs ih =>
    intro acc v hv
    refine ih _ v ?_
    rcases hv with hacc | hmem
    · left
      dsimp only
      split_ifs
      · exact hacc
      · exact List.mem_append_left _ hacc
    · rcases List.mem_cons.mp hmem with rfl | hvs
      · left
        dsimp only
        split_ifs with hin
        · simpa using hin
        · simp
      · exact .inr hvs

/-- Marks a source as signalled. -/
def markSignalled (s : State) (c : Nat × Nat) : State :=
  s.onEv fun e => { e with srcs := tput {} e.srcs c.1 { s.src c.1 with signalled := true } }

theorem arbitratePort_eq {s : State} {p : Nat} (h : available s (4 + p) = true) : arbitratePort s p =
    (deliverable s (4 + p)).foldl markSignalled
      (s.onPort p fun w => (vectorsOf p (deliverable s (4 + p))).foldl WgPort.sendVector w) := if_pos h

theorem foldl_markSignalled_only (l : List (Nat × Nat)) (s : State) : onlyChanges [.ev] s (l.foldl markSignalled s) :=
  List.foldlRecOn (motive := fun t => onlyChanges [.ev] s t) _ _ (onlyChanges_refl _ s) fun _ ht _ _ =>
    onlyChanges_trans ht (onEv_only _ _)

theorem arbitratePort_only (s : State) (p : Nat) : onlyChanges [.ports, .ev] s (arbitratePort s p) := by
  by_cases h : available s (4 + p) = true
  · rw [arbitratePort_eq h]
    exact onlyChanges_append (onPort_only s p _) (foldl_markSignalled_only _ _)
  · rw [arbitratePort, if_neg h]
    exact onlyChanges_refl _ s

@[simp] theorem vectorMasked_sendVector (w : WgPort) (v u : Nat) : (w.sendVector v).vectorMasked u = w.vectorMasked u := by
  unfold WgPort.sendVector
  split_ifs <;> rfl

theorem sendVector_keeps_sent {w : WgPort} {v : Nat} (u : Nat) (h : v ∈ w.sentMsix) : v ∈ (w.sendVector u).sentMsix := by
  unfold WgPort.sendVector
  split
  · exact h
  · exact List.mem_cons_of_mem u h

theorem sendVector_keeps_pba {w : WgPort} {v : Nat} (u : Nat) (h : v ∈ w.msixPba) : v ∈ (w.sendVector u).msixPba := by
  unfold WgPort.sendVector
  split
  · show v ∈ if w.msixPba.contains u then w.msixPba else u :: w.msixPba
    split_ifs
    · exact h
    · exact List.mem_cons_of_mem u h
  · exact h

theorem sendVector_sends {w : WgPort} {v : Nat} (hmask : w.vectorMasked v = false) : v ∈ (w.sendVector v).sentMsix := by
  simp [WgPort.sendVector, hmask]

theorem sendVector_holds {w : WgPort} {v : Nat} (hmask : w.vectorMasked v = true) : v ∈ (w.sendVector v).msixPba := by
  rw [WgPort.sendVector, if_pos hmask]
  show v ∈ if w.msixPba.contains v then w.msixPba else v :: w.msixPba
  split_ifs with hin
  · simpa using hin
  · simp

/-- A vector that is sent goes out, or is held in the pending bit array while it is masked; none that was is taken back. -/
theorem sendVectors_mem (vs : List Nat) (w : WgPort) (v : Nat) :
    (w.vectorMasked v = false → v ∈ vs ∨ v ∈ w.sentMsix → v ∈ (vs.foldl WgPort.sendVector w).sentMsix) ∧
      (w.vectorMasked v = true → v ∈ vs ∨ v ∈ w.msixPba → v ∈ (vs.foldl WgPort.sendVector w).msixPba) := by
  induction vs generalizing w with
  | nil => simp
  | cons u vs ih =>
    obtain ⟨hsent, hpba⟩ := ih (w.sendVector u)
    rw [vectorMasked_sendVector] at hsent hpba
    refine ⟨fun hmask h => hsent hmask ?_, fun hmask h => hpba hmask ?_⟩
    · rcases h with hmem | hold
      · rcases List.mem_cons.mp hmem with rfl | hvs
        · exact .inr (sendVector_sends hmask)
        · exact .inl hvs
      · exact .inr (sendVector_keeps_sent u hold)
    · rcases h with hmem | hold
      · rcases List.mem_cons.mp hmem with rfl | hvs
        · exact .inr (sendVector_holds hmask)
        · exact .inl hvs
      · exact .inr (sendVector_keeps_pba u hold)

/-- A source that becomes deliverable has its vector sent, or held while it is masked. -/
theorem arbitratePort_sends {s : State} {p : Nat} {e : Nat × Src} (havail : available s (4 + p) = true) (hmem : e ∈ s.ev.srcs)
    (hdel : delivers s (4 + p) e) :
    ((s.port p).vectorMasked (vectorOf p e.1 e.2.prio) = false → vectorOf p e.1 e.2.prio ∈ ((arbitratePort s p).port p).sentMsix) ∧
      ((s.port p).vectorMasked (vectorOf p e.1 e.2.prio) = true → vectorOf p e.1 e.2.prio ∈ ((arbitratePort s p).port p).msixPba) := by
  have hv : vectorOf p e.1 e.2.prio ∈ vectorsOf p (deliverable s (4 + p)) :=
    mem_vectorsOf (c := (e.1, e.2.prio)) ((mem_deliverable s _ _).mpr ⟨e, hmem, hdel, rfl⟩)
  have hport : (arbitratePort s p).port p = (vectorsOf p (deliverable s (4 + p))).foldl WgPort.sendVector (s.port p) := by
    rw [arbitratePort_eq havail, port_eq (foldl_markSignalled_only _ _ .ports (by decide)), port_onPort_same]
  obtain ⟨hsent, hpba⟩ := sendVectors_mem (vectorsOf p (deliverable s (4 + p))) (s.port p) (vectorOf p e.1 e.2.prio)
  rw [hport]
  exact ⟨fun hmask => hsent hmask (.inl hv), fun hmask => hpba hmask (.inl hv)⟩

theorem mem_tins_of_ne {α : Type} {n : Nat} {v : α} {t : Tbl α} {e : Nat × α} (h : e ∈ t) (hne : e.1 ≠ n) : e ∈ tins n v t := by
  induction t with
  | nil => simp at h
  | cons f t ih =>
    obtain ⟨k, w⟩ := f
    unfold tins
    split_ifs with hlt heq
    · exact List.mem_cons_of_mem _ h
    · subst heq
      rcases List.mem_cons.mp h with rfl | ht
      · exact absurd rfl hne
      · exact List.mem_cons_of_mem _ ht
    · rcases List.mem_cons.mp h with rfl | ht
      · exact List.mem_cons_self ..
      · exact List.mem_cons_of_mem _ (ih ht)

theorem mem_tput_of_ne {α : Type} [DecidableEq α] {d : α} {n : Nat} {v : α} {t : Tbl α} {e : Nat × α}
    (h : e ∈ t) (hne : e.1 ≠ n) :
    e ∈ tput d t n v := by
  unfold tput
  split_ifs
  · exact List.mem_filter.mpr ⟨h, by simpa using hne⟩
  · exact mem_tins_of_ne h hne

/-- The arbitration for one port leaves the sources that go to another target, and the other ports. -/
theorem arbitratePort_other {s : State} {p n : Nat} {x : Src} (hmem : (n, x) ∈ s.ev.srcs) (htarget : effTarget s n ≠ 4 + p) :
    (n, x) ∈ (arbitratePort s p).ev.srcs ∧ (arbitratePort s p).src n = s.src n := by
  by_cases h : available s (4 + p) = true
  · rw [arbitratePort_eq h]
    refine List.foldlRecOn (motive := fun t : State => (n, x) ∈ t.ev.srcs ∧ t.src n = s.src n) _ _ ⟨hmem, rfl⟩ fun t ht c hc => ?_
    obtain ⟨hin, hsrc⟩ := ht
    have hne : n ≠ c.1 := by
      rintro rfl
      obtain ⟨e, -, hdel, rfl⟩ := (mem_deliverable s _ c).mp hc
      simp only [delivers, Bool.and_eq_true, beq_iff_eq] at hdel
      exact htarget hdel.1.2
    exact ⟨mem_tput_of_ne hin hne, by rw [markSignalled, src_onEv_srcs, if_neg hne, hsrc]⟩
  · rw [arbitratePort, if_neg h]
    exact ⟨hmem, rfl⟩

theorem arbitratePort_port_ne {s : State} {p r : Nat} (hr : r ≠ p) : (arbitratePort s p).port r = s.port r := by
  by_cases h : available s (4 + p) = true
  · rw [arbitratePort_eq h, port_eq (foldl_markSignalled_only _ _ .ports (by decide)), port_onPort_ne s _ hr]
  · rw [arbitratePort, if_neg h]

theorem arbitratePort_ev (s : State) (p : Nat) :
    (arbitratePort s p).ev.evStack = s.ev.evStack ∧ (arbitratePort s p).ev.fallback = s.ev.fallback := by
  by_cases h : available s (4 + p) = true
  · rw [arbitratePort_eq h]
    exact List.foldlRecOn (motive := fun t : State => t.ev.evStack = s.ev.evStack ∧ t.ev.fallback = s.ev.fallback) _ _ ⟨rfl, rfl⟩
      fun _ ht _ _ => ht
  · rw [arbitratePort, if_neg h]
    exact ⟨rfl, rfl⟩

theorem orderSeen_port (s : State) (p : Nat) : (orderSeen s).port p = s.port p := by
  unfold orderSeen
  split_ifs
  · exact port_driveSrc 319 false p s
  · rfl

theorem orderSeen_only (s : State) : onlyChanges [.ev] s (orderSeen s) := by
  have hguard := driveSrc_guard_same 319 false s (.inr (by decide))
  have hhive := driveSrc_hive_same 319 false s (.inr (by decide))
  have hpower := driveSrc_power_same 319 false s (.inr (by decide))
  unfold orderSeen
  split_ifs
  · intro p hp
    cases p <;> simp_all [Part.same]
  · exact onlyChanges_refl _ s

theorem arbitrate_only (s : State) : onlyChanges [.ports, .ev] s (arbitrate s) :=
  onlyChanges_mono (onlyChanges_append (onlyChanges_trans (arbitratePort_only s 0) (arbitratePort_only _ 1)) (orderSeen_only _)) (by decide)

/-- Whether a source is delivered depends on it, on the stack, and on the fallback of its group. -/
theorem delivers_congr {s t : State} {c : Nat} {e : Nat × Src} (hsrc : t.src e.1 = s.src e.1) (hstack : t.ev.evStack = s.ev.evStack)
    (hfall : t.ev.fallback = s.ev.fallback) (h : delivers s c e) : delivers t c e := by
  simpa [delivers, effTarget, fallbackOf, aboveLevel, State.stackOf, hsrc, hstack, hfall] using h

theorem available_congr {s t : State} {p : Nat} (hp : p < 2) (hport : t.port p = s.port p) (h : available s (4 + p) = true) :
    available t (4 + p) = true := by
  unfold available at *
  rw [if_neg (by omega), if_pos (by omega), Nat.add_sub_cancel_left] at *
  simpa [State.portUp, hport] using h

/-- A port sends the vector of a source that becomes deliverable to it, whichever of the two ports it is. -/
theorem arbitrate_sends {s : State} {p : Nat} {e : Nat × Src} (hp : p < 2) (havail : available s (4 + p) = true) (hmem : e ∈ s.ev.srcs)
    (hdel : delivers s (4 + p) e) :
    ((s.port p).vectorMasked (vectorOf p e.1 e.2.prio) = false → vectorOf p e.1 e.2.prio ∈ ((arbitrate s).port p).sentMsix) ∧
      ((s.port p).vectorMasked (vectorOf p e.1 e.2.prio) = true → vectorOf p e.1 e.2.prio ∈ ((arbitrate s).port p).msixPba) := by
  have harb : ∀ r, (arbitrate s).port r = (arbitratePort (arbitratePort s 0) 1).port r := fun r => orderSeen_port _ r
  rw [harb]
  obtain rfl | rfl : p = 0 ∨ p = 1 := by omega
  · rw [arbitratePort_port_ne (by decide)]
    exact arbitratePort_sends havail hmem hdel
  · have htarget : effTarget s e.1 ≠ 4 + 0 := by
      simp only [delivers, Bool.and_eq_true, beq_iff_eq] at hdel
      omega
    obtain ⟨hmem', hsrc⟩ := arbitratePort_other (x := e.2) hmem htarget
    have hport : (arbitratePort s 0).port 1 = s.port 1 := arbitratePort_port_ne (by decide)
    obtain ⟨hstack, hfall⟩ := arbitratePort_ev s 0
    rw [← hport]
    exact arbitratePort_sends (available_congr (by decide) hport havail) hmem' (delivers_congr hsrc hstack hfall hdel)

/-- Settles O35: each command of the controller writes the one source, group or port that it names; counting the step's events drives the
overflow sources alone. -/
theorem eventController : Obligations.EventController := by
  intro s
  refine ⟨fun p n v hup hopen hn hold hnew => ?source, fun p g v hup hopen hg hcount hlo hhi hfb => ?group,
    fun n level hreserved hn => ?line, fun p n prio hup hopen hclaim hn hedge => ?claim,
    fun p n hp hn havail hany hpends hheld hsignalled htarget habove => ?arbitrate,
    fun p g n hp hg hwindow htarget hgroup hn => ?release, fun n hn hpends hheld htarget havail habove hfb hfallback => ?redirect⟩
  case source =>
    have heq : barAccess p (0x5000 + 8 * n) (evSrcWrite p n v.toNat) s = _ :=
      (barAccess_open hopen _ _).trans (evSrcWrite_writes hup (by omega) hold hnew)
    have hline := fun x => (counted_line n s (setSrc n x s) (.inl hn)).trans (setSrc_src_line n x s)
    exact ⟨_, congrArg (done s) heq, counted_changes (setSrc_only n _ s), congrArg Src.prio (hline _), congrArg Src.edge (hline _),
      congrArg Src.target (hline _), (congrArg Src.asserted (hline _)).trans rfl⟩
  case group =>
    have heq : barAccess p (0x5A40 + 8 * g) (evGrpWrite p g v.toNat) s = _ :=
      (barAccess_open hopen _ _).trans (evGrpWrite_writes hup hg hcount hlo hhi hfb)
    refine ⟨_, congrArg (done s) heq, counted_changes (onlyChanges_trans (onCoal_only s p g _) (onEv_only _ _)), ?_, ?_, ?_⟩
    · rw [counted_fallback]
      simp [State.onEv]
    · rw [(counted_coal s _ p g).1]
      exact congrArg Coal.count (coalOf_onCoal_same s p g fun c => { c with count := _, time := _ })
    · rw [(counted_coal s _ p g).2]
      exact congrArg Coal.time (coalOf_onCoal_same s p g fun c => { c with count := _, time := _ })
  case line =>
    have heq : assertSource n level s = driveSrc n level s := if_neg (by simp [hreserved])
    have hline := (counted_line n s (driveSrc n level s) hn).trans (driveSrc_src_line n level s)
    refine ⟨_, congrArg (done s) heq, congrArg Src.asserted hline, counted_changes (driveSrc_copies n level s), fun hlevel => ?_,
      fun hedge => ?_⟩
    · rw [← pends_line, hline]
      simp [Src.pends, Src.line, hlevel, Bool.and_comm]
    · refine (congrArg Src.latch hline).trans ?_
      simp [Src.line, hedge]
  case claim =>
    obtain ⟨-, hline, -, -⟩ := evClaim_claims hup hclaim
    refine ⟨_, congrArg (done s) (barAccess_open hopen 0x5A00 _), ?_, ?_⟩
    · refine (congrArg Src.latch ((counted_line n s _ hn).trans hline)).trans ?_
      simp [Src.line, Src.claimed, hedge]
    · exact congrArg Src.inService ((counted_line n s _ hn).trans hline)
  case arbitrate =>
    obtain ⟨e, hmem, he⟩ := List.any_eq_true.mp hany
    obtain ⟨rfl, hsrc⟩ : e.1 = n ∧ e.2 = s.src n := by simpa using he
    have hdel : delivers s (4 + p) e := by simp [delivers, hsrc, hn, hpends, hheld, hsignalled, htarget, habove]
    obtain ⟨hsent, hpba⟩ := arbitrate_sends hp havail hmem hdel
    rw [hsrc] at hsent hpba
    exact ⟨_, rfl, counted_changes (arbitrate_only s), by simpa using hsent, by simpa using hpba⟩
  case release =>
    have heq : coalesceEnds p g s = releaseHeld p g s := if_pos (by simp [hp, hg, hwindow])
    refine ⟨_, congrArg (done s) heq, counted_changes (onEv_only s _), counted_held s _ hn ?_⟩
    rw [releaseHeld_src, if_pos (by simp [htarget, hgroup])]
  case redirect =>
    have heq : redirectEnds n s = s.onEv fun e =>
        { e with srcs := tput {} e.srcs n { s.src n with fallen := true, signalled := false } } := by
      refine if_pos ?_
      simp only [hpends, hheld, htarget, havail, habove, hfb, hfallback, Bool.and_true, Bool.not_false, decide_true, decide_eq_true_eq]
      omega
    refine ⟨_, congrArg (done s) heq, counted_changes (onEv_only s _), ?_⟩
    rw [counted_fallen s _ hn, src_onEv_srcs, if_pos rfl]

end Sys2Proof.Machine
end

section
/-!
PROOFS. The Guard's record, the cores, the modes and the hive's outputs (14 R425-R448; 18 R541; 12 R352-R359).
-/

namespace Sys2Proof.Machine

open Sys2Proof

/-! ### The records of the Guard, the hive and the power unit, without what a source or a fault writes in them -/

/-- The Guard's record but for the fault queue's own fields and the sticky copy. -/
def Guard.view (g : Guard) : Guard :=
  { g with fq := [], overflow := 0, lastBeat := 0, lastCode := 0, lastCls := 0, storm := false, events := 0 }

/-- The fault queue's own fields, and the policies (14 R432, R464). -/
def Guard.faults (g : Guard) : Guard :=
  { fq := g.fq, overflow := g.overflow, lastBeat := g.lastBeat, lastCode := g.lastCode, lastCls := g.lastCls, storm := g.storm
    stormPolicy := g.stormPolicy, restartLimit := g.restartLimit }

/-- The hive's record but for its outputs, the mirror stream that it sends, and the sticky copy. -/
def Hive.view (h : Hive) : Hive := { h with hvOk := false, hvSel := false, role := .solo, txSeq := 0, sent := [], events := 0 }

/-- The power unit's record but for the sticky copy. -/
def Power.view (p : Power) : Power := { p with events := 0 }

/-- Two states whose Guard, hive and power unit differ in sticky copies alone (14 R449; 12 R378; 18 R559). -/
structure SameViews (s t : State) : Prop where
  guard : t.guard.view = s.guard.view
  faults : t.guard.faults = s.guard.faults
  hive : t.hive.view = s.hive.view
  power : t.power.view = s.power.view

theorem SameViews.refl (s : State) : SameViews s s := ⟨rfl, rfl, rfl, rfl⟩

theorem SameViews.trans {s t u : State} (h : SameViews s t) (h' : SameViews t u) : SameViews s u :=
  ⟨h'.guard.trans h.guard, h'.faults.trans h.faults, h'.hive.trans h.hive, h'.power.trans h.power⟩

theorem SameViews.of_parts {s t : State} (hguard : t.guard = s.guard) (hhive : t.hive = s.hive) (hpower : t.power = s.power) :
    SameViews s t :=
  ⟨congrArg Guard.view hguard, congrArg Guard.faults hguard, congrArg Hive.view hhive, congrArg Power.view hpower⟩

theorem sticky_views (n : Nat) (s : State) : SameViews s (sticky n s) := by
  unfold sticky
  split_ifs <;> exact ⟨rfl, rfl, rfl, rfl⟩

theorem setSrc_views (n : Nat) (x : Src) (s : State) : SameViews s (setSrc n x s) := .of_parts (by simp) (by simp) (by simp)

theorem raise_views (n : Nat) (s : State) : SameViews s (raise n s) :=
  (setSrc_views n (if (s.src n).edge then { s.src n with latch := true } else { s.src n with asserted := true }) s).trans
    (sticky_views n _)

@[simp] theorem guardView_raise (n : Nat) (s : State) : (raise n s).guard.view = s.guard.view := (raise_views n s).guard
@[simp] theorem guardFaults_raise (n : Nat) (s : State) : (raise n s).guard.faults = s.guard.faults := (raise_views n s).faults
@[simp] theorem hiveView_raise (n : Nat) (s : State) : (raise n s).hive.view = s.hive.view := (raise_views n s).hive
@[simp] theorem powerView_raise (n : Nat) (s : State) : (raise n s).power.view = s.power.view := (raise_views n s).power

@[simp] theorem guardView_raiseIf (b : Bool) (n : Nat) (s : State) : (raiseIf b n s).guard.view = s.guard.view := by
  cases b <;> simp [raiseIf]
@[simp] theorem guardFaults_raiseIf (b : Bool) (n : Nat) (s : State) : (raiseIf b n s).guard.faults = s.guard.faults := by
  cases b <;> simp [raiseIf]
@[simp] theorem hiveView_raiseIf (b : Bool) (n : Nat) (s : State) : (raiseIf b n s).hive.view = s.hive.view := by
  cases b <;> simp [raiseIf]
@[simp] theorem powerView_raiseIf (b : Bool) (n : Nat) (s : State) : (raiseIf b n s).power.view = s.power.view := by
  cases b <;> simp [raiseIf]

/-! ### Sources of the groups that have a sticky copy -/

theorem raise_keeps_hive {n : Nat} (hlo : 115 ≤ n) (hhi : n ≤ 130) (s : State) : Keeps [.ev, .hive] s (raise n s) := by
  have hguard := raise_guard_same n s (by omega)
  have hpower := raise_power_same n s (by omega)
  refine ⟨fun p hp => ?_, (raise_keeps n s).shows⟩
  cases p <;> simp_all [Part.same]

theorem raise_keeps_guard {n : Nat} (hlo : 211 ≤ n) (hhi : n ≤ 242) (s : State) : Keeps [.ev, .guard] s (raise n s) := by
  have hhive := raise_hive_same n s (by omega)
  have hpower := raise_power_same n s (by omega)
  refine ⟨fun p hp => ?_, (raise_keeps n s).shows⟩
  cases p <;> simp_all [Part.same]

theorem raise_keeps_power {n : Nat} (hlo : 275 ≤ n) (hhi : n ≤ 290) (s : State) : Keeps [.ev, .power] s (raise n s) := by
  have hhive := raise_hive_same n s (by omega)
  have hguard := raise_guard_same n s (by omega)
  refine ⟨fun p hp => ?_, (raise_keeps n s).shows⟩
  cases p <;> simp_all [Part.same]

theorem raiseIf_keeps_of {ps : List Part} {n : Nat} {s : State} (b : Bool) (h : Keeps ps s (raise n s)) : Keeps ps s (raiseIf b n s) := by
  cases b with
  | true => exact h
  | false => exact .refl ps s

theorem shows_raiseIf_true {b : Bool} (n : Nat) (s : State) (hb : b = true) : (raiseIf b n s).shows n := by
  subst hb
  exact shows_raise n s

/-! ### Sources and stacks of a core (14 R427) -/

/-- A source whose event stands as before. -/
theorem setSrc_keeps {n : Nat} {x : Src} {s : State} (h : x.up = (s.src n).up) : Keeps [.ev] s (setSrc n x s) := by
  refine ⟨setSrc_only n x s, fun m hm => ?_⟩
  show Src.up _ = true
  rw [← up_line, setSrc_line]
  split_ifs with hmn
  · subst hmn
    rw [up_line, h]
    exact hm
  · rw [up_line]
    exact hm

theorem outOfService_keeps (n : Nat) (s : State) : Keeps [.ev] s (outOfService n s) := setSrc_keeps rfl

theorem setStack_keeps (c : Nat) (l : List (Nat × Nat)) (s : State) : Keeps [.ev] s (s.setStack c l) :=
  ⟨setStack_only c l s, fun _ h => h⟩

theorem clearStack_keeps (c : Nat) (s : State) : Keeps [.ev] s (clearStack c s) := by
  unfold clearStack
  exact (setStack_keeps c [] s).trans (.foldl (fun s (e : Nat × Nat) => outOfService_keeps e.1 s) _ _)

theorem retarget_keeps (c d : Nat) (s : State) : Keeps [.ev] s (retarget c d s) := by
  unfold retarget
  refine .foldl (fun t e => ?_) _ s
  split_ifs
  · exact setSrc_keeps rfl
  · exact .refl _ t

@[simp] theorem stackOf_raise (n c : Nat) (s : State) : (raise n s).stackOf c = s.stackOf c := by simp [State.stackOf]
@[simp] theorem stackOf_raiseIf (b : Bool) (n c : Nat) (s : State) : (raiseIf b n s).stackOf c = s.stackOf c := by simp [State.stackOf]

theorem stackOf_clearStack_same (c : Nat) (s : State) : (clearStack c s).stackOf c = [] := by simp [clearStack_stackOf]

/-- Clearing one stack fills no other. -/
theorem stackOf_clearStack_empty {c d : Nat} {s : State} (h : s.stackOf d = []) : (clearStack c s).stackOf d = [] := by
  rw [clearStack_stackOf]
  by_cases hd : d = c
  · simp [hd]
  · rw [stackOf_setStack_ne _ _ hd, h]

theorem stackOf_eq {s t : State} (h : t.ev.evStack = s.ev.evStack) (c : Nat) : t.stackOf c = s.stackOf c := by simp [State.stackOf, h]

/-! ### Cores (14 R425-R428) -/

theorem coreOf_eq {s t : State} (h : t.guard.cores = s.guard.cores) (c : Nat) : t.coreOf c = s.coreOf c := by simp [State.coreOf, h]

theorem setCore_keeps {c : Nat} (hc : c < 4) (st : Core) (s : State) : Keeps [.guard, .ev] s (setCore c st s) := by
  unfold setCore
  split_ifs
  · exact .refl _ s
  · exact ((onGuard_keeps _ s).append (raise_keeps_ev (by unfold noCopy; omega) _)).mono

theorem setCore_guard {c : Nat} (hc : c < 4) (st : Core) (s : State) :
    (setCore c st s).guard = { s.guard with cores := s.guard.cores.set c st } := by
  unfold setCore
  split_ifs with h
  · have hsame : s.guard.cores.set c st = s.guard.cores := by
      rw [← h, State.coreOf]
      by_cases hlen : c < s.guard.cores.length
      · rw [List.getD_eq_getElem _ _ hlen, List.set_getElem_self]
      · exact List.set_eq_of_length_le (by omega)
    rw [hsame]
  · rw [raise_guard_same _ _ (by omega)]
    rfl

theorem setCore_cores {c : Nat} (hc : c < 4) (st : Core) (s : State) : (setCore c st s).guard.cores = s.guard.cores.set c st := by
  rw [setCore_guard hc]

theorem coreOf_setCore_same {c : Nat} (hc : c < 4) (st : Core) {s : State} (hlen : c < s.guard.cores.length) :
    (setCore c st s).coreOf c = st := by
  simp [State.coreOf, setCore_cores hc, hlen]

theorem coreOf_setCore_ne {c d : Nat} (hc : c < 4) (st : Core) (s : State) (h : d ≠ c) : (setCore c st s).coreOf d = s.coreOf d := by
  simp only [State.coreOf, setCore_cores hc, List.getD_eq_getElem?_getD]
  rw [List.getElem?_set_ne (Ne.symm h)]

@[simp] theorem stackOf_setCore (c d : Nat) (st : Core) (s : State) : (setCore c st s).stackOf d = s.stackOf d := by
  unfold setCore
  split_ifs
  · rfl
  · rw [stackOf_raise]
    rfl

theorem handToRelief_keeps {r : Nat} (c : Nat) (hr : r < 4) (s : State) : Keeps [.guard, .ev] s (handToRelief c r s) := by
  unfold handToRelief
  exact ((setCore_keeps hr .working s).append ((retarget_keeps c r _).append ((clearStack_keeps c _).append
    (raise_keeps_ev (by decide) _)))).mono

theorem handToRelief_cores {r : Nat} (c : Nat) (hr : r < 4) (s : State) :
    (handToRelief c r s).guard = { s.guard with cores := s.guard.cores.set r .working } := by
  unfold handToRelief
  rw [raise_guard_same _ _ (by decide), show _ = _ from (clearStack_keeps c _).parts .guard (by decide),
    show _ = _ from (retarget_keeps c r _).parts .guard (by decide), setCore_guard hr]

theorem handToRelief_stack (c r : Nat) (s : State) : (handToRelief c r s).stackOf c = [] := by
  rw [handToRelief, stackOf_raise, stackOf_clearStack_same]

theorem reliefCore_lt {s : State} {r : Nat} (h : reliefCore s = some r) : r < 4 ∧ s.coreOf r = .relief := by
  have hmem := List.mem_of_find?_eq_some h
  have hcore := List.find?_some h
  exact ⟨List.mem_range.mp hmem, by simpa using hcore⟩

/-! ### Every core held (14 R439) -/

/-- Holds every core. -/
def holdAll (s : State) : State := setCore 3 .held (setCore 2 .held (setCore 1 .held (setCore 0 .held s)))

theorem holdCores_eq (s : State) : holdCores s = clearCoreStacks (holdAll s) := by
  simp only [holdCores, holdAll, List.foldl_cons, List.foldl_nil]

theorem holdAll_keeps (s : State) : Keeps [.guard, .ev] s (holdAll s) := by
  unfold holdAll
  exact (((setCore_keeps (by decide) .held s).trans (setCore_keeps (by decide) .held _)).trans
    (setCore_keeps (by decide) .held _)).trans (setCore_keeps (by decide) .held _)

theorem holdAll_guard (s : State) : (holdAll s).guard =
    { s.guard with cores := (((s.guard.cores.set 0 .held).set 1 .held).set 2 .held).set 3 .held } := by
  rw [holdAll, setCore_guard (by decide), setCore_guard (by decide), setCore_guard (by decide), setCore_guard (by decide)]

theorem clearCoreStacks_keeps (s : State) : Keeps [.ev] s (clearCoreStacks s) := by
  unfold clearCoreStacks
  exact .foldl (fun s c => clearStack_keeps c s) _ s

theorem holdCores_keeps (s : State) : Keeps [.guard, .ev] s (holdCores s) := by
  rw [holdCores_eq]
  exact ((holdAll_keeps s).append (clearCoreStacks_keeps _)).mono

theorem holdCores_guard (s : State) : (holdCores s).guard = (holdAll s).guard := by
  rw [holdCores_eq]
  exact (clearCoreStacks_keeps _).parts .guard (by decide)

theorem coreOf_holdCores {c : Nat} (hc : c < 4) (s : State) : (holdCores s).coreOf c = .held := by
  have hget : ∀ (l : List Core) k d, (l.set k .held).getD d .held = .held ∨ l.getD d .held = (l.set k .held).getD d .held := by
    intro l k d
    simp only [List.getD_eq_getElem?_getD, List.getElem?_set]
    split_ifs <;> simp_all
  have hset : ∀ (l : List Core) k, (l.set k .held).getD k .held = .held := by
    intro l k
    simp only [List.getD_eq_getElem?_getD, List.getElem?_set]
    split_ifs <;> simp_all
  have hkeep : ∀ (l : List Core) k d, l.getD d .held = .held → (l.set k .held).getD d .held = .held := by
    intro l k d h
    rcases hget l k d with heq | heq
    · exact heq
    · rw [← heq, h]
  rw [State.coreOf, holdCores_guard, holdAll_guard]
  obtain rfl | rfl | rfl | rfl : c = 0 ∨ c = 1 ∨ c = 2 ∨ c = 3 := by omega
  · exact hkeep _ _ _ (hkeep _ _ _ (hkeep _ _ _ (hset _ _)))
  · exact hkeep _ _ _ (hkeep _ _ _ (hset _ _))
  · exact hkeep _ _ _ (hset _ _)
  · exact hset _ _

theorem stackOf_holdCores_empty {c : Nat} {s : State} (h : s.stackOf c = []) : (holdCores s).stackOf c = [] := by
  have hall : (holdAll s).stackOf c = [] := by
    simpa [holdAll] using h
  rw [holdCores_eq]
  exact List.foldlRecOn (motive := fun t : State => t.stackOf c = []) _ _ hall fun _ ht _ _ => stackOf_clearStack_empty ht

theorem holdCores_faults (s : State) : (holdCores s).guard.faults = s.guard.faults := by
  rw [holdCores_guard, holdAll_guard]
  rfl

/-! ### Modes (18 R541, R542) and the hive's outputs (12 R352-R359) -/

theorem refreshHive_keeps (s : State) : Keeps [.ev, .hive] s (refreshHive s) := by
  unfold refreshHive
  exact ((onHive_keeps _ s).append (raiseIf_keeps_of _ (raise_keeps_hive (by decide) (by decide) _))).mono

@[simp] theorem hiveView_refreshHive (s : State) : (refreshHive s).hive.view = s.hive.view := by
  simp only [refreshHive, hiveView_raiseIf]
  rfl

theorem setMode_keeps (m : Mode) (s : State) : Keeps [.mode, .ev, .power] s (setMode m s) := by
  unfold setMode
  split_ifs
  · exact .refl _ s
  · have hmode : Keeps [.mode] s { s with mode := m } := by
      refine .of_only fun p hp => ?_
      cases p <;> simp_all [Part.same]
    exact (hmode.append (raise_keeps_power (by decide) (by decide) _)).mono

@[simp] theorem setMode_mode (m : Mode) (s : State) : (setMode m s).mode = m := by
  unfold setMode
  split_ifs with h
  · exact h
  · simp

@[simp] theorem powerView_setMode (m : Mode) (s : State) : (setMode m s).power.view = s.power.view := by
  unfold setMode
  split_ifs
  · rfl
  · simp

theorem enterMode_keeps (m : Mode) (s : State) : Keeps [.mode, .ev, .power, .hive] s (enterMode m s) := by
  unfold enterMode
  exact ((setMode_keeps m s).append (refreshHive_keeps _)).mono

@[simp] theorem enterMode_mode (m : Mode) (s : State) : (enterMode m s).mode = m := by
  rw [enterMode, show _ = _ from (refreshHive_keeps _).parts .mode (by decide), setMode_mode]

@[simp] theorem powerView_refreshHive (s : State) : (refreshHive s).power.view = s.power.view :=
  congrArg Power.view ((refreshHive_keeps s).parts .power (by decide))

@[simp] theorem powerView_enterMode (m : Mode) (s : State) : (enterMode m s).power.view = s.power.view := by simp [enterMode]

@[simp] theorem hiveView_enterMode (m : Mode) (s : State) : (enterMode m s).hive.view = s.hive.view := by
  rw [enterMode, hiveView_refreshHive, show _ = _ from (setMode_keeps m s).parts .hive (by decide)]

theorem onPower_keeps (f : Power → Power) (s : State) : Keeps [.power] s (s.onPower f) := by
  refine .of_only fun p hp => ?_
  cases p <;> simp_all [Part.same]

theorem onKeeper_keeps (f : Keeper → Keeper) (s : State) : Keeps [.keeper] s (s.onKeeper f) := by
  refine .of_only fun p hp => ?_
  cases p <;> simp_all [Part.same]

theorem onClk_keeps (f : Clock → Clock) (s : State) : Keeps [.clk] s (s.onClk f) := .of_only (onClk_only s f)

theorem setQuiesceFrom_keeps (m : Mode) (s : State) : Keeps [.quiesceFrom] s { s with quiesceFrom := m } := by
  refine .of_only fun p hp => ?_
  cases p <;> simp_all [Part.same]

theorem setApFrom_keeps (m : Mode) (s : State) : Keeps [.apFrom] s { s with apFrom := m } := by
  refine .of_only fun p hp => ?_
  cases p <;> simp_all [Part.same]

theorem enterUnder_keeps (m : Mode) (s : State) : Keeps [.mode, .quiesceFrom, .ev, .power, .hive] s (enterUnder m s) := by
  unfold enterUnder
  split
  · exact .ite ((setQuiesceFrom_keeps m s).append (refreshHive_keeps _)).mono ((onPower_keeps _ s).append (refreshHive_keeps _)).mono
  · exact ((setQuiesceFrom_keeps m s).append (refreshHive_keeps _)).mono
  · exact (enterMode_keeps m s).mono

@[simp] theorem hiveView_enterUnder (m : Mode) (s : State) : (enterUnder m s).hive.view = s.hive.view := by
  unfold enterUnder
  split
  · split_ifs
    · exact hiveView_refreshHive _
    · exact hiveView_refreshHive _
  · exact hiveView_refreshHive _
  · exact hiveView_enterMode m s

/-- In a mode of its own a device enters another one as it is. -/
theorem enterUnder_eq {m : Mode} {s : State} (hlean : s.mode ≠ .lean) (hquiesce : s.mode ≠ .quiesce) : enterUnder m s = enterMode m s := by
  unfold enterUnder
  split
  · exact absurd ‹_› hlean
  · exact absurd ‹_› hquiesce
  · rfl

theorem selMode_eq {s : State} (hlean : s.mode ≠ .lean) (hquiesce : s.mode ≠ .quiesce) : selMode s = s.mode := by
  unfold selMode
  cases hmode : s.mode
  case lean => exact absurd hmode hlean
  case quiesce => exact absurd hmode hquiesce
  all_goals rfl

end Sys2Proof.Machine
end

section
/-!
PROOFS. Faults (14 R432-R435) and the release of the token (12 R354, R367-R369).
-/

namespace Sys2Proof.Machine

open Sys2Proof

/-! ### Faults (14 R432-R437) -/

/-- What a fault leaves: the Guard but for its queue, and the hive but for its mirror stream. -/
structure FaultLeaves (s t : State) : Prop where
  guard : t.guard.view = s.guard.view
  hive : t.hive.view = s.hive.view

theorem FaultLeaves.trans {s t u : State} (h : FaultLeaves s t) (h' : FaultLeaves t u) : FaultLeaves s u :=
  ⟨h'.guard.trans h.guard, h'.hive.trans h.hive⟩

theorem ringPut_keeps {p n : Nat} (hp : p < 2) (hn : n < 8) (rec : List Byte) (s : State) : Keeps [.ports, .ev] s (ringPut p n rec s) := by
  unfold ringPut
  dsimp only
  split_ifs
  · exact (onPort_keeps p _ s).mono
  · exact ((onPort_keeps p _ s).append (raise_keeps_ev (portSrc_noCopy hp (by omega)) _)).mono

theorem logFault_keeps (code cls flags entry unit repeats detail : Nat) (s : State) :
    Keeps [.ports, .ev] s (logFault code cls flags entry unit repeats detail s) :=
  (ringPut_keeps (by decide) (by decide) _ s).trans (ringPut_keeps (by decide) (by decide) _ _)

theorem mirrorSend_keeps (rec : MirrorRec) (s : State) : Keeps [.hive] s (mirrorSend rec s) := .of_only (mirrorSend_only rec s)

@[simp] theorem hiveView_mirrorSend (rec : MirrorRec) (s : State) : (mirrorSend rec s).hive.view = s.hive.view := by
  unfold mirrorSend
  split_ifs <;> rfl

/-- An entry of the fault queue that holds the fault. -/
abbrev holdsFault (s : State) (code unit e : Nat) : Bool := (s.fqe e).valid && (s.fqe e).code == code && (s.fqe e).unit == unit

/-- The entry of a fault that has come again. -/
def FqEntry.again (x : FqEntry) (now : Nat) : FqEntry :=
  { x with repeats := satAdd 16 x.repeats 1, last := now, cls := if x.cls < 3 then x.cls + 1 else x.cls }

/-- The entry of a new fault. -/
def newFault (code unit cls now : Nat) : FqEntry := ⟨true, code, unit, cls, faultSealed code, now, now, 0⟩

theorem faultWith_repeats {code kind index e : Nat} (detail : Nat) {s : State}
    (h : (List.range 16).find? (holdsFault s code (kind * 4096 + index % 4096)) = some e) :
    ∃ flags, faultWith detail code kind index s = logFault code ((s.fqe e).again s.now).cls flags e (kind * 4096 + index % 4096)
      ((s.fqe e).again s.now).repeats detail (raiseIf (((s.fqe e).again s.now).cls != (s.fqe e).cls) 212 (raise 211
        (s.onGuard fun g => { g with fq := tput {} g.fq e ((s.fqe e).again s.now) }))) := by
  refine ⟨2 + (if ((s.fqe e).again s.now).cls != (s.fqe e).cls then 4 else 0), ?_⟩
  unfold faultWith
  dsimp only
  rw [h]
  rfl

theorem faultWith_enters {code kind index e : Nat} (detail : Nat) {s : State}
    (hnone : (List.range 16).find? (holdsFault s code (kind * 4096 + index % 4096)) = none)
    (hfree : (List.range 16).find? (fun e => !(s.fqe e).valid) = some e) :
    faultWith detail code kind index s = logFault code (faultClass code index) 1 e (kind * 4096 + index % 4096) 0 detail (raise 211
      (mirrorSend (.fault code (kind * 4096 + index % 4096) (faultClass code index) s.now) (s.onGuard fun g =>
        { g with fq := tput {} g.fq e (newFault code (kind * 4096 + index % 4096) (faultClass code index) s.now) }))) := by
  unfold faultWith
  dsimp only
  rw [hnone, hfree]
  rfl

theorem faultWith_overflows {code kind index : Nat} (detail : Nat) {s : State}
    (hnone : (List.range 16).find? (holdsFault s code (kind * 4096 + index % 4096)) = none)
    (hfull : (List.range 16).find? (fun e => !(s.fqe e).valid) = none) :
    faultWith detail code kind index s = logFault code (faultClass code index) 16 255 (kind * 4096 + index % 4096) 0 detail
      (raiseIf (!s.guard.storm) 214 (raise 216 (s.onGuard fun g => { g with
        overflow := satAdd 32 g.overflow 1, lastBeat := s.now, lastCode := code, lastCls := faultClass code index, storm := true }))) := by
  unfold faultWith
  dsimp only
  rw [hnone, hfull]

/-- A fault leaves the cores, the loss of the Keeper and its restarts, and the hive but for its mirror stream. -/
theorem logFault_leaves (code cls flags entry unit repeats detail : Nat) (s : State) :
    FaultLeaves s (logFault code cls flags entry unit repeats detail s) :=
  have hparts := (logFault_keeps code cls flags entry unit repeats detail s).parts
  ⟨congrArg Guard.view (hparts .guard (by decide)), congrArg Hive.view (hparts .hive (by decide))⟩

theorem raise_leaves (n : Nat) (s : State) : FaultLeaves s (raise n s) := ⟨guardView_raise n s, hiveView_raise n s⟩

theorem raiseIf_leaves (b : Bool) (n : Nat) (s : State) : FaultLeaves s (raiseIf b n s) := ⟨guardView_raiseIf b n s, hiveView_raiseIf b n s⟩

theorem mirrorSend_leaves (rec : MirrorRec) (s : State) : FaultLeaves s (mirrorSend rec s) :=
  ⟨congrArg Guard.view ((mirrorSend_keeps rec s).parts .guard (by decide)), hiveView_mirrorSend rec s⟩

/-- A fault is written in the queue, or in the record of an overflow, and shown; its writes of the queue are not seen. -/
theorem faultWith_views (detail code kind index : Nat) (s : State) : FaultLeaves s (faultWith detail code kind index s) := by
  cases hrep : (List.range 16).find? (holdsFault s code (kind * 4096 + index % 4096)) with
  | some e =>
    obtain ⟨flags, heq⟩ := faultWith_repeats detail hrep
    rw [heq]
    refine .trans ?_ (logFault_leaves _ _ _ _ _ _ _ _)
    refine .trans ?_ (raiseIf_leaves _ 212 _)
    refine .trans ?_ (raise_leaves 211 _)
    exact ⟨rfl, rfl⟩
  | none =>
    cases hfree : (List.range 16).find? (fun e => !(s.fqe e).valid) with
    | some e =>
      rw [faultWith_enters detail hrep hfree]
      refine .trans ?_ (logFault_leaves _ _ _ _ _ _ _ _)
      refine .trans ?_ (raise_leaves 211 _)
      refine .trans ?_ (mirrorSend_leaves _ _)
      exact ⟨rfl, rfl⟩
    | none =>
      rw [faultWith_overflows detail hrep hfree]
      refine .trans ?_ (logFault_leaves _ _ _ _ _ _ _ _)
      refine .trans ?_ (raiseIf_leaves _ 214 _)
      refine .trans ?_ (raise_leaves 216 _)
      exact ⟨rfl, rfl⟩

@[simp] theorem guardView_fault (code kind index : Nat) (s : State) : (fault code kind index s).guard.view = s.guard.view :=
  (faultWith_views 0 code kind index s).guard

@[simp] theorem hiveView_fault (code kind index : Nat) (s : State) : (fault code kind index s).hive.view = s.hive.view :=
  (faultWith_views 0 code kind index s).hive

@[simp] theorem fqe_onGuard_put (s : State) (e x : Nat) (y : FqEntry) :
    (s.onGuard fun g => { g with fq := tput {} g.fq e y }).fqe x = if x = e then y else s.fqe x := by
  simp [State.fqe, tget_tput]

theorem fqe_eq {s t : State} (h : t.guard.fq = s.guard.fq) (e : Nat) : t.fqe e = s.fqe e := by simp [State.fqe, h]

@[simp] theorem fqe_raise (n e : Nat) (s : State) : (raise n s).fqe e = s.fqe e := fqe_eq (by simp) e
@[simp] theorem fqe_raiseIf (b : Bool) (n e : Nat) (s : State) : (raiseIf b n s).fqe e = s.fqe e := fqe_eq (by simp) e
@[simp] theorem fqe_mirrorSend (rec : MirrorRec) (e : Nat) (s : State) : (mirrorSend rec s).fqe e = s.fqe e :=
  fqe_eq (congrArg Guard.fq ((mirrorSend_keeps rec s).parts .guard (by decide))) e
@[simp] theorem fqe_logFault (code cls flags entry unit repeats detail e : Nat) (s : State) :
    (logFault code cls flags entry unit repeats detail s).fqe e = s.fqe e :=
  fqe_eq (congrArg Guard.fq ((logFault_keeps code cls flags entry unit repeats detail s).parts .guard (by decide))) e

/-- A search of the queue stops at the first entry that it asks for. -/
theorem find?_range_first {f : Nat → Bool} {n e : Nat} (he : e < n) (hf : f e = true) (hfirst : ∀ x, x < e → f x = false) :
    (List.range n).find? f = some e := by
  rw [List.find?_range_eq_some]
  exact ⟨hf, List.mem_range.mpr he, fun x hx => by simp [hfirst x hx]⟩

theorem find?_range_none {f : Nat → Bool} {n : Nat} (h : ∀ x, x < n → f x = false) : (List.range n).find? f = none := by
  rw [List.find?_eq_none]
  exact fun x hx => by simp [h x (List.mem_range.mp hx)]

/-! ### The token released (12 R354, R367-R369) -/

theorem refreshHive_hvSel (s : State) : (refreshHive s).hive.hvSel = selDue s := by simp [refreshHive]

theorem selDue_without {s : State} (h : s.hive.token = false) : selDue s = false := by simp [selDue, h]

/-- The hive of a device that has just released its token. -/
def Hive.release (cause : Nat) (h : Hive) : Hive :=
  { h with
    token := false, hvSel := false, txIdled := true, released := cause, wasActive := true, lineFree := true
    bbOpen := false, bbLeft := 0 }

/-- The release with its sources, before the role and the mode follow. -/
def dropToken (cause : Nat) (guard : Bool) (s : State) : State := raiseIf guard 227 (raise 115 (s.onHive (Hive.release cause)))

theorem releaseToken_eq {cause : Nat} {guard : Bool} {s : State} (h : s.hive.token = true) : releaseToken cause guard s =
    if underMode (dropToken cause guard s) = .carry && (dropToken cause guard s).keeper.present then
      enterUnder .shadow (dropToken cause guard s)
    else refreshHive (dropToken cause guard s) := if_pos h

theorem releaseToken_without {cause : Nat} {guard : Bool} {s : State} (h : s.hive.token = false) : releaseToken cause guard s = s :=
  if_neg (by simp [h])

theorem dropToken_keeps (cause : Nat) (guard : Bool) (s : State) : Keeps [.hive, .ev, .guard] s (dropToken cause guard s) :=
  ((onHive_keeps _ s).append ((raise_keeps_hive (by decide) (by decide) _).append
    (raiseIf_keeps_of guard (raise_keeps_guard (by decide) (by decide) _)))).mono

theorem dropToken_hiveView (cause : Nat) (guard : Bool) (s : State) :
    (dropToken cause guard s).hive.view = (s.hive.release cause).view := by
  simp only [dropToken, hiveView_raiseIf, hiveView_raise]
  rfl

theorem shows_dropToken (cause : Nat) (s : State) : (dropToken cause true s).shows 227 := shows_raise 227 _

/-- What a release of the token leaves, whatever mode it happens in. -/
theorem releaseToken_keeps (cause : Nat) (guard : Bool) (s : State) :
    Keeps [.hive, .ev, .guard, .mode, .quiesceFrom, .power] s (releaseToken cause guard s) := by
  cases htoken : s.hive.token with
  | false => rw [releaseToken_without htoken]; exact .refl _ s
  | true =>
    rw [releaseToken_eq htoken]
    refine Keeps.trans ((dropToken_keeps cause guard s).mono) (.ite (enterUnder_keeps _ _).mono (refreshHive_keeps _).mono)

theorem releaseToken_hiveView {cause : Nat} {guard : Bool} {s : State} (h : s.hive.token = true) :
    (releaseToken cause guard s).hive.view = (s.hive.release cause).view := by
  rw [releaseToken_eq h]
  split_ifs <;> simp [dropToken_hiveView]

theorem releaseToken_token (cause : Nat) (guard : Bool) (s : State) : (releaseToken cause guard s).hive.token = false := by
  cases htoken : s.hive.token with
  | false => rw [releaseToken_without htoken, htoken]
  | true => exact (congrArg Hive.token (releaseToken_hiveView htoken)).trans rfl

theorem guardView_dropToken (cause : Nat) (guard : Bool) (s : State) : (dropToken cause guard s).guard.view = s.guard.view ∧
    (dropToken cause guard s).guard.faults = s.guard.faults := by
  simp only [dropToken, guardView_raiseIf, guardView_raise, guardFaults_raiseIf, guardFaults_raise]
  exact ⟨rfl, rfl⟩

theorem releaseToken_guard (cause : Nat) (guard : Bool) (s : State) : (releaseToken cause guard s).guard.view = s.guard.view ∧
    (releaseToken cause guard s).guard.faults = s.guard.faults := by
  cases htoken : s.hive.token with
  | false => rw [releaseToken_without htoken]; exact ⟨rfl, rfl⟩
  | true =>
    have hdrop := guardView_dropToken cause guard s
    rw [releaseToken_eq htoken]
    split_ifs
    · rwa [show _ = _ from (enterUnder_keeps .shadow (dropToken cause guard s)).parts .guard (by decide)]
    · rwa [show _ = _ from (refreshHive_keeps (dropToken cause guard s)).parts .guard (by decide)]

theorem underMode_dropToken (cause : Nat) (guard : Bool) (s : State) : underMode (dropToken cause guard s) = underMode s := by
  have hparts := (dropToken_keeps cause guard s).parts
  unfold underMode selMode
  rw [show _ = _ from hparts .mode (by decide), show _ = _ from hparts .power (by decide),
    show _ = _ from hparts .quiesceFrom (by decide)]

/-- Outside Carry, or with no Keeper, the mode stays when the token goes. -/
theorem releaseToken_mode {cause : Nat} {guard : Bool} {s : State} (h : underMode s ≠ .carry ∨ s.keeper.present = false) :
    Keeps [.hive, .ev, .guard] s (releaseToken cause guard s) := by
  cases htoken : s.hive.token with
  | false => rw [releaseToken_without htoken]; exact .refl _ s
  | true =>
    have hkeeper : (dropToken cause guard s).keeper = s.keeper := (dropToken_keeps cause guard s).parts .keeper (by decide)
    rw [releaseToken_eq htoken, if_neg]
    · exact (dropToken_keeps cause guard s).trans (refreshHive_keeps _).mono
    · rw [underMode_dropToken, hkeeper]
      rcases h with hmode | hpresent
      · simp [hmode]
      · simp [hpresent]

/-- The Guard's release raises its own source (14 R448). -/
theorem releaseToken_shows {cause : Nat} {s : State} (h : s.hive.token = true) : (releaseToken cause true s).shows 227 := by
  rw [releaseToken_eq h]
  split_ifs
  · exact (enterUnder_keeps _ _).shows 227 (shows_dropToken cause s)
  · exact (refreshHive_keeps _).shows 227 (shows_dropToken cause s)

end Sys2Proof.Machine
end

section
/-!
PROOFS. A core that fails (14 R427, R428) and the loss of the Keeper: its commands, semaphores and cores (14 R429, R439, R440).
-/

namespace Sys2Proof.Machine

open Sys2Proof

/-- What the Guard has set in Autopilot: the Keeper is lost, by which cause, and the cluster watchdog has stopped. -/
structure Guard.Pilots (cause : Nat) (cores : List Core) (g : Guard) : Prop where
  lost : g.keeperLost = true
  pilot : g.autopilot = true
  cause_eq : g.apCause = cause
  stopped : g.clusterRun = false
  cores_eq : g.cores = cores

/-! ### Core retirement and expiry (14 R427, R428, R430) -/

/-- A handed core takes the relief core's place; the other cores are as before. -/
theorem coreOf_handToRelief {c r : Nat} (hr : r < 4) (s : State) (hlen : r < s.guard.cores.length) (d : Nat) :
    (handToRelief c r s).coreOf d = if d = r then .working else s.coreOf d := by
  have hcores : (handToRelief c r s).guard.cores = (setCore r .working s).guard.cores := by
    rw [handToRelief_cores c hr, setCore_guard hr]
  rw [coreOf_eq hcores]
  split_ifs with h
  · rw [h, coreOf_setCore_same hr .working hlen]
  · exact coreOf_setCore_ne hr .working s h

theorem workingCores_eq {s t : State} (h : ∀ d, d < 4 → t.coreOf d = s.coreOf d) : workingCores t = workingCores s :=
  List.filter_congr fun d hd => by rw [h d (List.mem_range.mp hd)]

/-- The working cores, as a set. -/
def workingSet (s : State) : Finset Nat := (Finset.range 4).filter fun c => s.coreOf c = .working

theorem workingCores_length (s : State) : (workingCores s).length = (workingSet s).card := by
  simp only [workingCores, workingSet, Finset.card, Finset.filter_val, Finset.range_val, Multiset.range, Multiset.filter_coe,
    Multiset.coe_card, beq_eq_decide]

/-- The relief core takes the place of the one that fails: as many cores work as before. -/
theorem workingCores_swap {s t : State} {c r : Nat} (hc : c < 4) (hr : r < 4) (hne : c ≠ r) (hcore : s.coreOf c = .working)
    (hrelief : s.coreOf r = .relief) (hcfail : t.coreOf c = .failed) (hrwork : t.coreOf r = .working)
    (hothers : ∀ d, d ≠ c → d ≠ r → t.coreOf d = s.coreOf d) : (workingCores t).length = (workingCores s).length := by
  have hmem : c ∈ workingSet s := by simp [workingSet, hc, hcore]
  have hnew : r ∉ (workingSet s).erase c := by simp [workingSet, hrelief]
  have hset : workingSet t = insert r ((workingSet s).erase c) := by
    ext d
    simp only [workingSet, Finset.mem_insert, Finset.mem_erase, Finset.mem_filter, Finset.mem_range]
    by_cases hdc : d = c
    · simp [hdc, hcfail, hne]
    · by_cases hdr : d = r
      · simp [hdr, hr, hrwork]
      · simp [hdc, hdr, hothers d hdc hdr]
  rw [workingCores_length, workingCores_length, hset, Finset.card_insert_of_notMem hnew, Finset.card_erase_add_one hmem]

theorem coreRetires_hands {c r : Nat} {s : State} (hwork : s.coreOf c = .working) (hrelief : reliefCore s = some r) :
    coreRetires c s = handToRelief c r (setCore c .retired s) := by
  unfold coreRetires
  rw [hrelief]
  exact if_pos hwork

/-- The state of an expired core, before the Guard looks at how many are left. -/
def coreFails (c : Nat) (s : State) : State := setCore c .failed (fault 0x01 5 c (raise (220 + c) s))

theorem coreFails_keeps {c : Nat} (hc : c < 4) (s : State) : Keeps [.ev, .guard, .hive, .ports] s (coreFails c s) := by
  unfold coreFails
  exact ((raise_keeps_guard (by omega) (by omega) s).append ((fault_keeps 0x01 5 c _).append (setCore_keeps hc .failed _))).mono

theorem coreFails_cores {c : Nat} (hc : c < 4) (s : State) : (coreFails c s).guard.cores = s.guard.cores.set c .failed := by
  have hview : (fault 0x01 5 c (raise (220 + c) s)).guard.view = s.guard.view := by simp
  have hcores : (fault 0x01 5 c (raise (220 + c) s)).guard.cores = s.guard.cores := by
    have h := congrArg Guard.cores hview
    exact h
  rw [coreFails, setCore_cores hc, hcores]

theorem coreExpires_hands {c r : Nat} {s : State} (hc : c < 4) (hwork : s.coreOf c = .working) (hrelief : reliefCore s = some r) :
    coreExpires c s = coresShort true (handToRelief c r (coreFails c s)) := by
  unfold coreExpires
  rw [if_pos (by simp [hc, hwork]), hrelief]
  rfl

/-! ### The Keeper lost (14 R429, R439, R440) -/

theorem loseCommands_keeps (s : State) : Keeps [.clk, .pool, .pm, .hive, .keeper, .sec] s (loseCommands s) := by
  refine .of_only fun p hp => ?_
  cases p <;> simp_all [Part.same, loseCommands]

theorem releaseKeeperSems_keeps (s : State) : Keeps [.sems] s (releaseKeeperSems s) := by
  refine .of_only fun p hp => ?_
  cases p <;> simp_all [Part.same, releaseKeeperSems]

/-- The parts that a lost Keeper leaves behind differently. -/
abbrev downParts : List Part := [.guard, .ev, .clk, .pool, .pm, .hive, .keeper, .sec, .sems]

/-- The Guard's record once it has declared the Keeper lost. -/
def Guard.lose (cause : Nat) (g : Guard) : Guard :=
  { g with keeperLost := true, apCause := cause, attempts := 0, attempting := false, clusterRun := false }

/-- The Keeper goes out of service, its cores held. -/
def keeperOut (cause : Nat) (t : State) : State :=
  ((releaseKeeperSems (loseCommands t)).onGuard (Guard.lose cause)).onKeeper fun k =>
    { k with present := false, serving := false, started := false }

theorem keeperDown_eq (cause : Nat) (s : State) : keeperDown cause s = keeperOut cause (holdCores s) := by
  unfold keeperDown keeperOut
  rfl

theorem keeperOut_keeps (cause : Nat) (t : State) :
    Keeps [.guard, .clk, .pool, .pm, .hive, .keeper, .sec, .sems] t (keeperOut cause t) := by
  unfold keeperOut
  exact (((loseCommands_keeps t).append (releaseKeeperSems_keeps _)).append ((onGuard_keeps _ _).append (onKeeper_keeps _ _))).mono

theorem keeperOut_guard (cause : Nat) (t : State) : (keeperOut cause t).guard = t.guard.lose cause := rfl
theorem keeperOut_hive (cause : Nat) (t : State) : (keeperOut cause t).hive =
    { t.hive with joining := none, switchPend := t.hive.switchPend.map fun w => (w.1, w.2.1, none) } := rfl
theorem keeperOut_ev (cause : Nat) (t : State) : (keeperOut cause t).ev = t.ev :=
  (keeperOut_keeps cause t).parts .ev (by decide)
theorem keeperOut_lost (cause : Nat) (t : State) : (keeperOut cause t).clk.lost = t.clk.lost ++ (waitingCommands t).map Waiter.late := rfl
theorem keeperOut_keeper (cause : Nat) (t : State) : (keeperOut cause t).keeper.present = false ∧
    (keeperOut cause t).keeper.serving = false ∧ (keeperOut cause t).keeper.started = false := ⟨rfl, rfl, rfl⟩

theorem keeperDown_keeps (cause : Nat) (s : State) : Keeps downParts s (keeperDown cause s) := by
  rw [keeperDown_eq]
  exact ((holdCores_keeps s).append (keeperOut_keeps cause _)).mono

theorem keeperDown_guard (cause : Nat) (s : State) : (keeperDown cause s).guard = (holdCores s).guard.lose cause := by
  rw [keeperDown_eq, keeperOut_guard]

theorem guardFaults_lose (cause : Nat) (g : Guard) : (g.lose cause).faults = g.faults := rfl
theorem cores_lose (cause : Nat) (g : Guard) : (g.lose cause).cores = g.cores := rfl

theorem keeperDown_faults (cause : Nat) (s : State) : (keeperDown cause s).guard.faults = s.guard.faults := by
  rw [keeperDown_guard, guardFaults_lose, holdCores_faults]

theorem keeperDown_hive (cause : Nat) (s : State) : (keeperDown cause s).hive =
    { s.hive with joining := none, switchPend := s.hive.switchPend.map fun w => (w.1, w.2.1, none) } := by
  have hhive : (holdCores s).hive = s.hive := (holdCores_keeps s).parts .hive (by decide)
  rw [keeperDown_eq, keeperOut_hive, hhive]

theorem coreOf_keeperDown {c : Nat} (hc : c < 4) (cause : Nat) (s : State) : (keeperDown cause s).coreOf c = .held := by
  have hcores : (keeperDown cause s).guard.cores = (holdCores s).guard.cores := by rw [keeperDown_guard, cores_lose]
  rw [coreOf_eq hcores, coreOf_holdCores hc]

theorem keeperDown_keeper (cause : Nat) (s : State) : (keeperDown cause s).keeper.present = false ∧
    (keeperDown cause s).keeper.serving = false ∧ (keeperDown cause s).keeper.started = false := by
  rw [keeperDown_eq]
  exact keeperOut_keeper cause _

theorem stackOf_keeperDown_empty {c : Nat} {cause : Nat} {s : State} (h : s.stackOf c = []) : (keeperDown cause s).stackOf c = [] := by
  have hev : (keeperDown cause s).ev.evStack = (holdCores s).ev.evStack := by rw [keeperDown_eq, keeperOut_ev]
  rw [stackOf_eq hev, stackOf_holdCores_empty h]

theorem waitingCommands_eq {s t : State} (h : Keeps [.guard, .ev] s t) : waitingCommands t = waitingCommands s := by
  have hclk : t.clk = s.clk := h.parts .clk (by decide)
  have hpool : t.pool = s.pool := h.parts .pool (by decide)
  have hhive : t.hive = s.hive := h.parts .hive (by decide)
  have hkeeper : t.keeper = s.keeper := h.parts .keeper (by decide)
  have hpm : t.pm = s.pm := h.parts .pm (by decide)
  have hsec : t.sec = s.sec := h.parts .sec (by decide)
  unfold waitingCommands
  rw [hclk, hpool, hhive, hkeeper, hpm, hsec]

theorem keeperDown_lost (cause : Nat) (s : State) :
    (keeperDown cause s).clk.lost = s.clk.lost ++ (waitingCommands s).map Waiter.late := by
  have hclk : (holdCores s).clk = s.clk := (holdCores_keeps s).parts .clk (by decide)
  rw [keeperDown_eq, keeperOut_lost, hclk, waitingCommands_eq (holdCores_keeps s)]

/-! ### Autopilot (14 R439; 18 R551) -/

theorem keeperLossRelease_keeps {s : State} (h : s.keeper.present = false) : Keeps [.hive, .ev, .guard] s (keeperLossRelease s) := by
  unfold keeperLossRelease
  exact .when (releaseToken_mode (.inr h))

theorem keeperLossRelease_guard (s : State) : (keeperLossRelease s).guard.view = s.guard.view ∧
    (keeperLossRelease s).guard.faults = s.guard.faults := by
  unfold keeperLossRelease
  split_ifs
  · exact releaseToken_guard 1 true s
  · exact ⟨rfl, rfl⟩

/-- The Guard's record in Autopilot. -/
def Guard.pilot (now : Nat) (g : Guard) : Guard := { g with autopilot := true, apBeat := now }

/-- Autopilot is declared: its source, and the mode that it was entered from. -/
def apDeclared (now : Nat) (left : Mode) (t : State) : State := { raise 217 (t.onGuard (Guard.pilot now)) with apFrom := left }

/-- The mode as Autopilot changes it: Lean stays, and what it returns to changes. -/
def apMode (t : State) : State :=
  if t.mode = .lean then refreshHive (t.onPower fun p => { p with leanFrom := .autopilot }) else enterMode .autopilot t

theorem toAutopilot_eq (cause : Nat) (s : State) :
    toAutopilot cause s = keeperLossRelease (apMode (apDeclared s.now (underMode s) (keeperDown cause s))) := by
  unfold toAutopilot apMode apDeclared
  rfl

theorem apDeclared_keeps (now : Nat) (left : Mode) (t : State) : Keeps [.guard, .ev, .apFrom] t (apDeclared now left t) := by
  unfold apDeclared
  exact ((onGuard_keeps _ t).append ((raise_keeps_guard (by decide) (by decide) _).append (setApFrom_keeps left _))).mono

theorem apDeclared_shows (now : Nat) (left : Mode) (t : State) : (apDeclared now left t).shows 217 :=
  (setApFrom_keeps left _).shows 217 (shows_raise 217 _)

theorem apDeclared_guard (now : Nat) (left : Mode) (t : State) : (apDeclared now left t).guard.view = (t.guard.pilot now).view ∧
    (apDeclared now left t).guard.faults = t.guard.faults :=
  ⟨guardView_raise 217 _, guardFaults_raise 217 _⟩

theorem apDeclared_apFrom (now : Nat) (left : Mode) (t : State) : (apDeclared now left t).apFrom = left := rfl

theorem apMode_keeps (t : State) : Keeps [.mode, .ev, .power, .hive] t (apMode t) := by
  unfold apMode
  exact .ite ((onPower_keeps _ t).append (refreshHive_keeps _)).mono (enterMode_keeps _ t)

theorem apMode_mode {t : State} (h : t.mode ≠ .lean) : (apMode t).mode = .autopilot := by
  rw [apMode, if_neg h, enterMode_mode]

/-- The end of an entry to Autopilot, once the Keeper is out of service. -/
theorem apEnds_keeps {now : Nat} {left : Mode} {t : State} (h : t.keeper.present = false) :
    Keeps [.mode, .ev, .power, .hive, .guard, .apFrom] t (keeperLossRelease (apMode (apDeclared now left t))) := by
  have hkeeper : (apMode (apDeclared now left t)).keeper = t.keeper :=
    ((apMode_keeps _).parts .keeper (by decide)).trans ((apDeclared_keeps now left t).parts .keeper (by decide))
  exact (((apDeclared_keeps now left t).append (apMode_keeps _)).append (keeperLossRelease_keeps (by rw [hkeeper, h]))).mono

theorem apEnds_guard (now : Nat) (left : Mode) (t : State) :
    (keeperLossRelease (apMode (apDeclared now left t))).guard.view = (t.guard.pilot now).view ∧
      (keeperLossRelease (apMode (apDeclared now left t))).guard.faults = t.guard.faults := by
  obtain ⟨hview, hfaults⟩ := keeperLossRelease_guard (apMode (apDeclared now left t))
  have hguard : (apMode (apDeclared now left t)).guard = (apDeclared now left t).guard := (apMode_keeps _).parts .guard (by decide)
  obtain ⟨hview', hfaults'⟩ := apDeclared_guard now left t
  rw [hview, hfaults, hguard]
  exact ⟨hview', hfaults'⟩

theorem apEnds_mode {now : Nat} {left : Mode} {t : State} (h : t.keeper.present = false) (hmode : t.mode ≠ .lean) :
    (keeperLossRelease (apMode (apDeclared now left t))).mode = .autopilot := by
  have hkeeper : (apMode (apDeclared now left t)).keeper = t.keeper :=
    ((apMode_keeps _).parts .keeper (by decide)).trans ((apDeclared_keeps now left t).parts .keeper (by decide))
  have hkept : (apDeclared now left t).mode = t.mode := (apDeclared_keeps now left t).parts .mode (by decide)
  rw [show _ = _ from (keeperLossRelease_keeps (by rw [hkeeper, h])).parts .mode (by decide), apMode_mode (by rwa [hkept])]

theorem apEnds_apFrom {now : Nat} {left : Mode} {t : State} (h : t.keeper.present = false) :
    (keeperLossRelease (apMode (apDeclared now left t))).apFrom = left := by
  have hkeeper : (apMode (apDeclared now left t)).keeper = t.keeper :=
    ((apMode_keeps _).parts .keeper (by decide)).trans ((apDeclared_keeps now left t).parts .keeper (by decide))
  rw [show _ = _ from (keeperLossRelease_keeps (by rw [hkeeper, h])).parts .apFrom (by decide),
    show _ = _ from (apMode_keeps _).parts .apFrom (by decide), apDeclared_apFrom]

theorem apEnds_shows {now : Nat} {left : Mode} {t : State} (h : t.keeper.present = false) :
    (keeperLossRelease (apMode (apDeclared now left t))).shows 217 := by
  have hkeeper : (apMode (apDeclared now left t)).keeper = t.keeper :=
    ((apMode_keeps _).parts .keeper (by decide)).trans ((apDeclared_keeps now left t).parts .keeper (by decide))
  exact (keeperLossRelease_keeps (by rw [hkeeper, h])).shows 217 ((apMode_keeps _).shows 217 (apDeclared_shows now left t))

theorem toAutopilot_steps (cause : Nat) (s : State) :
    Keeps [.mode, .ev, .power, .hive, .guard, .apFrom] (keeperDown cause s) (toAutopilot cause s) := by
  rw [toAutopilot_eq]
  exact apEnds_keeps (keeperDown_keeper cause s).1

theorem toAutopilot_keeps (cause : Nat) (s : State) : Keeps ([.mode, .power, .apFrom] ++ downParts) s (toAutopilot cause s) :=
  ((keeperDown_keeps cause s).append (toAutopilot_steps cause s)).mono

/-- The Guard's record of a device that has entered Autopilot. -/
theorem toAutopilot_guard (cause : Nat) (s : State) :
    (toAutopilot cause s).guard.view = (((holdCores s).guard.lose cause).pilot s.now).view ∧
      (toAutopilot cause s).guard.faults = s.guard.faults := by
  obtain ⟨hview, hfaults⟩ := apEnds_guard s.now (underMode s) (keeperDown cause s)
  rw [toAutopilot_eq, hview, hfaults, keeperDown_faults, keeperDown_guard]
  exact ⟨rfl, rfl⟩

theorem lose_pilot_sets (cause now : Nat) (g : Guard) : ((g.lose cause).pilot now).view.keeperLost = true ∧
    ((g.lose cause).pilot now).view.autopilot = true ∧ ((g.lose cause).pilot now).view.apCause = cause ∧
    ((g.lose cause).pilot now).view.clusterRun = false ∧ ((g.lose cause).pilot now).view.cores = g.cores := ⟨rfl, rfl, rfl, rfl, rfl⟩

theorem toAutopilot_sets (cause : Nat) (s : State) : (toAutopilot cause s).guard.Pilots cause (holdCores s).guard.cores := by
  have hview := (toAutopilot_guard cause s).1
  obtain ⟨h1, h2, h3, h4, h5⟩ := lose_pilot_sets cause s.now (holdCores s).guard
  rw [← hview] at h1 h2 h3 h4 h5
  exact ⟨h1, h2, h3, h4, h5⟩

theorem coreOf_toAutopilot {c : Nat} (hc : c < 4) (cause : Nat) (s : State) : (toAutopilot cause s).coreOf c = .held := by
  rw [coreOf_eq (toAutopilot_sets cause s).cores_eq, coreOf_holdCores hc]

theorem toAutopilot_mode {s : State} (cause : Nat) (h : s.mode ≠ .lean) : (toAutopilot cause s).mode = .autopilot := by
  have hmode : (keeperDown cause s).mode = s.mode := (keeperDown_keeps cause s).parts .mode (by decide)
  rw [toAutopilot_eq]
  exact apEnds_mode (keeperDown_keeper cause s).1 (by rwa [hmode])

theorem toAutopilot_keeper (cause : Nat) (s : State) : (toAutopilot cause s).keeper = (keeperDown cause s).keeper :=
  (toAutopilot_steps cause s).parts .keeper (by decide)

theorem toAutopilot_shows (cause : Nat) (s : State) : (toAutopilot cause s).shows 217 := by
  rw [toAutopilot_eq]
  exact apEnds_shows (keeperDown_keeper cause s).1

theorem toAutopilot_apFrom (cause : Nat) (s : State) : (toAutopilot cause s).apFrom = underMode s := by
  rw [toAutopilot_eq]
  exact apEnds_apFrom (keeperDown_keeper cause s).1

theorem toAutopilot_clk (cause : Nat) (s : State) : (toAutopilot cause s).clk = (keeperDown cause s).clk :=
  (toAutopilot_steps cause s).parts .clk (by decide)

end Sys2Proof.Machine
end

section
/-!
PROOFS. Answers to any queue (13 R402), the Guard's action on a lost Keeper (14 R437-R440) and Halt (14 R445).
-/

namespace Sys2Proof.Machine

open Sys2Proof

/-! ### Answers, to whatever queue the header of the command names (13 R402) -/

theorem driveSrc_views (n : Nat) (b : Bool) (s : State) : SameViews s (driveSrc n b s) := by
  unfold driveSrc
  dsimp only
  split
  · exact (setSrc_views n _ s).trans (sticky_views n _)
  · exact setSrc_views n _ s

/-- The parts that an answer may change. -/
abbrev answerParts : List Part := .ports :: copyParts

theorem publishRsp_keeps (p q : Nat) (m : List QWord) (s : State) : Keeps answerParts s (publishRsp p q m s) := by
  unfold publishRsp
  split_ifs
  · exact .refl _ s
  · exact ((Keeps.of_only (onRspQ_only s p q _)).append (driveSrc_high_keeps _ _)).mono

theorem publishRsp_views (p q : Nat) (m : List QWord) (s : State) : SameViews s (publishRsp p q m s) := by
  unfold publishRsp
  split_ifs
  · exact .refl s
  · exact SameViews.trans (t := s.onRspQ p q _) (.of_parts rfl rfl rfl) (driveSrc_views _ true _)

theorem answer_publishes (w : Waiter) (status applied : Nat) (s : State) :
    ∃ m, answer w status applied s = publishRsp w.hdr.port w.hdr.queue m s := by
  unfold answer
  dsimp only
  split <;> exact ⟨_, rfl⟩

theorem answer_keeps (w : Waiter) (status applied : Nat) (s : State) : Keeps answerParts s (answer w status applied s) := by
  obtain ⟨m, hm⟩ := answer_publishes w status applied s
  rw [hm]
  exact publishRsp_keeps _ _ m s

theorem answer_views (w : Waiter) (status applied : Nat) (s : State) : SameViews s (answer w status applied s) := by
  obtain ⟨m, hm⟩ := answer_publishes w status applied s
  rw [hm]
  exact publishRsp_views _ _ m s

theorem answerOpt_keeps (w : Option Waiter) (status applied : Nat) (s : State) : Keeps answerParts s (answerOpt w status applied s) := by
  cases w with
  | none => exact .refl _ s
  | some w => exact answer_keeps w status applied s

theorem answerOpt_views (w : Option Waiter) (status applied : Nat) (s : State) : SameViews s (answerOpt w status applied s) := by
  cases w with
  | none => exact .refl s
  | some w => exact answer_views w status applied s

theorem answerAll_keeps (ws : List Waiter) (status applied : Nat) (s : State) : Keeps answerParts s (answerAll ws status applied s) := by
  unfold answerAll
  exact .foldl (fun s w => answer_keeps w status applied s) ws s

theorem answerAll_views (ws : List Waiter) (status applied : Nat) (s : State) : SameViews s (answerAll ws status applied s) :=
  List.foldlRecOn (motive := SameViews s) _ _ (.refl s) fun t ht w _ => ht.trans (answer_views w status applied t)

/-! ### What the Guard does about a lost Keeper (14 R437-R440) -/

/-- The parts that the Guard's action on a lost Keeper may change. -/
abbrev lossParts : List Part := [.mode, .power, .apFrom] ++ downParts

theorem keeperLoss_keeps (cause : Nat) (s : State) : Keeps lossParts s (keeperLoss cause s) := by
  unfold keeperLoss
  split_ifs
  · exact .refl _ s
  · exact toAutopilot_keeps cause s
  · exact (keeperDown_keeps cause s).mono
  · exact .refl _ s

theorem keeperLoss_faults (cause : Nat) (s : State) : (keeperLoss cause s).guard.faults = s.guard.faults := by
  unfold keeperLoss
  split_ifs
  · rfl
  · exact (toAutopilot_guard cause s).2
  · exact keeperDown_faults cause s
  · rfl

theorem keeperLoss_pilots {cause : Nat} {s : State} (hlost : s.guard.keeperLost = false) (hmode : autopilotMode s.mode = true) :
    keeperLoss cause s = toAutopilot cause s := by
  rw [keeperLoss, if_neg (by simp [hlost]), if_pos hmode]

theorem keeperLoss_inPlace {cause : Nat} {s : State} (hlost : s.guard.keeperLost = false) (hap : autopilotMode s.mode = false)
    (hmode : inPlaceMode s.mode = true) : keeperLoss cause s = keeperDown cause s := by
  rw [keeperLoss, if_neg (by simp [hlost]), if_neg (by simp [hap]), if_pos hmode]

theorem stackOf_toAutopilot_empty {c cause : Nat} {s : State} (h : s.stackOf c = []) : (toAutopilot cause s).stackOf c = [] := by
  have hdeclared : ∀ t : State, (apDeclared s.now (underMode s) t).stackOf c = t.stackOf c := fun t => stackOf_raise 217 c _
  have hrefresh : ∀ t : State, (refreshHive t).stackOf c = t.stackOf c := fun t => stackOf_raiseIf _ 116 c _
  have hset : ∀ (m : Mode) (t : State), (setMode m t).stackOf c = t.stackOf c := by
    intro m t
    unfold setMode
    split_ifs
    · rfl
    · exact stackOf_raise 290 c _
  have hmode : ∀ t : State, (apMode t).stackOf c = t.stackOf c := by
    intro t
    unfold apMode
    split_ifs
    · exact hrefresh _
    · exact (hrefresh _).trans (hset _ t)
  have hdrop : ∀ t : State, (dropToken 1 true t).stackOf c = t.stackOf c := fun t => by
    simp only [dropToken, stackOf_raiseIf, stackOf_raise]
    rfl
  have hunder : ∀ t : State, (enterUnder .shadow t).stackOf c = t.stackOf c := by
    intro t
    unfold enterUnder
    split
    · split_ifs <;> exact hrefresh _
    · exact hrefresh _
    · exact (hrefresh _).trans (hset _ t)
  have hrelease : ∀ t : State, (keeperLossRelease t).stackOf c = t.stackOf c := by
    intro t
    unfold keeperLossRelease
    split_ifs
    · cases htoken : t.hive.token with
      | false => rw [releaseToken_without htoken]
      | true =>
        rw [releaseToken_eq htoken]
        split_ifs
        · rw [hunder, hdrop]
        · rw [hrefresh, hdrop]
    · rfl
  rw [toAutopilot_eq, hrelease, hmode, hdeclared, stackOf_keeperDown_empty h]

theorem stackOf_keeperLoss_empty {c cause : Nat} {s : State} (h : s.stackOf c = []) : (keeperLoss cause s).stackOf c = [] := by
  unfold keeperLoss
  split_ifs
  · exact h
  · exact stackOf_toAutopilot_empty h
  · exact stackOf_keeperDown_empty h
  · exact h

/-! ### Halt (14 R445) -/

/-- The Guard's record in Halt. -/
def Guard.halt (cause : Nat) (g : Guard) : Guard := { g with isHalt := true, haltCause := cause, clusterRun := false, attempting := false }

/-- Halt is declared, and the Keeper out of service. -/
def haltDeclared (cause : Nat) (s : State) : State :=
  (raise 219 (s.onGuard (Guard.halt cause))).onKeeper fun k => { k with present := false, serving := false, started := false }

theorem toHalt_eq (cause : Nat) (s : State) :
    toHalt cause s = releaseToken 2 true (enterMode .halt (holdCores (haltDeclared cause s))) := by
  unfold toHalt haltDeclared
  rfl

theorem haltDeclared_keeps (cause : Nat) (s : State) : Keeps [.guard, .ev, .keeper] s (haltDeclared cause s) := by
  unfold haltDeclared
  exact ((onGuard_keeps _ s).append ((raise_keeps_guard (by decide) (by decide) _).append (onKeeper_keeps _ _))).mono

theorem haltDeclared_shows (cause : Nat) (s : State) : (haltDeclared cause s).shows 219 :=
  (onKeeper_keeps _ _).shows 219 (shows_raise 219 _)

theorem haltDeclared_guard (cause : Nat) (s : State) : (haltDeclared cause s).guard.view = (s.guard.halt cause).view ∧
    (haltDeclared cause s).guard.faults = s.guard.faults := ⟨guardView_raise 219 _, guardFaults_raise 219 _⟩

/-- The end of an entry to Halt leaves the Guard's own record and the Keeper. -/
theorem haltEnds_keeps (t : State) : Keeps [.guard, .ev, .mode, .power, .hive] t (releaseToken 2 true (enterMode .halt (holdCores t))) := by
  have hmode : underMode (enterMode .halt (holdCores t)) ≠ .carry := by
    rw [underMode, selMode_eq (by simp) (by simp), enterMode_mode]
    decide
  exact (((holdCores_keeps t).append (enterMode_keeps .halt _)).append (releaseToken_mode (.inl hmode))).mono

theorem haltEnds_guard (t : State) : (releaseToken 2 true (enterMode .halt (holdCores t))).guard.view = (holdCores t).guard.view ∧
    (releaseToken 2 true (enterMode .halt (holdCores t))).guard.faults = t.guard.faults := by
  obtain ⟨hview, hfaults⟩ := releaseToken_guard 2 true (enterMode .halt (holdCores t))
  rw [hview, hfaults, show _ = _ from (enterMode_keeps .halt (holdCores t)).parts .guard (by decide), holdCores_faults]
  exact ⟨rfl, rfl⟩

theorem haltEnds_mode (t : State) : (releaseToken 2 true (enterMode .halt (holdCores t))).mode = .halt := by
  have hmode : underMode (enterMode .halt (holdCores t)) ≠ .carry := by
    rw [underMode, selMode_eq (by simp) (by simp), enterMode_mode]
    decide
  exact ((releaseToken_mode (.inl hmode)).parts .mode (by decide)).trans (enterMode_mode .halt _)

theorem toHalt_keeps (cause : Nat) (s : State) : Keeps [.guard, .ev, .keeper, .mode, .power, .hive] s (toHalt cause s) := by
  rw [toHalt_eq]
  exact ((haltDeclared_keeps cause s).append (haltEnds_keeps _)).mono

/-- Two Guards that look alike hold the same record of Halt. -/
theorem halt_of_view {g g' : Guard} (h : g.view = g'.view) : g.isHalt = g'.isHalt ∧ g.haltCause = g'.haltCause :=
  ⟨(congrArg Guard.isHalt h :), (congrArg Guard.haltCause h :)⟩

/-- The cores that are held leave Halt's own record of the Guard. -/
theorem holdCores_halt (t : State) : (holdCores t).guard.isHalt = t.guard.isHalt ∧ (holdCores t).guard.haltCause = t.guard.haltCause := by
  rw [holdCores_guard, holdAll_guard]
  exact ⟨rfl, rfl⟩

theorem haltDeclared_halt (cause : Nat) (s : State) : (haltDeclared cause s).guard.isHalt = true ∧
    (haltDeclared cause s).guard.haltCause = cause := by
  obtain ⟨hhalt, hcause⟩ := halt_of_view (haltDeclared_guard cause s).1
  exact ⟨hhalt, hcause⟩

theorem haltEnds_halt (t : State) : (releaseToken 2 true (enterMode .halt (holdCores t))).guard.isHalt = t.guard.isHalt ∧
    (releaseToken 2 true (enterMode .halt (holdCores t))).guard.haltCause = t.guard.haltCause := by
  obtain ⟨hhalt, hcause⟩ := halt_of_view (haltEnds_guard t).1
  exact ⟨hhalt.trans (holdCores_halt t).1, hcause.trans (holdCores_halt t).2⟩

/-- What an entry to Halt makes of the Guard, the Keeper, the mode and the token. -/
structure Halted (cause : Nat) (s t : State) : Prop where
  mode : t.mode = .halt
  halt : t.guard.isHalt = true
  cause_eq : t.guard.haltCause = cause
  serving : t.keeper.serving = false
  token : t.hive.token = false
  faults : t.guard.faults = s.guard.faults
  shows : t.shows 219

theorem toHalt_sets (cause : Nat) (s : State) : Halted cause s (toHalt cause s) := by
  obtain ⟨-, hfaults⟩ := haltEnds_guard (haltDeclared cause s)
  obtain ⟨hhalt, hcause⟩ := haltEnds_halt (haltDeclared cause s)
  obtain ⟨hisHalt, hhaltCause⟩ := haltDeclared_halt cause s
  have hkeeper : (releaseToken 2 true (enterMode .halt (holdCores (haltDeclared cause s)))).keeper = (haltDeclared cause s).keeper :=
    (haltEnds_keeps _).parts .keeper (by decide)
  rw [toHalt_eq]
  refine ⟨haltEnds_mode _, hhalt.trans hisHalt, hcause.trans hhaltCause, ?serving, releaseToken_token 2 true _,
    hfaults.trans (haltDeclared_guard cause s).2,
    (haltEnds_keeps _).shows 219 (haltDeclared_shows cause s)⟩
  rw [hkeeper]
  rfl

end Sys2Proof.Machine
end

section
/-!
PROOFS. A core that is retired or expires hands its work to the relief core (14 R427-R430). O37.
-/

namespace Sys2Proof.Machine

open Sys2Proof

/-! ### Keeper cores (14 R427-R430) -/

theorem guardView_lost {s t : State} (h : t.guard.view = s.guard.view) : t.guard.keeperLost = s.guard.keeperLost :=
  (congrArg Guard.keeperLost h :)

theorem watchdogHalf_working {c : Nat} {s : State} (hc : c < 4) (hwork : s.coreOf c = .working) :
    watchdogHalf (some c) s = raise (179 + c) s := by
  simp [watchdogHalf, hc, hwork, raiseIf]

/-- A core that expires, and the relief core in its place. -/
def coreReplaced (c r : Nat) (s : State) : State := handToRelief c r (coreFails c s)

section
variable {c r : Nat} {s : State} (hc : c < 4) (hr : r < 4)
include hc hr

theorem coreReplaced_keeps : Keeps [.ev, .guard, .hive, .ports] s (coreReplaced c r s) := by
  unfold coreReplaced
  exact ((coreFails_keeps hc s).append (handToRelief_keeps c hr _)).mono

theorem coreReplaced_shows : (coreReplaced c r s).shows (220 + c) := by
  unfold coreReplaced coreFails
  exact (handToRelief_keeps c hr _).shows _ ((setCore_keeps hc .failed _).shows _ ((fault_keeps 0x01 5 c _).shows _ (shows_raise _ s)))

theorem coreOf_coreReplaced (hlen : s.guard.cores.length = 4) (d : Nat) :
    (coreReplaced c r s).coreOf d = if d = r then .working else if d = c then .failed else s.coreOf d := by
  have hcores := coreFails_cores hc s
  rw [coreReplaced, coreOf_handToRelief hr _ (by rw [hcores, List.length_set, hlen]; exact hr)]
  refine if_congr Iff.rfl rfl ?_
  simp only [State.coreOf, hcores, List.getD_eq_getElem?_getD, List.getElem?_set]
  by_cases hdc : c = d
  · rw [if_pos hdc, if_pos (by omega), if_pos hdc.symm]
    rfl
  · rw [if_neg hdc, if_neg (Ne.symm hdc)]

theorem coreReplaced_lost : (coreReplaced c r s).guard.keeperLost = s.guard.keeperLost := by
  have hview : (fault 0x01 5 c (raise (220 + c) s)).guard.view = s.guard.view := by simp
  rw [coreReplaced, handToRelief_cores c hr, coreFails, setCore_guard hc]
  exact guardView_lost hview

/-- As many cores work as before, since the relief core takes the place of the expired one. -/
theorem coreReplaced_working (hne : c ≠ r) (hlen : s.guard.cores.length = 4) (hwork : s.coreOf c = .working)
    (hrelief : s.coreOf r = .relief) : (workingCores (coreReplaced c r s)).length = (workingCores s).length := by
  have hcores := coreOf_coreReplaced hc hr hlen
  refine workingCores_swap hc hr hne hwork hrelief ?_ ?_ fun d hdc hdr => ?_
  · rw [hcores, if_neg hne, if_pos rfl]
  · rw [hcores, if_pos rfl]
  · rw [hcores, if_neg hdr, if_neg hdc]

end

theorem coresShort_enough {reliefGone : Bool} {t : State} (h : 2 ≤ (workingCores t).length ∨ t.mode = .lean) :
    coresShort reliefGone t = raiseIf reliefGone 296 t := by
  unfold coresShort
  refine if_neg ?_
  simp only [Bool.and_eq_true, decide_eq_true_eq, bne_iff_ne]
  rintro ⟨hfew, hmode⟩
  exact h.elim (by omega) hmode

theorem coresShort_few {reliefGone : Bool} {t : State} (h : (workingCores t).length < 2) (hmode : t.mode ≠ .lean) :
    coresShort reliefGone t = keeperLoss 1 (fault 0x05 0 0 (raiseIf reliefGone 296 t)) := by
  unfold coresShort
  exact if_pos (by simp [h, hmode])

theorem raise296_keeps (b : Bool) (s : State) : Keeps [.ev] s (raiseIf b 296 s) := raiseIf_keeps_ev (by decide) b s

theorem coresShort_keeps (b : Bool) (t : State) : Keeps (.ports :: lossParts) t (coresShort b t) := by
  unfold coresShort
  exact .ite (((raise296_keeps b t).append ((fault_keeps 0x05 0 0 _).append (keeperLoss_keeps 1 _))).mono) (raise296_keeps b t).mono

theorem evStack_ringPut (p n : Nat) (rec : List Byte) (s : State) : (ringPut p n rec s).ev.evStack = s.ev.evStack := by
  unfold ringPut
  dsimp only
  split_ifs
  · rfl
  · exact (raise_ev _ _).1

theorem evStack_logFault (code cls flags entry unit repeats detail : Nat) (s : State) :
    (logFault code cls flags entry unit repeats detail s).ev.evStack = s.ev.evStack :=
  (evStack_ringPut 1 6 _ _).trans (evStack_ringPut 0 6 _ _)

/-- A fault leaves the stacks of the targets. -/
theorem stackOf_faultWith (detail code kind index c : Nat) (s : State) : (faultWith detail code kind index s).stackOf c = s.stackOf c := by
  have hlog := fun cls flags e unit repeats t => stackOf_eq (evStack_logFault code cls flags e unit repeats detail t) c
  cases hrep : (List.range 16).find? (holdsFault s code (kind * 4096 + index % 4096)) with
  | some e =>
    obtain ⟨flags, heq⟩ := faultWith_repeats detail hrep
    rw [heq, hlog, stackOf_raiseIf, stackOf_raise]
    rfl
  | none =>
    cases hfree : (List.range 16).find? (fun e => !(s.fqe e).valid) with
    | some e =>
      rw [faultWith_enters detail hrep hfree, hlog, stackOf_raise, stackOf_eq]
      exact congrArg Events.evStack ((mirrorSend_keeps _ _).parts .ev (by decide))
    | none =>
      rw [faultWith_overflows detail hrep hfree, hlog, stackOf_raiseIf, stackOf_raise]
      rfl

theorem stackOf_coresShort_empty {c : Nat} {b : Bool} {t : State} (h : t.stackOf c = []) : (coresShort b t).stackOf c = [] := by
  unfold coresShort
  dsimp only
  split_ifs
  · exact stackOf_keeperLoss_empty ((stackOf_faultWith 0 0x05 0 0 c _).trans ((stackOf_raiseIf b 296 c t).trans h))
  · exact (stackOf_raiseIf b 296 c t).trans h

/-- Too few cores work: the Keeper is lost, and Autopilot entered from Provision (14 R428, R439). -/
theorem coresShort_pilots {b : Bool} {t : State} (hfew : (workingCores t).length < 2) (hmode : t.mode = .provision)
    (hlost : t.guard.keeperLost = false) : ∃ u, u.mode = .provision ∧ coresShort b t = toAutopilot 1 u := by
  have hkept : (fault 0x05 0 0 (raiseIf b 296 t)).mode = .provision :=
    (((fault_keeps 0x05 0 0 _).parts .mode (by decide)).trans ((raise296_keeps b t).parts .mode (by decide))).trans hmode
  refine ⟨_, hkept, (coresShort_few hfew (by simp [hmode])).trans (keeperLoss_pilots ?_ ?_)⟩
  · rw [guardView_lost (guardView_fault 0x05 0 0 _), guardView_lost (guardView_raiseIf b 296 t), hlost]
  · rw [hkept]
    rfl

section
variable {c r : Nat} {s : State} (hc : c < 4) (hr : r < 4) (hne : c ≠ r) (hlen : s.guard.cores.length = 4)
  (hwork : s.coreOf c = .working) (hrelief : reliefCore s = some r)

include hc hwork hrelief in
theorem coreExpires_eq : coreExpires c s = coresShort true (coreReplaced c r s) := coreExpires_hands hc hwork hrelief

include hc hr hwork hrelief in
theorem coreExpires_keeps : Keeps (.ports :: lossParts) s (coreExpires c s) := by
  rw [coreExpires_eq hc hwork hrelief]
  exact ((coreReplaced_keeps hc hr).append (coresShort_keeps true _)).mono

include hc hr hwork hrelief in
theorem coreExpires_shows : (coreExpires c s).shows (220 + c) := by
  rw [coreExpires_eq hc hwork hrelief]
  exact (coresShort_keeps true _).shows _ (coreReplaced_shows hc hr)

include hc hwork hrelief in
theorem coreExpires_stack : (coreExpires c s).stackOf c = [] := by
  rw [coreExpires_eq hc hwork hrelief]
  exact stackOf_coresShort_empty (handToRelief_stack c r _)

include hc hr hne hlen hwork hrelief

theorem coreExpires_enough (h : 2 ≤ (workingCores s).length ∨ s.mode = .lean) :
    coreExpires c s = raise 296 (coreReplaced c r s) := by
  have hcount := coreReplaced_working hc hr hne hlen hwork (reliefCore_lt hrelief).2
  have hmode : (coreReplaced c r s).mode = s.mode := (coreReplaced_keeps hc hr).parts .mode (by decide)
  rw [coreExpires_eq hc hwork hrelief, coresShort_enough (by rwa [hcount, hmode])]
  exact if_pos rfl

theorem coreExpires_few (hfew : (workingCores s).length < 2) (hmode : s.mode = .provision) (hlost : s.guard.keeperLost = false) :
    ∃ u, u.mode = .provision ∧ coreExpires c s = toAutopilot 1 u := by
  have hcount := (coreReplaced_working hc hr hne hlen hwork (reliefCore_lt hrelief).2).trans_lt hfew
  have hmode' : (coreReplaced c r s).mode = .provision := ((coreReplaced_keeps hc hr).parts .mode (by decide)).trans hmode
  obtain ⟨u, humode, heq⟩ := coresShort_pilots (b := true) hcount hmode' ((coreReplaced_lost hc hr).trans hlost)
  exact ⟨u, humode, (coreExpires_eq hc hwork hrelief).trans heq⟩

end

theorem coreOf_counted (c : Nat) (s t : State) : (counted s t).coreOf c = t.coreOf c :=
  coreOf_eq (congrArg Guard.cores (counted_guard s t)) c

/-- Settles O37: a core that is retired or expires hands its work to the relief core, and the Guard then looks at how many cores work. -/
theorem keeperCores : Obligations.KeeperCores := by
  intro c r s hc hr hne hlen hwork hrelief
  refine ⟨?retires, ⟨counted s (coreExpires c s), rfl, ?stack, ?shows, ?lanes, ?enough, ?few⟩, ?halfway⟩
  case retires =>
    have hkeeps := (setCore_keeps hc .retired s).append (handToRelief_keeps c hr (setCore c .retired s))
    have hcores := coreOf_handToRelief (c := c) hr (setCore c .retired s) (by rw [setCore_cores hc, List.length_set, hlen]; exact hr)
    refine ⟨_, congrArg (done s) (coreRetires_hands hwork hrelief), ?_, ?_, ?_, ?_, ?_, ?_, ?_⟩
    · rw [coreOf_counted, hcores, if_neg hne, coreOf_setCore_same hc _ (by omega)]
    · rw [coreOf_counted, hcores, if_pos rfl]
    · rw [stackOf_counted, handToRelief_stack]
    · exact (shows_counted 187 s _ (by decide)).mpr (shows_raise 187 _)
    · exact (counted_lanes s _).trans (hkeeps.parts .lanes (by decide))
    · exact (counted_ports s _).trans (hkeeps.parts .ports (by decide))
    · exact (counted_mode s _).trans (hkeeps.parts .mode (by decide))
  case stack => rw [stackOf_counted, coreExpires_stack hc hwork hrelief]
  case shows => exact (shows_counted _ s _ (by omega)).mpr (coreExpires_shows hc hr hwork hrelief)
  case lanes => exact (counted_lanes s _).trans ((coreExpires_keeps hc hr hwork hrelief).parts .lanes (by decide))
  case enough =>
    intro henough
    have hkeeps := raise_keeps_ev (n := 296) (by decide) (coreReplaced c r s)
    have hcores : ∀ d, (raise 296 (coreReplaced c r s)).coreOf d = _ := fun d =>
      (coreOf_eq (congrArg Guard.cores (hkeeps.parts .guard (by decide))) d).trans (coreOf_coreReplaced hc hr hlen d)
    rw [coreOf_counted, coreOf_counted, counted_mode, coreExpires_enough hc hr hne hlen hwork hrelief henough, hcores, hcores,
      if_neg hne, if_pos rfl, if_pos rfl]
    exact ⟨rfl, rfl, (hkeeps.parts .mode (by decide)).trans ((coreReplaced_keeps hc hr).parts .mode (by decide))⟩
  case few =>
    intro hfew hmode hlost
    obtain ⟨u, humode, heq⟩ := coreExpires_few hc hr hne hlen hwork hrelief hfew hmode hlost
    rw [coreOf_counted, counted_mode, counted_guard, heq]
    exact ⟨coreOf_toAutopilot hc 1 u, (toAutopilot_sets 1 u).lost, toAutopilot_mode 1 (by simp [humode])⟩
  case halfway =>
    exact ⟨_, congrArg (done s) (watchdogHalf_working hc hwork), counted_changes (raise_ev_only (by unfold noCopy; omega) s),
      (shows_counted _ s _ (by omega)).mpr (shows_raise _ s)⟩

end Sys2Proof.Machine
end

section
/-!
PROOFS. The queue of faults and the storm (14 R432-R438). O38.
-/

namespace Sys2Proof.Machine

open Sys2Proof

/-! ### What a fault makes of the queue (14 R432, R433) -/

/-- Two Guards with the same faults, by their fields. -/
structure Guard.SameFaults (g g' : Guard) : Prop where
  fq : g.fq = g'.fq
  overflow : g.overflow = g'.overflow
  lastCode : g.lastCode = g'.lastCode
  storm : g.storm = g'.storm
  policy : g.stormPolicy = g'.stormPolicy

theorem guardFaults_eq {g g' : Guard} (h : g.faults = g'.faults) : g.SameFaults g' :=
  ⟨(congrArg Guard.fq h :), (congrArg Guard.overflow h :), (congrArg Guard.lastCode h :), (congrArg Guard.storm h :),
    (congrArg Guard.stormPolicy h :)⟩

theorem fqe_of_faults {s t : State} (h : t.guard.faults = s.guard.faults) (e : Nat) : t.fqe e = s.fqe e :=
  fqe_eq (guardFaults_eq h).fq e

theorem anySealedFault_eq {s t : State} (h : ∀ e, t.fqe e = s.fqe e) : t.anySealedFault = s.anySealedFault := by
  simp only [State.anySealedFault, h]

section
variable {code kind index e : Nat} (detail : Nat) {s : State}

theorem holdsFault_iff (unit x : Nat) : holdsFault s code unit x = true ↔
    (s.fqe x).valid = true ∧ (s.fqe x).code = code ∧ (s.fqe x).unit = unit := by
  simp [holdsFault, and_assoc]

/-- A fault that no entry holds takes the first free one. -/
theorem faultWith_new (he : e < 16)
    (hnew : ∀ x, x < 16 → ¬((s.fqe x).valid = true ∧ (s.fqe x).code = code ∧ (s.fqe x).unit = kind * 4096 + index % 4096))
    (hfree : (s.fqe e).valid = false) (hfirst : ∀ x, x < e → (s.fqe x).valid = true) :
    (faultWith detail code kind index s).guard.faults = ({ s.guard with
        fq := tput {} s.guard.fq e (newFault code (kind * 4096 + index % 4096) (faultClass code index) s.now) } : Guard).faults ∧
      (faultWith detail code kind index s).shows 211 := by
  have hnone := find?_range_none (f := holdsFault s code (kind * 4096 + index % 4096)) fun x hx =>
    Bool.eq_false_iff.mpr fun h => hnew x hx ((holdsFault_iff _ x).mp h)
  have hslot := find?_range_first (f := fun e => !(s.fqe e).valid) he (by simp [hfree]) fun x hx => by simp [hfirst x hx]
  rw [faultWith_enters detail hnone hslot]
  have hlog := fun cls flags t => logFault_keeps code cls flags e (kind * 4096 + index % 4096) 0 detail t
  refine ⟨?_, (hlog _ _ _).shows 211 (shows_raise 211 _)⟩
  rw [show _ = _ from (hlog _ _ _).parts .guard (by decide), guardFaults_raise,
    show _ = _ from (mirrorSend_keeps _ _).parts .guard (by decide)]
  rfl

/-- A fault that an entry holds is counted there. -/
theorem faultWith_again (he : e < 16) (hvalid : (s.fqe e).valid = true) (hcode : (s.fqe e).code = code)
    (hunit : (s.fqe e).unit = kind * 4096 + index % 4096)
    (hfirst : ∀ x, x < e → ¬((s.fqe x).valid = true ∧ (s.fqe x).code = code ∧ (s.fqe x).unit = kind * 4096 + index % 4096)) :
    (faultWith detail code kind index s).guard.faults =
      ({ s.guard with fq := tput {} s.guard.fq e ((s.fqe e).again s.now) } : Guard).faults := by
  have hfind := find?_range_first (f := holdsFault s code (kind * 4096 + index % 4096)) he
    ((holdsFault_iff _ e).mpr ⟨hvalid, hcode, hunit⟩) fun x hx => Bool.eq_false_iff.mpr fun h => hfirst x hx ((holdsFault_iff _ x).mp h)
  obtain ⟨flags, heq⟩ := faultWith_repeats detail hfind
  rw [heq, show _ = _ from (logFault_keeps _ _ _ _ _ _ _ _).parts .guard (by decide), guardFaults_raiseIf, guardFaults_raise]
  rfl

/-- A fault for which there is no entry is an overflow and a storm. -/
theorem faultWith_full (hfull : ∀ x, x < 16 → (s.fqe x).valid = true ∧ (s.fqe x).code ≠ code) :
    (faultWith detail code kind index s).guard.faults = ({ s.guard with
        overflow := satAdd 32 s.guard.overflow 1, lastBeat := s.now, lastCode := code, lastCls := faultClass code index
        storm := true } : Guard).faults ∧
      (faultWith detail code kind index s).shows 216 := by
  have hnone := find?_range_none (f := holdsFault s code (kind * 4096 + index % 4096)) fun x hx =>
    Bool.eq_false_iff.mpr fun h => (hfull x hx).2 ((holdsFault_iff _ x).mp h).2.1
  have hslot := find?_range_none (n := 16) (f := fun e => !(s.fqe e).valid) fun x hx => by simp [(hfull x hx).1]
  rw [faultWith_overflows detail hnone hslot]
  have hlog := fun cls flags t => logFault_keeps code cls flags 255 (kind * 4096 + index % 4096) 0 detail t
  refine ⟨?_, (hlog _ _ _).shows 216 ((raiseIf_keeps _ 214 _).shows 216 (shows_raise 216 _))⟩
  rw [show _ = _ from (hlog _ _ _).parts .guard (by decide), guardFaults_raiseIf, guardFaults_raise]
  rfl

end

/-! ### What the Guard does about it (14 R433, R438) -/

theorem guardActs_keeps (cls : Nat) (storm : Bool) (s : State) : Keeps lossParts s (guardActs cls storm s) := by
  unfold guardActs
  exact .ite (.when (toHalt_keeps 1 s).mono) (.ite (.when (toHalt_keeps 2 s).mono)
    (.ite (keeperLoss_keeps 1 s) (.when (keeperLoss_keeps 2 s))))

/-- What the Guard does leaves the queue of faults as it is. -/
theorem guardActs_faults (cls : Nat) (storm : Bool) (s : State) : (guardActs cls storm s).guard.faults = s.guard.faults := by
  have hhalt := fun cause => (toHalt_sets cause s).faults
  unfold guardActs
  split_ifs
  · exact hhalt 1
  · rfl
  · exact hhalt 2
  · rfl
  · exact keeperLoss_faults 1 s
  · exact keeperLoss_faults 2 s
  · rfl

section
variable {cls : Nat} {storm : Bool} {s : State}

theorem guardActs_fatal (hmode : haltable s.mode = true) : guardActs 5 storm s = toHalt 1 s := by simp [guardActs, hmode]

theorem guardActs_critical : guardActs 4 false s = keeperLoss 1 s := by simp [guardActs]

theorem guardActs_minor (hcls : cls < 4) : guardActs cls false s = s := by
  simp [guardActs, show cls ≠ 5 by omega, show cls ≠ 4 by omega]

theorem guardActs_sealedStorm (hcls : cls < 4) (hsealed : s.anySealedFault = true) (hmode : haltable s.mode = true) :
    guardActs cls true s = toHalt 2 s := by
  simp [guardActs, show cls ≠ 5 by omega, hsealed, hmode]

theorem guardActs_storm (hcls : cls < 4) (hsealed : s.anySealedFault = false) (hpolicy : s.guard.stormPolicy = 0) :
    guardActs cls true s = keeperLoss 2 s := by
  simp [guardActs, show cls ≠ 5 by omega, show cls ≠ 4 by omega, hsealed, hpolicy]

theorem guardActs_stormLeft (hcls : cls < 4) (hsealed : s.anySealedFault = false) (hpolicy : s.guard.stormPolicy = 1) :
    guardActs cls true s = s := by
  simp [guardActs, show cls ≠ 5 by omega, show cls ≠ 4 by omega, hsealed, hpolicy]

end

/-- FAULT_RECORD records the fault and acts on it; a storm is new when none stood before. -/
theorem recordFault_eq {code kind : Nat} (index detail : Nat) {s : State} (hlo : 1 ≤ code) (hhi : code ≤ 0x15) (hkind : kind ≤ 11) :
    recordFault code kind index detail s = guardActs (faultClass code index)
      (!s.guard.storm && (faultWith detail code kind index s).guard.storm) (faultWith detail code kind index s) := by
  unfold recordFault
  exact if_pos (by simp [hlo, hhi, hkind])

theorem resolveEntry_valid {e : Nat} (s : State) (h : (s.fqe e).valid = true) : resolveEntry e true s =
    logFault (s.fqe e).code (s.fqe e).cls 8 e (s.fqe e).unit (s.fqe e).repeats 0
      (raise 213 (s.onGuard fun g => { g with fq := tput {} g.fq e {} })) := by
  unfold resolveEntry
  rw [if_pos h]
  rfl

theorem gdResolve_resolves {e : Nat} {s : State} (he : e < 16) (hvalid : (s.fqe e).valid = true) (hcls : (s.fqe e).cls < 4)
    (hopen : (s.fqe e).isSealed = false) : gdResolve e 0xA5 s = resolveEntry e true s := by
  simp [gdResolve, Nat.mod_eq_of_lt he, hvalid, hcls, hopen]

theorem clearStorm_clears {s : State} (hstorm : s.guard.storm = true) (hused : s.faultsUsed ≤ 12) :
    clearStorm 0xA5 s = raise 215 (s.onGuard fun g => { g with storm := false }) := by
  simp [clearStorm, hstorm, hused]

theorem fqe_counted (s t : State) (e : Nat) : (counted s t).fqe e = t.fqe e := fqe_eq (congrArg Guard.fq (counted_guard s t)) e

section
variable {code kind index d : Nat} {s : State} (hlo : 1 ≤ code) (hhi : code ≤ 0x15) (hkind : kind ≤ 11)
include hlo hhi hkind

theorem recordFault_faults : (recordFault code kind index d s).guard.faults = (faultWith d code kind index s).guard.faults := by
  rw [recordFault_eq index d hlo hhi hkind, guardActs_faults]

theorem recordFault_keeps : Keeps lossParts (faultWith d code kind index s) (recordFault code kind index d s) := by
  rw [recordFault_eq index d hlo hhi hkind]
  exact guardActs_keeps _ _ _

/-- A fault that brings no storm: the Guard acts on its class. -/
theorem recordFault_quiet (h : (faultWith d code kind index s).guard.storm = s.guard.storm) :
    recordFault code kind index d s = guardActs (faultClass code index) false (faultWith d code kind index s) := by
  rw [recordFault_eq index d hlo hhi hkind, h, Bool.not_and_self]

/-- A fault that brings a storm: the Guard acts on both. -/
theorem recordFault_storm (hcalm : s.guard.storm = false) (h : (faultWith d code kind index s).guard.storm = true) :
    recordFault code kind index d s = guardActs (faultClass code index) true (faultWith d code kind index s) := by
  rw [recordFault_eq index d hlo hhi hkind, h, hcalm]
  rfl

end

theorem faultWith_mode (detail code kind index : Nat) (s : State) : (faultWith detail code kind index s).mode = s.mode :=
  (faultWith_keeps detail code kind index s).parts .mode (by decide)

theorem faultWith_lost (detail code kind index : Nat) (s : State) :
    (faultWith detail code kind index s).guard.keeperLost = s.guard.keeperLost :=
  guardView_lost (faultWith_views detail code kind index s).guard

/-- In Provision, the Guard answers a storm below class 4 by Halt where an entry is sealed, else as the storm policy says (14 R438). -/
theorem guardActs_stormProvision {cls : Nat} {s : State} (hcls : cls < 4) (hmode : s.mode = .provision) :
    (s.anySealedFault = true → (guardActs cls true s).mode = .halt ∧ (guardActs cls true s).guard.haltCause = 2) ∧
    (s.anySealedFault = false → s.guard.stormPolicy = 0 → s.guard.keeperLost = false →
      (guardActs cls true s).mode = .autopilot ∧ (guardActs cls true s).guard.apCause = 2) ∧
    (s.anySealedFault = false → s.guard.stormPolicy = 1 → (guardActs cls true s).mode = .provision) := by
  refine ⟨fun hsealed => ?_, fun hsealed hpolicy hlost => ?_, fun hsealed hpolicy => ?_⟩
  · rw [guardActs_sealedStorm hcls hsealed (by rw [hmode]; rfl)]
    obtain ⟨hin, -, hcause, -⟩ := toHalt_sets 2 s
    exact ⟨hin, hcause⟩
  · rw [guardActs_storm hcls hsealed hpolicy, keeperLoss_pilots hlost (by rw [hmode]; rfl)]
    exact ⟨toAutopilot_mode 2 (by simp [hmode]), (toAutopilot_sets 2 s).cause_eq⟩
  · rw [guardActs_stormLeft hcls hsealed hpolicy, hmode]

/-- Settles O38: a fault is written in the queue and the Guard acts on its class, or on the storm that it brings (log 74: FAULT_RECORD
does both). -/
theorem faultQueue : Obligations.FaultQueue := by
  intro code kind index d e s hlo hhi hkind he
  have hrecord := recordFault_faults (index := index) (d := d) (s := s) hlo hhi hkind
  have hacts := recordFault_keeps (index := index) (d := d) (s := s) hlo hhi hkind
  have hmode := faultWith_mode d code kind index s
  refine ⟨fun hnew hfree hfirst => ⟨counted s (recordFault code kind index d s), rfl, ?new⟩,
    fun hvalid hcode hunit hfirst => ⟨counted s (recordFault code kind index d s), rfl, ?again⟩,
    fun hfull => ⟨counted s (recordFault code kind index d s), rfl, ?full⟩, fun hvalid hcls hopen => ?resolves,
    fun hstorm hused => ?clears⟩
  case new =>
    obtain ⟨hfaults, hshows⟩ := faultWith_new d he hnew hfree hfirst
    have heq := recordFault_quiet (index := index) (d := d) hlo hhi hkind (guardFaults_eq hfaults).storm
    refine ⟨?_, (shows_counted 211 s _ (by decide)).mpr (hacts.shows 211 hshows), ?_, fun hcls => ?_, fun hcls hlost hprovision => ?_,
      fun hcls hhaltable => ?_⟩
    · rw [fqe_counted, fqe_of_faults hrecord, State.fqe, (guardFaults_eq hfaults).fq, tget_tput_same]
      rfl
    · rw [counted_lanes, show _ = _ from hacts.parts .lanes (by decide)]
      exact (faultWith_keeps d code kind index s).parts .lanes (by decide)
    · rw [counted_mode, counted_keeper, heq, guardActs_minor hcls]
      exact ⟨hmode, (faultWith_keeps d code kind index s).parts .keeper (by decide)⟩
    · rw [counted_mode, counted_guard, heq, hcls, guardActs_critical, keeperLoss_pilots ((faultWith_lost d code kind index s).trans hlost)
        (by rw [hmode, hprovision]; rfl)]
      exact ⟨toAutopilot_mode 1 (by simp [hmode, hprovision]), (toAutopilot_sets 1 _).lost⟩
    · have hhalt : haltable (faultWith d code kind index s).mode = true := by
        rw [hmode]
        rcases hhaltable with h | h <;> rw [h] <;> rfl
      obtain ⟨hin, -, hcause, -⟩ := toHalt_sets 1 (faultWith d code kind index s)
      rw [counted_mode, counted_guard, heq, hcls, guardActs_fatal hhalt]
      exact ⟨hin, hcause⟩
  case again =>
    have hfaults := faultWith_again d he hvalid hcode hunit hfirst
    have hentry : (counted s (recordFault code kind index d s)).fqe e = (s.fqe e).again s.now := by
      rw [fqe_counted, fqe_of_faults hrecord, State.fqe, (guardFaults_eq hfaults).fq, tget_tput_same]
    rw [hentry]
    exact ⟨rfl, rfl, rfl, rfl⟩
  case full =>
    obtain ⟨hfaults, hshows⟩ := faultWith_full d hfull
    obtain ⟨-, hoverflow, hlast, hstorm, -⟩ := guardFaults_eq (hrecord.trans hfaults)
    rw [counted_guard, hstorm, hoverflow, hlast, counted_mode]
    refine ⟨rfl, rfl, rfl, (shows_counted 216 s _ (by decide)).mpr (hacts.shows 216 hshows), fun hcls hcalm hprovision => ?_⟩
    obtain ⟨hfq, -, -, hnew, hpolicy⟩ := guardFaults_eq hfaults
    obtain ⟨hhalt, hpilot, hleft⟩ := guardActs_stormProvision hcls (hmode.trans hprovision)
    rw [anySealedFault_eq fun x => fqe_eq hfq x] at hhalt hpilot hleft
    rw [recordFault_storm hlo hhi hkind hcalm hnew]
    exact ⟨hhalt, fun hsealed hzero hlost => hpilot hsealed (hpolicy.trans hzero) ((faultWith_lost d code kind index s).trans hlost),
      fun hsealed hone => hleft hsealed (hpolicy.trans hone)⟩
  case resolves =>
    have hresolved := (gdResolve_resolves he hvalid hcls hopen).trans (resolveEntry_valid s hvalid)
    refine ⟨_, congrArg (done s) hresolved, ?_, (shows_counted 213 s _ (by decide)).mpr ?_, fun x hx => ?_⟩
    · rw [fqe_counted, fqe_logFault, fqe_raise, fqe_onGuard_put, if_pos rfl]
    · exact (logFault_keeps _ _ _ _ _ _ _ _).shows 213 (shows_raise 213 _)
    · rw [fqe_counted, fqe_logFault, fqe_raise, fqe_onGuard_put, if_neg hx]
  case clears =>
    refine ⟨_, congrArg (done s) (clearStorm_clears hstorm hused), ?_, (shows_counted 215 s _ (by decide)).mpr (shows_raise 215 _),
      counted_changes (onlyChanges_append (onGuard_keeps _ s).parts (raise_keeps_guard (by decide) (by decide) _).parts)⟩
    rw [counted_guard, (guardFaults_eq (guardFaults_raise 215 _)).storm]
    rfl

end Sys2Proof.Machine
end

section
/-!
PROOFS. Autopilot, Halt and restarts of the Keeper (14 R429, R431, R438-R445). O39.
-/

namespace Sys2Proof.Machine

open Sys2Proof

/-! ### The Keeper lost (14 R429, R437-R440) -/

/-- Two Guards with the same record of the lost Keeper, by its fields. -/
structure Guard.SameLoss (g g' : Guard) : Prop where
  lost : g.keeperLost = g'.keeperLost
  pilot : g.autopilot = g'.autopilot
  attempting : g.attempting = g'.attempting
  clusterRun : g.clusterRun = g'.clusterRun
  attempts : g.attempts = g'.attempts

theorem guardView_eq {g g' : Guard} (h : g.view = g'.view) : g.SameLoss g' :=
  ⟨(congrArg Guard.keeperLost h :), (congrArg Guard.autopilot h :), (congrArg Guard.attempting h :), (congrArg Guard.clusterRun h :),
    (congrArg Guard.attempts h :)⟩

/-- The cores that are held leave the record of the Keeper. -/
theorem holdCores_lost (s : State) : (holdCores s).guard.keeperLost = s.guard.keeperLost ∧
    (holdCores s).guard.autopilot = s.guard.autopilot ∧ (holdCores s).guard.attempting = s.guard.attempting := by
  rw [holdCores_guard, holdAll_guard]
  exact ⟨rfl, rfl, rfl⟩

theorem lose_sets (cause : Nat) (g : Guard) : (g.lose cause).keeperLost = true ∧ (g.lose cause).clusterRun = false ∧
    (g.lose cause).autopilot = g.autopilot := ⟨rfl, rfl, rfl⟩

theorem keeperDown_sets (cause : Nat) (s : State) : (keeperDown cause s).guard.keeperLost = true ∧
    (keeperDown cause s).guard.clusterRun = false ∧ (keeperDown cause s).guard.autopilot = s.guard.autopilot := by
  obtain ⟨hlost, hrun, hpilot⟩ := lose_sets cause (holdCores s).guard
  rw [keeperDown_guard]
  exact ⟨hlost, hrun, hpilot.trans (holdCores_lost s).2.1⟩

theorem keeperDown_mode (cause : Nat) (s : State) : (keeperDown cause s).mode = s.mode :=
  (keeperDown_keeps cause s).parts .mode (by decide)

theorem toAutopilot_serving (cause : Nat) (s : State) : (toAutopilot cause s).keeper.serving = false := by
  rw [toAutopilot_keeper]
  exact (keeperDown_keeper cause s).2.1

theorem toAutopilot_lost (cause : Nat) (s : State) :
    (toAutopilot cause s).clk.lost = s.clk.lost ++ (waitingCommands s).map Waiter.late := by rw [toAutopilot_clk, keeperDown_lost]

/-- A lost Keeper, whether Autopilot is entered or not. -/
theorem keeperLoss_sets {cause : Nat} {s : State} (hlost : s.guard.keeperLost = false)
    (hmode : autopilotMode s.mode = true ∨ inPlaceMode s.mode = true) :
    (keeperLoss cause s).guard.keeperLost = true ∧ (keeperLoss cause s).keeper.serving = false := by
  cases hap : autopilotMode s.mode with
  | true =>
    rw [keeperLoss_pilots hlost hap]
    exact ⟨(toAutopilot_sets cause s).lost, toAutopilot_serving cause s⟩
  | false =>
    rw [keeperLoss_inPlace hlost hap (hmode.resolve_left (by simp [hap]))]
    exact ⟨(keeperDown_sets cause s).1, (keeperDown_keeper cause s).2.1⟩

theorem keeperLoss_clusterRun {cause : Nat} {s : State} (h : s.guard.clusterRun = false) :
    (keeperLoss cause s).guard.clusterRun = false := by
  unfold keeperLoss
  split_ifs
  · exact h
  · exact (toAutopilot_sets cause s).stopped
  · exact (keeperDown_sets cause s).2.1
  · exact h

theorem autopilotEnters_pilots {s : State} (hdue : lossDue false s = true) (hlost : s.guard.keeperLost = false)
    (hmode : autopilotMode s.mode = true) : autopilotEnters false s = toAutopilot 1 s := by
  simp [autopilotEnters, hdue, hlost, hmode]

theorem lostInPlace_downs {s : State} (hdue : lossDue false s = true) (hlost : s.guard.keeperLost = false)
    (hmode : inPlaceMode s.mode = true) : lostInPlace false s = keeperDown 1 s := by
  simp [lostInPlace, hdue, hlost, hmode]

theorem haltEnters_halts {s : State} (hfatal : s.faultTop = 5) (hmode : haltable s.mode = true) : haltEnters false s = toHalt 1 s := by
  simp [haltEnters, hfatal, hmode]

/-- The cluster watchdog stops, and the fault of its expiry is recorded. -/
def clusterStops (s : State) : State := fault 0x02 0 0 (raise 224 (s.onGuard fun g => { g with clusterRun := false }))

theorem clusterStops_guard (s : State) : (clusterStops s).guard.view = ({ s.guard with clusterRun := false } : Guard).view := by
  unfold clusterStops
  rw [guardView_fault, guardView_raise]
  rfl

theorem clusterStops_shows (s : State) : (clusterStops s).shows 224 := (fault_keeps 0x02 0 0 _).shows 224 (shows_raise 224 _)

theorem clusterStops_mode (s : State) : (clusterStops s).mode = s.mode := by
  unfold clusterStops
  exact ((fault_keeps 0x02 0 0 _).parts .mode (by decide)).trans ((raise_keeps_guard (by decide) (by decide) _).parts .mode (by decide))

theorem clusterExpires_eq {s : State} (hrun : s.guard.clusterRun = true) (hwork : workingCores s ≠ []) :
    clusterExpires s = keeperLoss 1 (clusterStops s) := by
  unfold clusterExpires clusterStops
  exact if_pos (by simp [hrun, hwork])

theorem guardStepExpires_halts {s : State} (hmode : s.mode = .carry) : guardStepExpires s = toHalt 1 (fault 0x11 0 0 s) := by
  simp [guardStepExpires, hmode]

theorem quiesceExpires_pilots {s : State} (hmode : s.mode = .quiesce) :
    quiesceExpires s = toAutopilot 1 (fault 0x04 10 s.keeper.fwSlot s) := by
  simp [quiesceExpires, hmode]

/-! ### Restarts (14 R431, R442, R443) -/

theorem beginAttempt_keeps (s : State) : Keeps [.guard, .ev] s (beginAttempt s) := by
  unfold beginAttempt
  exact ((onGuard_keeps _ s).append (raise_keeps_guard (by decide) (by decide) _)).mono

theorem beginAttempt_sets (s : State) : (beginAttempt s).guard.attempting = true ∧
    (beginAttempt s).guard.attempts = min 15 (s.guard.attempts + 1) ∧ (beginAttempt s).shows 226 := by
  obtain ⟨-, -, hattempting, -, hattempts⟩ := guardView_eq (guardView_raise 226 (s.onGuard fun g =>
    { g with attempting := true, attempts := min 15 (g.attempts + 1) }))
  exact ⟨hattempting, hattempts, shows_raise 226 _⟩

theorem restartAttempts_begins {s : State} (hmode : attemptMode s = true) (hcause : s.guard.apCause = 1)
    (hleft : s.guard.attempts < s.guard.restartLimit) : restartAttempts s = beginAttempt s := by
  simp [restartAttempts, hmode, hcause, hleft]

theorem gdRestarts_begins {s : State} (hmode : attemptMode s = true) (hcalm : s.guard.storm = false) :
    gdRestarts 0xA5 s = beginAttempt s := by
  simp [gdRestarts, hmode, hcalm]

/-- An attempt that ran out of its time: the fault, and the Keeper out of service. -/
def attemptFails (s : State) : State :=
  (fault 0x04 10 s.keeper.fwSlot s).onKeeper fun k => { k with started := false, present := false, serving := false }

/-- The Guard's record of an attempt that is over. -/
def Guard.attemptOver (g : Guard) : Guard := { g with attempting := false, clusterRun := false }

theorem restartExpires_eq {s : State} (h : s.guard.attempting = true) :
    restartExpires s = (holdCores (attemptFails s)).onGuard Guard.attemptOver := by
  unfold restartExpires
  exact if_pos h

theorem attemptFails_keeps (s : State) : Keeps [.guard, .hive, .ports, .ev, .keeper] s (attemptFails s) := by
  unfold attemptFails
  exact ((fault_keeps 0x04 10 _ s).append (onKeeper_keeps _ _)).mono

theorem attemptFails_keeper (s : State) : (attemptFails s).keeper.serving = false ∧ (attemptFails s).keeper.started = false := ⟨rfl, rfl⟩

theorem attemptOver_keeps (t : State) : Keeps [.guard, .ev] t ((holdCores t).onGuard Guard.attemptOver) :=
  ((holdCores_keeps t).append (onGuard_keeps _ _)).mono

theorem attemptOver_attempting (t : State) : (t.onGuard Guard.attemptOver).guard.attempting = false := rfl

/-! ### The Keeper in service again (14 R444, R429) -/

theorem onPm_keeps (f : Pm → Pm) (s : State) : Keeps [.pm] s (s.onPm f) := .of_only (onPm_only s f)

theorem consume_keeps (x : Snapshot) (s : State) : Keeps [.pm] s (consume x s) := by
  unfold consume
  dsimp only
  exact .ite ((onPm_keeps _ s).trans (onPm_keeps _ _)) (.ite (onPm_keeps _ s) ((onPm_keeps _ s).trans (onPm_keeps _ _)))

theorem beatHandler_keeps (s : State) : Keeps [.pm, .clk] s (beatHandler s) := by
  have hone : ∀ (f : Clock → Clock) (x : Snapshot) (c : Bool) (s : State),
      Keeps [.pm, .clk] s (if c then (consume x s).onClk f else s) := fun f x c s =>
    .when ((consume_keeps x s).append (onClk_keeps f _)).mono
  unfold beatHandler
  exact .ite (.refl _ s) ((hone _ _ _ s).trans (hone _ _ _ _))

theorem releaseMerged_keeps (s : State) : Keeps [.pm, .clk] s (releaseMerged s) := by
  unfold releaseMerged
  exact ((beatHandler_keeps s).append (onClk_keeps _ _)).mono

theorem resolveEntry_keeps (e : Nat) (logged : Bool) (s : State) : Keeps [.guard, .ev, .ports] s (resolveEntry e logged s) := by
  have hraise := (onGuard_keeps (fun g => { g with fq := tput {} g.fq e {} }) s).append
    (raise_keeps_guard (n := 213) (by decide) (by decide) _)
  unfold resolveEntry
  exact .when (.ite (hraise.append (logFault_keeps _ _ _ _ _ _ _ _)).mono hraise.mono)

theorem resolveEntry_view (e : Nat) (logged : Bool) (s : State) : (resolveEntry e logged s).guard.view = s.guard.view := by
  unfold resolveEntry
  dsimp only
  split_ifs
  · rw [show _ = _ from (logFault_keeps _ _ _ _ _ _ _ _).parts .guard (by decide), guardView_raise]
    rfl
  · rw [guardView_raise]
    rfl
  · rfl

theorem resolveWhere_keeps (logged : Bool) (f : FqEntry → Bool) (s : State) :
    Keeps [.guard, .ev, .ports] s (resolveWhere logged f s) := by
  unfold resolveWhere
  exact .foldl (fun s e => .when (resolveEntry_keeps e logged s)) _ s

theorem resolveWhere_view (logged : Bool) (f : FqEntry → Bool) (s : State) : (resolveWhere logged f s).guard.view = s.guard.view := by
  refine List.foldlRecOn (motive := fun t : State => t.guard.view = s.guard.view) _ _ rfl fun t ht e _ => ?_
  split_ifs
  · exact (resolveEntry_view e logged t).trans ht
  · exact ht

theorem onCmdQ_keeps (p q : Nat) (f : CmdQueue → CmdQueue) (s : State) : Keeps [.ports] s (s.onCmdQ p q f) := .of_only (onCmdQ_only s p q f)

theorem markLate_keeps (s : State) : Keeps [.ports] s (markLate s) := by
  unfold markLate
  exact .foldl (fun s p => .foldl (fun s q => onCmdQ_keeps p q _ s) _ s) _ s

theorem resumeMode_maintenance {s : State} (h : s.mode = .maintenance) : resumeMode s = s := by simp [resumeMode, h]

/-- The Keeper is in service, as the Guard and it record it. -/
def keeperBack (s : State) : State :=
  (s.onKeeper fun k => { k with present := true, serving := true }).onGuard fun g =>
    { g with keeperLost := false, autopilot := false, attempting := false }

/-- The buffers and the faults of the outage are cleared. -/
def outageCleared (s : State) : State := resolveWhere true (fun x => x.cls == 4) (releaseMerged s)

/-- The commands that came late are marked, and the service announced. -/
def serviceAnnounced (s : State) : State :=
  notify 0x01 0x80 [(1, 1), (1, 0), (2, 0), (4, 0), (8, (markLate s).now)] (raise 192 (markLate s))

/-- The commands that waited are answered TIMEOUT. -/
def lostAnswered (s : State) : State := answerAll s.clk.lost stTimeout 0 (s.onClk fun c => { c with lost := [] })

theorem outageCleared_keeps (s : State) : Keeps [.pm, .clk, .guard, .ev, .ports] s (outageCleared s) := by
  unfold outageCleared
  exact ((releaseMerged_keeps s).append (resolveWhere_keeps _ _ _)).mono

theorem outageCleared_view (s : State) : (outageCleared s).guard.view = s.guard.view := by
  unfold outageCleared
  rw [resolveWhere_view, show _ = _ from (releaseMerged_keeps s).parts .guard (by decide)]

theorem serviceAnnounced_keeps (s : State) : Keeps [.ports, .ev] s (serviceAnnounced s) := by
  unfold serviceAnnounced
  exact ((markLate_keeps s).append ((raise_keeps_ev (by decide) _).append (notify_keeps _ _ _ _))).mono

theorem lostAnswered_keeps (s : State) : Keeps (.clk :: answerParts) s (lostAnswered s) := by
  unfold lostAnswered
  exact ((onClk_keeps _ s).append (answerAll_keeps _ _ _ _)).mono

theorem lostAnswered_view (s : State) : (lostAnswered s).guard.view = s.guard.view := by
  unfold lostAnswered
  exact (answerAll_views _ _ _ _).guard

theorem lostAnswered_lost (s : State) : (lostAnswered s).clk.lost = [] := by
  unfold lostAnswered
  rw [show _ = _ from (answerAll_keeps _ _ _ _).parts .clk (by decide)]
  rfl

theorem keeperResumes_eq {s : State} (hstarted : s.keeper.started = true) (hout : s.keeper.serving = false)
    (hmode : s.mode = .maintenance) : keeperResumes s = lostAnswered (serviceAnnounced (outageCleared (keeperBack s))) := by
  have hmode' : (outageCleared (keeperBack s)).mode = .maintenance :=
    ((outageCleared_keeps (keeperBack s)).parts .mode (by decide)).trans hmode
  have hresume := resumeMode_maintenance hmode'
  unfold outageCleared keeperBack at hresume
  unfold keeperResumes lostAnswered serviceAnnounced outageCleared keeperBack
  rw [if_pos (by simp [hstarted, hout, hmode])]
  dsimp only
  rw [hresume]

/-- What the service that resumes sets, from the state in which the Keeper is back. -/
theorem resumed_sets (s : State) : ∃ u, u = lostAnswered (serviceAnnounced (outageCleared s)) ∧ u.keeper = s.keeper ∧ u.mode = s.mode ∧
    u.guard.view = s.guard.view ∧ u.clk.lost = [] := by
  have hkeeps := ((outageCleared_keeps s).append (serviceAnnounced_keeps _)).append (lostAnswered_keeps _)
  refine ⟨_, rfl, hkeeps.parts .keeper (by decide), hkeeps.parts .mode (by decide), ?_, lostAnswered_lost _⟩
  rw [lostAnswered_view, show _ = _ from (serviceAnnounced_keeps _).parts .guard (by decide), outageCleared_view]

/-- Settles O39: the Guard's entries to Autopilot and Halt each write its record, the Keeper and the mode; a restart begins, runs out or
ends in service. -/
theorem keeperLossAndRestart : Obligations.KeeperLossAndRestart := by
  refine ⟨fun s => ⟨fun hdue hlost hmode _ => ⟨counted s (autopilotEnters false s), rfl, ?autopilot⟩,
      fun hdue hlost hmode => ⟨counted s (lostInPlace false s), rfl, ?inPlace⟩,
      fun hfatal hmode => ⟨counted s (haltEnters false s), rfl, ?halt⟩,
      fun hrun hwork => ⟨counted s (clusterExpires s), rfl, ?cluster⟩,
      fun hmode _ _ => ⟨counted s (guardStepExpires s), rfl, ?guardStep⟩,
      fun hmode => ⟨counted s (quiesceExpires s), rfl, ?quiesce⟩⟩,
    fun s => ⟨fun hmode hcause hleft => ⟨counted s (restartAttempts s), rfl, ?attempt⟩,
      fun hmode hcalm => ⟨counted s (gdRestarts 0xA5 s), rfl, ?host⟩,
      fun hattempting => ⟨counted s (restartExpires s), rfl, ?timeout⟩,
      fun hstarted hout hmode => ⟨counted s (keeperResumes s), rfl, ?resume⟩⟩⟩
  case autopilot =>
    obtain ⟨hset, hpilot, -⟩ := toAutopilot_sets 1 s
    have hfrom : underMode s = .provision := (selMode_eq (by simp [hmode]) (by simp [hmode])).trans hmode
    rw [autopilotEnters_pilots hdue hlost (by rw [hmode]; rfl), counted_mode, counted_keeper, counted_guard, counted_apFrom, counted_clk]
    exact ⟨toAutopilot_mode 1 (by simp [hmode]), toAutopilot_serving 1 s, hset, hpilot, (toAutopilot_apFrom 1 s).trans hfrom,
      toAutopilot_lost 1 s, (shows_counted 217 s _ (by decide)).mpr (toAutopilot_shows 1 s)⟩
  case inPlace =>
    obtain ⟨hset, -, hpilot⟩ := keeperDown_sets 1 s
    have hplace : inPlaceMode s.mode = true := by rcases hmode with h | h <;> rw [h] <;> rfl
    rw [lostInPlace_downs hdue hlost hplace, counted_mode, counted_keeper, counted_guard]
    exact ⟨keeperDown_mode 1 s, (keeperDown_keeper 1 s).2.1, hset, hpilot⟩
  case halt =>
    obtain ⟨hin, hhalt, -, hserving, htoken, -, hshows⟩ := toHalt_sets 1 s
    have hhaltable : haltable s.mode = true := by rcases hmode with h | h <;> rw [h] <;> rfl
    rw [haltEnters_halts hfatal hhaltable, counted_mode, counted_keeper, counted_guard, counted_hive]
    exact ⟨hin, hhalt, hserving, htoken, (shows_counted 219 s _ (by decide)).mpr hshows⟩
  case cluster =>
    obtain ⟨hkept, -, -, hstopped, -⟩ := guardView_eq (clusterStops_guard s)
    rw [clusterExpires_eq hrun hwork, counted_guard, counted_keeper]
    have hshows := (keeperLoss_keeps 1 _).shows 224 (clusterStops_shows s)
    exact ⟨keeperLoss_clusterRun hstopped, (shows_counted 224 s _ (by decide)).mpr hshows,
      fun hlost hmode => keeperLoss_sets (hkept.trans hlost) (by rwa [clusterStops_mode])⟩
  case guardStep =>
    obtain ⟨hin, hhalt, hcause, -⟩ := toHalt_sets 1 (fault 0x11 0 0 s)
    rw [guardStepExpires_halts hmode, counted_mode, counted_guard]
    exact ⟨hin, hhalt, hcause⟩
  case quiesce =>
    obtain ⟨hset, hpilot, -⟩ := toAutopilot_sets 1 (fault 0x04 10 s.keeper.fwSlot s)
    rw [quiesceExpires_pilots hmode, counted_keeper, counted_guard]
    exact ⟨toAutopilot_serving 1 _, hset, hpilot⟩
  case attempt =>
    obtain ⟨hset, hcount, hshows⟩ := beginAttempt_sets s
    rw [restartAttempts_begins hmode hcause hleft, counted_guard]
    exact ⟨counted_changes (beginAttempt_keeps s).parts, hset, hcount, (shows_counted 226 s _ (by decide)).mpr hshows⟩
  case host =>
    obtain ⟨hset, hcount, hshows⟩ := beginAttempt_sets s
    rw [gdRestarts_begins hmode hcalm, counted_guard]
    exact ⟨counted_changes (beginAttempt_keeps s).parts, hset, hcount, (shows_counted 226 s _ (by decide)).mpr hshows⟩
  case timeout =>
    have hkeeps := attemptOver_keeps (attemptFails s)
    obtain ⟨hserving, hstarted⟩ := attemptFails_keeper s
    rw [restartExpires_eq hattempting, counted_guard, counted_keeper, counted_mode, show _ = _ from hkeeps.parts .keeper (by decide),
      show _ = _ from hkeeps.parts .mode (by decide)]
    exact ⟨attemptOver_attempting _, hserving, hstarted, (attemptFails_keeps s).parts .mode (by decide)⟩
  case resume =>
    obtain ⟨u, hu, hkeeper, humode, hview, hlost⟩ := resumed_sets (keeperBack s)
    obtain ⟨hkept, hpilot, -⟩ := guardView_eq hview
    rw [keeperResumes_eq hstarted hout hmode, ← hu, counted_keeper, counted_guard, counted_clk, counted_mode, hkeeper, humode, hkept,
      hpilot]
    exact ⟨rfl, rfl, rfl, rfl, hlost, hmode⟩

end Sys2Proof.Machine
end

section
/-!
PROOFS. Claims, reclaims and releases of the token (12 R354-R358, R367-R372). O40.
-/

namespace Sys2Proof.Machine

open Sys2Proof

/-! ### What two hives that look alike hold in common (12 R354-R358) -/

/-- Two hives with the same record of the token, by its fields. -/
structure Hive.SameToken (h h' : Hive) : Prop where
  token : h.token = h'.token
  txIdled : h.txIdled = h'.txIdled
  released : h.released = h'.released
  switchPend : h.switchPend = h'.switchPend
  collisions : h.collisions = h'.collisions
  toCause : h.toCause = h'.toCause
  toBeat : h.toBeat = h'.toBeat

theorem hiveView_eq {h h' : Hive} (heq : h.view = h'.view) : h.SameToken h' :=
  ⟨(congrArg Hive.token heq :), (congrArg Hive.txIdled heq :), (congrArg Hive.released heq :), (congrArg Hive.switchPend heq :),
    (congrArg Hive.collisions heq :), (congrArg Hive.toCause heq :), (congrArg Hive.toBeat heq :)⟩

/-! ### A pending switch (12 R372) -/

theorem cancelSwitch_none {status applied : Nat} {s : State} (h : s.hive.switchPend = none) : cancelSwitch status applied s = s := by
  simp [cancelSwitch, h]

theorem cancelSwitch_keeps (status applied : Nat) (s : State) : Keeps answerParts s (cancelSwitch status applied s) := by
  unfold cancelSwitch
  split
  · exact ((onHive_keeps _ s).append (answerOpt_keeps _ _ _ _)).mono
  · exact .refl _ s

/-! ### Claims (12 R355-R358, R368, R370) -/

/-- The hive of a device that takes the token over. -/
def Hive.claim (now : Nat) (h : Hive) : Hive :=
  { h with token := true, txIdled := false, released := 0, lineFree := false, hbLost := false, claimAt := now }

/-- The token is driven, before the mode follows. -/
def claimStarts (s : State) : State := raise 115 (s.onHive (Hive.claim s.now))

/-- The mode of a device that has taken the token over. -/
def claimMode (t : State) : State :=
  if underMode t = .shadow then enterUnder .carry t
  else refreshHive (if underMode t = .autopilot then { t with apFrom := .carry } else t)

theorem claimToken_eq (cause : Nat) (s : State) :
    claimToken cause s = recordTakeover cause s.hive.role (claimMode (claimStarts s)) := by
  unfold claimToken claimMode claimStarts
  rfl

/-- The hive's record of a takeover. -/
def Hive.takeover (cause now : Nat) (h : Hive) : Hive :=
  let w := h.cfg.bbWindow * 800
  let opens := cause ∈ [1, 3, 4, 6, 7] ∧ 0 < w
  { h with
    toBeat := now, toCause := cause, discarded := h.incoming.length, incoming := [], wasActive := false
    takeovers := if cause = 5 then h.takeovers else satAdd 16 h.takeovers 1
    bounces := if cause = 5 then satAdd 16 h.bounces 1 else h.bounces
    bbOpen := decide opens, bbLeft := if opens then w else 0
    farBarred := (h.farLast.filter fun e => e.2 ≠ 0 && now ≤ e.2 + 8000).map Prod.fst }

/-- A takeover is recorded and shown, before it is announced. -/
def takeoverShown (cause : Nat) (s : State) : State := raise (if cause = 5 then 127 else 126) (s.onHive (Hive.takeover cause s.now))

theorem recordTakeover_notifies (cause : Nat) (old : Role) (s : State) :
    ∃ fs, recordTakeover cause old s = notify 0x0B 0x80 fs (takeoverShown cause s) := by
  unfold recordTakeover takeoverShown
  exact ⟨_, rfl⟩

theorem takeoverShown_keeps (cause : Nat) (s : State) : Keeps [.hive, .ev] s (takeoverShown cause s) := by
  unfold takeoverShown
  split_ifs <;> exact ((onHive_keeps _ s).append (raise_keeps_hive (by decide) (by decide) _)).mono

theorem recordTakeover_keeps (cause : Nat) (old : Role) (s : State) : Keeps [.hive, .ev, .ports] s (recordTakeover cause old s) := by
  obtain ⟨fs, heq⟩ := recordTakeover_notifies cause old s
  rw [heq]
  exact ((takeoverShown_keeps cause s).append (notify_keeps _ _ _ _)).mono

theorem recordTakeover_view (cause : Nat) (old : Role) (s : State) :
    (recordTakeover cause old s).hive.view = (s.hive.takeover cause s.now).view := by
  obtain ⟨fs, heq⟩ := recordTakeover_notifies cause old s
  rw [heq, show _ = _ from (notify_keeps _ _ _ _).parts .hive (by decide), takeoverShown, hiveView_raise]
  rfl

theorem recordTakeover_shows {cause : Nat} (old : Role) {s : State} (h : cause ≠ 5) : (recordTakeover cause old s).shows 126 := by
  obtain ⟨fs, heq⟩ := recordTakeover_notifies cause old s
  rw [heq]
  refine (notify_keeps _ _ _ _).shows 126 ?_
  rw [takeoverShown, if_neg h]
  exact shows_raise 126 _

theorem takeover_sets (cause now : Nat) (h : Hive) : (h.takeover cause now).token = h.token ∧ (h.takeover cause now).txIdled = h.txIdled ∧
    (h.takeover cause now).toCause = cause ∧ (h.takeover cause now).toBeat = now := ⟨rfl, rfl, rfl, rfl⟩

theorem claimStarts_keeps (s : State) : Keeps [.hive, .ev] s (claimStarts s) :=
  ((onHive_keeps _ s).append (raise_keeps_hive (by decide) (by decide) _)).mono

theorem claimStarts_view (s : State) : (claimStarts s).hive.view = (s.hive.claim s.now).view := hiveView_raise 115 _

theorem claim_sets (now : Nat) (h : Hive) : (h.claim now).token = true ∧ (h.claim now).txIdled = false := ⟨rfl, rfl⟩

theorem underMode_eq {s : State} {m : Mode} (h : s.mode = m) (hm : m ≠ .lean ∧ m ≠ .quiesce) : underMode s = m :=
  (selMode_eq (h ▸ hm.1) (h ▸ hm.2)).trans h

theorem claimMode_shadow {t : State} (h : t.mode = .shadow) : claimMode t = enterMode .carry t := by
  unfold claimMode
  rw [if_pos (underMode_eq h (by decide)), enterUnder_eq (by simp [h]) (by simp [h])]

/-- A standby in Shadow that claims the token is active in Carry. -/
theorem claimToken_shadow (cause : Nat) {s : State} (hmode : s.mode = .shadow) : (claimToken cause s).hive.token = true ∧
    (claimToken cause s).hive.txIdled = false ∧ (claimToken cause s).mode = .carry ∧ (claimToken cause s).hive.toCause = cause ∧
    (claimToken cause s).hive.toBeat = s.now ∧ (cause ≠ 5 → (claimToken cause s).shows 126) := by
  have hstarts := claimStarts_keeps s
  have hcarry := claimMode_shadow ((hstarts.parts .mode (by decide)).trans hmode)
  have hview : (claimMode (claimStarts s)).hive.view = (s.hive.claim s.now).view := by rw [hcarry, hiveView_enterMode, claimStarts_view]
  have hnow : (claimMode (claimStarts s)).now = s.now := by
    rw [hcarry]
    exact congrArg Clock.beat (((enterMode_keeps .carry _).parts .clk (by decide)).trans (hstarts.parts .clk (by decide)))
  obtain ⟨htoken, hidle, -⟩ := hiveView_eq hview
  obtain ⟨htoken', hidle', -, -, -, hcause, hbeat⟩ := hiveView_eq (recordTakeover_view cause s.hive.role (claimMode (claimStarts s)))
  obtain ⟨tt, ti, tc, tb⟩ := takeover_sets cause (claimMode (claimStarts s)).now (claimMode (claimStarts s)).hive
  obtain ⟨ct, ci⟩ := claim_sets s.now s.hive
  rw [claimToken_eq]
  refine ⟨htoken'.trans (tt.trans (htoken.trans ct)), hidle'.trans (ti.trans (hidle.trans ci)), ?_, hcause.trans tc,
    hbeat.trans (tb.trans hnow), recordTakeover_shows _⟩
  rw [show _ = _ from (recordTakeover_keeps cause _ _).parts .mode (by decide), hcarry, enterMode_mode]

/-- The token driven in Provision: no device was active. -/
def Hive.claimFree (now : Nat) (h : Hive) : Hive :=
  { h with token := true, txIdled := false, released := 0, lineFree := false, claimAt := now }

theorem claimFree_keeps (s : State) : Keeps [.hive, .ev] s (claimFree s) := by
  unfold claimFree
  exact ((onHive_keeps _ s).append ((raise_keeps_hive (by decide) (by decide) _).append (refreshHive_keeps _))).mono

theorem claimFree_view (s : State) : (claimFree s).hive.view = (s.hive.claimFree s.now).view := by
  unfold claimFree
  rw [hiveView_refreshHive, hiveView_raise]
  rfl

theorem claimFree_shows (s : State) : (claimFree s).shows 115 := by
  unfold claimFree
  exact (refreshHive_keeps _).shows 115 (shows_raise 115 _)

/-- A forced switch of a device that is not active, at its beat: the token is driven and the switch answered (12 R358, R372). -/
def switchClaimed (b : Nat) (w : Option Waiter) (s : State) : State :=
  answerOpt w stOk b ((claimFree s).onHive fun h => { h with switchPend := none })

theorem tokenClaims_provision {b : Nat} {w : Option Waiter} {s : State} (htoken : s.hive.token = false) (hfree : s.hive.lineFree = true)
    (hmode : s.mode = .provision) (hwait : s.keeper.modeWait = none) (hswitch : s.hive.switchPend = some (2, b, w)) (hb : b ≤ s.now) :
    tokenClaims s = switchClaimed b w s := by
  unfold tokenClaims
  dsimp only
  rw [if_neg (by simp [htoken, hfree]), underMode_eq hmode (by decide), hwait, hswitch]
  exact if_pos hb

theorem switchClaimed_keeps (b : Nat) (w : Option Waiter) (s : State) : Keeps answerParts s (switchClaimed b w s) := by
  unfold switchClaimed
  exact ((claimFree_keeps s).append ((onHive_keeps _ _).append (answerOpt_keeps _ _ _ _))).mono

theorem switchClaimed_sets (b : Nat) (w : Option Waiter) (s : State) : (switchClaimed b w s).hive.token = true ∧
    (switchClaimed b w s).hive.txIdled = false ∧ (switchClaimed b w s).hive.switchPend = none ∧ (switchClaimed b w s).shows 115 := by
  obtain ⟨htoken, hidle, -⟩ := hiveView_eq (claimFree_view s)
  obtain ⟨htoken', hidle', -, hswitch, -⟩ := hiveView_eq (answerOpt_views w stOk b ((claimFree s).onHive fun h =>
    { h with switchPend := none })).hive
  exact ⟨htoken'.trans htoken, hidle'.trans hidle, hswitch,
    (answerOpt_keeps _ _ _ _).shows 115 ((onHive_keeps _ _).shows 115 (claimFree_shows s))⟩

theorem claimCause_ne_bounce (s : State) : claimCause s ≠ 5 := by
  unfold claimCause
  dsimp only
  split_ifs <;> decide

theorem tokenClaims_shadow {s : State} (htoken : s.hive.token = false) (hfree : s.hive.lineFree = true) (hmode : s.mode = .shadow)
    (hbounce : bounceDue s = false) (hreleased : s.hive.released = 0) :
    ∃ status applied, tokenClaims s = claimToken (claimCause s) (cancelSwitch status applied s) := by
  unfold tokenClaims
  dsimp only
  rw [if_neg (by simp [htoken, hfree]), underMode_eq hmode (by decide)]
  dsimp only
  rw [if_neg (by simp [hbounce]), if_neg (by simp [hreleased])]
  exact ⟨_, _, rfl⟩

/-! ### Reclaims (12 R357) -/

/-- The hive of a device whose release no mate followed. -/
def Hive.reclaim (now : Nat) (h : Hive) : Hive :=
  { h with
    token := true, txIdled := false, released := 0, wasActive := false, lineFree := false, claimAt := now
    collisions := satAdd 32 h.collisions 1 }

/-- The token is driven again, before the mode follows. -/
def reclaimStarts (s : State) : State := raise 130 (raise 115 (s.onHive (Hive.reclaim s.now)))

theorem reclaimStarts_keeps (s : State) : Keeps [.hive, .ev] s (reclaimStarts s) :=
  ((onHive_keeps _ s).append ((raise_keeps_hive (by decide) (by decide) _).append (raise_keeps_hive (by decide) (by decide) _))).mono

theorem reclaimStarts_view (s : State) : (reclaimStarts s).hive.view = (s.hive.reclaim s.now).view := by
  simp only [reclaimStarts, hiveView_raise]
  rfl

theorem reclaim_sets (now : Nat) (h : Hive) : (h.reclaim now).token = true ∧ (h.reclaim now).released = 0 ∧
    (h.reclaim now).switchPend = h.switchPend ∧ (h.reclaim now).collisions = satAdd 32 h.collisions 1 := ⟨rfl, rfl, rfl, rfl⟩

theorem tokenReclaims_shadow {s : State} (htoken : s.hive.token = false) (hfree : s.hive.lineFree = true)
    (hreleased : s.hive.released = 4) (hmode : s.mode = .shadow) (hseq : s.power.seq = 2) (hswitch : s.hive.switchPend = none) :
    tokenReclaims s = enterMode .carry (reclaimStarts s) := by
  have hshadow : (reclaimStarts s).mode = .shadow := ((reclaimStarts_keeps s).parts .mode (by decide)).trans hmode
  have henters : (if underMode (reclaimStarts s) = .shadow then enterUnder .carry (reclaimStarts s) else refreshHive (reclaimStarts s)) =
      enterMode .carry (reclaimStarts s) := by
    rw [if_pos (underMode_eq hshadow (by decide)), enterUnder_eq (by simp [hshadow]) (by simp [hshadow])]
  have hnone : (enterMode .carry (reclaimStarts s)).hive.switchPend = none := by
    have hview := (hiveView_enterMode .carry (reclaimStarts s)).trans (reclaimStarts_view s)
    exact (hiveView_eq hview).switchPend.trans ((reclaim_sets s.now s.hive).2.2.1.trans hswitch)
  unfold tokenReclaims
  dsimp only
  rw [if_pos (by simp [htoken, hfree, hreleased, hmode, hseq, okMode])]
  exact (congrArg (cancelSwitch stTimeout 0) henters).trans (cancelSwitch_none hnone)

/-! ### Releases (12 R354, R367-R369) -/

theorem release_sets (cause : Nat) (h : Hive) : (h.release cause).token = false ∧ (h.release cause).txIdled = true ∧
    (h.release cause).released = cause := ⟨rfl, rfl, rfl⟩

/-- A device outside Carry that holds the token and releases it: its pin and transmitters follow, its mode stays. -/
theorem releaseToken_sets {cause : Nat} {guard : Bool} {s : State} (htoken : s.hive.token = true) (hmode : underMode s ≠ .carry) :
    (releaseToken cause guard s).hive.token = false ∧ (releaseToken cause guard s).hive.hvSel = false ∧
    (releaseToken cause guard s).hive.txIdled = true ∧ (releaseToken cause guard s).hive.released = cause ∧
    (releaseToken cause guard s).mode = s.mode := by
  obtain ⟨hset, hidle, hcause, -⟩ := hiveView_eq (releaseToken_hiveView (cause := cause) (guard := guard) htoken)
  obtain ⟨hset', hidle', hcause'⟩ := release_sets cause s.hive
  have hdropped : (dropToken cause guard s).hive.token = false := (hiveView_eq (dropToken_hiveView cause guard s)).token
  refine ⟨hset.trans hset', ?_, hidle.trans hidle', hcause.trans hcause', (releaseToken_mode (.inl hmode)).parts .mode (by decide)⟩
  rw [releaseToken_eq htoken, if_neg (by rw [underMode_dropToken]; simp [hmode]), refreshHive_hvSel, selDue_without hdropped]

theorem switchExecutes_forced {b : Nat} {w : Option Waiter} {s : State} (hswitch : s.hive.switchPend = some (2, b, w)) (hb : b ≤ s.now)
    (htoken : s.hive.token = true) (hreleased : s.hive.released = 0) : switchExecutes s = releaseToken 4 false s := by
  unfold switchExecutes
  rw [hswitch]
  simp [hb, htoken, hreleased]

/-- Settles O40. R356's 1 ms of HV_MATE_OK low is 8 boundaries of beats here (log 143, the model's choice). -/
theorem tokenMoves : Obligations.TokenMoves := by
  intro s
  refine ⟨fun htoken hfree hmode hwait b w hswitch hb => ⟨counted s (tokenClaims s), rfl, ?free⟩,
    fun htoken hfree hmode hbounce hreleased => ⟨counted s (tokenClaims s), rfl, ?standby⟩,
    fun htoken hmode => ⟨counted s (tokenReleases 2 s), rfl, ?release⟩,
    fun htoken hfree hreleased hmode hseq hswitch => ⟨counted s (tokenReclaims s), rfl, ?reclaim⟩,
    fun hlost hok hlow htoken hmode hswitch => ⟨counted s (heldClaims s), rfl, ?held⟩,
    fun v hkey hbit hready htoken hmode => ⟨counted s (hvCtrl .whole v.toNat s), rfl, ?register⟩,
    fun b w hswitch hb htoken hreleased hmode => ⟨counted s (switchExecutes s), rfl, ?switch⟩⟩
  case free =>
    obtain ⟨hset, hidle, hdone, hshows⟩ := switchClaimed_sets b w s
    rw [tokenClaims_provision htoken hfree hmode hwait hswitch hb, counted_hive, counted_mode,
      show _ = _ from (switchClaimed_keeps b w s).parts .mode (by decide)]
    exact ⟨hset, hidle, hdone, hmode, (shows_counted 115 s _ (by decide)).mpr hshows⟩
  case standby =>
    obtain ⟨status, applied, heq⟩ := tokenClaims_shadow htoken hfree hmode hbounce hreleased
    obtain ⟨hset, hidle, hcarry, -, -, hshows⟩ := claimToken_shadow (claimCause s)
      (((cancelSwitch_keeps status applied s).parts .mode (by decide)).trans hmode)
    rw [heq, counted_hive, counted_mode]
    exact ⟨hset, hidle, hcarry, (shows_counted 126 s _ (by decide)).mpr (hshows (claimCause_ne_bounce s))⟩
  case release =>
    have hunder : underMode s ≠ .carry := by
      rcases hmode with h | h <;> rw [underMode_eq h (by decide)] <;> decide
    have heq : tokenReleases 2 s = releaseToken 2 true s := by
      unfold tokenReleases
      exact if_pos (by rcases hmode with h | h <;> simp [h])
    obtain ⟨hset, hpin, hidle, hcause, hkept⟩ := releaseToken_sets (cause := 2) (guard := true) htoken hunder
    rw [heq, counted_hive, counted_mode]
    exact ⟨hset, hpin, hidle, hcause, hkept, (shows_counted 227 s _ (by decide)).mpr (releaseToken_shows htoken)⟩
  case reclaim =>
    have hview := (hiveView_enterMode .carry (reclaimStarts s)).trans (reclaimStarts_view s)
    obtain ⟨hset, -, hcause, -, hcount, -⟩ := hiveView_eq hview
    obtain ⟨rset, rcause, -, rcount⟩ := reclaim_sets s.now s.hive
    rw [tokenReclaims_shadow htoken hfree hreleased hmode hseq hswitch, counted_hive, counted_mode, enterMode_mode]
    exact ⟨hset.trans rset, hcause.trans rcause, rfl, hcount.trans rcount,
      (shows_counted 130 s _ (by decide)).mpr ((enterMode_keeps _ _).shows 130 (shows_raise 130 _))⟩
  case held =>
    have heq : heldClaims s = claimToken 7 s := by
      unfold heldClaims
      dsimp only
      rw [if_pos (by simp [hlost, hok, hlow, htoken, underMode_eq hmode (by decide)]), cancelSwitch_none hswitch]
    obtain ⟨hset, -, hcarry, hcause, hbeat, -⟩ := claimToken_shadow 7 hmode
    rw [heq, counted_hive, counted_mode]
    exact ⟨hset, hcarry, hcause, hbeat⟩
  case register =>
    have hunder : underMode s ≠ .carry := by rw [underMode_eq hmode (by decide)]; decide
    have heq : hvCtrl .whole v.toNat s = releaseToken 6 false s := if_pos (by simp [hkey, hbit, hready])
    obtain ⟨hset, -, hidle, hcause, hkept⟩ := releaseToken_sets (cause := 6) (guard := false) htoken hunder
    rw [heq, counted_hive, counted_mode]
    exact ⟨hset, hcause, hidle, hkept.trans hmode⟩
  case switch =>
    have hunder : underMode s ≠ .carry := by rw [underMode_eq hmode (by decide)]; decide
    obtain ⟨hset, -, -, hcause, -⟩ := releaseToken_sets (cause := 4) (guard := false) htoken hunder
    rw [switchExecutes_forced hswitch hb htoken hreleased, counted_hive]
    exact ⟨hset, hcause⟩

end Sys2Proof.Machine
end

section
/-!
PROOFS. The hive link, its heartbeats and frames, and the mirror (12 R350, R359-R365, R373-R375). O41.
-/

namespace Sys2Proof.Machine

open Sys2Proof

/-! ### Counters, stings and lanes -/

theorem tickIf_keeps (b : Bool) (code unit : Nat) (s : State) : Keeps [.tally] s (tickIf b code unit s) :=
  .of_only (tickIf_only_tally b code unit s)

theorem onTest_keeps (f : Test → Test) (s : State) : Keeps [.test] s (s.onTest f) :=
  .of_only fun p hp => by cases p <;> simp_all [Part.same]

theorem draw_keeps (s : State) : Keeps [.fresh] s s.draw := .of_only fun p hp => by cases p <;> simp_all [Part.same, State.draw]

theorem stingSpent_keeps (s : State) (x : Sting) : Keeps [.test, .ev] s (stingSpent s x) := by
  unfold stingSpent
  exact .ite ((onTest_keeps _ s).append (raise_keeps_ev (n := 299) (by decide) _)) (onTest_keeps _ s).mono

theorem stingsSpent_keeps (here : TestStingArgs → Bool) (s : State) : Keeps [.test, .ev] s (stingsSpent here s) := by
  unfold stingsSpent
  exact .foldl stingSpent_keeps _ s

theorem laneGroups_keeps (n : Nat) (bad : Bool) (codes : List Nat) (s : State) : Keeps [.lanes] s (laneGroups n bad codes s).2 := by
  rw [laneGroups_lanes]
  exact .of_only fun p hp => by cases p <;> simp_all [Part.same]

theorem bit_clearBits (x k : Nat) : bit (clearBits x (2 ^ k)) k = false := by
  have hand : x &&& 2 ^ k = (x.testBit k).toNat * 2 ^ k := Nat.and_two_pow x k
  unfold bit clearBits
  rw [hand, Nat.testBit_eq_decide_div_mod_eq, Nat.mul_comm, Nat.sub_mul_div, Nat.testBit_eq_decide_div_mod_eq]
  by_cases h : x / 2 ^ k % 2 = 1 <;> simp [h] <;> omega

/-! ### What two hives that look alike hold in common: the link, its health and the mirror (12 R360-R365) -/

/-- Two hives with the same record of the link, by its fields. -/
structure Hive.SameLink (h h' : Hive) : Prop where
  mateOk : h.mateOk = h'.mateOk
  halfA : h.halfA = h'.halfA
  mateFlags : h.mateFlags = h'.mateFlags
  mateBeat : h.mateBeat = h'.mateBeat
  lineFree : h.lineFree = h'.lineFree
  skews : h.skews = h'.skews
  hdrFails : h.hdrFails = h'.hdrFails

theorem hiveView_link {h h' : Hive} (heq : h.view = h'.view) : h.SameLink h' :=
  ⟨(congrArg Hive.mateOk heq :), (congrArg Hive.halfA heq :), (congrArg Hive.mateFlags heq :), (congrArg Hive.mateBeat heq :),
    (congrArg Hive.lineFree heq :), (congrArg Hive.skews heq :), (congrArg Hive.hdrFails heq :)⟩

/-- Two hives with the same record of heartbeats, the bounce-back window and a join, by its fields. -/
structure Hive.SameHealth (h h' : Hive) : Prop where
  hbLost : h.hbLost = h'.hbLost
  hbMissed : h.hbMissed = h'.hbMissed
  bbOpen : h.bbOpen = h'.bbOpen
  egressFault : h.egressFault = h'.egressFault
  egressOk : h.egressOk = h'.egressOk
  joining : h.joining = h'.joining
  joinMode : h.joinMode = h'.joinMode

theorem hiveView_health {h h' : Hive} (heq : h.view = h'.view) : h.SameHealth h' :=
  ⟨(congrArg Hive.hbLost heq :), (congrArg Hive.hbMissed heq :), (congrArg Hive.bbOpen heq :), (congrArg Hive.egressFault heq :),
    (congrArg Hive.egressOk heq :), (congrArg Hive.joining heq :), (congrArg Hive.joinMode heq :)⟩

/-- Two hives with the same record of the mirror, by its fields. -/
structure Hive.SameMirror (h h' : Hive) : Prop where
  rxSeq : h.rxSeq = h'.rxSeq
  gap : h.gap = h'.gap
  gaps : h.gaps = h'.gaps
  incoming : h.incoming = h'.incoming
  loaded : h.loaded = h'.loaded
  chunks : h.chunks = h'.chunks

theorem hiveView_mirror {h h' : Hive} (heq : h.view = h'.view) : h.SameMirror h' :=
  ⟨(congrArg Hive.rxSeq heq :), (congrArg Hive.gap heq :), (congrArg Hive.gaps heq :), (congrArg Hive.incoming heq :),
    (congrArg Hive.loaded heq :), (congrArg Hive.chunks heq :)⟩

/-! ### HV_MATE_OK, the halves, heartbeats and bounce-back (12 R350, R360-R362, R373-R375) -/

/-- A change of the hive that one of its sources shows, with its role and pin brought up to date. -/
def hiveEvent (n : Nat) (f : Hive → Hive) (s : State) : State := refreshHive (raise n (s.onHive f))

theorem hiveEvent_keeps {n : Nat} (hlo : 115 ≤ n) (hhi : n ≤ 130) (f : Hive → Hive) (s : State) : Keeps [.hive, .ev] s (hiveEvent n f s) :=
  ((onHive_keeps f s).append ((raise_keeps_hive hlo hhi _).append (refreshHive_keeps _))).mono

theorem hiveEvent_view (n : Nat) (f : Hive → Hive) (s : State) : (hiveEvent n f s).hive.view = (f s.hive).view := by
  unfold hiveEvent
  rw [hiveView_refreshHive, hiveView_raise]
  rfl

theorem hiveEvent_shows (n : Nat) (f : Hive → Hive) (s : State) : (hiveEvent n f s).shows n :=
  (refreshHive_keeps _).shows n (shows_raise n _)

theorem mateOkChanges_eq {level : Bool} {s : State} (h : s.hive.mateOk ≠ level) :
    mateOkChanges level s = hiveEvent 118 (fun h => { h with mateOk := level }) s := if_neg h

theorem halfChanges_eq {up : Bool} {s : State} (h : s.hive.halfA ≠ up) (hup : halfUp s false = up) :
    halfChanges false up s = hiveEvent 121 (fun h => { h with halfA := up }) s := by
  unfold halfChanges
  exact if_neg (by simp [hup, Ne.symm h])

/-- The heartbeat that is missed is counted, and the third in a row is the loss of the mate's heartbeat. -/
def heartbeatCounted (s : State) : State :=
  raise 119 ((tick 150 noUnit 1 s).onHive fun h => { h with hbMissed := 3, hbMissAt := s.now + 1 })

def heartbeatLost (s : State) : State :=
  raise 120 (s.onHive fun h =>
    { h with hbLost := true, hbLosses := satAdd 16 h.hbLosses 1, mateFlags := clearBits h.mateFlags 0x100 })

theorem heartbeatMisses_third {s : State} (hseen : s.hive.hbSeen = true) (hbeat : s.now % 8 = 0) (hat : s.hive.hbMissAt ≠ s.now + 1)
    (hflight : s.hive.hbFlight ≠ s.now / 8 % 2 ^ 32) (hmissed : s.hive.hbMissed = 2) (hlost : s.hive.hbLost = false) :
    heartbeatMisses s = refreshHive (raiseIf (mateReady s) 117 (heartbeatLost (heartbeatCounted s))) := by
  unfold heartbeatMisses
  dsimp only
  rw [if_pos (by simp only [Bool.and_eq_true, beq_iff_eq, bne_iff_ne]; exact ⟨⟨⟨hseen, hbeat⟩, hat⟩, hflight⟩)]
  rw [if_pos ⟨by rw [hmissed]; rfl, by rw [hlost]; rfl⟩, hmissed]
  rfl

theorem heartbeatCounted_keeps (s : State) : Keeps [.tally, .hive, .ev] s (heartbeatCounted s) :=
  ((tick_keeps _ _ _ s).append ((onHive_keeps _ _).append (raise_keeps_hive (by decide) (by decide) _))).mono

theorem heartbeatLost_keeps (s : State) : Keeps [.hive, .ev] s (heartbeatLost s) :=
  ((onHive_keeps _ s).append (raise_keeps_hive (by decide) (by decide) _)).mono

theorem heartbeatLost_sets (s : State) : (heartbeatLost s).hive.hbLost = true ∧ (heartbeatLost s).hive.hbMissed = s.hive.hbMissed ∧
    bit (heartbeatLost s).hive.mateFlags 8 = false := by
  have hview := hiveView_raise 120 (s.onHive fun h =>
    { h with hbLost := true, hbLosses := satAdd 16 h.hbLosses 1, mateFlags := clearBits h.mateFlags 0x100 })
  obtain ⟨hlost, hmissed, -⟩ := hiveView_health hview
  obtain ⟨-, -, hflags, -⟩ := hiveView_link hview
  refine ⟨hlost, hmissed, ?_⟩
  unfold heartbeatLost
  rw [hflags]
  exact bit_clearBits s.hive.mateFlags 8

theorem heartbeatCounted_missed (s : State) : (heartbeatCounted s).hive.hbMissed = 3 :=
  (hiveView_health (hiveView_raise 119 ((tick 150 noUnit 1 s).onHive fun h => { h with hbMissed := 3, hbMissAt := s.now + 1 }))).hbMissed

theorem bbCloses_eq {s : State} (hopen : s.hive.bbOpen = true) (hleft : s.hive.bbLeft = 0) :
    bbCloses s = raise 128 (s.onHive fun h => { h with bbOpen := false }) := if_pos (by simp [hopen, hleft])

/-- The egress fault declared, before the token may go. -/
def egressDeclared (s : State) : State := raise 129 (fault 0x15 0 0 (s.onHive fun h => { h with egressFault := true, egressOk := false }))

theorem egressFaults_eq {s : State} (hopen : s.hive.bbOpen = true) (htoken : s.hive.token = true) :
    egressFaults false s = releaseToken 5 false (egressDeclared s) ∨ egressFaults false s = egressDeclared s := by
  unfold egressFaults
  dsimp only
  rw [if_pos (by simp [hopen, htoken])]
  split_ifs
  · exact .inl rfl
  · exact .inr rfl

theorem egressDeclared_sets (s : State) : (egressDeclared s).hive.egressFault = true ∧ (egressDeclared s).hive.egressOk = false ∧
    (egressDeclared s).shows 129 := by
  obtain ⟨-, -, -, hfault, hok, -⟩ := hiveView_health ((hiveView_raise 129 _).trans
    (hiveView_fault 0x15 0 0 (s.onHive fun h => { h with egressFault := true, egressOk := false })))
  exact ⟨hfault, hok, shows_raise 129 _⟩

theorem releaseToken_egress (cause : Nat) (guard : Bool) (s : State) :
    (releaseToken cause guard s).hive.egressFault = s.hive.egressFault ∧ (releaseToken cause guard s).hive.egressOk = s.hive.egressOk := by
  cases htoken : s.hive.token with
  | false =>
    rw [releaseToken_without htoken]
    exact ⟨rfl, rfl⟩
  | true =>
    obtain ⟨-, -, -, hfault, hok, -⟩ := hiveView_health (releaseToken_hiveView (cause := cause) (guard := guard) htoken)
    exact ⟨hfault, hok⟩

theorem joinTimesOut_eq {w : Waiter} {s : State} (h : s.hive.joining = some w) :
    joinTimesOut s = answer w stTimeout 0 (s.onHive fun h => { h with joining := none, joinMode := false }) := by
  unfold joinTimesOut
  rw [h]

/-! ### Frames of the hive link (12 R360-R362; 03 R74, R98) -/

/-- A frame's skew and whether its header passed. -/
def Hive.frameSeen (i : Nat) (skew : Int) (passed : Bool) (h : Hive) : Hive :=
  { h with skews := tput 0 h.skews i skew, hdrFails := tput [] h.hdrFails i ((passed :: tget [] h.hdrFails i).take 8) }

/-- The hive of a device that takes in a header. -/
def Hive.hear (hdr : HiveHeader) (h : Hive) : Hive :=
  let u := { h with mateFlags := hdr.flags, mateBeat := hdr.beat, mateLanes := hdr.laneSummary, lineFree := !bit hdr.flags 0 && !h.token }
  match hdr.heartbeat with
  | some r =>
    { u with
      heartbeat := r, hbFlight := ((List.range 4).map fun j => r.getD j 0 * 256 ^ j).sum, hbSeen := true, hbMissed := 0, hbLost := false }
  | none => u

theorem hear_sets (hdr : HiveHeader) (h : Hive) : (h.hear hdr).mateFlags = hdr.flags ∧ (h.hear hdr).mateBeat = hdr.beat ∧
    (h.hear hdr).lineFree = (!bit hdr.flags 0 && !h.token) ∧ (h.hear hdr).skews = h.skews ∧ (h.hear hdr).hdrFails = h.hdrFails := by
  unfold Hive.hear
  cases hdr.heartbeat <;> exact ⟨rfl, rfl, rfl, rfl, rfl⟩

theorem hear_token (hdr : HiveHeader) (h : Hive) : (h.hear hdr).token = h.token ∧ (h.hear hdr).released = h.released ∧
    (h.hear hdr).switchPend = h.switchPend := by
  unfold Hive.hear
  cases hdr.heartbeat <;> exact ⟨rfl, rfl, rfl⟩

/-- A header is taken in, and a change of the mate's readiness shown. -/
def headerHeard (hdr : HiveHeader) (s : State) : State :=
  raiseIf (bit s.hive.mateFlags 8 != bit hdr.flags 8) 117 (s.onHive (Hive.hear hdr))

theorem headerHeard_keeps (hdr : HiveHeader) (s : State) : Keeps [.hive, .ev] s (headerHeard hdr s) :=
  ((onHive_keeps _ s).append (raiseIf_keeps_of _ (raise_keeps_hive (by decide) (by decide) _))).mono

theorem headerHeard_view (hdr : HiveHeader) (s : State) : (headerHeard hdr s).hive.view = (s.hive.hear hdr).view := hiveView_raiseIf _ 117 _

section
variable {s : State} (htoken : s.hive.token = false)
include htoken

theorem serveGap_without (ack : Nat) (newGap : Bool) : serveGap ack newGap s = s := if_neg (by simp [htoken])
theorem takeRequest_without (flags : Nat) : takeRequest flags s = s := if_neg (by simp [htoken])
theorem collides_without (holds : Bool) : collides s holds = false := by simp [collides, htoken]

end

theorem passedOn_none {beat : Nat} {holds : Bool} {s : State} (h : s.hive.switchPend = none) : passedOn beat holds s = s := by
  simp [passedOn, h]

/-- What a header that was taken in brings for the token: gaps and requests of the mate, collisions, and the end of a release. -/
def headerTold (hdr : HiveHeader) (newGap : Bool) (s : State) : State :=
  let holds := bit hdr.flags 0
  let t := takeRequest hdr.flags (serveGap hdr.ack newGap s)
  let t := if collides t holds then
      raise 130 ((releaseToken 0 false t).onHive fun h => { h with collisions := satAdd 32 h.collisions 1, lineFree := false })
    else t
  let t := if holds && t.hive.released ≠ 0 then
      let ok := t.hive.released = 4
      let b := match t.hive.switchPend with | some (_, b, _) => b | none => 0
      cancelSwitch (if ok then stOk else stNotInMode) (if ok then b else 0) (t.onHive fun h => { h with released := 0 })
    else t
  passedOn hdr.beat holds t

theorem headerIn_steps (hdr : HiveHeader) (s : State) : headerIn hdr s =
    refreshHive (phaseSample hdr (headerTold hdr (!bit s.hive.mateFlags 11 && bit hdr.flags 11) (headerHeard hdr s))) := by
  unfold headerIn headerTold headerHeard Hive.hear
  cases hdr.heartbeat <;> rfl

theorem headerTold_without {hdr : HiveHeader} {newGap : Bool} {s : State} (htoken : s.hive.token = false) (hreleased : s.hive.released = 0)
    (hswitch : s.hive.switchPend = none) : headerTold hdr newGap s = s := by
  unfold headerTold
  dsimp only
  rw [serveGap_without htoken, takeRequest_without htoken, collides_without htoken]
  simp only [Bool.false_eq_true, if_false]
  rw [if_neg (by simp [hreleased]), passedOn_none hswitch]

/-- A device that holds no token, has released none and passes no switch on only takes the header in. -/
theorem headerIn_eq {hdr : HiveHeader} {s : State} (htoken : s.hive.token = false) (hreleased : s.hive.released = 0)
    (hswitch : s.hive.switchPend = none) : headerIn hdr s = refreshHive (phaseSample hdr (headerHeard hdr s)) := by
  obtain ⟨ht, -, hr, hs, -⟩ := hiveView_eq (headerHeard_view hdr s)
  obtain ⟨ht', hr', hs'⟩ := hear_token hdr s.hive
  rw [headerIn_steps, headerTold_without (ht.trans (ht'.trans htoken)) (hr.trans (hr'.trans hreleased)) (hs.trans (hs'.trans hswitch))]

theorem readHeader_lane {gs : List Group} {hdr : HiveHeader} (h : readHeader gs = some hdr) : hdr.lane < 4 := by
  unfold readHeader at h
  rw [Option.ite_none_right_eq_some] at h
  obtain ⟨-, rfl⟩ := h.imp_right Option.some.inj
  exact Nat.mod_lt _ (by decide)

theorem ppsEdge_keeps {i : Nat} (hi : i ∈ [0, 1, 18, 19]) (edge : Int) (s : State) : Keeps [.scout, .ev] s (ppsEdge i edge s) := by
  have honInp := Keeps.of_only (onInp_only s i (ScoutIn.seesEdge i edge))
  have honScout := fun f u => Keeps.of_only (onScout_only u f)
  have hcounted : ∀ u, Keeps [.scout] u (countEdge i u) := fun u => .when (honScout _ u)
  have hfollowed : ∀ x es u, Keeps [.scout, .ev] u (followEdges x i es u) := fun x es u =>
    .when ((honScout _ u).append (raiseIf_keeps_ev (n := 104) (by decide) _ _))
  rw [ppsEdge_follows hi]
  exact ((honInp.trans (hcounted _)).append (hfollowed _ _ _)).mono

theorem phaseSample_keeps {hdr : HiveHeader} (h : hdr.lane < 4) (s : State) : Keeps [.tally, .scout, .ev] s (phaseSample hdr s) := by
  have hi : 18 + hdr.lane / 2 ∈ [0, 1, 18, 19] := by
    have : hdr.lane / 2 = 0 ∨ hdr.lane / 2 = 1 := by omega
    rcases this with h | h <;> rw [h] <;> decide
  unfold phaseSample
  exact .ite ((tick_keeps _ _ _ s).append (ppsEdge_keeps hi _ _)).mono (tick_keeps _ _ _ s).mono

/-- A frame on a lane of the link that is up, with what its header is worth. -/
theorem hiveFrame_eq {i : Nat} {skew : Int} {codes : List Nat} {s : State} (hi : i < 4) (hup : hiveLaneUp s i = true) :
    hiveFrame i skew codes s =
      let r := laneGroups (256 + i) (stungUnit s 0x0A (256 + i)) codes s
      let hdr := if skew.natAbs ≤ 8 then readHeader r.1 else none
      let t := (tickIf hdr.isNone 155 noUnit r.2).onHive (Hive.frameSeen i skew hdr.isSome)
      match hdr with
      | some x => headerIn x t
      | none => t := by
  have hlane := hup
  unfold hiveLaneUp at hlane
  simp only [Bool.and_eq_true, Bool.not_eq_true', beq_iff_eq] at hlane
  obtain ⟨⟨⟨⟨hworks, -⟩, -⟩, hlos⟩, hlol⟩ := hlane
  unfold hiveFrame
  rw [if_neg (by simp [hi, hworks, hlos, hlol])]
  dsimp only
  rw [if_neg (by simp [hup])]
  rfl

/-- The frame's own record, of which the header says whether it passed. -/
def frameRecorded (i : Nat) (skew : Int) (codes : List Nat) (passed : Bool) (s : State) : State :=
  (tickIf (!passed) 155 noUnit (laneGroups (256 + i) (stungUnit s 0x0A (256 + i)) codes s).2).onHive (Hive.frameSeen i skew passed)

theorem frameRecorded_keeps (i : Nat) (skew : Int) (codes : List Nat) (passed : Bool) (s : State) :
    Keeps [.lanes, .tally, .hive] s (frameRecorded i skew codes passed s) := by
  unfold frameRecorded
  exact ((laneGroups_keeps _ _ _ s).append ((tickIf_keeps _ _ _ _).append (onHive_keeps _ _))).mono

theorem frameRecorded_hive (i : Nat) (skew : Int) (codes : List Nat) (passed : Bool) (s : State) :
    (frameRecorded i skew codes passed s).hive = s.hive.frameSeen i skew passed := by
  have hkept := (laneGroups_keeps (256 + i) (stungUnit s 0x0A (256 + i)) codes s).append (tickIf_keeps (!passed) 155 noUnit _)
  exact congrArg (Hive.frameSeen i skew passed) (hkept.parts .hive (by decide))

theorem frameSeen_sets (i : Nat) (skew : Int) (passed : Bool) (h : Hive) : tget 0 (h.frameSeen i skew passed).skews i = skew ∧
    tget [] (h.frameSeen i skew passed).hdrFails i = (passed :: tget [] h.hdrFails i).take 8 :=
  ⟨tget_tput_same _ _ i skew, tget_tput_same _ _ i ((passed :: tget [] h.hdrFails i).take 8)⟩

section
variable {i : Nat} {skew : Int} {codes : List Nat} {gs : List Group} {s : State} (hi : i < 4) (hup : hiveLaneUp s i = true)
  (hgs : (laneGroups (256 + i) (stungUnit s 0x0A (256 + i)) codes s).1 = gs)
include hi hup hgs

/-- A frame whose marker is too far away, or whose header fails, only shows in its lane's record. -/
theorem hiveFrame_fails (h : skew < -8 ∨ 8 < skew ∨ readHeader gs = none) :
    hiveFrame i skew codes s = frameRecorded i skew codes false s := by
  have hnone : (if skew.natAbs ≤ 8 then readHeader gs else none) = none := by
    by_cases hskew : skew.natAbs ≤ 8
    · rw [if_pos hskew]
      exact (h.resolve_left (by omega)).resolve_left (by omega)
    · exact if_neg hskew
  rw [hiveFrame_eq hi hup]
  dsimp only
  rw [hgs, hnone]
  rfl

/-- A frame whose header passes brings it. -/
theorem hiveFrame_passes {hdr : HiveHeader} (hlo : -8 ≤ skew) (hhi : skew ≤ 8) (h : readHeader gs = some hdr) :
    hiveFrame i skew codes s = headerIn hdr (frameRecorded i skew codes true s) := by
  have hsome : (if skew.natAbs ≤ 8 then readHeader gs else none) = some hdr := (if_pos (by omega)).trans h
  rw [hiveFrame_eq hi hup]
  dsimp only
  rw [hgs, hsome]
  rfl

end

/-! ### The mirror (12 R363-R365, R375) -/

theorem openGap_eq {s : State} (h : s.hive.gap = false) :
    openGap s = raise 123 (s.onHive fun h => { h with gap := true, gaps := satAdd 16 h.gaps 1 }) := if_neg (by simp [h])

section
variable {s : State} (htoken : s.hive.token = false) (hhalf : s.hive.halfA = true)
include htoken hhalf

theorem mirrorIn_bad (seq : Nat) (r : MirrorRec) : mirrorIn seq false r s = openGap s := by
  simp [mirrorIn, htoken, hhalf]

/-- A part of a ticket that comes in its place joins those that wait for the close. -/
theorem mirrorIn_shadow (t : Nat) (cs : List Change) (hloaded : s.hive.loaded = true) :
    mirrorIn ((s.hive.rxSeq + 1) % 2 ^ 32) true (.shadow t cs) s =
      (raiseIf s.hive.gap 123 (s.onHive fun h => { h with rxSeq := (s.hive.rxSeq + 1) % 2 ^ 32, gap := false })).onHive
        fun h => { h with incoming := h.incoming ++ [(t, cs)] } := by
  have hview := hiveView_raiseIf s.hive.gap 123 (s.onHive fun h => { h with rxSeq := (s.hive.rxSeq + 1) % 2 ^ 32, gap := false })
  obtain ⟨-, -, -, -, hkept, -⟩ := hiveView_mirror hview
  unfold mirrorIn
  dsimp only
  rw [if_neg (by simp [htoken, hhalf]), if_neg (by decide), if_pos (by simp)]
  unfold takeRecord
  dsimp only
  rw [if_neg (by rw [hkept]; simp [hloaded])]
  rfl

end

/-- The hive of a standby whose snapshot is loaded. -/
def Hive.loadedNow (b : Nat) (h : Hive) : Hive :=
  { h with
    loaded := true, resync := false, gap := false, snapSeen := false, chunks := [], buffered := [], generation := 0
    onTime := 0, joinSnap := b }

/-- The snapshot is loaded, before a join ends. -/
def snapshotIn (b : Nat) (s : State) : State :=
  (raise 125 ((s.hive.chunks.foldl (fun s r => loadChunk r s) s).onHive (Hive.loadedNow b))).draw

theorem snapshotLoads_eq {s : State} (hseen : s.hive.snapSeen = true) (hloaded : s.hive.loaded = false) (hnone : s.hive.buffered = []) :
    snapshotLoads s = joinEnds (snapshotIn (Config.free 18 s.fresh % 2 ^ 48) s) := by
  unfold snapshotLoads
  dsimp only
  rw [if_pos (by simp [hseen, hloaded]), hnone]
  rfl

/-- What a standby holds of the mirror. -/
def Hive.mirrored (h : Hive) : Bool × Bool × List MirrorRec := (h.loaded, h.gap, h.chunks)

theorem mirrored_view {h h' : Hive} (heq : h.view = h'.view) : h.mirrored = h'.mirrored := (congrArg Hive.mirrored heq :)

theorem snapshotIn_mirrored (b : Nat) (s : State) : (snapshotIn b s).hive.mirrored = (true, false, []) :=
  (mirrored_view (hiveView_raise 125 ((s.hive.chunks.foldl (fun s r => loadChunk r s) s).onHive (Hive.loadedNow b)))).trans rfl

theorem snapshotIn_shows (b : Nat) (s : State) : (snapshotIn b s).shows 125 := (draw_keeps _).shows 125 (shows_raise 125 _)

theorem answer_mirrored (w : Waiter) (status applied : Nat) (s : State) : (answer w status applied s).hive.mirrored = s.hive.mirrored :=
  mirrored_view (answer_views w status applied s).hive

/-- A device in Shadow whose join is answered. -/
def joinAnswered (s : State) : State :=
  answerOpt (enterMode .shadow s).hive.joining stOk 0 ((enterMode .shadow s).onHive fun h => { h with joining := none, joinMode := false })

theorem joinAnswered_keeps (s : State) : Keeps (.mode :: answerParts) s (joinAnswered s) := by
  unfold joinAnswered
  exact ((enterMode_keeps _ s).append ((onHive_keeps _ _).append (answerOpt_keeps _ _ _ _))).mono

theorem joinAnswered_mirrored (s : State) : (joinAnswered s).hive.mirrored = s.hive.mirrored := by
  have hanswer := mirrored_view (answerOpt_views (enterMode .shadow s).hive.joining stOk 0
    ((enterMode .shadow s).onHive fun h => { h with joining := none, joinMode := false })).hive
  have hmode := mirrored_view (hiveView_enterMode .shadow s)
  unfold joinAnswered
  rw [hanswer, ← hmode]
  rfl

theorem joinEnds_eq (s : State) : joinEnds s = s ∨ joinEnds s = joinAnswered s ∨
    ∃ w, joinEnds s = answer w stOk 0 ((joinAnswered s).onKeeper fun k => { k with modeWait := none }) := by
  unfold joinEnds
  split_ifs
  · dsimp only
    split
    · exact .inr (.inr ⟨_, rfl⟩)
    · exact .inr (.inl rfl)
  · exact .inl rfl

theorem joinEnds_mirrored (s : State) : (joinEnds s).hive.mirrored = s.hive.mirrored := by
  rcases joinEnds_eq s with h | h | ⟨w, h⟩ <;> rw [h]
  · exact joinAnswered_mirrored s
  · exact (answer_mirrored w stOk 0 _).trans (joinAnswered_mirrored s)

theorem joinEnds_keeps (s : State) : Keeps (.mode :: .keeper :: answerParts) s (joinEnds s) := by
  rcases joinEnds_eq s with h | h | ⟨w, h⟩ <;> rw [h]
  · exact .refl _ s
  · exact (joinAnswered_keeps s).mono
  · exact ((joinAnswered_keeps s).append ((onKeeper_keeps _ _).append (answer_keeps w _ _ _))).mono

/-! ### What the hive observes -/

/-- A header that is taken in: what the hive holds of the mate, and of the lane's frames. -/
theorem headerIn_sets {hdr : HiveHeader} {s : State} (hlane : hdr.lane < 4) (htoken : s.hive.token = false)
    (hreleased : s.hive.released = 0) (hswitch : s.hive.switchPend = none) :
    Keeps [.hive, .tally, .scout, .ev] s (headerIn hdr s) ∧ (headerIn hdr s).hive.mateFlags = hdr.flags ∧
      (headerIn hdr s).hive.mateBeat = hdr.beat ∧ ((headerIn hdr s).hive.lineFree = !bit hdr.flags 0) ∧
      (headerIn hdr s).hive.hdrFails = s.hive.hdrFails := by
  have hkept := phaseSample_keeps hlane (headerHeard hdr s)
  have hview : (headerIn hdr s).hive.view = (s.hive.hear hdr).view := by
    rw [headerIn_eq htoken hreleased hswitch, hiveView_refreshHive, show _ = _ from hkept.parts .hive (by decide), headerHeard_view]
  obtain ⟨-, -, hflags, hbeat, hfree, -, hfails⟩ := hiveView_link hview
  obtain ⟨hflags', hbeat', hfree', -, hfails'⟩ := hear_sets hdr s.hive
  refine ⟨?_, hflags.trans hflags', hbeat.trans hbeat', hfree.trans (hfree'.trans ?_), hfails.trans hfails'⟩
  · rw [headerIn_eq htoken hreleased hswitch]
    exact ((headerHeard_keeps hdr s).append (hkept.append (refreshHive_keeps _))).mono
  · simp [htoken]

/-- Settles O41: each event of the link writes the hive's own record and raises its source; a record of the mirror is taken in its place,
and one whose CRC fails opens a gap. -/
theorem hiveAndMirror : Obligations.HiveAndMirror := by
  refine ⟨fun s => ⟨fun level hlevel => ?mate, fun up hchange hup => ?half, fun i skew codes gs hi hup hgs => ?frame,
      fun hseen hbeat hat hflight hmissed hlost => ?heartbeat, fun hopen hleft => ?window, fun hopen htoken => ?egress,
      fun w hjoin => ?join⟩,
    fun s htoken hhalf => ⟨fun t cs hloaded => ?record, fun seq r hgap => ?gap, fun hseen hloaded hnone => ?snapshot⟩⟩
  case mate =>
    obtain ⟨hset, -⟩ := hiveView_link (hiveEvent_view 118 (fun h => { h with mateOk := level }) s)
    refine ⟨counted s (mateOkChanges level s), rfl, ?_⟩
    rw [mateOkChanges_eq hlevel, counted_hive]
    exact ⟨counted_changes (hiveEvent_keeps (by decide) (by decide) _ s).parts, hset,
      (shows_counted 118 s _ (by decide)).mpr (hiveEvent_shows 118 _ s)⟩
  case half =>
    obtain ⟨-, hset, -⟩ := hiveView_link (hiveEvent_view 121 (fun h => { h with halfA := up }) s)
    refine ⟨counted s (halfChanges false up s), rfl, ?_⟩
    rw [halfChanges_eq hchange hup, counted_hive]
    exact ⟨counted_changes (hiveEvent_keeps (by decide) (by decide) _ s).parts, hset,
      (shows_counted 121 s _ (by decide)).mpr (hiveEvent_shows 121 _ s)⟩
  case frame =>
    have hrecorded := fun passed => frameRecorded_keeps i skew codes passed s
    have hseen := fun passed => frameRecorded_hive i skew codes passed s
    have hspent := stingsSpent_keeps (onLaneFrame (256 + i))
    have hexec : exec (.hiveFrameRx i skew codes) s =
      .next (counted s (stingsSpent (onLaneFrame (256 + i)) (hiveFrame i skew codes s))) := rfl
    refine ⟨fun hfails => ⟨_, hexec, ?_⟩, fun hdr hlo hhi hread htoken hreleased hswitch => ⟨_, hexec, ?_⟩⟩
    · obtain ⟨hskew, hfail⟩ := frameSeen_sets i skew false s.hive
      rw [hiveFrame_fails hi hup hgs hfails, counted_hive, show _ = _ from (hspent _).parts .hive (by decide), hseen]
      exact ⟨counted_changes ((hrecorded false).append (hspent _)).parts, rfl, rfl, hskew, hfail⟩
    · obtain ⟨-, hpass⟩ := frameSeen_sets i skew true s.hive
      have hhive := hseen true
      have hin := headerIn_sets (s := frameRecorded i skew codes true s) (readHeader_lane hread) (by rw [hhive]; exact htoken)
        (by rw [hhive]; exact hreleased) (by rw [hhive]; exact hswitch)
      obtain ⟨hkept, hflags, hbeat, hfree, hheaders⟩ := hin
      rw [hiveFrame_passes hi hup hgs hlo hhi hread, counted_hive, show _ = _ from (hspent _).parts .hive (by decide)]
      refine ⟨counted_changes ((hrecorded true).append (hkept.append (hspent _))).parts, hflags, hbeat, hfree, ?_⟩
      rw [hheaders, hhive, hpass]
  case heartbeat =>
    have hready := fun u => raiseIf_keeps_of (mateReady s) (raise_keeps_hive (n := 117) (by decide) (by decide) u)
    have hends := fun u => (hready u).append (refreshHive_keeps (raiseIf (mateReady s) 117 u))
    have hview : (refreshHive (raiseIf (mateReady s) 117 (heartbeatLost (heartbeatCounted s)))).hive.view =
      (heartbeatLost (heartbeatCounted s)).hive.view := by rw [hiveView_refreshHive, hiveView_raiseIf]
    obtain ⟨hset, hcount, -⟩ := hiveView_health hview
    obtain ⟨-, -, hflags, -⟩ := hiveView_link hview
    obtain ⟨hset', hcount', hflags'⟩ := heartbeatLost_sets (heartbeatCounted s)
    refine ⟨counted s (heartbeatMisses s), rfl, ?_⟩
    rw [heartbeatMisses_third hseen hbeat hat hflight hmissed hlost, counted_hive, hset, hcount, hflags]
    exact ⟨counted_changes ((heartbeatCounted_keeps s).append ((heartbeatLost_keeps _).append (hends _))).parts, hset',
      hcount'.trans (heartbeatCounted_missed s), hflags',
      (shows_counted 119 s _ (by decide)).mpr ((hends _).shows 119 ((heartbeatLost_keeps _).shows 119 (shows_raise 119 _))),
      (shows_counted 120 s _ (by decide)).mpr ((hends _).shows 120 (shows_raise 120 _))⟩
  case window =>
    obtain ⟨-, -, hset, -⟩ := hiveView_health (hiveView_raise 128 (s.onHive fun h => { h with bbOpen := false }))
    refine ⟨counted s (bbCloses s), rfl, ?_⟩
    rw [bbCloses_eq hopen hleft, counted_hive]
    exact ⟨counted_changes ((onHive_keeps _ s).append (raise_keeps_hive (by decide) (by decide) _)).parts, hset,
      (shows_counted 128 s _ (by decide)).mpr (shows_raise 128 _)⟩
  case egress =>
    obtain ⟨hfault, hok, hshows⟩ := egressDeclared_sets s
    obtain ⟨hfault', hok'⟩ := releaseToken_egress 5 false (egressDeclared s)
    refine ⟨counted s (egressFaults false s), rfl, ?_⟩
    rw [counted_hive]
    rcases egressFaults_eq hopen htoken with heq | heq <;> rw [heq]
    · exact ⟨hfault'.trans hfault, hok'.trans hok,
        (shows_counted 129 s _ (by decide)).mpr ((releaseToken_keeps 5 false _).shows 129 hshows)⟩
    · exact ⟨hfault, hok, (shows_counted 129 s _ (by decide)).mpr hshows⟩
  case join =>
    obtain ⟨-, -, -, -, -, hjoining, hmode⟩ := hiveView_health (answer_views w stTimeout 0
      (s.onHive fun h => { h with joining := none, joinMode := false })).hive
    refine ⟨counted s (joinTimesOut s), rfl, ?_⟩
    rw [joinTimesOut_eq hjoin, counted_hive]
    exact ⟨hjoining, hmode⟩
  case record =>
    have hview := hiveView_raiseIf s.hive.gap 123 (s.onHive fun h => { h with rxSeq := (s.hive.rxSeq + 1) % 2 ^ 32, gap := false })
    obtain ⟨hseq, hgap, -, hincoming, -⟩ := hiveView_mirror hview
    have hkept := raiseIf_keeps_of s.hive.gap (raise_keeps_hive (n := 123) (by decide) (by decide)
      (s.onHive fun h => { h with rxSeq := (s.hive.rxSeq + 1) % 2 ^ 32, gap := false }))
    refine ⟨counted s (mirrorIn ((s.hive.rxSeq + 1) % 2 ^ 32) true (.shadow t cs) s), rfl, ?_⟩
    rw [mirrorIn_shadow htoken hhalf t cs hloaded, counted_hive]
    exact ⟨counted_changes ((onHive_keeps _ s).append (hkept.append (onHive_keeps _ _))).parts, hseq, hgap,
      congrArg (· ++ [(t, cs)]) hincoming⟩
  case gap =>
    obtain ⟨hseq, hset, hcount, -⟩ :=
      hiveView_mirror (hiveView_raise 123 (s.onHive fun h => { h with gap := true, gaps := satAdd 16 h.gaps 1 }))
    refine ⟨counted s (mirrorIn seq false r s), rfl, ?_⟩
    rw [mirrorIn_bad htoken hhalf, openGap_eq hgap, counted_hive]
    exact ⟨counted_changes ((onHive_keeps _ s).append (raise_keeps_hive (by decide) (by decide) _)).parts, hset, hcount, hseq,
      (shows_counted 123 s _ (by decide)).mpr (shows_raise 123 _)⟩
  case snapshot =>
    have hmirrored := (joinEnds_mirrored (snapshotIn (Config.free 18 s.fresh % 2 ^ 48) s)).trans (snapshotIn_mirrored _ s)
    refine ⟨counted s (snapshotLoads s), rfl, ?_⟩
    rw [snapshotLoads_eq hseen hloaded hnone, counted_hive]
    exact ⟨congrArg Prod.fst hmirrored, congrArg (fun x => x.2.1) hmirrored, congrArg (fun x => x.2.2) hmirrored,
      (shows_counted 125 s _ (by decide)).mpr ((joinEnds_keeps _).shows 125 (snapshotIn_shows _ s))⟩

end Sys2Proof.Machine
end

section
/-!
PROOFS. The power sequences (18 R541-R546, R582, R583). O42.
-/

namespace Sys2Proof.Machine

open Sys2Proof

/-! ### Rails (18 R545, R547) -/

/-- Two power units that differ in sticky copies alone, by the fields that the sequence, Lean and the supervision write. -/
structure Power.SameRecord (p p' : Power) : Prop where
  seq : p.seq = p'.seq
  seqStep : p.seqStep = p'.seqStep
  offCause : p.offCause = p'.offCause
  wakeLatch : p.wakeLatch = p'.wakeLatch
  pfw : p.pfw = p'.pfw
  isLean : p.isLean = p'.isLean
  leanFrom : p.leanFrom = p'.leanFrom
  rails : p.rails = p'.rails
  railBad : p.railBad = p'.railBad
  pmbusErr : p.pmbusErr = p'.pmbusErr
  avsM : p.avsM = p'.avsM
  setpoint : p.setpoint = p'.setpoint
  tj : p.tj = p'.tj
  resetLow : p.resetLow = p'.resetLow

theorem powerView_eq {p p' : Power} (h : p.view = p'.view) : p.SameRecord p' :=
  ⟨(congrArg Power.seq h :), (congrArg Power.seqStep h :), (congrArg Power.offCause h :), (congrArg Power.wakeLatch h :),
    (congrArg Power.pfw h :), (congrArg Power.isLean h :), (congrArg Power.leanFrom h :), (congrArg Power.rails h :),
    (congrArg Power.railBad h :), (congrArg Power.pmbusErr h :), (congrArg Power.avsM h :), (congrArg Power.setpoint h :),
    (congrArg Power.tj h :), (congrArg Power.resetLow h :)⟩

theorem onRail_keeps (n : Nat) (f : Rail → Rail) (s : State) : Keeps [.power] s (s.onRail n f) := onPower_keeps _ s

@[simp] theorem rail_onRail_same (s : State) (n : Nat) (f : Rail → Rail) : (s.onRail n f).rail n = f (s.rail n) := by
  simp [State.onRail, State.rail]

theorem rail_of_rails {s t : State} (h : t.power.rails = s.power.rails) (n : Nat) : t.rail n = s.rail n := by simp [State.rail, h]

@[simp] theorem rail_raise (m n : Nat) (s : State) : (raise m s).rail n = s.rail n :=
  rail_of_rails (powerView_eq (powerView_raise m s)).rails n

theorem rail_counted (s t : State) (n : Nat) : (counted s t).rail n = t.rail n := rail_eq (counted_power s t) n

/-! ### The power-up sequence (18 R545, R546, R583) -/

theorem startUp_keeps (s : State) : Keeps [.power] s (startUp s) := (onPower_keeps _ s).trans (onRail_keeps 0 _ _)

theorem startUp_sets (s : State) : (startUp s).power.seq = 1 ∧ (startUp s).power.seqStep = 1 ∧
    (startUp s).power.powered = s.power.powered ∧ ((startUp s).rail 0).enabled = true :=
  ⟨rfl, rfl, rfl, congrArg Rail.enabled (rail_onRail_same (s.onPower _) 0 _)⟩

/-- The next rail of the sequence is switched on. -/
def nextRail (s : State) : State :=
  ((s.onRail (stepRail s.power.seqStep) fun r => { r with enabled := true, good := true }).onPower fun q =>
    { q with seqStep := q.seqStep + 1 }).onRail (stepRail (s.power.seqStep + 1)) fun r => { r with enabled := true }

/-- All rails are up. -/
def railsUp (s : State) : State :=
  (s.onRail (stepRail s.power.seqStep) fun r => { r with enabled := true, good := true }).onPower fun q => { q with seq := 2, seqStep := 0 }

section
variable {s : State} (hseq : s.power.seq = 1) (hpfw : s.power.pfw = false)
include hseq hpfw

theorem seqSteps_next (hstep : s.power.seqStep < 7) : seqSteps s = nextRail (tickIf true 190 noUnit s) := by
  have hkept : (tickIf true 190 noUnit s).power = s.power := (tickIf_keeps true 190 noUnit s).parts .power (by decide)
  unfold seqSteps nextRail
  simp only [hseq, decide_true, hkept]
  simp [hpfw, hstep]

theorem seqSteps_last (hstep : 7 ≤ s.power.seqStep) (hreset : s.power.resetLow = false) :
    seqSteps s = beginWake (railsUp (tickIf true 190 noUnit s)) := by
  have hkept : (tickIf true 190 noUnit s).power = s.power := (tickIf_keeps true 190 noUnit s).parts .power (by decide)
  unfold seqSteps railsUp
  simp only [hseq, decide_true, hkept]
  simp [hpfw, show ¬ s.power.seqStep < 7 by omega, hreset]

end

theorem nextRail_keeps (s : State) : Keeps [.power] s (nextRail s) :=
  ((onRail_keeps _ _ s).trans (onPower_keeps _ _)).trans (onRail_keeps _ _ _)

theorem nextRail_sets (s : State) : (nextRail s).power.seqStep = s.power.seqStep + 1 ∧
    ((nextRail s).rail (stepRail (s.power.seqStep + 1))).enabled = true :=
  ⟨rfl, congrArg Rail.enabled (rail_onRail_same _ _ _)⟩

/-! ### Wake (18 R542, R543) -/

theorem onSec_keeps (f : Sec → Sec) (s : State) : Keeps [.sec] s (s.onSec f) := .of_only (onSec_only s f)

/-- Wake, before its source shows it. -/
def wakeSet (s : State) : State :=
  { (s.onSec fun x =>
      { x with ddr := armClears x.ddr, blocks := (List.range 64).filter Config.bridge0, sram := [0, 1, 2, 3] }) with mode := .wake }

theorem beginWake_eq (s : State) : beginWake s = raise 290 (wakeSet s) := rfl

theorem beginWake_mode (s : State) : (beginWake s).mode = .wake := by
  rw [beginWake_eq, (raise_keeps 290 (wakeSet s)).parts .mode (by decide)]
  rfl

theorem beginWake_power (s : State) : (beginWake s).power.view = s.power.view := by
  rw [beginWake_eq, powerView_raise]
  rfl

theorem beginWake_shows (s : State) : (beginWake s).shows 290 := shows_raise 290 _

theorem railsUp_seq (s : State) : (railsUp s).power.seq = 2 := rfl

/-! ### The power-down sequence (18 R546, R553) -/

/-- The sequence starts downwards, before the token goes. -/
def downStarts (cause : Nat) (s : State) : State :=
  raise 282 (s.onPower fun p => { p with seq := 3, seqStep := 0, offCause := if cause = 0 then p.offCause else cause })

theorem downStarts_keeps (cause : Nat) (s : State) : Keeps [.power, .ev] s (downStarts cause s) :=
  ((onPower_keeps _ s).append (raise_keeps_power (by decide) (by decide) _)).mono

theorem downStarts_sets {cause : Nat} (hcause : cause ≠ 0) (s : State) : (downStarts cause s).power.seq = 3 ∧
    (downStarts cause s).power.offCause = cause ∧ (downStarts cause s).shows 282 := by
  have hrecord := powerView_eq (powerView_raise 282 (s.onPower fun p =>
    { p with seq := 3, seqStep := 0, offCause := if cause = 0 then p.offCause else cause }))
  exact ⟨hrecord.seq, hrecord.offCause.trans (if_neg hcause), shows_raise 282 _⟩

/-- A device without the token has none to release first. -/
theorem startPowerDown_without {cause : Nat} {s : State} (hseq : s.power.seq = 1 ∨ s.power.seq = 2) (htoken : s.hive.token = false) :
    startPowerDown cause s = (downStarts cause s).onHive fun h => { h with txIdled := true } := by
  have hkept : (downStarts cause s).hive.token = false := by
    rw [(downStarts_keeps cause s).parts .hive (by decide)]
    exact htoken
  unfold startPowerDown
  rw [if_pos (by simpa using hseq)]
  exact congrArg (fun t : State => t.onHive fun h => { h with txIdled := true }) (releaseToken_without hkept)

/-- What Off leaves of the rails. -/
def Rail.off (r : Rail) : Rail := { r with enabled := false, good := false, uv := false, ov := false, mv := 0, current := 0, okBeats := 0 }

theorem rails_off (t : Tbl Rail) (n : Nat) : (tget {} (tmap {} (fun _ r => Rail.off r) t) n).enabled = false := by
  rw [tget_tmap {} (fun _ r => Rail.off r) t n rfl]
  rfl

/-- The power unit's record in Off. -/
def Power.off (cause : Nat) (q : Power) : Power :=
  { q with
    seq := if cause = 5 then 4 else 0, railBad := [], mw := 0
    leanOffs := if cause = 2 || cause = 3 then (q.leanOffs + 1) % 65536 else q.leanOffs
    rails := tmap {} (fun _ r => Rail.off r) q.rails }

theorem powerDowns_off {c : Nat} {s : State} (hseq : s.power.seq = 3) (hcause : s.power.offCause = c) (hlatch : s.power.wakeLatch = false) :
    powerDowns c s = ((wiped (setMode .off s)).onPower (Power.off c)).onPower fun q => { q with wakeLatch := false } := by
  unfold powerDowns
  dsimp only
  rw [if_neg (by simp [hseq, hcause]), if_neg (by simp [hlatch])]
  rfl

/-- The always-on domain at its power-on reset (18 R582). -/
def vddaoReset (pfwHigh : Bool) (s : State) : State :=
  { pending := s.pending, fresh := s.fresh, sec := { resetSec s with ddr := [] }
    hive := { side := s.hive.side, mateOk := s.hive.mateOk, lineFree := s.hive.lineFree }
    ports := tmap {} (fun _ w => { perst := w.perst }) s.ports
    power :=
      { powered := true, pfw := !pfwHigh, resetLow := s.power.resetLow
        flashSlow := s.power.flashSlow, testEn := s.power.testEn } }

theorem vddaoOn_starts {s : State} (h : s.power.powered = false) : vddaoOn true s = startUp (vddaoReset true s) := by
  unfold vddaoOn
  rw [if_neg (by simp [h])]
  exact if_pos rfl

theorem wakeFalls_starts {s : State} (hpowered : s.power.powered = true) (hseq : s.power.seq = 0 ∨ s.power.seq = 4)
    (hpfw : s.power.pfw = false) : wakeFalls s = startUp s := by
  unfold wakeFalls
  rcases hseq with h | h <;> simp [hpowered, h, hpfw]

theorem autoWakes_starts {s : State} (hpowered : s.power.powered = true) (hseq : s.power.seq = 0) (hpfw : s.power.pfw = false)
    (hcause : s.power.offCause = 0) : autoWakes s = startUp s := by
  unfold autoWakes
  simp [hpowered, hseq, hpfw, hcause]

theorem leanMaxExpires_downs {s : State} (hpfw : s.power.pfw = true) (hseq : s.power.seq = 2) (hmode : s.mode ≠ .halt) :
    leanMaxExpires s = startPowerDown 2 s := if_pos (by simp [hpfw, hseq, hmode])

/-- Settles O42: the steps of the two sequences, each by the record that it writes of the power unit. -/
theorem powerSequence : Obligations.PowerSequence := by
  intro s
  refine ⟨fun hdown => ⟨counted s (vddaoOn true s), rfl, ?powerOn⟩,
    fun hseq hpfw hstep => ⟨counted s (seqSteps s), rfl, ?step⟩,
    fun hseq hpfw hstep hreset => ⟨counted s (seqSteps s), rfl, ?last⟩,
    fun hseq htoken => ⟨counted s (rampExpires s), rfl, ?ramp⟩,
    fun c hseq hcause hlatch => ⟨counted s (powerDowns c s), rfl, ?off⟩,
    fun hpowered hseq hpfw => ⟨counted s (wakeFalls s), rfl, ?wakeUp⟩,
    fun hpowered hseq hpfw hcause => ⟨counted s (autoWakes s), rfl, ?autoWake⟩,
    fun hpfw hseq hmode htoken => ⟨counted s (leanMaxExpires s), rfl, ?leanMax⟩⟩
  case powerOn =>
    obtain ⟨hseq, hstep, hpowered, hrail⟩ := startUp_sets (vddaoReset true s)
    have hkeeps := startUp_keeps (vddaoReset true s)
    rw [vddaoOn_starts hdown, rail_counted, counted_power, counted_mode, counted_pending,
      hkeeps.parts .mode (by decide), hkeeps.parts .pending (by decide)]
    exact ⟨hpowered, hseq, hstep, hrail, rfl, rfl⟩
  case step =>
    have hkept : (tickIf true 190 noUnit s).power = s.power := (tickIf_keeps true 190 noUnit s).parts .power (by decide)
    obtain ⟨hnext, hrail⟩ := nextRail_sets (tickIf true 190 noUnit s)
    rw [hkept] at hnext hrail
    rw [seqSteps_next hseq hpfw hstep, rail_counted, counted_power]
    exact ⟨counted_changes ((tickIf_keeps true 190 noUnit s).append (nextRail_keeps _)).parts, hnext, hrail⟩
  case last =>
    have hseq' := (powerView_eq (beginWake_power (railsUp (tickIf true 190 noUnit s)))).seq
    rw [seqSteps_last hseq hpfw hstep hreset, counted_power, counted_mode]
    exact ⟨hseq'.trans (railsUp_seq _), beginWake_mode _, (shows_counted 290 s _ (by decide)).mpr (beginWake_shows _)⟩
  case ramp =>
    have hraised := raise_keeps_power (n := 275) (by decide) (by decide) s
    have htoken' : (raise 275 s).hive.token = false := by
      rw [hraised.parts .hive (by decide)]
      exact htoken
    have heq : rampExpires s = (downStarts 5 (raise 275 s)).onHive fun h => { h with txIdled := true } :=
      (if_pos hseq).trans (startPowerDown_without (.inl ((powerView_eq (powerView_raise 275 s)).seq.trans hseq)) htoken')
    obtain ⟨hseq', hcause, -⟩ := downStarts_sets (cause := 5) (by decide) (raise 275 s)
    rw [heq, counted_power]
    exact ⟨hseq', hcause, (shows_counted 275 s _ (by decide)).mpr
      ((onHive_keeps _ _).shows 275 ((downStarts_keeps 5 _).shows 275 (shows_raise 275 s)))⟩
  case off =>
    rw [powerDowns_off hseq hcause hlatch, counted_mode, counted_power, counted_keeper]
    refine ⟨rfl, rfl, rfl, fun r => ?_⟩
    rw [rail_counted]
    exact rails_off _ r
  case wakeUp =>
    obtain ⟨hseq', hstep, -⟩ := startUp_sets s
    rw [wakeFalls_starts hpowered hseq hpfw, counted_power]
    exact ⟨counted_changes (startUp_keeps s).parts, hseq', hstep⟩
  case autoWake =>
    rw [autoWakes_starts hpowered hseq hpfw hcause, counted_power]
    exact ⟨counted_changes (startUp_keeps s).parts, (startUp_sets s).1⟩
  case leanMax =>
    obtain ⟨hseq', hcause, hshows⟩ := downStarts_sets (cause := 2) (by decide) s
    rw [leanMaxExpires_downs hpfw hseq hmode, startPowerDown_without (.inr hseq) htoken, counted_power]
    exact ⟨hseq', hcause, (shows_counted 282 s _ (by decide)).mpr ((onHive_keeps _ _).shows 282 hshows)⟩

end Sys2Proof.Machine
end

section
/-!
PROOFS. Lean and the rails (18 R547-R557). O44.
-/

namespace Sys2Proof.Machine

open Sys2Proof

/-! ### Channels that fail (08 R252) -/

theorem withEntryEvents_keeps (k : Nat) (f : PoolEntry → PoolEntry) (s : State) : Keeps [.pool, .ev] s (withEntryEvents k f s) :=
  ⟨withEntryEvents_only k f s, fun n h => shows_raiseIf_of _ _ ((shows_eq (onEntry_only s k f .ev (by decide)) n).mpr h)⟩

theorem dropChannel_keeps (d : Nat) (s : State) : Keeps [.pool, .ev] s (dropChannel d s) :=
  .foldl (fun s k => withEntryEvents_keeps k _ s) _ s

theorem setChan_keeps {d : Nat} (hd : d < 4) (st cause : Nat) (s : State) : Keeps [.pool, .ev, .pm] s (setChan d st cause s) := by
  have honChan := Keeps.of_only (onChan_only s d fun c => { c with state := st, cause := cause, retrainSince := none, postponed := [] })
  have hraise := raise_keeps_ev (n := 75 + 4 * d) (by unfold noCopy; omega)
    (s.onChan d fun c => { c with state := st, cause := cause, retrainSince := none, postponed := [] })
  exact ((honChan.append hraise).append (Keeps.of_only (keepCopies_only _))).mono

theorem channelFail_keeps (d cause : Nat) (s : State) :
    Keeps [.pool, .ev, .pm, .guard, .hive, .ports] s (channelFail d cause s) := by
  unfold channelFail
  dsimp only
  split_ifs with hok
  · have hd : d < 4 := by simp only [Bool.and_eq_true, decide_eq_true_eq] at hok; exact hok.1.1
    exact ((setChan_keeps hd 1 cause s).append ((dropChannel_keeps d _).append (fault_keeps 0x0B 4 d _))).mono
  · exact .refl _ s

/-! ### Slices that end (16 R496; 18 R551) -/

theorem endSlice_keeps (s : State) : Keeps [.test] s (endSlice s) := onTest_keeps _ s

theorem abortSlice_keeps (s : State) : Keeps [.test, .ev] s (abortSlice s) := by
  unfold abortSlice
  split
  · refine .ite (.refl _ s) (.ite ?_ (endSlice_keeps s).mono)
    exact ((onTest_keeps _ s).append ((endSlice_keeps _).append (raise_keeps_ev (n := 295) (by decide) _))).mono
  · exact .refl _ s

/-! ### Lean (18 R550-R552) -/

/-- The power unit's record at an entry to Lean. -/
def Power.lean (mode : Mode) (cores : List Core) (p : Power) : Power :=
  { p with
    isLean := true, leanFrom := mode, leanBeats := 0, leanMs := 0, leanEntries := (p.leanEntries + 1) % 65536
    coresBefore := cores }

/-- A core is shed. -/
def shedCore (keep : Option Nat) (t : State) (c : Nat) : State :=
  if keep = some c || !(t.coreOf c = .working || t.coreOf c = .relief) then t
  else match keep with
    | some k => clearStack c (retarget c k (setCore c .held t))
    | none => clearStack c (setCore c .held t)

theorem shedCore_keeps {c : Nat} (hc : c < 4) (keep : Option Nat) (t : State) : Keeps [.guard, .ev] t (shedCore keep t c) := by
  unfold shedCore
  refine .ite (.refl _ t) ?_
  cases keep with
  | none => exact ((setCore_keeps hc .held t).append (clearStack_keeps c _)).mono
  | some k => exact ((setCore_keeps hc .held t).append ((retarget_keeps c k _).append (clearStack_keeps c _))).mono

/-- A pass over the four cores. -/
theorem foldl_cores_keeps {ps : List Part} {f : State → Nat → State} (hf : ∀ t c, c < 4 → Keeps ps t (f t c)) (s : State) :
    Keeps ps s ((List.range 4).foldl f s) :=
  List.foldlRecOn (motive := fun t => Keeps ps s t) _ f (.refl ps s) fun t ht c hc => ht.trans (hf t c (List.mem_range.mp hc))

/-- The cores that Lean sheds, and the slice that it ends. -/
def leanShed (s : State) : State :=
  abortSlice ((List.range 4).foldl (shedCore (workingCores s).head?) (s.onPower (Power.lean s.mode s.guard.cores)))

theorem enterLean_eq (s : State) : enterLean s = raise 280 (enterMode .lean (leanShed s)) := by
  unfold enterLean leanShed shedCore
  rfl

theorem leanShed_keeps (s : State) : Keeps [.power, .guard, .ev, .test] s (leanShed s) := by
  unfold leanShed
  exact ((onPower_keeps _ s).append ((foldl_cores_keeps (fun t c hc => shedCore_keeps hc _ t) _).append (abortSlice_keeps _))).mono

theorem leanShed_power (s : State) : (leanShed s).power = s.power.lean s.mode s.guard.cores := by
  have hkept := (foldl_cores_keeps (fun t c hc => shedCore_keeps hc (workingCores s).head? t)
    (s.onPower (Power.lean s.mode s.guard.cores))).append (abortSlice_keeps _)
  exact hkept.parts .power (by decide)

theorem enterLean_view (s : State) : (enterLean s).power.view = (s.power.lean s.mode s.guard.cores).view := by
  rw [enterLean_eq, powerView_raise, powerView_enterMode, leanShed_power]

theorem enterLean_keeps (s : State) : Keeps [.mode, .power, .guard, .ev, .test, .hive] s (enterLean s) := by
  rw [enterLean_eq]
  exact ((leanShed_keeps s).append ((enterMode_keeps .lean _).append (raise_keeps_power (by decide) (by decide) _))).mono

theorem enterLean_mode (s : State) : (enterLean s).mode = .lean := by
  rw [enterLean_eq, (raise_keeps 280 _).parts .mode (by decide), enterMode_mode]

theorem enterLean_shows (s : State) : (enterLean s).shows 280 := by
  rw [enterLean_eq]
  exact shows_raise 280 _

/-- The power fail shows. -/
def pfwShown (s : State) : State := raise 278 ((tick 184 noUnit 1 s).onPower fun p => { p with pfw := true })

theorem pfwShown_keeps (s : State) : Keeps [.tally, .power, .ev] s (pfwShown s) :=
  ((tick_keeps 184 noUnit 1 s).append ((onPower_keeps _ _).append (raise_keeps_power (by decide) (by decide) _))).mono

theorem pfwShown_pfw (s : State) : (pfwShown s).power.pfw = true :=
  (powerView_eq (powerView_raise 278 ((tick 184 noUnit 1 s).onPower fun p => { p with pfw := true }))).pfw

theorem pfwAsserts_leans {s : State} (hpowered : s.power.powered = true) (hpfw : s.power.pfw = false)
    (hflag : bit s.power.cfg.flags 0 = true) (hseq : s.power.seq = 2) (hmode : leanable s.mode = true) :
    pfwAsserts s = enterLean (pfwShown s) := by
  unfold pfwAsserts
  rw [if_neg (by simp [hpowered, hpfw])]
  exact if_pos (by simp [hflag, hseq, hmode])

/-- The cores that Lean held come back. -/
def coresBack (s : State) : State :=
  if s.guard.keeperLost then s
  else (List.range 4).foldl (fun t c => if t.coreOf c = .held then setCore c (s.power.coresBefore.getD c .held) t else t) s

theorem coresBack_keeps (s : State) : Keeps [.guard, .ev] s (coresBack s) := by
  unfold coresBack
  exact .ite (.refl _ s) (foldl_cores_keeps (fun t c hc => .when (setCore_keeps hc _ t)) s)

theorem returnTwins_keeps (s : State) : Keeps [.pool] s (returnTwins s) := by
  unfold returnTwins
  exact .foldl (fun s k => .of_only (onEntry_only s k _)) _ s

/-- Lean is over: the cores and the twins come back. -/
def leanOver (s : State) : State := returnTwins ((coresBack s).onPower fun q => { q with isLean := false, coresBefore := [] })

theorem leanExits_eq {s : State} (hmode : s.mode = .lean) (hpfw : s.power.pfw = false) :
    leanExits s = raise 281 (enterMode s.power.leanFrom (leanOver s)) := by
  unfold leanExits
  exact if_pos (by simp [hmode, hpfw])

theorem leanOver_isLean (s : State) : (leanOver s).power.isLean = false :=
  congrArg Power.isLean ((returnTwins_keeps _).parts .power (by decide))

/-! ### Supervision of the rails (18 R547-R549) -/

theorem railExcursion_short {r : Nat} {isOv held : Bool} {s : State} (hr : r < 16) (hpowered : s.power.powered = true)
    (hseq : s.power.seq = 2) : railExcursion r isOv false held s =
      s.onRail r fun x => if isOv then { x with ovGlitch := x.ovGlitch + 1 } else { x with uvGlitch := x.uvGlitch + 1 } := by
  unfold railExcursion
  rw [if_neg (by simp [hr, hpowered, hseq])]
  exact if_pos rfl

/-- The record of a rail that left its limits for more than 1 µs. -/
def Rail.out (isOv : Bool) (x : Rail) : Rail := { x with good := false, uv := x.uv || !isOv, ov := x.ov || isOv, okBeats := 0 }

/-- It shows, and is on the list of those that are not within limits. -/
def railOut (r : Nat) (isOv : Bool) (s : State) : State :=
  raise (railSrc isOv) ((tick (if isOv then 179 else 177) r 1 (s.onRail r (Rail.out isOv))).onPower fun p =>
    { p with railBad := insertNat r p.railBad })

theorem railOut_keeps (r : Nat) (isOv : Bool) (s : State) : Keeps [.power, .tally, .ev] s (railOut r isOv s) := by
  have hraise := fun u => raise_keeps_power (n := railSrc isOv) (by cases isOv <;> decide) (by cases isOv <;> decide) u
  exact ((onRail_keeps r _ s).append ((tick_keeps _ _ _ _).append ((onPower_keeps _ _).append (hraise _)))).mono

theorem insertNat_mem (n : Nat) (l : List Nat) : n ∈ insertNat n l := by
  induction l with
  | nil => simp [insertNat]
  | cons k t ih =>
    unfold insertNat
    split_ifs with hlt heq
    · simp
    · simp [heq]
    · exact List.mem_cons_of_mem k ih

theorem railOut_sets (r : Nat) (isOv : Bool) (s : State) : (railOut r isOv s).rail r = (s.rail r).out isOv ∧
    r ∈ (railOut r isOv s).power.railBad := by
  have hrecord := powerView_eq (powerView_raise (railSrc isOv) ((tick (if isOv then 179 else 177) r 1
    (s.onRail r (Rail.out isOv))).onPower fun p => { p with railBad := insertNat r p.railBad }))
  have htick := (tick_keeps (if isOv then 179 else 177) r 1 (s.onRail r (Rail.out isOv))).parts .power (by decide)
  constructor
  · exact (rail_of_rails (hrecord.rails.trans (congrArg Power.rails htick :)) r).trans (rail_onRail_same s r _)
  · rw [railOut, hrecord.railBad]
    exact insertNat_mem r _

/-- AVDDPLL supplies no channel and no link: its excursion is recorded, and nothing is switched off. -/
theorem railExcursion_long {isOv : Bool} {s : State} (hpowered : s.power.powered = true) (hseq : s.power.seq = 2) (hmode : s.mode ≠ .lean) :
    railExcursion 6 isOv true false s = fault 0x0F 7 6 (railOut 6 isOv s) := by
  have hmode' : (fault 0x0F 7 6 (railOut 6 isOv s)).mode ≠ .lean := by
    rw [(fault_keeps 0x0F 7 6 _).parts .mode (by decide), (railOut_keeps 6 isOv s).parts .mode (by decide)]
    exact hmode
  have hacts : railActs 6 isOv false (fault 0x0F 7 6 (railOut 6 isOv s)) = fault 0x0F 7 6 (railOut 6 isOv s) := by
    unfold railActs
    simp [hmode']
  unfold railExcursion
  rw [if_neg (by simp [hpowered, hseq]), if_neg (by decide)]
  exact hacts

/-- The record of a rail that is within its limits again. -/
def Rail.within (y : Rail) : Rail := { y with uv := false, ov := false, good := true, okBeats := 0 }

/-- It is no longer on the list. -/
def railIn (r : Nat) (s : State) : State :=
  (s.onRail r Rail.within).onPower fun p => { p with railBad := p.railBad.filter (· != r) }

theorem railClears_eq {r : Nat} {s : State} (hr : r < 16) (huv : (s.rail r).uv = true) :
    railClears r s = raiseIf (s.rail r).ov 277 (raise 276 (railIn r s)) := by
  unfold railClears
  dsimp only
  rw [if_neg (by simp [hr, huv]), huv]
  rfl

/-- PMB_ALERT: what it counts and shows. -/
def pmbShown (status : List Nat) (n : Nat) (s : State) : State :=
  raiseIf (status.any (· != 0)) 287 (raise 286 (tick 189 noUnit n (tick 182 noUnit n s)))

theorem pmbAlerts_eq (status : List Nat) {s : State} (hpowered : s.power.powered = true) :
    ∃ n l, pmbAlerts status s = (l : List Nat).foldl (fun s d => channelFail d 4 s) (pmbShown status n s) := by
  unfold pmbAlerts
  rw [if_pos hpowered]
  exact ⟨_, _, rfl⟩

theorem pmbusFails_eq {s : State} (hpowered : s.power.powered = true) (hseq : s.power.seq ≠ 1) : pmbusFails s =
    raise 285 ((tick 183 noUnit 1 (tick 182 noUnit 4 s)).onPower fun p => { p with pmbusErr := true }) := by
  unfold pmbusFails
  rw [if_pos hpowered]
  exact if_neg hseq

/-- A sample with little slack raises the set point (18 R556). -/
theorem avsSample_low {m : Int} {s : State} (hon : avsOn s = true) (hlo : 0 ≤ m) (hhi : m < 20) :
    ∃ b, avsSample m s = raiseIf b 283 (s.onPower fun q =>
      { q with avsM := m, setpoint := min 800 (s.power.setpoint + 10), avsHigh := 0, avsNeg := 0 }) := by
  refine ⟨min 800 (s.power.setpoint + 10) != s.power.setpoint &&
    (min 800 (s.power.setpoint + 10) == 800 || min 800 (s.power.setpoint + 10) == 700), ?_⟩
  unfold avsSample
  simp [hon, hhi, show ¬ m < 0 by omega, show ¬ 60 < m by omega]

/-- The measurements of a read, and the die temperature that comes with them. -/
theorem energyRead_reads (readings : List (Nat × Nat × Nat)) (tj : Int) {s : State} (hseq : s.power.seq = 2) :
    ∃ b f t, Keeps [.power, .tally] s t ∧ energyRead readings tj s = raiseIf b 288 (t.onPower f) ∧ ∀ p, (f p).tj = tj := by
  have hcount : Keeps [.tally] s (countReads readings.length tj s) := (tick_keeps _ _ _ s).trans (tickIf_keeps _ _ _ _)
  unfold energyRead
  rw [if_neg (by simp [hseq])]
  refine ⟨_, _, _, ?_, rfl, fun p => rfl⟩
  refine (hcount.append (Keeps.foldl (ps := [.power]) (fun t r => ?_) _ _)).mono
  split
  · exact .refl _ t
  · exact onRail_keeps r _ t

/-- Settles O44: each event of Lean and of the rails by the record that it writes of the power unit. -/
theorem leanAndRails : Obligations.LeanAndRails := by
  intro s hpowered
  refine ⟨fun hpfw hflag hseq hmode => ⟨counted s (pfwAsserts s), rfl, ?lean⟩,
    fun hpfw => ⟨counted s (pfwReleases s), rfl, ?release⟩,
    fun hmode hpfw hfrom => ⟨counted s (leanExits s), rfl, ?leave⟩,
    fun r isOv held hr hseq => ⟨counted s (railExcursion r isOv false held s), rfl, ?short⟩,
    fun isOv hseq hmode => ⟨counted s (railExcursion 6 isOv true false s), rfl, ?long⟩,
    fun r hr huv => ⟨counted s (railClears r s), rfl, ?clear⟩,
    fun l hl => ⟨counted s (pmbAlerts l s), rfl, ?alert⟩,
    fun hseq => ⟨counted s (pmbusFails s), rfl, ?failure⟩,
    fun m hon hlo hhi => ⟨counted s (avsSample m s), rfl, ?sample⟩,
    fun l tj hseq => ⟨counted s (energyRead l tj s), rfl, ?energy⟩⟩
  case lean =>
    have hrecord := powerView_eq (enterLean_view (pfwShown s))
    have hfrom : (pfwShown s).mode = s.mode := (pfwShown_keeps s).parts .mode (by decide)
    rw [pfwAsserts_leans hpowered hpfw hflag hseq hmode, counted_mode, counted_power]
    exact ⟨enterLean_mode _, hrecord.pfw.trans (pfwShown_pfw s), hrecord.isLean, hrecord.leanFrom.trans hfrom,
      (shows_counted 278 s _ (by decide)).mpr ((enterLean_keeps _).shows 278 (shows_raise 278 _)),
      (shows_counted 280 s _ (by decide)).mpr (enterLean_shows _)⟩
  case release =>
    have hrecord := powerView_eq (powerView_raise 279 (s.onPower fun p => { p with pfw := false }))
    have heq : pfwReleases s = raise 279 (s.onPower fun p => { p with pfw := false }) := if_pos hpfw
    rw [heq, counted_power]
    exact ⟨counted_changes ((onPower_keeps _ s).append (raise_keeps_power (by decide) (by decide) _)).parts, hrecord.pfw,
      (shows_counted 279 s _ (by decide)).mpr (shows_raise 279 _)⟩
  case leave =>
    have hrecord := powerView_eq ((powerView_raise 281 _).trans (powerView_enterMode s.power.leanFrom (leanOver s)))
    rw [leanExits_eq hmode hpfw, counted_mode, counted_power, (raise_keeps 281 _).parts .mode (by decide), enterMode_mode]
    exact ⟨rfl, hrecord.isLean.trans (leanOver_isLean s), (shows_counted 281 s _ (by decide)).mpr (shows_raise 281 _)⟩
  case short =>
    rw [railExcursion_short hr hpowered hseq, rail_counted, rail_onRail_same]
    exact ⟨counted_changes (onRail_keeps r _ s).parts, rfl⟩
  case long =>
    obtain ⟨hrail, hbad⟩ := railOut_sets 6 isOv s
    have hkept := fault_keeps 0x0F 7 6 (railOut 6 isOv s)
    have hshows : (railOut 6 isOv s).shows (railSrc isOv) := shows_raise _ _
    have hsrc : railSrc isOv < 243 ∨ 274 < railSrc isOv := by cases isOv <;> decide
    rw [railExcursion_long hpowered hseq hmode, rail_counted, counted_power, rail_eq (hkept.parts .power (by decide)),
      hkept.parts .power (by decide), hrail]
    exact ⟨rfl, fun h => by rw [h]; exact Bool.or_true _, hbad, (shows_counted _ s _ hsrc).mpr (hkept.shows _ hshows)⟩
  case clear =>
    have hover := fun b u => raiseIf_keeps_of b (raise_keeps_power (n := 277) (by decide) (by decide) u)
    have hview := (powerView_raiseIf (s.rail r).ov 277 (raise 276 (railIn r s))).trans (powerView_raise 276 (railIn r s))
    have hrecord := powerView_eq hview
    have hrail : (railIn r s).rail r = (s.rail r).within := rail_onRail_same s r Rail.within
    have hkeeps : Keeps [.power, .ev] s (raiseIf (s.rail r).ov 277 (raise 276 (railIn r s))) :=
      (((onRail_keeps r _ s).trans (onPower_keeps _ _)).append
        ((raise_keeps_power (n := 276) (by decide) (by decide) _).append (hover _ _))).mono
    rw [railClears_eq hr huv, rail_counted, counted_power, rail_of_rails hrecord.rails r, hrail, hrecord.railBad]
    exact ⟨counted_changes hkeeps.parts, rfl, rfl, rfl, by simp [railIn],
      (shows_counted 276 s _ (by decide)).mpr ((hover _ _).shows 276 (shows_raise 276 _))⟩
  case alert =>
    obtain ⟨n, ds, heq⟩ := pmbAlerts_eq l hpowered
    have hfold := Keeps.foldl (fun s d => channelFail_keeps d 4 s) ds (pmbShown l n s)
    have h287 : (pmbShown l n s).shows 287 := shows_raiseIf_true 287 _ hl
    have h286 : (pmbShown l n s).shows 286 := (raiseIf_keeps _ 287 _).shows 286 (shows_raise 286 _)
    rw [heq]
    exact ⟨(shows_counted 286 s _ (by decide)).mpr (hfold.shows 286 h286), (shows_counted 287 s _ (by decide)).mpr (hfold.shows 287 h287)⟩
  case failure =>
    have hrecord := powerView_eq (powerView_raise 285
      ((tick 183 noUnit 1 (tick 182 noUnit 4 s)).onPower fun p => { p with pmbusErr := true }))
    rw [pmbusFails_eq hpowered hseq, counted_power]
    exact ⟨counted_changes (((tick_keeps 182 noUnit 4 s).trans (tick_keeps 183 noUnit 1 _)).append
        ((onPower_keeps _ _).append (raise_keeps_power (by decide) (by decide) _))).parts, hrecord.pmbusErr,
      (shows_counted 285 s _ (by decide)).mpr (shows_raise 285 _)⟩
  case sample =>
    obtain ⟨b, heq⟩ := avsSample_low hon hlo hhi
    have hrecord := powerView_eq (powerView_raiseIf b 283 (s.onPower fun q =>
      { q with avsM := m, setpoint := min 800 (s.power.setpoint + 10), avsHigh := 0, avsNeg := 0 }))
    rw [heq, counted_power]
    exact ⟨counted_changes ((onPower_keeps _ s).append (raiseIf_keeps_of b (raise_keeps_power (n := 283) (by decide) (by decide) _))).parts,
      hrecord.avsM, hrecord.setpoint⟩
  case energy =>
    obtain ⟨b, f, t, hkept, heq, htj⟩ := energyRead_reads l tj hseq
    have hraise := raiseIf_keeps_of b (raise_keeps_power (n := 288) (by decide) (by decide) (t.onPower f))
    rw [heq, counted_power]
    exact ⟨counted_changes (hkept.append ((onPower_keeps f t).append hraise)).parts,
      (powerView_eq (powerView_raiseIf b 288 (t.onPower f))).tj.trans (htj t.power)⟩

end Sys2Proof.Machine
end

section
/-!
PROOFS. Device reset, Wake and boot (17 R530-R535; 18 R542, R543). O43.
-/

namespace Sys2Proof.Machine

open Sys2Proof

/-! ### Device reset and Wake (18 R542, R543, R548) -/

/-- What a device reset leaves of the state that it starts from, and what it sets. -/
structure WasReset (s t : State) : Prop where
  mode : t.mode = .wake
  serving : t.keeper.serving = false
  started : t.clk.started = false
  resetLow : t.power.resetLow = s.power.resetLow
  overflow : t.guard.overflow = s.guard.overflow
  takeovers : t.hive.takeovers = s.hive.takeovers
  bar2 : t.bus.bar2 = s.bus.bar2
  pending : t.pending = s.pending
  rollback : t.sec.rollback = s.sec.rollback
  opened : ∀ p, (t.chal p).isSealed = false

/-- An entry leaves the queue. -/
def Guard.without (e : Nat) (g : Guard) : Guard := { g with fq := tput {} g.fq e {} }

theorem Guard.without_overflow (e : Nat) (g : Guard) : (g.without e).overflow = g.overflow := rfl

theorem resolveEntry_unlogged {e : Nat} {s : State} (h : (s.fqe e).valid = true) :
    resolveEntry e false s = raise 213 (s.onGuard (Guard.without e)) := if_pos h

/-- An entry that is resolved unlogged leaves the count of overflows. -/
theorem resolveEntry_overflow (e : Nat) (s : State) : (resolveEntry e false s).guard.overflow = s.guard.overflow := by
  by_cases h : (s.fqe e).valid = true
  · rw [resolveEntry_unlogged h]
    exact (guardFaults_eq (guardFaults_raise 213 (s.onGuard (Guard.without e)))).overflow.trans (Guard.without_overflow e s.guard)
  · simp [resolveEntry, h]

theorem resolveWhere_overflow (f : FqEntry → Bool) (s : State) : (resolveWhere false f s).guard.overflow = s.guard.overflow := by
  unfold resolveWhere
  refine List.foldlRecOn (motive := fun t : State => t.guard.overflow = s.guard.overflow) _ _ rfl fun t ht e _ => ?_
  split_ifs
  · exact (resolveEntry_overflow e t).trans ht
  · exact ht

theorem wakeSet_keeps (s : State) : Keeps [.sec, .mode] s (wakeSet s) :=
  .of_only fun p hp => by cases p <;> simp_all [Part.same, wakeSet]

theorem beginWake_keeps (s : State) : Keeps [.sec, .mode, .ev, .power] s (beginWake s) := by
  rw [beginWake_eq]
  exact ((wakeSet_keeps s).append (raise_keeps_power (by decide) (by decide) _)).mono

theorem beginWake_sec (s : State) : (beginWake s).sec = (wakeSet s).sec := by
  rw [beginWake_eq]
  exact (raise_keeps 290 _).parts .sec (by decide)

/-- The domains that a reset clears, with the DDR5 content kept. -/
def resetLeft (s u : State) : State := (wiped u).onBus fun b => { b with bar2 := s.bus.bar2 }

theorem deviceReset_eq (s : State) : deviceReset s = beginWake (resetLeft s (resolveWhere false (fun x => x.cls == 5) s)) := rfl

/-- What the reset domains hold, by the state that the reset starts from. -/
theorem resetLeft_sets (s u : State) : (resetLeft s u).keeper.serving = false ∧ (resetLeft s u).clk.started = false ∧
    (resetLeft s u).power.resetLow = u.power.resetLow ∧ (resetLeft s u).guard.overflow = u.guard.overflow ∧
    (resetLeft s u).hive.takeovers = u.hive.takeovers ∧ (resetLeft s u).bus.bar2 = s.bus.bar2 ∧
    (resetLeft s u).pending = u.pending ∧ (wakeSet (resetLeft s u)).sec.rollback = u.sec.rollback ∧
    (wakeSet (resetLeft s u)).sec.chals = [] := ⟨rfl, rfl, rfl, rfl, rfl, rfl, rfl, rfl, rfl⟩

theorem deviceReset_wasReset (s : State) : WasReset s (deviceReset s) := by
  have hresolved := (resolveWhere_keeps false (fun x => x.cls == 5) s).parts
  have hoverflow := resolveWhere_overflow (fun x => x.cls == 5) s
  rw [deviceReset_eq]
  generalize resolveWhere false (fun x => x.cls == 5) s = u at hresolved hoverflow ⊢
  obtain ⟨hserving, hstarted, hlow, hover, htakeovers, hbar2, hpending, hrollback, hchals⟩ := resetLeft_sets s u
  have hwake := (beginWake_keeps (resetLeft s u)).parts
  have hsec := beginWake_sec (resetLeft s u)
  refine ⟨beginWake_mode _, ?_, ?_, ?_, ?_, ?_, ?_, ?_, ?_, fun p => ?_⟩
  · rw [hwake .keeper (by decide), hserving]
  · rw [hwake .clk (by decide), hstarted]
  · rw [(powerView_eq (beginWake_power (resetLeft s u))).resetLow, hlow, hresolved .power (by decide)]
  · rw [hwake .guard (by decide), hover, hoverflow]
  · rw [hwake .hive (by decide), htakeovers, hresolved .hive (by decide)]
  · rw [hwake .bus (by decide), hbar2]
  · rw [hwake .pending (by decide), hpending, hresolved .pending (by decide)]
  · rw [hsec, hrollback, hresolved .sec (by decide)]
  · rw [State.chal, hsec, hchals]
    rfl

theorem resetAsserts_resets {s : State} (hseq : s.power.seq = 2) (hmode : s.mode ≠ .off) :
    resetAsserts s = deviceReset (s.onPower fun q => { q with resetLow := true }) := by
  unfold resetAsserts
  exact if_pos (by simp [hseq, hmode])

/-- RESET_N is released: the straps are sampled. -/
def straps (side flash te : Bool) (s : State) : State :=
  (s.onPower fun q => { q with resetLow := false, flashSlow := flash, testEn := te }).onHive fun h => { h with side := side }

theorem resetReleases_wakes {s : State} (side flash te : Bool) (hlow : s.power.resetLow = true) (hseq : s.power.seq = 2)
    (hmode : s.mode = .off) : resetReleases side flash te s = beginWake (straps side flash te s) := by
  unfold resetReleases
  rw [if_neg (by simp [hlow])]
  exact if_pos (by simp [hseq, hmode])

/-! ### Boot (17 R530-R535; 18 R543) -/

/-- An entry to another mode shows. -/
theorem enterMode_shows {m : Mode} {s : State} (h : s.mode ≠ m) : (enterMode m s).shows 290 := by
  have hset : (setMode m s).shows 290 := by
    rw [setMode, if_neg h]
    exact shows_raise 290 _
  exact (refreshHive_keeps _).shows 290 hset

/-- The load switches close and the SRAM opens. -/
def wakeOver (s : State) : State :=
  ([8, 9, 10, 11].foldl (fun s r => s.onRail r fun x => { x with enabled := true, good := true }) s).onBus fun b =>
    { b with sramOpen := true }

theorem wakeOver_keeps (s : State) : Keeps [.power, .bus] s (wakeOver s) :=
  ((Keeps.foldl (fun s r => onRail_keeps r _ s) _ s).append (onBus_keeps _ _)).mono

theorem wakeCleared_boots {s : State} (hmode : s.mode = .wake) (hreset : s.power.resetLow = false) :
    wakeCleared s = enterMode .boot (wakeOver s) := if_pos (by simp [hmode, hreset])

theorem onLane_keeps (n : Nat) (f : Lane → Lane) (s : State) : Keeps [.lanes] s (s.onLane n f) := .of_only (onLane_only s n f)

theorem refreshSuspension_keeps (s : State) : Keeps [.test, .guard, .hive, .ports, .ev] s (refreshSuspension s) := by
  have hstart := (onTest_keeps (fun x => { x with forSuspended := true }) s).append
    ((fault_keeps 0x08 0 0 _).append (raise_keeps_ev (n := 296) (by decide) _))
  have hend := (onTest_keeps (fun x => { x with forSuspended := false }) s).append
    ((resolveWhere_keeps false (fun x => x.code == 0x08 && x.unit == 0 * 4096 + 0) _).append (raise_keeps_ev (n := 296) (by decide) _))
  unfold refreshSuspension
  exact .ite hstart.mono (.ite hend.mono (.refl _ s))

/-- Parts that the ROM's tests and loads write. -/
def bootParts : List Part := [.sec, .lanes, .test, .guard, .hive, .ports, .ev, .scout, .power, .userCal, .bus]

theorem applyWorldMap_keeps (x : Slot) (s : State) : Keeps bootParts s (applyWorldMap x s) := (onSec_keeps _ s).mono

theorem bootTests_keeps (s : State) : Keeps bootParts s (bootTests s) := by
  unfold bootTests
  have hlanes := fun l => Keeps.foldl (ps := [.lanes]) (fun s n => onLane_keeps n (fun l => { l with bootFailed := true }) s) l s
  exact ((hlanes _).append ((onTest_keeps _ _).append ((refreshSuspension_keeps _).append
    (raiseIf_keeps_of _ (raise_keeps_ev (n := 301) (by decide) _))))).mono

theorem modelLoads_keeps (s : State) : Keeps [.scout] s (modelLoads s) := by
  unfold modelLoads
  split
  · exact .when (.of_only (onScout_only s _))
  · exact .refl _ s

theorem withCal_keeps (c : Tbl UserCal) (s : State) : Keeps [.userCal] s { s with userCal := c } :=
  .of_only fun p hp => by cases p <;> simp_all [Part.same]

/-- The user calibration comes from flash (03 R83). -/
def calLoaded (s : State) : State :=
  if s.sec.calOk then { s with userCal := s.sec.calFlash } else fault 0x0D 0 0 { s with userCal := [] }

/-- The user power table comes from flash (18 R549). -/
def tableLoaded (c : Sec) (t : State) : State :=
  if c.ptableOk then t.onPower fun p => { p with table := c.ptableFlash, userTable := true }
  else raise 289 (t.onPower fun p => { p with table := [], userTable := false })

theorem bootFlash_eq (s : State) : bootFlash s = tableLoaded s.sec (modelLoads (calLoaded s)) := rfl

theorem calLoaded_keeps (s : State) : Keeps [.userCal, .guard, .hive, .ports, .ev] s (calLoaded s) := by
  unfold calLoaded
  exact .ite (withCal_keeps _ s).mono ((withCal_keeps _ s).append (fault_keeps 0x0D 0 0 _)).mono

theorem tableLoaded_keeps (c : Sec) (t : State) : Keeps [.power, .ev] t (tableLoaded c t) := by
  unfold tableLoaded
  exact .ite (onPower_keeps _ t).mono ((onPower_keeps _ t).append (raise_keeps_power (n := 289) (by decide) (by decide) _)).mono

theorem bootFlash_keeps (s : State) : Keeps bootParts s (bootFlash s) := by
  rw [bootFlash_eq]
  exact ((calLoaded_keeps s).append ((modelLoads_keeps _).append (tableLoaded_keeps _ _))).mono

theorem remapApplies_keeps (v : Bool) (s : State) : Keeps [.bus, .ev] s (remapApplies v s) := by
  unfold remapApplies
  exact .when ((onBus_keeps _ s).append (raise_keeps_ev (n := 316) (by decide) _)).mono

theorem loadBody_keeps (x : Slot) (s : State) : Keeps [.bus] s (loadBody x s) := by
  unfold loadBody
  exact onBus_keeps _ s

/-- Sources that are set in turn. -/
theorem foldl_setSrc_only (g : State → Nat → Src) (l : List Nat) (s : State) :
    onlyChanges [.ev] s (l.foldl (fun s n => setSrc n (g s n) s) s) :=
  List.foldlRecOn (motive := fun t => onlyChanges [.ev] s t) _ _ (onlyChanges_refl _ s) fun t ht n _ =>
    onlyChanges_trans ht (setSrc_only n _ t)

theorem bootEvents_only (s : State) : onlyChanges [.ev] s (bootEvents s) := by
  unfold bootEvents
  exact onlyChanges_trans (foldl_setSrc_only _ _ s) (onEv_only _ _)

/-- The tests and loads that come before a slot's first start. -/
def slotPrepared (x : Slot) (s : State) : State :=
  if s.mode == .boot then bootFlash (bootTests (applyWorldMap x s)) else s

/-- The cores as a slot starts on them. -/
def slotCores (t : State) : List Core :=
  let full := startedCores ((List.range 4).filter fun c => t.test.failedUnits.contains (5, c))
  if t.mode = .lean then leanCores full else full

/-- What Lean remembers of the cores. -/
def slotLean (t : State) : State :=
  if t.mode = .lean then
    t.onPower fun p => { p with coresBefore := startedCores ((List.range 4).filter fun c => t.test.failedUnits.contains (5, c)) }
  else t

/-- The cores run, with the body in SRAM and the remap set. -/
def slotRuns (x : Slot) (t : State) : State :=
  remapApplies true (loadBody x ((List.range 4).foldl (fun s c => setCore c ((slotCores t).getD c .held) s) (slotLean t)))

/-- The Keeper's record at the start of a slot. -/
def Keeper.starts (k : Nat) (x : Slot) (w : Keeper) : Keeper :=
  { w with started := true, fwSlot := k, fwVersion := x.fwVersion, fwBuild := x.build, ifVer := 0x01000100 }

/-- The cluster watchdog runs and the Keeper has started. -/
def slotServes (k : Nat) (x : Slot) (t : State) : State := (t.onGuard fun g => { g with clusterRun := true }).onKeeper (Keeper.starts k x)

theorem startSlot_eq (k : Nat) (s : State) : startSlot k s =
    if s.mode == .boot then bootEvents (slotServes k (s.slotOf k) (slotRuns (s.slotOf k) (slotPrepared (s.slotOf k) s)))
    else slotServes k (s.slotOf k) (slotRuns (s.slotOf k) (slotPrepared (s.slotOf k) s)) := rfl

theorem slotPrepared_keeps (x : Slot) (s : State) : Keeps bootParts s (slotPrepared x s) := by
  unfold slotPrepared
  exact .when ((applyWorldMap_keeps x s).append ((bootTests_keeps _).append (bootFlash_keeps _))).mono

theorem slotRuns_keeps (x : Slot) (t : State) : Keeps bootParts t (slotRuns x t) := by
  have hlean : Keeps [.power] t (slotLean t) := by
    unfold slotLean
    exact .when (onPower_keeps _ t)
  exact (hlean.append ((foldl_cores_keeps (fun s c hc => setCore_keeps hc _ s) _).append
    ((loadBody_keeps x _).append (remapApplies_keeps true _)))).mono

theorem slotServes_sets (k : Nat) (x : Slot) (t : State) : (slotServes k x t).mode = t.mode ∧
    (slotServes k x t).guard.clusterRun = true ∧ (slotServes k x t).keeper = Keeper.starts k x t.keeper := ⟨rfl, rfl, rfl⟩

/-- A slot that starts leaves the mode, and its version runs under the cluster watchdog. -/
theorem startSlot_sets (k : Nat) (s : State) : (startSlot k s).mode = s.mode ∧ (startSlot k s).guard.clusterRun = true ∧
    (startSlot k s).keeper = Keeper.starts k (s.slotOf k) s.keeper := by
  have hkept := ((slotPrepared_keeps (s.slotOf k) s).append (slotRuns_keeps (s.slotOf k) _)).parts
  have hserves : onlyChanges [.ev] (slotServes k (s.slotOf k) (slotRuns (s.slotOf k) (slotPrepared (s.slotOf k) s))) (startSlot k s) := by
    rw [startSlot_eq]
    split_ifs
    · exact bootEvents_only _
    · exact onlyChanges_refl _ _
  generalize slotRuns (s.slotOf k) (slotPrepared (s.slotOf k) s) = u at hkept hserves
  obtain ⟨hmode, hrun, hkeeper⟩ := slotServes_sets k (s.slotOf k) u
  refine ⟨?_, ?_, ?_⟩
  · rw [hserves .mode (by decide), hmode, hkept .mode (by decide)]
  · rw [hserves .guard (by decide), hrun]
  · rw [hserves .keeper (by decide), hkeeper, hkept .keeper (by decide)]

theorem romStarts_starts {s : State} {ok : Bool} (hdue : romDue s = true) (hok : s.mode = .boot → ok = true)
    (htrial : (bootBlock s).trial = 0) (hslot : (bootBlock s).preferred ≤ 1) (hvalid : slotValid s (bootBlock s).preferred = true) :
    romStarts ok s = startSlot (bootBlock s).preferred s := by
  have hchosen : chooseSlot s = ((bootBlock s).preferred, s) := if_pos htrial
  have hself : ¬(decide (s.mode = .boot) && !ok) = true := by simpa using hok
  have hslot2 : (bootBlock s).preferred % 2 = (bootBlock s).preferred := Nat.mod_eq_of_lt (by omega)
  unfold romStarts
  rw [if_neg (by simp [hdue]), if_neg hself]
  simp only [hchosen, hslot2]
  exact if_pos hvalid

theorem romStarts_halts {s : State} (hdue : romDue s = true) (hmode : s.mode = .boot) :
    romStarts false s = toHalt 1 (fault 0x11 0 0 s) := by
  unfold romStarts
  rw [if_neg (by simp [hdue]), if_pos (by simp [hmode])]

theorem toHalt_started (cause : Nat) (s : State) : (toHalt cause s).keeper.started = false := by
  rw [toHalt_eq, show _ = _ from (haltEnds_keeps (haltDeclared cause s)).parts .keeper (by decide)]
  rfl

/-- The BAR2 window is chosen and the Keeper serves. -/
def provisionServes (s : State) : State :=
  (s.onPool fun p => { p with window := (List.range 4).find? fun d => (s.chan d).state == 0 }).onKeeper fun k =>
    { k with present := true, serving := true }

theorem provisionEnters_eq {s : State} (hmode : s.mode = .boot) (hstarted : s.keeper.started = true) :
    provisionEnters s = enterMode .provision (provisionServes s) := if_pos (by simp [hmode, hstarted])

/-- A channel passes its boot training. -/
def channelPassed (d size ranks rate : Nat) (s : State) : State :=
  setChan d 0 0 (s.onChan d fun c => { c with size := size, ranks := ranks, maxRate := rate })

theorem bootTrained_passes {s : State} {d size : Nat} (ranks rate : Nat) (hd : d < 4) (hmode : s.mode = .boot) (hsize : size ≠ 0)
    (hempty : (s.chan d).size = 0) : bootTrained d size ranks rate 0 s =
      (channelPassed d size ranks rate s).onPool fun p => { p with rate := commonRate (channelPassed d size ranks rate s) } := by
  unfold bootTrained
  exact if_neg (by simp [hmode, hsize, hempty, hd])

theorem channelPassed_same (d size ranks rate : Nat) (s : State) : (channelPassed d size ranks rate s).chan d =
    { s.chan d with
      size := size, ranks := ranks, maxRate := rate, state := 0, cause := 0, retrainSince := none, postponed := [] } := by
  rw [channelPassed, chan_setChan_same, chan_onChan_same]

theorem channelPassed_ne {d e : Nat} (size ranks rate : Nat) (s : State) (h : e ≠ d) :
    (channelPassed d size ranks rate s).chan e = s.chan e := by
  rw [channelPassed, chan_setChan_ne 0 0 _ h, chan_onChan_ne s _ h]

/-! ### The clear of a DDR5 region (17 R520; 18 R543) -/

theorem tget_filter_key {α : Type} (d : α) (q : Nat → Bool) (t : Tbl α) (n : Nat) :
    tget d (t.filter fun e => q e.1) n = if q n then tget d t n else d := by
  induction t with
  | nil => simp [tget]
  | cons e t ih =>
    obtain ⟨k, v⟩ := e
    by_cases hn : n = k
    · subst hn
      cases hq : q n <;> simp [hq, tget, ih]
    · cases hq : q k <;> simp [hq, tget, ih, hn]

/-- A region reads as zero, and every other byte as before. -/
theorem memRead_zeroRegion (r a : Nat) (s : State) :
    memRead (zeroRegion r s).bus.bar2 a = if a / 2 ^ 25 = r then 0 else memRead s.bus.bar2 a := by
  have hfilter := tget_filter_key (0 : Byte) (fun n => n / 2 ^ 25 != r) s.bus.bar2 a
  simp only [bne_iff_ne, ne_eq, ite_not] at hfilter
  exact hfilter

theorem zeroRegion_keeps (r : Nat) (s : State) : Keeps [.bus] s (zeroRegion r s) := by
  unfold zeroRegion
  exact onBus_keeps _ s

/-- A region is cleared and marked so. -/
def regionDone (r : Nat) (s : State) : State :=
  zeroRegion r (s.onSec fun c => { c with ddr := tput {} c.ddr r { tget ({} : DdrRegion) s.sec.ddr r with clearing := false } })

theorem regionCleared_done {s : State} {r : Nat} (hr : r < 32) (hclearing : (tget ({} : DdrRegion) s.sec.ddr r).clearing = true)
    (hchan : (s.chan (tget ({} : DdrRegion) s.sec.ddr r).channel).state = 0) (hfree : s.sec.worldWait = none) :
    regionCleared r s = regionDone r s := if_pos (by simp [hr, hclearing, hchan, hfree])

theorem regionDone_keeps (r : Nat) (s : State) : Keeps [.sec, .bus] s (regionDone r s) :=
  (onSec_keeps _ s).append (zeroRegion_keeps r _)

theorem regionDone_clearing (r : Nat) (s : State) : (tget ({} : DdrRegion) (regionDone r s).sec.ddr r).clearing = false :=
  congrArg DdrRegion.clearing (tget_tput_same {} s.sec.ddr r _)

/-- Settles O43: a reset by what each domain keeps of it, the boot by the parts that its steps write. -/
theorem resetAndBoot : Obligations.ResetAndBoot := by
  intro s
  refine ⟨fun hseq hmode => ⟨counted s (resetAsserts s), rfl, ?reset⟩,
    fun side flash te hlow hseq hmode => ⟨counted s (resetReleases side flash te s), rfl, ?release⟩,
    fun hmode hreset => ⟨counted s (wakeCleared s), rfl, ?wake⟩,
    fun ok hdue hok htrial hslot hvalid => ⟨counted s (romStarts ok s), rfl, ?rom⟩,
    fun hdue hmode => ⟨counted s (romStarts false s), rfl, ?halt⟩,
    fun hmode hstarted => ⟨counted s (provisionEnters s), rfl, ?provision⟩,
    fun d size ranks rate hd hmode hsize hempty => ⟨counted s (bootTrained d size ranks rate 0 s), rfl, ?training⟩,
    fun r hr hclearing hchan hfree => ⟨counted s (regionCleared r s), rfl, ?region⟩⟩
  case reset =>
    obtain ⟨hwake, hserving, hclk, hlow, hoverflow, htakeovers, hbar2, hpending, hrollback, hopened⟩ :=
      deviceReset_wasReset (s.onPower fun q => { q with resetLow := true })
    simp only [resetAsserts_resets hseq hmode, counted_mode, counted_keeper, counted_clk, counted_power, counted_guard, counted_hive,
      counted_bus, counted_pending, counted_sec, chal_counted]
    exact ⟨hwake, hserving, hclk, hlow, hoverflow, htakeovers, hbar2, hpending, hrollback, hopened⟩
  case release =>
    rw [resetReleases_wakes side flash te hlow hseq hmode, counted_mode, counted_power, counted_hive,
      (beginWake_keeps _).parts .hive (by decide)]
    exact ⟨beginWake_mode _, (powerView_eq (beginWake_power _)).resetLow, rfl⟩
  case wake =>
    have hboot : (wakeOver s).mode ≠ .boot := by
      rw [(wakeOver_keeps s).parts .mode (by decide), hmode]
      decide
    rw [wakeCleared_boots hmode hreset, counted_mode, counted_bus, (enterMode_keeps .boot (wakeOver s)).parts .bus (by decide)]
    exact ⟨enterMode_mode .boot _, rfl, (shows_counted 290 s _ (by decide)).mpr (enterMode_shows hboot)⟩
  case rom =>
    obtain ⟨hmode, hrun, hkeeper⟩ := startSlot_sets (bootBlock s).preferred s
    rw [romStarts_starts hdue hok htrial hslot hvalid, counted_keeper, counted_guard, counted_mode, hkeeper]
    exact ⟨rfl, rfl, hrun, rfl, hmode⟩
  case halt =>
    have hhalted := toHalt_sets 1 (fault 0x11 0 0 s)
    rw [romStarts_halts hdue hmode, counted_mode, counted_guard, counted_keeper]
    exact ⟨hhalted.mode, hhalted.cause_eq, toHalt_started 1 _⟩
  case provision =>
    have hkept := (enterMode_keeps .provision (provisionServes s)).parts
    rw [provisionEnters_eq hmode hstarted, counted_mode, counted_keeper, counted_pool, hkept .keeper (by decide), hkept .pool (by decide)]
    exact ⟨enterMode_mode .provision _, rfl, rfl, rfl⟩
  case training =>
    have hchan : ∀ e, (counted s (bootTrained d size ranks rate 0 s)).chan e = (channelPassed d size ranks rate s).chan e := fun e => by
      rw [bootTrained_passes ranks rate hd hmode hsize hempty]
      exact chan_eq (counted_pool s _) e
    rw [hchan d, channelPassed_same]
    exact ⟨rfl, rfl, rfl, rfl, fun e he => (hchan e).trans (channelPassed_ne size ranks rate s he)⟩
  case region =>
    rw [regionCleared_done hr hclearing hchan hfree, counted_sec, counted_bus]
    refine ⟨counted_changes (regionDone_keeps r s).parts, regionDone_clearing r s, fun a ha => ?_, fun a ha => ?_⟩
    · exact (memRead_zeroRegion r a _).trans (if_pos ha)
    · exact (memRead_zeroRegion r a _).trans (if_neg ha)

end Sys2Proof.Machine
end

section
/-!
PROOFS. Bus errors, the keeper SRAM, the scrub and the temperatures (15 R473-R489). O55.
-/

namespace Sys2Proof.Machine

open Sys2Proof

/-! ### Error responses (15 R474-R476) -/

/-- What an uncorrectable error that the scrub finds leaves in its channel (15 R487, R488). -/
structure ScrubFound (line : Nat) (c c' : Channel) : Prop where
  ecc : c'.eccUncorrected = satAdd 32 c.eccUncorrected 1
  scrub : c'.scrubUnc = satAdd 32 c.scrubUnc 1
  poison : line ∈ c'.poison

/-- The record of an error response. -/
def Bus.errs (master kind addr : Nat) (sealedTarget : Bool) (b : Bus) : Bus :=
  { b with lastMaster := master, lastKind := kind, lastAddr := addr % 2 ^ 40, lastSealed := sealedTarget }

/-- Parts that an error response writes. -/
def errorParts : List Part := [.bus, .guard, .hive, .ports, .ev, .tally]

/-- An error response, as its master takes it, recorded. -/
def errorRecorded (master kind addr : Nat) (sealedTarget : Bool) (s : State) : State :=
  (tick 101 master 1 s).onBus (Bus.errs master kind addr sealedTarget)

theorem errorResponse_eq (master kind addr : Nat) (sealedTarget : Bool) (s : State) :
    errorResponse master kind addr sealedTarget s =
      if master < 8 then fault 0x12 8 master (errorRecorded master kind addr sealedTarget s)
      else if master < 10 then
        if kind = 4 then setIdErr 3 (errorRecorded master kind addr sealedTarget s) else errorRecorded master kind addr sealedTarget s
      else if master = 13 then openGap (errorRecorded master kind addr sealedTarget s)
      else errorRecorded master kind addr sealedTarget s := rfl

theorem openGap_keeps (s : State) : Keeps [.hive, .ev] s (openGap s) := by
  unfold openGap
  exact .ite (.refl _ s) ((onHive_keeps _ s).append (raise_keeps_hive (by decide) (by decide) _)).mono

theorem setIdErr_keeps (b : Nat) (s : State) : Keeps [.bus] s (setIdErr b s) := onBus_keeps _ s

section
variable (master kind addr : Nat) (sealedTarget : Bool) (s : State)

theorem errorRecorded_keeps : Keeps [.tally, .bus] s (errorRecorded master kind addr sealedTarget s) :=
  (tick_keeps 101 master 1 s).append (onBus_keeps _ _)

theorem errorRecorded_bus : (errorRecorded master kind addr sealedTarget s).bus = s.bus.errs master kind addr sealedTarget := by
  have htick : (tick 101 master 1 s).bus = s.bus := (tick_keeps 101 master 1 s).parts .bus (by decide)
  exact congrArg (Bus.errs master kind addr sealedTarget) htick

theorem errorResponse_keeps : Keeps errorParts s (errorResponse master kind addr sealedTarget s) := by
  have hrecord := errorRecorded_keeps master kind addr sealedTarget s
  rw [errorResponse_eq]
  exact .ite (hrecord.append (fault_keeps _ _ _ _)).mono (.ite (.ite (hrecord.append (setIdErr_keeps 3 _)).mono hrecord.mono)
    (.ite (hrecord.append (openGap_keeps _)).mono hrecord.mono))

/-- Only an error of a sealed target touches ID_ERR besides the record. -/
theorem errorResponse_bus : ∃ e, (errorResponse master kind addr sealedTarget s).bus =
    { s.bus.errs master kind addr sealedTarget with idErr := e } ∧ (kind ≠ 4 → e = s.bus.idErr) := by
  have hbus := errorRecorded_bus master kind addr sealedTarget s
  rw [errorResponse_eq]
  split_ifs with hcore hport hkind hhive
  · exact ⟨s.bus.idErr, ((fault_keeps _ _ _ _).parts .bus (by decide)).trans hbus, fun _ => rfl⟩
  · exact ⟨withBit s.bus.idErr 3, congrArg (fun b : Bus => { b with idErr := withBit b.idErr 3 }) hbus, fun h => absurd hkind h⟩
  · exact ⟨s.bus.idErr, hbus, fun _ => rfl⟩
  · exact ⟨s.bus.idErr, ((openGap_keeps _).parts .bus (by decide)).trans hbus, fun _ => rfl⟩
  · exact ⟨s.bus.idErr, hbus, fun _ => rfl⟩

variable {kind} in
theorem errorResponse_bus_open (hkind : kind ≠ 4) :
    (errorResponse master kind addr sealedTarget s).bus = s.bus.errs master kind addr sealedTarget := by
  obtain ⟨e, hbus, he⟩ := errorResponse_bus master kind addr sealedTarget s
  rw [hbus, he hkind]
  rfl

end

/-! ### The default target and requests that time out (15 R474, R475) -/

/-- A request that the default target takes, counted and shown. -/
def defaultHit (master : Nat) (s : State) : State :=
  raise 307 ((tick 99 master 1 (tick 96 master 1 s)).onBus fun b => { b with defaultHits := satAdd 32 b.defaultHits 1 })

/-- A request that no target answered in time, counted and shown. -/
def timedOut (master : Nat) (s : State) : State :=
  raise 308 ((tick 100 master 1 (tick 96 master 1 s)).onBus fun b => { b with timeouts := satAdd 32 b.timeouts 1 })

theorem ticks_keeps (e e' master : Nat) (s : State) : Keeps [.tally] s (tick e' master 1 (tick e master 1 s)) :=
  (tick_keeps e master 1 s).trans (tick_keeps e' master 1 _)

theorem defaultHit_keeps (master : Nat) (s : State) : Keeps [.tally, .bus, .ev] s (defaultHit master s) :=
  ((ticks_keeps 96 99 master s).append ((onBus_keeps _ _).append (raise_keeps_ev (n := 307) (by decide) _))).mono

theorem defaultHit_bus (master : Nat) (s : State) :
    (defaultHit master s).bus = { s.bus with defaultHits := satAdd 32 s.bus.defaultHits 1 } := by
  have htick : (tick 99 master 1 (tick 96 master 1 s)).bus = s.bus := (ticks_keeps 96 99 master s).parts .bus (by decide)
  rw [defaultHit, (raise_keeps_ev (n := 307) (by decide) _).parts .bus (by decide), ← htick]
  rfl

theorem timedOut_keeps (master : Nat) (s : State) : Keeps [.tally, .bus, .ev] s (timedOut master s) :=
  ((ticks_keeps 96 100 master s).append ((onBus_keeps _ _).append (raise_keeps_ev (n := 308) (by decide) _))).mono

theorem timedOut_bus (master : Nat) (s : State) : (timedOut master s).bus = { s.bus with timeouts := satAdd 32 s.bus.timeouts 1 } := by
  have htick : (tick 100 master 1 (tick 96 master 1 s)).bus = s.bus := (ticks_keeps 96 100 master s).parts .bus (by decide)
  rw [timedOut, (raise_keeps_ev (n := 308) (by decide) _).parts .bus (by decide), ← htick]
  rfl

/-- A breach of the worlds, shown and recorded as a fault. -/
def breachShown (master i : Nat) (s : State) : State := fault 0x13 11 i (raise 317 (defaultHit master s))

theorem breachShown_keeps (master i : Nat) (s : State) : Keeps errorParts (defaultHit master s) (breachShown master i s) :=
  ((raise_keeps_ev (n := 317) (by decide) _).append (fault_keeps 0x13 11 i _)).mono

theorem breachShown_bus (master i : Nat) (s : State) :
    (breachShown master i s).bus = { s.bus with defaultHits := satAdd 32 s.bus.defaultHits 1 } := by
  have hkept := (raise_keeps_ev (n := 317) (by decide) (defaultHit master s)).append (fault_keeps 0x13 11 i _)
  exact (hkept.parts .bus (by decide)).trans (defaultHit_bus master s)

section
variable {m : Nat} (hm : m < 14) {s : State} {addr : Nat}
include hm

theorem requestExpires_times (hconn : connected s m (targetOf s addr) = true) (hworld : worldBreach s m addr = none) :
    requestExpires m addr s = errorResponse m 2 addr false (timedOut m s) := by
  unfold requestExpires busTimeout
  rw [if_pos (by simp [hconn, hworld]), if_pos hm]
  rfl

theorem requestDenied_unconnected (hconn : connected s m (targetOf s addr) = false) :
    requestDenied m addr s = errorResponse m 1 addr false (defaultHit m s) := by
  unfold requestDenied defaultTarget
  rw [if_pos (by simp [hconn]), if_pos hm]
  rfl

theorem requestDenied_breach {i : Nat} (hconn : connected s m (targetOf s addr) = true) (hworld : worldBreach s m addr = some i) :
    requestDenied m addr s = errorResponse m 4 addr true (breachShown m i s) := by
  unfold requestDenied defaultTarget
  rw [if_neg (by simp [hconn]), hworld]
  exact if_pos hm

end

/-! ### The keeper SRAM (15 R477-R481) -/

/-- A word in which bits are wrong. -/
def wrongWord (off bits : Nat) (s : State) : State := s.onBus fun b => { b with sramWrong := tput 0 b.sramWrong (off / 8) bits }

theorem wrongWord_keeps (off bits : Nat) (s : State) : Keeps [.bus] s (wrongWord off bits s) := onBus_keeps _ s

theorem wrongWord_wrong (off bits : Nat) (s : State) : tget 0 (wrongWord off bits s).bus.sramWrong (off / 8) = bits :=
  tget_tput_same 0 s.bus.sramWrong (off / 8) bits

/-- Bytes within one word take one access. -/
theorem sramWords_one {off n : Nat} (hn : 0 < n) (hword : off % 8 + n ≤ 8) : sramWords off n = [off / 8] := by
  have hone : (off + n + 7) / 8 - off / 8 = 1 := by omega
  simp [sramWords, hone]

/-- Bytes within one word lie in one region. -/
theorem sramSealed_word {s : State} {m off n : Nat} (hn : n ≤ 1 ∨ off % 8 + n ≤ 8) : sramSealed s m off n = sramSealed s m off 1 := by
  have hregion : (off + max n 1 - 1) / 65536 = (off + max 1 1 - 1) / 65536 := by omega
  simp only [sramSealed, hregion]

theorem sramSealed_wrongWord (off bits m a n : Nat) (s : State) : sramSealed (wrongWord off bits s) m a n = sramSealed s m a n := rfl

/-- An access of the SRAM in place reaches its words. -/
theorem sramEcc_access {s : State} {m addr off : Nat} {double : Bool} {l : List Byte} (hoff : sramOff s addr = some off)
    (hconn : connected s m (.sram off) = true) (hopen : s.bus.sramOpen = true) (hend : off + l.length ≤ 0x400000)
    (hsealed : sramSealed s m off l.length = none) :
    sramEcc m addr double l s = sramAccess m off l (wrongWord off (if double then 2 else 1) s) := by
  have hkept : sramSealed (wrongWord off (if double then 2 else 1) s) m off l.length = none := hsealed
  unfold sramEcc
  simp only [hoff, hconn, hopen, hend, Bool.not_true, Bool.false_eq_true, decide_true, Bool.and_self, if_false, if_true]
  rw [wrongWord] at hkept
  rw [hkept]
  rfl

/-- The words that an access reads, whole or to merge. -/
def sramReads (off : Nat) (l : List Byte) : List Nat :=
  (sramWords off (if l = [] then 1 else l.length)).filter fun w =>
    decide (l = []) || !sramCovers off (if l = [] then 1 else l.length) w

/-- An error of one bit is corrected, counted and shown. -/
def sramCorrects (m : Nat) (s : State) : State :=
  raise 309 ((tick 103 m 1 s).onBus fun b => { b with sramCorrected := satAdd 32 b.sramCorrected 1 })

/-- An error of two bits is counted and shown. -/
def sramFails (s : State) : State := raise 310 (s.onBus fun b => { b with sramUncorrected := satAdd 32 b.sramUncorrected 1 })

theorem sramAccess_eq (m off : Nat) (l : List Byte) (s : State) : sramAccess m off l s =
    if (sramWords off (if l = [] then 1 else l.length)).any fun w => s.bus.fenced.contains (w / 8192) then
      errorResponse m 3 (0x20000000 + off) false s
    else if (sramReads off l).any fun w => 2 ≤ tget 0 s.bus.sramWrong w then errorResponse m 3 (0x20000000 + off) false (sramFails s)
    else
      let t := if (sramReads off l).any fun w => tget 0 s.bus.sramWrong w = 1 then sramCorrects m s else s
      if l = [] then t else t.sramStore off l := rfl

theorem sramReads_read {off : Nat} : sramReads off [] = [off / 8] := by
  have hwords : sramWords off 1 = [off / 8] := sramWords_one (by decide) (by omega)
  simp [sramReads, hwords]

theorem sramReads_merge {off : Nat} {l : List Byte} (hne : l ≠ []) (hword : off % 8 + l.length ≤ 8) (hpart : l.length < 8) :
    sramReads off l = [off / 8] := by
  have hwords : sramWords off l.length = [off / 8] := sramWords_one (List.length_pos_iff.mpr hne) hword
  have hcovers : sramCovers off l.length (off / 8) = false := by
    simp only [sramCovers, Bool.and_eq_false_iff, decide_eq_false_iff_not]
    omega
  simp [sramReads, hne, hwords, hcovers]

theorem sramReads_whole {off : Nat} {l : List Byte} (hword : off % 8 + l.length ≤ 8) (hwhole : l.length = 8) : sramReads off l = [] := by
  have hne : l ≠ [] := List.length_pos_iff.mp (by omega)
  have hwords : sramWords off l.length = [off / 8] := sramWords_one (by omega) hword
  have hcovers : sramCovers off l.length (off / 8) = true := by
    simp only [sramCovers, Bool.and_eq_true, decide_eq_true_eq]
    omega
  simp [sramReads, hne, hwords, hcovers]

section
variable {s : State} (m : Nat) {off : Nat} {l : List Byte}

theorem sramAccess_fenced (hfenced : off / 65536 ∈ s.bus.fenced) :
    sramAccess m off l s = errorResponse m 3 (0x20000000 + off) false s := by
  have hlen : 0 < if l = [] then 1 else l.length := by
    split_ifs with h
    · decide
    · exact List.length_pos_iff.mpr h
  have hmem : off / 8 ∈ sramWords off (if l = [] then 1 else l.length) :=
    List.mem_map.mpr ⟨0, List.mem_range.mpr (by omega), Nat.add_zero _⟩
  have hregion : off / 8 / 8192 = off / 65536 := by omega
  rw [sramAccess_eq]
  refine if_pos (List.any_eq_true.mpr ⟨off / 8, hmem, ?_⟩)
  rw [hregion]
  simpa using hfenced

variable (hword : l = [] ∨ off % 8 + l.length ≤ 8) (hfenced : off / 65536 ∉ s.bus.fenced)
include hword hfenced

theorem sramAccess_open : sramAccess m off l s =
    if (sramReads off l).any fun w => 2 ≤ tget 0 s.bus.sramWrong w then errorResponse m 3 (0x20000000 + off) false (sramFails s)
    else
      let t := if (sramReads off l).any fun w => tget 0 s.bus.sramWrong w = 1 then sramCorrects m s else s
      if l = [] then t else t.sramStore off l := by
  have hwords : sramWords off (if l = [] then 1 else l.length) = [off / 8] := by
    split_ifs with h
    · exact sramWords_one (by decide) (by omega)
    · exact sramWords_one (List.length_pos_iff.mpr h) (hword.resolve_left h)
  have hregion : off / 8 / 8192 = off / 65536 := by omega
  rw [sramAccess_eq, hwords]
  exact if_neg (by simpa [hregion] using hfenced)

/-- A word with two wrong bits that is read or merged ends the access. -/
theorem sramAccess_fails (hreads : sramReads off l = [off / 8]) (hwrong : tget 0 s.bus.sramWrong (off / 8) = 2) :
    sramAccess m off l s = errorResponse m 3 (0x20000000 + off) false (sramFails s) := by
  rw [sramAccess_open m hword hfenced]
  exact if_pos (by simp [hreads, hwrong])

/-- A word with one wrong bit that is read or merged is corrected. -/
theorem sramAccess_corrects (hreads : sramReads off l = [off / 8]) (hwrong : tget 0 s.bus.sramWrong (off / 8) = 1) :
    sramAccess m off l s = if l = [] then sramCorrects m s else (sramCorrects m s).sramStore off l := by
  rw [sramAccess_open m hword hfenced]
  simp [hreads, hwrong]

theorem sramAccess_stores (hreads : sramReads off l = []) (hne : l ≠ []) : sramAccess m off l s = s.sramStore off l := by
  rw [sramAccess_open m hword hfenced]
  simp [hreads, hne]

end

theorem sramCorrects_keeps (m : Nat) (s : State) : Keeps [.tally, .bus, .ev] s (sramCorrects m s) :=
  ((tick_keeps 103 m 1 s).append ((onBus_keeps _ _).append (raise_keeps_ev (n := 309) (by decide) _))).mono

theorem sramCorrects_bus (m : Nat) (s : State) :
    (sramCorrects m s).bus = { s.bus with sramCorrected := satAdd 32 s.bus.sramCorrected 1 } := by
  have htick : (tick 103 m 1 s).bus = s.bus := (tick_keeps 103 m 1 s).parts .bus (by decide)
  rw [sramCorrects, (raise_keeps_ev (n := 309) (by decide) _).parts .bus (by decide), ← htick]
  rfl

theorem sramFails_keeps (s : State) : Keeps [.bus, .ev] s (sramFails s) :=
  (onBus_keeps _ s).append (raise_keeps_ev (n := 310) (by decide) _)

theorem sramFails_bus (s : State) : (sramFails s).bus = { s.bus with sramUncorrected := satAdd 32 s.bus.sramUncorrected 1 } := by
  rw [sramFails, (raise_keeps_ev (n := 310) (by decide) _).parts .bus (by decide)]
  rfl

theorem sramStore_keeps (s : State) (off : Nat) (l : List Byte) : Keeps [.bus] s (s.sramStore off l) := by
  unfold State.sramStore
  exact onBus_keeps _ s

/-- A store leaves no wrong bit in its word. -/
theorem sramStore_wrong (s : State) {off : Nat} {l : List Byte} (hne : l ≠ []) (hword : off % 8 + l.length ≤ 8) :
    tget 0 (s.sramStore off l).bus.sramWrong (off / 8) = 0 := by
  have hwords : sramWords off l.length = [off / 8] := sramWords_one (List.length_pos_iff.mpr hne) hword
  have hfilter := tget_filter_key 0 (fun n => !(sramWords off l.length).contains n) s.bus.sramWrong (off / 8)
  have hstored : (s.sramStore off l).bus.sramWrong = s.bus.sramWrong.filter fun e => !(sramWords off l.length).contains e.1 := rfl
  rw [hstored, hfilter, hwords]
  simp

/-- A store of some bytes, by what reads them back. -/
theorem sramStore_reads (s : State) (off : Nat) (l : List Byte) :
    (∀ a, a < off ∨ off + l.length ≤ a → memRead (s.sramStore off l).bus.sram a = memRead s.bus.sram a) ∧
    (∀ k, k < l.length → memRead (s.sramStore off l).bus.sram (off + k) = l.getD k 0) := by
  refine ⟨fun a ha => ?_, fun k hk => ?_⟩
  · rw [sramStore_read, if_neg (by omega)]
  · rw [sramStore_read, if_pos (by omega), Nat.add_sub_cancel_left]

/-- A write within a word whose error it overwrites or corrects. -/
theorem sramWrite_done {s : State} (m : Nat) {off bits : Nat} {l : List Byte} (hne : l ≠ []) (hword : off % 8 + l.length ≤ 8)
    (hfenced : off / 65536 ∉ s.bus.fenced) (hbits : bits = 1 ∨ l.length = 8) :
    ∃ u, sramAccess m off l (wrongWord off bits s) = u.sramStore off l ∧ Keeps [.bus, .ev, .tally] s u ∧ u.bus.sram = s.bus.sram ∧
      (l.length < 8 → u.shows 309) := by
  by_cases hpart : l.length < 8
  · have hwrong : tget 0 (wrongWord off bits s).bus.sramWrong (off / 8) = 1 :=
      (wrongWord_wrong off bits s).trans (hbits.resolve_right (by omega))
    have hfenced' : off / 65536 ∉ (wrongWord off bits s).bus.fenced := hfenced
    refine ⟨sramCorrects m (wrongWord off bits s), ?_, ((wrongWord_keeps off bits s).append (sramCorrects_keeps m _)).mono, ?_,
      fun _ => shows_raise 309 _⟩
    · rw [sramAccess_corrects m (.inr hword) hfenced' (sramReads_merge hne hword hpart) hwrong, if_neg hne]
    · rw [sramCorrects_bus]
      rfl
  · have hwhole : l.length = 8 := by omega
    exact ⟨wrongWord off bits s, sramAccess_stores m (.inr hword) hfenced (sramReads_whole hword hwhole) hne,
      (wrongWord_keeps off bits s).mono, rfl, fun h => absurd h hpart⟩

/-- An access that two wrong bits end. -/
theorem sramAccess_ended {s : State} (m : Nat) {off : Nat} {l : List Byte} (hword : l = [] ∨ off % 8 + l.length ≤ 8)
    (hfenced : off / 65536 ∉ s.bus.fenced) (hreads : sramReads off l = [off / 8]) :
    let t := sramAccess m off l (wrongWord off 2 s)
    Keeps errorParts s t ∧ t.bus.sramUncorrected = satAdd 32 s.bus.sramUncorrected 1 ∧ t.bus.sram = s.bus.sram ∧ t.bus.lastMaster = m ∧
      t.bus.lastKind = 3 ∧ t.shows 310 := by
  have hfails := (wrongWord_keeps off 2 s).append (sramFails_keeps (wrongWord off 2 s))
  have hbus := errorResponse_bus_open m (0x20000000 + off) false (sramFails (wrongWord off 2 s)) (show 3 ≠ 4 by decide)
  have herror := errorResponse_keeps m 3 (0x20000000 + off) false (sramFails (wrongWord off 2 s))
  have hfenced' : off / 65536 ∉ (wrongWord off 2 s).bus.fenced := hfenced
  dsimp only
  rw [sramAccess_fails m hword hfenced' hreads (wrongWord_wrong off 2 s), hbus, sramFails_bus]
  exact ⟨(hfails.append herror).mono, rfl, rfl, rfl, rfl, herror.shows 310 (shows_raise 310 _)⟩

/-! ### The background test (15 R480, R481) -/

/-- A line of the background test is taken up. -/
def bgTicked (s : State) : State := tick 173 noUnit 1 (tick 104 12 1 s)

/-- A single-bit error in the line is corrected. -/
def bgCorrects (corrected : Bool) (s : State) : State :=
  if corrected || s.bus.sramWrong.any fun e => e.1 / 8 == s.bus.bgLine && e.2 == 1 then
    raise 309 (s.onBus fun b => { b with
      sramCorrected := satAdd 32 b.sramCorrected 1, sramWrong := b.sramWrong.filter fun e => !(e.1 / 8 == s.bus.bgLine && e.2 == 1) })
  else s

/-- A region whose line fails is fenced. -/
def bgFences (r : Nat) (t : State) : State := raise 311 (fault 0x0C 6 r (t.onBus fun b => { b with fenced := insertNat r b.fenced }))

/-- The test goes on to the next line. -/
def bgMoves (line : Nat) (t : State) : State :=
  let n := nextLine t.bus.fenced 130 (line + 1)
  if n.2 then raise 312 (t.onBus fun b => { b with bgLine := n.1, bgPasses := satAdd 32 b.bgPasses 1 })
  else t.onBus fun b => { b with bgLine := n.1 }

theorem sramStep_eq {s : State} (corrected passed : Bool) (hopen : s.bus.sramOpen = true) (hmode : s.mode ≠ .lean) :
    sramStep corrected passed s = bgMoves (bgTicked s).bus.bgLine (if passed then bgCorrects corrected (bgTicked s)
      else bgFences ((bgTicked s).bus.bgLine / 1024) (bgCorrects corrected (bgTicked s))) := by
  unfold sramStep
  exact if_neg (by simp [hopen, hmode])

theorem bgTicked_keeps (s : State) : Keeps [.tally] s (bgTicked s) := (tick_keeps 104 12 1 s).trans (tick_keeps 173 noUnit 1 _)

theorem bgCorrects_keeps (corrected : Bool) (s : State) : Keeps [.bus, .ev] s (bgCorrects corrected s) := by
  unfold bgCorrects
  exact .when ((onBus_keeps _ s).append (raise_keeps_ev (n := 309) (by decide) _)).mono

theorem bgCorrects_clean {s : State} (h : ∀ e, e ∈ s.bus.sramWrong → ¬(e.1 / 8 = s.bus.bgLine ∧ e.2 = 1)) : bgCorrects false s = s :=
  if_neg (by
    simp only [Bool.false_or, List.any_eq_true, Bool.and_eq_true, beq_iff_eq, not_exists, not_and]
    exact fun e he hline hone => h e he ⟨hline, hone⟩)

theorem bgFences_keeps (r : Nat) (t : State) : Keeps [.bus, .guard, .hive, .ports, .ev] t (bgFences r t) :=
  ((onBus_keeps _ t).append ((fault_keeps 0x0C 6 r _).append (raise_keeps_ev (n := 311) (by decide) _))).mono

theorem bgFences_fences (r : Nat) (t : State) : r ∈ (bgFences r t).bus.fenced := by
  have hkept := (fault_keeps 0x0C 6 r (t.onBus fun b => { b with fenced := insertNat r b.fenced })).append
    (raise_keeps_ev (n := 311) (by decide) _)
  rw [bgFences, hkept.parts .bus (by decide)]
  exact insertNat_mem r t.bus.fenced

theorem bgMoves_keeps (line : Nat) (t : State) : Keeps [.bus, .ev] t (bgMoves line t) := by
  unfold bgMoves
  exact .ite ((onBus_keeps _ t).append (raise_keeps_ev (n := 312) (by decide) _)).mono (onBus_keeps _ t).mono

theorem bgMoves_fenced (line : Nat) (t : State) : (bgMoves line t).bus.fenced = t.bus.fenced := by
  unfold bgMoves
  dsimp only
  split_ifs
  · rw [(raise_keeps_ev (n := 312) (by decide) _).parts .bus (by decide)]
    rfl
  · rfl

/-- With the next line in place the test goes there. -/
theorem bgMoves_next {line : Nat} {t : State} (hline : line + 1 < 65536) (hfenced : t.bus.fenced.contains ((line + 1) / 1024) = false) :
    bgMoves line t = t.onBus fun b => { b with bgLine := line + 1 } := by
  have hnext : nextLine t.bus.fenced 130 (line + 1) = (line + 1, false) := by
    rw [nextLine, if_neg (by omega), if_neg (by rw [hfenced]; decide)]
  unfold bgMoves
  simp only [hnext]
  rfl

/-! ### The patrol scrub and the temperatures (15 R487-R489) -/

theorem onChan_keeps (d : Nat) (f : Channel → Channel) (s : State) : Keeps [.pool] s (s.onChan d f) := .of_only (onChan_only s d f)

/-- A line is scrubbed, before its outcome is taken. -/
def scrubTicked (d : Nat) (last : Bool) (s : State) : State :=
  tick 174 noUnit 1 (tick 76 d 1 (s.onChan d fun c => { c with scrubbing := !last }))

theorem scrubTicked_keeps (d : Nat) (last : Bool) (s : State) : Keeps [.pool, .tally] s (scrubTicked d last s) :=
  ((onChan_keeps d _ s).append ((tick_keeps 76 d 1 _).trans (tick_keeps 174 noUnit 1 _))).mono

theorem scrubTicked_pool (d : Nat) (last : Bool) (s : State) :
    (scrubTicked d last s).pool = (s.onChan d fun c => { c with scrubbing := !last }).pool :=
  ((tick_keeps 76 d 1 _).trans (tick_keeps 174 noUnit 1 _)).parts .pool (by decide)

/-- The scrub finds an uncorrectable error: the line holds poison. -/
def scrubPoisons (d line : Nat) (t : State) : State :=
  uncError d (raise 315 (t.onChan d fun c => { c with scrubUnc := satAdd 32 c.scrubUnc 1, poison := insertNat line c.poison }))

section
variable {s : State} {d line : Nat} (last : Bool) (hd : d < 4) (hstate : (s.chan d).state = 0) (hmode : s.mode ≠ .lean)
include hd hstate hmode

theorem scrubLine_clean (hpoison : line ∉ (s.chan d).poison) : scrubLine d line 0 last s = raiseIf last 314 (scrubTicked d last s) := by
  unfold scrubLine
  rw [if_pos (by simp [hd, hstate, hmode])]
  simp [hpoison, scrubTicked, tickIf]

theorem scrubLine_poison {outcome : Nat} (h : outcome = 3 ∨ line ∈ (s.chan d).poison) :
    scrubLine d line outcome last s = raiseIf last 314 (scrubPoisons d line (scrubTicked d last s)) := by
  have houtcome : (if (s.chan d).poison.contains line then 3 else outcome) = 3 := by
    split_ifs with hline
    · rfl
    · exact h.resolve_right (by simpa using hline)
  unfold scrubLine
  rw [if_pos (by simp [hd, hstate, hmode])]
  simp [-List.contains_eq_mem, houtcome, scrubTicked, scrubPoisons, tickIf]

end

theorem uncError_keeps {d : Nat} (hd : d < 4) (s : State) : Keeps [.pool, .ev, .pm, .guard, .hive, .ports] s (uncError d s) :=
  ((onChan_keeps d _ s).append ((raise_keeps_ev (n := 76 + 4 * d) (by unfold noCopy; omega) _).append (channelFail_keeps d 2 _))).mono

theorem scrubPoisons_keeps {d : Nat} (hd : d < 4) (line : Nat) (t : State) :
    Keeps [.pool, .ev, .pm, .guard, .hive, .ports] t (scrubPoisons d line t) :=
  ((onChan_keeps d _ t).append ((raise_keeps_ev (n := 315) (by decide) _).append (uncError_keeps hd _))).mono

/-- A failure of the channel leaves its counts and its poison. -/
theorem channelFail_counts (d cause : Nat) (s : State) : ((channelFail d cause s).chan d).eccUncorrected = (s.chan d).eccUncorrected ∧
    ((channelFail d cause s).chan d).scrubUnc = (s.chan d).scrubUnc ∧ ((channelFail d cause s).chan d).poison = (s.chan d).poison := by
  unfold channelFail failChannel
  dsimp only
  split_ifs
  · rw [chan_eq ((fault_keeps 0x0B 4 d _).parts .pool (by decide)) d, chan_dropChannel, chan_setChan_same]
    exact ⟨rfl, rfl, rfl⟩
  · exact ⟨rfl, rfl, rfl⟩

theorem scrubPoisons_found {d line : Nat} (hd : d < 4) (t : State) : ScrubFound line (t.chan d) ((scrubPoisons d line t).chan d) := by
  have hpoison : (raise 315 (t.onChan d fun c => { c with scrubUnc := satAdd 32 c.scrubUnc 1, poison := insertNat line c.poison })).chan d =
      { t.chan d with scrubUnc := satAdd 32 (t.chan d).scrubUnc 1, poison := insertNat line (t.chan d).poison } :=
    (chan_eq ((raise_keeps_ev (n := 315) (by decide) _).parts .pool (by decide)) d).trans (chan_onChan_same t d _)
  unfold scrubPoisons uncError
  generalize raise 315 _ = u at hpoison
  have hcount : (raise (76 + 4 * d) (u.onChan d fun c => { c with
      eccUncorrected := satAdd 32 c.eccUncorrected 1, uncSecond := c.uncSecond + 1 })).chan d =
      { u.chan d with eccUncorrected := satAdd 32 (u.chan d).eccUncorrected 1, uncSecond := (u.chan d).uncSecond + 1 } :=
    (chan_eq ((raise_keeps_ev (n := 76 + 4 * d) (by unfold noCopy; omega) _).parts .pool (by decide)) d).trans (chan_onChan_same u d _)
  obtain ⟨hecc, hscrub, hline⟩ := channelFail_counts d 2 (raise (76 + 4 * d) (u.onChan d fun c => { c with
    eccUncorrected := satAdd 32 c.eccUncorrected 1, uncSecond := c.uncSecond + 1 }))
  rw [hcount] at hecc hscrub hline
  rw [hpoison] at hecc hscrub hline
  refine ⟨hecc, hscrub, ?_⟩
  rw [hline]
  exact insertNat_mem line _

theorem scrubPoisons_shows {d : Nat} (line : Nat) (t : State) :
    (scrubPoisons d line t).shows (76 + 4 * d) ∧ (scrubPoisons d line t).shows 315 := by
  unfold scrubPoisons uncError
  have hfail := fun u => channelFail_keeps d 2 u
  exact ⟨(hfail _).shows _ (shows_raise _ _),
    (hfail _).shows _ (shows_raise_of _ _ _ ((onChan_keeps d _ _).shows 315 (shows_raise 315 _)))⟩

/-- Whether a channel refreshes at the double rate (15 R489). -/
def refreshDue (temp : Int) (c : Channel) : Bool := if 340 < temp then true else if temp < 328 then false else c.doubleRefresh

theorem thermalRead_reads {s : State} {d : Nat} (temp : Int) (hd : d < 4) (hsize : (s.chan d).size ≠ 0) : thermalRead d temp s =
    raiseIf (refreshDue temp (s.chan d) != (s.chan d).doubleRefresh) 318
      (s.onChan d fun c => { c with temp := some temp, doubleRefresh := refreshDue temp (s.chan d) }) :=
  if_pos (by simp [hd, hsize])

theorem refreshDue_cases (temp : Int) (c : Channel) : (340 < temp → refreshDue temp c = true) ∧ (temp < 328 → refreshDue temp c = false) ∧
    (328 ≤ temp → temp ≤ 340 → refreshDue temp c = c.doubleRefresh) := by
  refine ⟨fun h => if_pos h, fun h => ?_, fun hlo hhi => ?_⟩
  · rw [refreshDue, if_neg (by omega), if_pos h]
  · rw [refreshDue, if_neg (by omega), if_neg (by omega)]

theorem chan_raiseIf (b : Bool) {n : Nat} (hn : noCopy n) (s : State) (d : Nat) : (raiseIf b n s).chan d = s.chan d :=
  chan_eq ((raiseIf_keeps_of b (raise_keeps_ev hn s)).parts .pool (by decide)) d

theorem chan_counted (s t : State) (d : Nat) : (counted s t).chan d = t.chan d := chan_eq (counted_pool s t) d

/-- Settles O55, error responses by their record, the SRAM by the words that an access reads. That the number of wrong bits stays until the
word is written or scrubbed, and the answer of a fenced region (kind 3, no source 310), are the model's own (NOTES.md, log 117). -/
theorem busEvents : Obligations.BusEvents := by
  intro s
  refine ⟨fun m addr hm hconn hworld => ⟨counted s (requestExpires m addr s), rfl, ?timeout⟩,
    fun m addr hm hconn => ⟨counted s (requestDenied m addr s), rfl, ?unconnected⟩,
    fun m addr i hm hconn hworld => ⟨counted s (requestDenied m addr s), rfl, ?breach⟩,
    fun hremap hopen => ⟨counted s (remapApplies true s), rfl, ?remap⟩,
    fun m addr off hoff hconn hsealed hlow hopen hfenced =>
      ⟨⟨counted s (sramEcc m addr false [] s), rfl, ?single⟩, ⟨counted s (sramEcc m addr true [] s), rfl, ?double⟩,
        fun double l hne hword hbits => ⟨counted s (sramEcc m addr double l s), rfl, ?store⟩,
        fun l hne hpart hword => ⟨counted s (sramEcc m addr true l s), rfl, ?merge⟩⟩,
    fun m addr off l hoff hconn hsealed hlow hopen hfenced => ⟨counted s (sramEcc m addr false l s), rfl, ?fenced⟩,
    fun hopen hmode hline hfenced hclean => ⟨counted s (sramStep false true s), rfl, ?passed⟩,
    fun hopen hmode => ⟨counted s (sramStep false false s), rfl, ?failed⟩,
    fun d line last hd hstate hmode hpoison => ⟨counted s (scrubLine d line 0 last s), rfl, ?clean⟩,
    fun d line outcome last hd hstate hmode hbad => ⟨counted s (scrubLine d line outcome last s), rfl, ?poison⟩,
    fun d temp hd hsize => ⟨counted s (thermalRead d temp s), rfl, ?thermal⟩⟩
  case timeout =>
    have herror := errorResponse_keeps m 2 addr false (timedOut m s)
    have hkept : Keeps errorParts s (errorResponse m 2 addr false (timedOut m s)) := ((timedOut_keeps m s).append herror).mono
    rw [requestExpires_times hm hconn hworld, counted_bus, errorResponse_bus_open _ _ _ _ (by decide), timedOut_bus]
    exact ⟨counted_changes hkept.parts, rfl, (shows_counted 308 s _ (by decide)).mpr (herror.shows 308 (shows_raise 308 _))⟩
  case unconnected =>
    have herror := errorResponse_keeps m 1 addr false (defaultHit m s)
    have hkept : Keeps errorParts s (errorResponse m 1 addr false (defaultHit m s)) := ((defaultHit_keeps m s).append herror).mono
    rw [requestDenied_unconnected hm hconn, counted_bus, errorResponse_bus_open _ _ _ _ (by decide), defaultHit_bus]
    exact ⟨counted_changes hkept.parts, rfl, (shows_counted 307 s _ (by decide)).mpr (herror.shows 307 (shows_raise 307 _))⟩
  case breach =>
    have herror := errorResponse_keeps m 4 addr true (breachShown m i s)
    have hkept : Keeps errorParts s (errorResponse m 4 addr true (breachShown m i s)) :=
      (((defaultHit_keeps m s).append (breachShown_keeps m i s)).append herror).mono
    obtain ⟨e, hbus, -⟩ := errorResponse_bus m 4 addr true (breachShown m i s)
    rw [requestDenied_breach hm hconn hworld, counted_bus, hbus, breachShown_bus]
    exact ⟨counted_changes hkept.parts, rfl, rfl, rfl, (shows_counted 317 s _ (by decide)).mpr
      (herror.shows 317 ((fault_keeps 0x13 11 i _).shows 317 (shows_raise 317 _)))⟩
  case remap =>
    have heq : remapApplies true s = raise 316 (s.onBus fun b => { b with remap := true }) := if_pos (by simp [hremap, hopen])
    have hraise := raise_keeps_ev (n := 316) (by decide) (s.onBus fun b => { b with remap := true })
    rw [heq, counted_bus, hraise.parts .bus (by decide)]
    exact ⟨counted_changes ((onBus_keeps _ s).append hraise).parts, rfl, (shows_counted 316 s _ (by decide)).mpr (shows_raise 316 _)⟩
  case single =>
    have hsealed' : sramSealed s m off ([] : List Byte).length = none := (sramSealed_word (.inl (by decide))).trans hsealed
    have hkept : Keeps [.bus, .ev, .tally] s (sramCorrects m (wrongWord off 1 s)) :=
      ((wrongWord_keeps off 1 s).append (sramCorrects_keeps m _)).mono
    have hfenced' : off / 65536 ∉ (wrongWord off 1 s).bus.fenced := hfenced
    have heq : sramEcc m addr false [] s = sramCorrects m (wrongWord off 1 s) :=
      (sramEcc_access hoff hconn hopen (by simpa using hlow.le) hsealed').trans
        (sramAccess_corrects m (.inl rfl) hfenced' sramReads_read (wrongWord_wrong off 1 s))
    rw [heq, counted_bus, sramCorrects_bus]
    exact ⟨counted_changes hkept.parts, rfl, (shows_counted 309 s _ (by decide)).mpr (shows_raise 309 _)⟩
  case double =>
    have hsealed' : sramSealed s m off ([] : List Byte).length = none := (sramSealed_word (.inl (by decide))).trans hsealed
    obtain ⟨hkept, hcount, hsram, hmaster, hkind, hshows⟩ := sramAccess_ended (s := s) m (.inl rfl) hfenced sramReads_read
    rw [sramEcc_access hoff hconn hopen (by simpa using hlow.le) hsealed', if_pos rfl, counted_bus]
    exact ⟨counted_changes hkept.parts, hcount, hsram, hmaster, hkind, (shows_counted 310 s _ (by decide)).mpr hshows⟩
  case store =>
    have hsealed' : sramSealed s m off l.length = none := (sramSealed_word (.inr hword)).trans hsealed
    have hbits' : (if double then 2 else 1) = 1 ∨ l.length = 8 := hbits.imp_left fun h => by simp [h]
    obtain ⟨u, heq, hkept, hsram, hshows⟩ := sramWrite_done (s := s) m hne hword hfenced hbits'
    obtain ⟨hother, hown⟩ := sramStore_reads u off l
    have hstore := sramStore_keeps u off l
    rw [sramEcc_access hoff hconn hopen (by omega) hsealed', heq, counted_bus]
    refine ⟨counted_changes (hkept.append hstore).parts, fun a ha => ?_, hown, sramStore_wrong u hne hword, fun h =>
      (shows_counted 309 s _ (by decide)).mpr (hstore.shows 309 (hshows h))⟩
    rw [hother a ha, hsram]
  case merge =>
    have hsealed' : sramSealed s m off l.length = none := (sramSealed_word (.inr hword)).trans hsealed
    obtain ⟨hkept, -, hsram, -, hkind, hshows⟩ :=
      sramAccess_ended (s := s) m (.inr hword) hfenced (sramReads_merge hne hword hpart)
    rw [sramEcc_access hoff hconn hopen (by omega) hsealed', if_pos rfl, counted_bus]
    exact ⟨counted_changes hkept.parts, hsram, hkind, (shows_counted 310 s _ (by decide)).mpr hshows⟩
  case fenced =>
    have hfenced' : off / 65536 ∈ (wrongWord off (if false then 2 else 1) s).bus.fenced := hfenced
    have hkept : Keeps errorParts s (errorResponse m 3 (0x20000000 + off) false (wrongWord off (if false then 2 else 1) s)) :=
      ((wrongWord_keeps off _ s).append (errorResponse_keeps m 3 (0x20000000 + off) false _)).mono
    rw [sramEcc_access hoff hconn hopen hlow.le hsealed, sramAccess_fenced m hfenced', counted_bus,
      errorResponse_bus_open _ _ _ _ (by decide)]
    exact ⟨counted_changes hkept.parts, rfl, rfl⟩
  case passed =>
    have hbus : (bgTicked s).bus = s.bus := (bgTicked_keeps s).parts .bus (by decide)
    have heq : sramStep false true s = (bgTicked s).onBus fun b => { b with bgLine := s.bus.bgLine + 1 } := by
      rw [sramStep_eq false true hopen hmode, if_pos rfl, bgCorrects_clean (by rw [hbus]; exact hclean), hbus]
      exact bgMoves_next hline (by rw [hbus]; exact hfenced)
    rw [heq, counted_bus]
    exact ⟨counted_changes ((bgTicked_keeps s).append (onBus_keeps _ _)).parts, congrArg (fun b : Bus =>
      { b with bgLine := s.bus.bgLine + 1 }) hbus⟩
  case failed =>
    have hbus : (bgTicked s).bus = s.bus := (bgTicked_keeps s).parts .bus (by decide)
    have hkept := ((bgTicked_keeps s).append (bgCorrects_keeps false _)).append
      ((bgFences_keeps (s.bus.bgLine / 1024) _).append (bgMoves_keeps s.bus.bgLine _))
    rw [sramStep_eq false false hopen hmode, if_neg (by decide), counted_bus, bgMoves_fenced, hbus]
    exact ⟨counted_changes hkept.parts, bgFences_fences _ _, (shows_counted 311 s _ (by decide)).mpr
      ((bgMoves_keeps _ _).shows 311 (shows_raise 311 _))⟩
  case clean =>
    have hraise := raiseIf_keeps_of last (raise_keeps_ev (n := 314) (by decide) (scrubTicked d last s))
    rw [scrubLine_clean last hd hstate hmode hpoison, chan_counted, chan_raiseIf last (by decide), chan_eq (scrubTicked_pool d last s),
      chan_onChan_same]
    exact ⟨counted_changes ((scrubTicked_keeps d last s).append hraise).parts, rfl, fun h =>
      (shows_counted 314 s _ (by decide)).mpr (shows_raiseIf_true 314 _ h)⟩
  case poison =>
    have hraise := raiseIf_keeps_of last (raise_keeps_ev (n := 314) (by decide) (scrubPoisons d line (scrubTicked d last s)))
    have hfound := scrubPoisons_found (line := line) hd (scrubTicked d last s)
    obtain ⟨hshows, hsource⟩ := scrubPoisons_shows (d := d) line (scrubTicked d last s)
    rw [chan_eq (scrubTicked_pool d last s), chan_onChan_same] at hfound
    rw [scrubLine_poison last hd hstate hmode hbad, chan_counted, chan_raiseIf last (by decide)]
    exact ⟨counted_changes (((scrubTicked_keeps d last s).append (scrubPoisons_keeps hd line _)).append hraise).parts,
      hfound.ecc, hfound.scrub, hfound.poison, (shows_counted _ s _ (by omega)).mpr (hraise.shows _ hshows),
      (shows_counted 315 s _ (by decide)).mpr (hraise.shows 315 hsource)⟩
  case thermal =>
    obtain ⟨hhot, hcool, hsame⟩ := refreshDue_cases temp (s.chan d)
    have hraise := raiseIf_keeps_of (refreshDue temp (s.chan d) != (s.chan d).doubleRefresh) (raise_keeps_ev (n := 318) (by decide)
      (s.onChan d fun c => { c with temp := some temp, doubleRefresh := refreshDue temp (s.chan d) }))
    rw [thermalRead_reads temp hd hsize, chan_counted, chan_raiseIf _ (by decide), chan_onChan_same]
    exact ⟨counted_changes ((onChan_keeps d _ s).append hraise).parts, rfl, hhot, hcool, hsame⟩

end Sys2Proof.Machine
end

section
/-!
PROOFS. Slices, migrations, stings and tracers (16 R491-R505, R513-R515). O56.
-/

namespace Sys2Proof.Machine

open Sys2Proof

/-! ### Slices that start (16 R491-R493) -/

/-- Nothing keeps the slice of a unit from its start (16 R493). -/
structure CanSlice (s : State) (k i : Nat) : Prop where
  idle : s.test.slice = none
  mode : sliceMode s = true
  unit : unitExists k i = true
  unstung : unitStung s k i = false
  forager : s.test.forSuspended = false

theorem sliceUnit_exists {pos k i : Nat} (hpos : pos < 127) (h : sliceUnit pos = (k, i)) : unitExists k i = true := by
  unfold sliceUnit at h
  split_ifs at h <;> obtain ⟨rfl, rfl⟩ := Prod.mk.inj h <;> simp [unitExists] <;> omega

theorem unitExists_cases {k i : Nat} (h : unitExists k i = true) : k = 1 ∧ i < 34 ∨ k = 2 ∧ i < 25 ∨ k = 3 ∧ i < 64 ∨ k = 5 ∧ i < 4 := by
  unfold unitExists at h
  split at h <;> simp_all

/-- A slice starts, counted and shown. -/
def sliceGoes (s : State) : State := raise 291 (tick 164 noUnit 1 s)

/-- The record with a slice in hand. -/
def Test.withSlice (x : Slice) (v : Test) : Test := { v with slice := some x }

/-- A slice is in hand. -/
def withSlice (x : Slice) (s : State) : State := s.onTest (Test.withSlice x)

section
variable {s : State} {k i : Nat} (h : CanSlice s k i)
include h

theorem startSlice_migrates {sp : Nat} (hkind : k ≤ 2) (hcarrier : carrier s k i = none) (hfailed : unitFailed s k i = false)
    (hbusy : unitBusy s k i = true) (hspare : freeSpare s k = some sp) :
    startSlice k i s = some (sliceGoes (armMigration k i sp true false s)) := by
  unfold startSlice
  rw [if_neg (by simp [h.idle, h.mode, h.unit, h.unstung]), if_neg (by simp [h.forager]), if_neg (by omega), if_neg (by omega)]
  simp only [hcarrier, hfailed, hbusy, hspare]
  rfl

theorem startSlice_inPlace (hkind : k ≤ 2) (hcarrier : carrier s k i = none) (hfailed : unitFailed s k i = false)
    (hbusy : unitBusy s k i = false) (hf32 : k = 1 → i = 32 → s.test.f32 = none) (hf33 : k = 1 → i = 33 → s.test.f33 = none)
    (hn24 : k = 2 → i = 24 → s.test.n24 = none) :
    startSlice k i s = some (sliceGoes (withSlice ⟨k, i, none, 2, s.now, false, true, false⟩ s)) := by
  have hunit := unitExists_cases h.unit
  have hforager : ¬(decide (k = 1) && decide (32 ≤ i) && if i = 32 then s.test.f32.isSome else s.test.f33.isSome) = true := by
    simp only [Bool.and_eq_true, decide_eq_true_eq, not_and]
    rintro ⟨hk, hi⟩
    split_ifs with h32
    · simp [hf32 hk h32]
    · simp [hf33 hk (by omega)]
  have hnurse : ¬(decide (k = 2) && decide (i = 24) && s.test.n24.isSome) = true := by
    simp only [Bool.and_eq_true, decide_eq_true_eq, not_and]
    rintro ⟨hk, hi⟩
    simp [hn24 hk hi]
  unfold startSlice
  rw [if_neg (by simp [h.idle, h.mode, h.unit, h.unstung]), if_neg (by simp [h.forager]), if_neg (by omega), if_neg (by omega)]
  simp only [hcarrier]
  rw [if_neg (by simp [hfailed]), if_neg (by simp [hbusy]), if_neg hforager, if_neg hnurse]
  rfl

theorem startSlice_relief (hkind : k = 5) (hcore : s.coreOf i = .relief) :
    startSlice k i s = some (sliceGoes (withSlice ⟨5, i, none, 2, s.now, false, true, false⟩ s)) := by
  subst hkind
  unfold startSlice
  rw [if_neg (by simp [h.idle, h.mode, h.unit, h.unstung]), if_neg (by simp), if_pos rfl]
  simp only [hcore]
  rfl

theorem startSlice_core {r : Nat} (hkind : k = 5) (hcore : s.coreOf i = .working) (hrelief : reliefCore s = some r) :
    startSlice k i s = some ((sliceGoes (handToRelief i r (setCore i .retired s))).onTest
      (Test.withSlice ⟨5, i, some r, 2, s.now, false, true, false⟩)) := by
  subst hkind
  unfold startSlice
  rw [if_neg (by simp [h.idle, h.mode, h.unit, h.unstung]), if_neg (by simp), if_pos rfl]
  simp only [hcore, hrelief]
  rfl

theorem startSlice_region (hkind : k = 3) (hfailed : unitFailed s 3 i = false) :
    startSlice k i s = some (sliceGoes ((withSlice ⟨3, i, none, 2, s.now, false, true, false⟩ s).onRegion i fun x =>
      { x with state := 1, step := 0, start := s.now + 1 })) := by
  subst hkind
  unfold startSlice
  rw [if_neg (by simp [h.idle, h.mode, h.unit, h.unstung]), if_neg (by simp), if_neg (by decide), if_pos rfl, if_neg (by simp [hfailed])]
  rfl

end

/-- The scheduler moves on to the next position. -/
def slotTaken (s : State) : State := s.onTest fun x => { x with position := (x.position + 1) % 127 }

theorem CanSlice.slotTaken {s : State} {k i : Nat} (h : CanSlice s k i) : CanSlice (slotTaken s) k i :=
  ⟨h.idle, h.mode, h.unit, h.unstung, h.forager⟩

theorem sliceSlot_starts {s t : State} {k i : Nat} (hserving : s.keeper.serving = true) (hrun : s.test.suspended = false)
    (hunit : sliceUnit s.test.position = (k, i)) (hstart : startSlice k i (slotTaken s) = some t) : sliceSlot s = t := by
  unfold sliceSlot
  rw [if_neg (by simp [hserving, hrun])]
  rw [slotTaken] at hstart
  simp only [hunit, hstart]

/-- A slot that finds a slice running is skipped. -/
def slotSkipped (s : State) : State := (slotTaken s).onTest fun x => { x with skips := satAdd 32 x.skips 1 }

theorem sliceSlot_skips {s : State} (hserving : s.keeper.serving = true) (hrun : s.test.suspended = false)
    (hslice : s.test.slice.isSome = true) : sliceSlot s = slotSkipped s := by
  have hbusy : ∀ k i, startSlice k i (slotTaken s) = none := fun k i => by
    have hslice' : (slotTaken s).test.slice.isSome = true := hslice
    unfold startSlice
    exact if_pos (by rw [hslice']; rfl)
  unfold sliceSlot
  rw [if_neg (by simp [hserving, hrun])]
  have hnone := hbusy (sliceUnit s.test.position).1 (sliceUnit s.test.position).2
  rw [slotTaken] at hnone
  simp only [hnone]
  rfl

theorem slotTaken_keeps (s : State) : Keeps [.test] s (slotTaken s) := onTest_keeps _ s

theorem sliceGoes_keeps (s : State) : Keeps [.tally, .ev] s (sliceGoes s) :=
  (tick_keeps 164 noUnit 1 s).append (raise_keeps_ev (n := 291) (by decide) _)

theorem sliceGoes_test (s : State) : (sliceGoes s).test = s.test := (sliceGoes_keeps s).parts .test (by decide)

theorem sliceGoes_shows (s : State) : (sliceGoes s).shows 291 := shows_raise 291 _

theorem withSlice_keeps (x : Slice) (s : State) : Keeps [.test] s (withSlice x s) := onTest_keeps _ s

/-- What a slot leaves when a slice starts from it. -/
theorem sliceGoes_from {s t : State} (h : Keeps [.test] s t) : Keeps [.test, .ev, .tally] s (sliceGoes t) :=
  (h.append (sliceGoes_keeps t)).mono

/-- A working core that is retired hands its work to the relief core. -/
theorem handedOver_sets {s : State} {i r : Nat} (hi : i < 4) (hr : r < 4) (hne : i ≠ r) (hlen : s.guard.cores.length = 4) :
    Keeps [.guard, .ev] s (handToRelief i r (setCore i .retired s)) ∧ (handToRelief i r (setCore i .retired s)).coreOf i = .retired ∧
    (handToRelief i r (setCore i .retired s)).coreOf r = .working ∧ (handToRelief i r (setCore i .retired s)).shows 187 := by
  have hcores := coreOf_handToRelief (c := i) hr (setCore i .retired s) (by rw [setCore_cores hi, List.length_set, hlen]; exact hr)
  refine ⟨((setCore_keeps hi .retired s).append (handToRelief_keeps i hr _)).mono, ?_, ?_, shows_raise 187 _⟩
  · rw [hcores, if_neg hne, coreOf_setCore_same hi _ (by omega)]
  · rw [hcores, if_pos rfl]

theorem onRegion_keeps (n : Nat) (f : Region → Region) (s : State) : Keeps [.comb] s (s.onRegion n f) := .of_only (onComb_only s _)

theorem region_onRegion_same (s : State) (n : Nat) (f : Region → Region) : (s.onRegion n f).region n = f (s.region n) := by
  simp [State.region, State.onRegion, State.onComb]

theorem region_eq {s t : State} (h : t.comb = s.comb) (n : Nat) : t.region n = s.region n := by simp [State.region, h]

/-! ### Migrations and test results (16 R494-R500) -/

/-- The migration in hand serves from the spare and the unit's test begins. -/
def migrated (x : Slice) (s : State) : State :=
  withSlice { x with stage := 2, shadow := false } (assignSpare x.kind (x.spare.getD 0) (some x.index) (raise 294 (tick 168 noUnit 1 s)))

section
variable {s : State} {x : Slice} (hslice : s.test.slice = some x)
include hslice

theorem shadowStarts_eq (hstage : x.stage ≠ 2) (hshadow : x.shadow = false)
    (hdue : x.handover ≤ s.now + shadowBeats s x.kind x.index) : shadowStarts s = withSlice { x with shadow := true } s := by
  unfold shadowStarts
  simp only [hslice]
  exact if_pos (by simp [hstage, hshadow, hdue])

theorem handover_spares (hstage : x.stage ≠ 2) (hshadow : x.shadow = true) (hdue : x.handover ≤ s.now) (hspare : x.toSpare = true)
    (hhold : x.hold = false) : handover s = migrated x s := by
  unfold handover
  simp only [hslice]
  rw [if_pos (by simp [hstage, hshadow, hdue]), if_pos hspare, if_neg (by simp [hhold])]
  rfl

theorem migrationAborts_eq (hstage : x.stage ≠ 2) (hshadow : x.shadow = true) :
    migrationAborts s = raise 295 (endSlice (s.onTest fun v => { v with aborts := satAdd 32 v.aborts 1 })) := by
  unfold migrationAborts
  simp only [hslice]
  exact if_pos (by simp [hstage, hshadow])

end

theorem assignSpare_keeps (kind spare : Nat) (unit : Option Nat) (s : State) : Keeps [.test, .ev] s (assignSpare kind spare unit s) :=
  (onTest_keeps _ s).append (raise_keeps_ev (n := 297) (by decide) _)

/-- N24 takes a nurse unit's work. -/
theorem assignSpare_nurse (spare : Nat) (unit : Option Nat) (s : State) : (assignSpare 2 spare unit s).test = { s.test with n24 := unit } :=
  (raise_keeps_ev (n := 297) (by decide) _).parts .test (by decide)

theorem migrated_keeps (x : Slice) (s : State) : Keeps [.test, .ev, .tally] s (migrated x s) :=
  ((tick_keeps 168 noUnit 1 s).append ((raise_keeps_ev (n := 294) (by decide) _).append
    ((assignSpare_keeps _ _ _ _).append (withSlice_keeps _ _)))).mono

theorem migrated_nurse {x : Slice} (hkind : x.kind = 2) (s : State) : (migrated x s).test =
    { s.test with n24 := some x.index, slice := some { x with stage := 2, shadow := false } } := by
  have hkept := ((tick_keeps 168 noUnit 1 s).append (raise_keeps_ev (n := 294) (by decide) _)).parts .test (by decide)
  have hspare := assignSpare_nurse (x.spare.getD 0) (some x.index) (raise 294 (tick 168 noUnit 1 s))
  rw [show _ = _ from hkept, ← hkind] at hspare
  exact congrArg (fun v : Test => { v with slice := some { x with stage := 2, shadow := false } }) hspare

theorem migrated_shows (x : Slice) (s : State) : (migrated x s).shows 294 ∧ (migrated x s).shows 297 :=
  ⟨((assignSpare_keeps _ _ _ _).append (withSlice_keeps _ _)).shows 294 (shows_raise 294 _),
    (withSlice_keeps _ _).shows 297 (shows_raise 297 _)⟩

/-- The suspension of forager tests alone. -/
theorem refreshSuspension_test (s : State) : ∃ b, (refreshSuspension s).test = { s.test with forSuspended := b } := by
  have hstart := (fault_keeps 0x08 0 0 (s.onTest fun x => { x with forSuspended := true })).append (raise_keeps_ev (n := 296) (by decide) _)
  have hend := (resolveWhere_keeps false (fun x => x.code == 0x08 && x.unit == 0 * 4096 + 0)
    (s.onTest fun x => { x with forSuspended := false })).append (raise_keeps_ev (n := 296) (by decide) _)
  unfold refreshSuspension
  split_ifs
  · exact ⟨true, hstart.parts .test (by decide)⟩
  · exact ⟨false, hend.parts .test (by decide)⟩
  · exact ⟨s.test.forSuspended, rfl⟩

/-- A passed test of a unit is counted and shown, and the unit is no failed one. -/
def unitPassed (k i : Nat) (s : State) : State :=
  (slicePassed s).onTest fun v => { v with failedUnits := v.failedUnits.filter (· != (k, i)) }

/-- The unit of a failed test is on the list of failed units. -/
def Test.markFailed (k i : Nat) (v : Test) : Test :=
  if v.failedUnits.contains (k, i) then v else { v with failedUnits := (k, i) :: v.failedUnits }

theorem slicePassed_test (s : State) : (slicePassed s).test = { s.test with slices := satAdd 32 s.test.slices 1 } :=
  (raise_keeps_ev (n := 292) (by decide) _).parts .test (by decide)

theorem slicePassed_keeps (s : State) : Keeps [.test, .ev] s (slicePassed s) :=
  (onTest_keeps _ s).append (raise_keeps_ev (n := 292) (by decide) _)

theorem unitPassed_keeps (k i : Nat) (s : State) : Keeps [.test, .ev] s (unitPassed k i s) :=
  ((slicePassed_keeps s).append (onTest_keeps _ _)).mono

theorem unitPassed_test (k i : Nat) (s : State) : (unitPassed k i s).test =
    { s.test with slices := satAdd 32 s.test.slices 1, failedUnits := s.test.failedUnits.filter (· != (k, i)) } := by
  have htest := congrArg (fun v : Test => { v with failedUnits := v.failedUnits.filter (· != (k, i)) }) (slicePassed_test s)
  exact htest

theorem sliceFailed_keeps (k i : Nat) (s : State) : Keeps [.test, .guard, .hive, .ports, .ev] s (sliceFailed k i s) :=
  ((onTest_keeps _ s).append ((raise_keeps_ev (n := 293) (by decide) _).append (fault_keeps 0x07 k i _))).mono

theorem sliceFailed_test (k i : Nat) (s : State) : (sliceFailed k i s).test =
    { s.test with slices := satAdd 32 s.test.slices 1, failures := satAdd 32 s.test.failures 1 } := by
  have hkept := (raise_keeps_ev (n := 293) (by decide) (s.onTest fun v =>
    { v with slices := satAdd 32 v.slices 1, failures := satAdd 32 v.failures 1 })).append (fault_keeps 0x07 k i _)
  exact hkept.parts .test (by decide)

theorem sliceFailed_shows (k i : Nat) (s : State) : (sliceFailed k i s).shows 293 := (fault_keeps 0x07 k i _).shows 293 (shows_raise 293 _)

theorem markFailed_mem (k i : Nat) (v : Test) : (k, i) ∈ (v.markFailed k i).failedUnits := by
  unfold Test.markFailed
  split_ifs with h
  · exact List.contains_iff_mem.mp h
  · exact List.mem_cons_self

theorem markFailed_failures (k i : Nat) (v : Test) : (v.markFailed k i).failures = v.failures := by
  unfold Test.markFailed
  split_ifs <;> rfl

section
variable {s : State} {x : Slice} {one two : TestRun} (hslice : s.test.slice = some x) (hstage : x.stage = 2) (hkind : x.kind = 2)
include hslice hstage hkind

theorem testDone_passes (hone : testPasses 2 one = true) (hspare : x.spare = none) (hcarrier : carrier s 2 x.index = none) :
    testDone one two s = refreshSuspension (endSlice (unitPassed 2 x.index s)) := by
  have hcarrier' : carrier (unitPassed 2 x.index s) 2 x.index = none := by
    rw [carrier, unitPassed_test]
    exact hcarrier
  rw [unitPassed] at hcarrier' ⊢
  unfold testDone
  simp only [hslice]
  rw [if_neg (by simp [hstage, hkind])]
  simp only [hkind, hone, hspare, Bool.not_true, Bool.false_and, Bool.true_or, Bool.false_eq_true, if_false, if_true,
    show ¬(2 : Nat) = 5 by decide, hcarrier']

theorem testDone_fails (hone : testPasses 2 one = false) (htwo : testPasses 2 two = false) :
    testDone one two s = refreshSuspension (endSlice ((sliceFailed 2 x.index s).onTest (Test.markFailed 2 x.index))) := by
  unfold testDone
  simp only [hslice]
  rw [if_neg (by simp [hstage, hkind])]
  simp only [hkind, hone, htwo, Bool.not_false, Bool.and_false, Bool.or_self, Bool.false_eq_true, if_false,
    show ¬(2 : Nat) = 5 by decide]
  rfl

end

theorem endSlice_test (s : State) : (endSlice s).test = { s.test with
    slice := none, stings := s.test.stings.map fun g => { g with waits := false } } := rfl

/-! ### Stings (16 R503-R505) -/

/-- An occurrence of a sting is on the next frame of its unit. -/
def Test.onFrame (a : TestStingArgs) (v : Test) : Test :=
  { v with stings := v.stings.map fun y => if sameSting y.args a then { y with left := y.left - 1, due := true } else y }

theorem stingOccurs_frame {s : State} {i : Nat} {x : Sting} (hsting : s.test.stings[i]? = some x) (hwaits : x.waits = false)
    (hdue : x.due = false) (hmode : x.args.mode ≠ 2) (hpoint : x.args.point = 7) :
    stingOccurs i s = (tick 170 noUnit 1 s).onTest (Test.onFrame x.args) := by
  have hacts : ∀ t, stingActs x.args t = t := fun t => by simp [stingActs, hpoint]
  have hframes : onFrames x.args.point = true := by rw [hpoint]; decide
  unfold stingOccurs
  simp only [hsting]
  rw [if_neg (by simp [hwaits, hdue]), if_neg hmode, if_pos hframes, if_neg (show ¬x.args.point ≤ 2 by omega), hacts]
  rfl

theorem stingOccurs_ends {s : State} {i : Nat} {x : Sting} (hsting : s.test.stings[i]? = some x) (hwaits : x.waits = false)
    (hdue : x.due = false) (hmode : x.args.mode ≠ 2) (hpoint : x.args.point = 0x22) (hleft : x.left ≤ 1) :
    stingOccurs i s = endSting x.args (tick 170 noUnit 1 s) := by
  have hacts : ∀ t, stingActs x.args t = t := fun t => by simp [stingActs, hpoint]
  have hframes : ¬onFrames x.args.point = true := by rw [hpoint]; decide
  unfold stingOccurs
  simp only [hsting]
  rw [if_neg (by simp [hwaits, hdue]), if_neg hmode, if_neg hframes, if_pos hleft, if_neg (show ¬x.args.point ≤ 2 by omega), hacts]

/-- A sting leaves the list. -/
def Test.without (a : TestStingArgs) (v : Test) : Test := { v with stings := v.stings.filter fun x => !sameSting x.args a }

/-- The sting that withholds the hive's frames is over. -/
def withheldOver (a : TestStingArgs) (s : State) : State := (s.onTest (Test.without a)).onHive fun h => { h with withheld := false }

theorem endSting_withheld {a : TestStingArgs} (s : State) (hpoint : a.point = 0x22) : endSting a s = raise 299 (withheldOver a s) := by
  have hends : ∀ t, stingEnds a t = t.onHive fun h => { h with withheld := false } := fun t => by simp [stingEnds, hpoint]
  rw [endSting, hends]
  rfl

theorem withheldOver_keeps (a : TestStingArgs) (s : State) : Keeps [.test, .hive] s (withheldOver a s) :=
  (onTest_keeps _ s).append (onHive_keeps _ _)

theorem withheldOver_test (a : TestStingArgs) (s : State) : (withheldOver a s).test = s.test.without a := rfl

/-! ### A frame period of line bits (04 R102-R123) -/

/-- What a frame period of line bits writes. -/
def frameParts : List Part := [.lanes, .sdh, .paths, .pm, .tally, .ev, .guard, .hive, .power]

theorem onSdh_keeps (n : Nat) (f : SdhPort → SdhPort) (s : State) : Keeps frameParts s (s.onSdh n f) :=
  (Keeps.of_only (onSdh_only s n f)).mono

theorem onPath_keeps (n g : Nat) (f : SdhPath → SdhPath) (s : State) : Keeps frameParts s (s.onPath n g f) :=
  (Keeps.of_only (onPath_only s n g f)).mono

theorem pmAdd_keeps (e : Entity) (f : Prim → Prim) (s : State) : Keeps frameParts s (pmAdd e f s) := (Keeps.of_only (pmAdd_only e f s)).mono

theorem loopStores_keeps (n : Nat) (bits : List Byte) (s : State) : Keeps frameParts s (loopStores n bits s) := by
  unfold loopStores
  exact .when (onLane_keeps n _ s).mono

theorem paths_keeps (n : Nat) (f : SdhPath → SdhPath) (l : List Nat) (s : State) :
    Keeps frameParts s (l.foldl (fun s g => s.onPath n g f) s) := .foldl (fun s g => onPath_keeps n g f s) l s

theorem maskPort_keeps (n : Nat) (s : State) : Keeps frameParts s (maskPort n s) :=
  (onSdh_keeps n _ s).trans (paths_keeps n _ _ _)

theorem signalLost_keeps (n : Nat) (s : State) : Keeps frameParts s (signalLost n s) := (onSdh_keeps n _ s).trans (maskPort_keeps n _)

theorem rxVc_keeps (n g : Nat) (masked : Bool) (s : State) (vc : List Byte) : Keeps frameParts s (rxVc n g masked s vc) := by
  unfold rxVc
  have hpath := fun f f' => (onPath_keeps n g f s).trans (onPath_keeps n g f' _)
  exact .ite (hpath _ _) ((hpath _ _).trans (pmAdd_keeps _ _ _))

theorem rxAu_keeps (n : Nat) (masked : Bool) (rows : List (List Byte)) (s : State) (g : Nat) :
    Keeps frameParts s (rxAu n masked rows s g) := by
  have htick := fun b c => ((tickIf_keeps b 16 n s).trans (tickIf_keeps c 15 n _)).mono (qs := frameParts)
  unfold rxAu
  exact .ite ((htick _ _).trans ((onPath_keeps n g _ _).trans (.foldl (rxVc_keeps n g masked) _ _)))
    ((htick _ _).trans ((onPath_keeps n g _ _).trans (onPath_keeps n g _ _)))

theorem withSdhEvents_keeps (n : Nat) {f : State → State} {s : State} (h : Keeps frameParts s (f s)) :
    Keeps frameParts s (withSdhEvents n f s) :=
  h.trans (raiseIf_keeps_of _ (raise_keeps _ _).mono)

theorem rxSdhFrame_keeps (n : Nat) (bits : List Byte) (s : State) : Keeps frameParts s (rxSdhFrame n bits s) := by
  unfold rxSdhFrame
  split_ifs
  · exact .refl _ s
  · refine withSdhEvents_keeps n ?_
    have hstore := loopStores_keeps n (lineIn s n bits) s
    dsimp only
    refine .ite (hstore.trans (signalLost_keeps n _)) ?_
    split
    · have hpaths := fun f f' l => hstore.trans ((onSdh_keeps n f _).trans (paths_keeps n f' l _))
      exact .ite ((hpaths _ _ _).trans (maskPort_keeps n _)) (hpaths _ _ _)
    · refine .ite (hstore.trans ((onSdh_keeps n _ _).trans (maskPort_keeps n _))) ?_
      have hrs := fun f f' e g => hstore.trans (((onSdh_keeps n f _).trans (onSdh_keeps n f' _)).trans (pmAdd_keeps e g _))
      refine Keeps.trans ?_ (.foldl (rxAu_keeps n _ _) _ _)
      exact .ite (hrs _ _ _ _) ((hrs _ _ _ _).trans (pmAdd_keeps _ _ _))

/-- The one occurrence on a frame, and the last, ends with it. -/
theorem stingsSpent_last {s : State} {x : Sting} {here : TestStingArgs → Bool} (hsting : s.test.stings = [x]) (hdue : x.due = true)
    (hleft : x.left = 0) (hhere : here x.args = true) :
    (stingsSpent here s).test.stings = [] ∧ (stingsSpent here s).shows 299 := by
  have heq : stingsSpent here s =
      raise 299 (s.onTest fun t => { t with stings := t.stings.filter fun y => stingKey y.args != stingKey x.args }) := by
    simp [stingsSpent, stingSpent, hsting, hdue, hhere, hleft]
  rw [heq, (raise_keeps_ev (n := 299) (by decide) _).parts .test (by decide)]
  refine ⟨?_, shows_raise 299 _⟩
  simp [hsting]

/-! ### Tracers (16 R513-R515) -/

/-- A tag goes on all its legs. -/
def Test.tag (n g legs now : Nat) (v : Test) : Test :=
  { v with
    inFlight := List.replicate legs (v.nextTracer, n, g, v.lfsr % 783, now) ++ v.inFlight, nextTracer := (v.nextTracer + 1) % 2 ^ 32
    tagged := (v.tagged + 1) % 2 ^ 32, lfsr := lfsrStep v.lfsr, skipped := v.skipped % 2 ^ 32 }

theorem tracerTags_all {s : State} {n g : Nat} (hk : s.test.tracerK ≠ 0) (hn : n < 256) (hg : g < 192) (hworks : (s.lane n).works = true)
    (hmode : s.mode ≠ .lean) (hhit : s.test.lfsr % 2 ^ s.test.tracerK = 0) (hroom : s.test.inFlight.length + legsOf n g s ≤ 4096) :
    tracerTags n g s = s.onTest (Test.tag n g (legsOf n g s) s.now) := by
  have hlegs : legsOf n g s ≠ 0 := by
    unfold legsOf
    omega
  have hfree : min (legsOf n g s) (4096 - s.test.inFlight.length) = legsOf n g s := by omega
  unfold tracerTags
  dsimp only
  rw [if_neg (by simp [hk, hworks, hmode]; omega), if_neg (by simpa using hhit)]
  simp only [hfree, Nat.lt_irrefl, decide_false, raiseIf, Nat.sub_self, Nat.add_zero, if_neg hlegs]
  rfl

theorem ringPut_takes {p n : Nat} {s : State} (rec : List Byte) (h : ringTakes p n s = true) :
    ringPut p n rec s = s.onRing p n fun r => { r with cur := r.cur ++ [rec], wroteNow := true } := if_pos h

/-- A record leaves nothing of its tracer in flight. -/
def Test.recorded (id : Nat) (v : Test) : Test :=
  { v with inFlight := v.inFlight.filter fun e => e.1 != id, written := (v.written + 1) % 2 ^ 32 }

theorem tracerWrites_takes {id tx mask flags : Nat} {dts : List Nat} {s : State}
    (hfound : (s.test.inFlight.find? fun e => e.1 == id).isSome = true) (hflag : bit flags 3 = false)
    (htakes : ringTakes s.test.tracerPort 4 s = true) :
    ∃ rec, tracerWrites id tx mask flags dts s = (s.onTest (Test.recorded id)).onRing s.test.tracerPort 4 fun r =>
      { r with cur := r.cur ++ [rec], wroteNow := true } := by
  obtain ⟨e, he⟩ := Option.isSome_iff_exists.mp hfound
  have hid : e.1 = id := by simpa using List.find?_some he
  have hdone : ∀ l, recordDone e flags l = l.filter fun x => x.1 != id := fun l => by simp [recordDone, hflag, hid]
  refine ⟨tracerRecord e tx mask flags dts, ?_⟩
  unfold tracerWrites
  simp only [he, hdone]
  exact (if_pos htakes).trans (ringPut_takes _ htakes)

theorem onRing_keeps (p n : Nat) (f : Ring → Ring) (s : State) : Keeps [.ports] s (s.onRing p n f) := onPort_keeps _ _ s

theorem test_counted_changes {s t : State} (h : Keeps [.test] s t) : onlyChanges [.test, .ev, .tally] s (counted s t) :=
  counted_changes h.parts

/-- Settles O56. A slot goes by the unit that the schedule names, a test by its runs, and the migrations and stings by the record that each
leaves. The LFSR's step, the legs that a tag goes on, the sources 294 and 297 at a handover, and the frames that a sting acts on are the
model's reading (NOTES.md, log 82, 152, 83 and 84). -/
theorem testEvents : Obligations.TestEvents := by
  intro s
  refine ⟨fun k i hserving hrun hidle hmode hpos hunit hunstung hforager => ?slot,
    fun hserving hrun hslice => ⟨counted s (sliceSlot s), rfl, ?skip⟩,
    fun x hslice hstage hshadow hdue => ⟨counted s (shadowStarts s), rfl, ?shadow⟩,
    fun x hslice hkind hstage hshadow hdue hspare hhold => ⟨counted s (handover s), rfl, ?handover⟩,
    fun x hslice hstage hshadow => ⟨counted s (migrationAborts s), rfl, ?abort⟩,
    fun x one two hslice hstage hkind hone hspare hcarrier => ⟨counted s (testDone one two s), rfl, ?passed⟩,
    fun x one two hslice hstage hkind hone htwo => ⟨counted s (testDone one two s), rfl, ?failed⟩,
    fun i x hsting hwaits hdue hmode => ⟨fun hpoint => ⟨counted s (stingOccurs i s), rfl, ?onFrame⟩,
      fun hpoint hleft => ⟨counted s (stingOccurs i s), rfl, ?withheld⟩⟩,
    fun n x bits hsting hdue hleft hhere => ⟨counted s (stingsSpent (onLaneFrame n) (rxSdhFrame n bits s)), rfl, ?spent⟩,
    fun n g hk hn hg hworks hmode hhit hroom => ⟨counted s (tracerTags n g s), rfl, ?tag⟩,
    fun id tx mask flags dts hfound hflag htakes => ⟨counted s (tracerWrites id tx mask flags dts s), rfl, ?record⟩⟩
  case slot =>
    have hcan : CanSlice (slotTaken s) k i := CanSlice.slotTaken ⟨hidle, hmode, sliceUnit_exists hpos hunit, hunstung, hforager⟩
    have hstarts := fun t (h : startSlice k i (slotTaken s) = some t) => sliceSlot_starts hserving hrun hunit h
    have hcount := fun u => (shows_counted 291 s (sliceGoes u) (by decide)).mpr (sliceGoes_shows u)
    refine ⟨fun sp hkind hcarrier hfailed hbusy hspare => ⟨counted s (sliceSlot s), rfl, ?migrates⟩,
      fun hkind hcarrier hfailed hbusy hf32 hf33 hn24 => ⟨counted s (sliceSlot s), rfl, ?inPlace⟩,
      fun hkind hcore => ⟨counted s (sliceSlot s), rfl, ?relief⟩,
      fun r hkind hlen hcore hrelief => ⟨counted s (sliceSlot s), rfl, ?core⟩,
      fun hkind hfailed => ⟨counted s (sliceSlot s), rfl, ?region⟩⟩
    case migrates =>
      have hkept : Keeps [.test] s (armMigration k i sp true false (slotTaken s)) := (slotTaken_keeps s).trans (onTest_keeps _ _)
      rw [hstarts _ (startSlice_migrates hcan hkind hcarrier hfailed hbusy hspare), counted_test, sliceGoes_test]
      exact ⟨counted_changes (sliceGoes_from hkept).parts, rfl, hcount _⟩
    case inPlace =>
      have hkept := fun x => (slotTaken_keeps s).trans (withSlice_keeps x _)
      rw [hstarts _ (startSlice_inPlace hcan hkind hcarrier hfailed hbusy hf32 hf33 hn24), counted_test, sliceGoes_test]
      exact ⟨counted_changes (sliceGoes_from (hkept _)).parts, rfl, hcount _⟩
    case relief =>
      have hkept := fun x => (slotTaken_keeps s).trans (withSlice_keeps x _)
      rw [hstarts _ (startSlice_relief hcan hkind hcore), counted_test, sliceGoes_test]
      exact ⟨counted_changes (sliceGoes_from (hkept _)).parts, rfl, hcount _⟩
    case core =>
      have hi : i < 4 := by
        rcases unitExists_cases hcan.unit with h | h | h | h <;> omega
      obtain ⟨hr, hrcore⟩ := reliefCore_lt hrelief
      have hne : i ≠ r := by
        rintro rfl
        rw [hcore] at hrcore
        exact absurd hrcore (by decide)
      obtain ⟨hkept, hretired, hworks, hshows⟩ := handedOver_sets (s := slotTaken s) hi hr hne hlen
      have hgoes := (sliceGoes_keeps (handToRelief i r (setCore i .retired (slotTaken s)))).append
        (onTest_keeps (Test.withSlice ⟨5, i, some r, 2, s.now, false, true, false⟩) _)
      have hcores := fun c => coreOf_eq (congrArg Guard.cores (hgoes.parts .guard (by decide))) c
      have htest : ((sliceGoes (handToRelief i r (setCore i .retired (slotTaken s)))).onTest
          (Test.withSlice ⟨5, i, some r, 2, s.now, false, true, false⟩)).test =
          (slotTaken s).test.withSlice ⟨5, i, some r, 2, s.now, false, true, false⟩ :=
        congrArg (Test.withSlice _) ((sliceGoes_test _).trans (hkept.parts .test (by decide)))
      rw [hstarts _ (startSlice_core hcan hkind hcore hrelief), coreOf_counted, coreOf_counted, counted_test]
      exact ⟨counted_changes (((slotTaken_keeps s).append hkept).append hgoes).parts, (hcores i).trans hretired, (hcores r).trans hworks,
        htest, (shows_counted 187 s _ (by decide)).mpr (hgoes.shows 187 hshows),
        (shows_counted 291 s _ (by decide)).mpr ((onTest_keeps _ _).shows 291 (sliceGoes_shows _))⟩
    case region =>
      have hkept := fun x f => ((slotTaken_keeps s).trans (withSlice_keeps x _)).append ((onRegion_keeps i f _).append (sliceGoes_keeps _))
      rw [hstarts _ (startSlice_region hcan hkind hfailed), region_eq (counted_comb s _),
        region_eq ((sliceGoes_keeps _).parts .comb (by decide)), region_onRegion_same, counted_test, sliceGoes_test]
      exact ⟨counted_changes (hkept _ _).parts, rfl, rfl, hcount _⟩
  case skip =>
    have hkept : Keeps [.test] s (slotSkipped s) := (slotTaken_keeps s).trans (onTest_keeps _ _)
    rw [sliceSlot_skips hserving hrun hslice, counted_test]
    exact ⟨test_counted_changes hkept, rfl⟩
  case shadow =>
    rw [shadowStarts_eq hslice hstage hshadow hdue, counted_test]
    exact ⟨test_counted_changes (withSlice_keeps _ s), rfl⟩
  case handover =>
    obtain ⟨hhandover, hspared⟩ := migrated_shows x s
    rw [handover_spares hslice hstage hshadow hdue hspare hhold, counted_test, migrated_nurse hkind]
    exact ⟨counted_changes (migrated_keeps x s).parts, rfl, rfl, (shows_counted 294 s _ (by decide)).mpr hhandover,
      (shows_counted 297 s _ (by decide)).mpr hspared⟩
  case abort =>
    have hraise := raise_keeps_ev (n := 295) (by decide) (endSlice (s.onTest fun v => { v with aborts := satAdd 32 v.aborts 1 }))
    have hkept := (onTest_keeps (fun v => { v with aborts := satAdd 32 v.aborts 1 }) s).trans (endSlice_keeps _)
    rw [migrationAborts_eq hslice hstage hshadow, counted_test, hraise.parts .test (by decide)]
    exact ⟨counted_changes (hkept.append hraise).parts, rfl, rfl, (shows_counted 295 s _ (by decide)).mpr (shows_raise 295 _)⟩
  case passed =>
    have hends := (endSlice_keeps (unitPassed 2 x.index s)).append (refreshSuspension_keeps _)
    obtain ⟨b, htest⟩ := refreshSuspension_test (endSlice (unitPassed 2 x.index s))
    rw [testDone_passes hslice hstage hkind hone hspare hcarrier, counted_test, htest, endSlice_test, unitPassed_test]
    refine ⟨counted_changes ((unitPassed_keeps 2 x.index s).append hends).parts, rfl, rfl, fun hmem => ?_,
      (shows_counted 292 s _ (by decide)).mpr (hends.shows 292 ((onTest_keeps _ _).shows 292 (shows_raise 292 _)))⟩
    exact absurd (List.mem_filter.mp hmem).2 (by simp)
  case failed =>
    have hends := (onTest_keeps (Test.markFailed 2 x.index) (sliceFailed 2 x.index s)).append
      ((endSlice_keeps _).append (refreshSuspension_keeps _))
    obtain ⟨b, htest⟩ := refreshSuspension_test (endSlice ((sliceFailed 2 x.index s).onTest (Test.markFailed 2 x.index)))
    have hmarked : ((sliceFailed 2 x.index s).onTest (Test.markFailed 2 x.index)).test =
      Test.markFailed 2 x.index (sliceFailed 2 x.index s).test := rfl
    have hfailures := markFailed_failures 2 x.index (sliceFailed 2 x.index s).test
    rw [sliceFailed_test] at hfailures hmarked
    rw [testDone_fails hslice hstage hkind hone htwo, counted_test, htest, endSlice_test, hmarked]
    exact ⟨counted_changes ((sliceFailed_keeps 2 x.index s).append hends).parts, rfl, hfailures, markFailed_mem _ _ _,
      (shows_counted 293 s _ (by decide)).mpr (hends.shows 293 (sliceFailed_shows _ _ _))⟩
  case onFrame =>
    have hkept := (tick_keeps 170 noUnit 1 s).append (onTest_keeps (Test.onFrame x.args) _)
    have htest : ((tick 170 noUnit 1 s).onTest (Test.onFrame x.args)).test = s.test.onFrame x.args :=
      congrArg (Test.onFrame x.args) ((tick_keeps 170 noUnit 1 s).parts .test (by decide))
    rw [stingOccurs_frame hsting hwaits hdue hmode hpoint, counted_test, htest]
    exact ⟨counted_changes hkept.parts, rfl⟩
  case withheld =>
    have hleaves : Keeps [.tally, .test, .hive] s (withheldOver x.args (tick 170 noUnit 1 s)) :=
      (tick_keeps 170 noUnit 1 s).append (withheldOver_keeps x.args _)
    have hraise := raise_keeps_ev (n := 299) (by decide) (withheldOver x.args (tick 170 noUnit 1 s))
    have htick : (tick 170 noUnit 1 s).test = s.test := (tick_keeps 170 noUnit 1 s).parts .test (by decide)
    rw [stingOccurs_ends hsting hwaits hdue hmode hpoint hleft, endSting_withheld _ hpoint, counted_hive, counted_test,
      hraise.parts .hive (by decide), hraise.parts .test (by decide), withheldOver_test, htick]
    exact ⟨counted_changes (hleaves.append hraise).parts, rfl, rfl, (shows_counted 299 s _ (by decide)).mpr (shows_raise 299 _)⟩
  case spent =>
    have hframe : (rxSdhFrame n bits s).test.stings = [x] := by
      rw [(rxSdhFrame_keeps n bits s).parts .test (by decide), hsting]
    obtain ⟨hnone, hshows⟩ := stingsSpent_last hframe hdue hleft hhere
    rw [counted_test]
    exact ⟨hnone, (shows_counted 299 s _ (by decide)).mpr hshows⟩
  case tag =>
    rw [tracerTags_all hk hn hg hworks hmode hhit hroom, counted_test]
    exact ⟨test_counted_changes (onTest_keeps _ s), rfl, rfl, rfl⟩
  case record =>
    obtain ⟨rec, heq⟩ := tracerWrites_takes (tx := tx) (mask := mask) (dts := dts) hfound hflag htakes
    have hring := onRing_keeps s.test.tracerPort 4 (fun r => { r with cur := r.cur ++ [rec], wroteNow := true })
      (s.onTest (Test.recorded id))
    rw [heq, counted_test, hring.parts .test (by decide)]
    refine ⟨counted_changes ((onTest_keeps _ s).append hring).parts, rfl, fun e he => ?_⟩
    exact (bne_iff_ne (a := e.1)).mp (List.mem_filter.mp he).2

end Sys2Proof.Machine
end

section
/-!
PROOFS. The commands of the hive and power services (12 R358-R374; 18 R549-R560). O16.
-/

namespace Sys2Proof.Machine

open Sys2Proof

/-! ### The settings of the hive and of the power unit -/

/-- What a mirrored write leaves of the hive's record (12 R363). -/
structure Hive.SameSettings (h h' : Hive) : Prop where
  cfg : h'.cfg = h.cfg
  token : h'.token = h.token
  role : h'.role = h.role

theorem mirrorSend_settings (rec : MirrorRec) (s : State) : s.hive.SameSettings (mirrorSend rec s).hive := by
  unfold mirrorSend
  split_ifs <;> exact ⟨rfl, rfl, rfl⟩

theorem writeLive_settings (ls : List Live) (s : State) : (applyLives ls s).hive.SameSettings (writeLive ls s).hive := by
  unfold writeLive
  split_ifs with hnil
  · subst hnil
    exact ⟨rfl, rfl, rfl⟩
  · exact mirrorSend_settings _ _

theorem hiveConfigAct_sets {a : HiveConfigArgs} {s : State} (hrole : s.hive.role ≠ .standby) (hwindow : a.bbWindow ≤ 100)
    (hlo : 1 ≤ a.bbLanes) (hhi : a.bbLanes ≤ 256) :
    hiveConfigAct a s = okStatus (writeLive [.hiveConfig { a with flags := a.flags % 4 }] s) :=
  (if_neg hrole).trans (if_neg (by simp [outside_eq_false.mpr ⟨hlo, hhi⟩, hwindow]))

theorem powerConfigAct_sets {a : PowerConfigArgs} {s : State} (hmax : 1 ≤ a.leanMax ∧ a.leanMax ≤ 10000)
    (hexit : 10 ≤ a.exitHold ∧ a.exitHold ≤ 10000) (hwake : 100 ≤ a.wakeHold ∧ a.wakeHold ≤ 60000) (hlimit : a.powerLimit ≤ 100000) :
    powerConfigAct a s = okStatus (writeLive [.powerConfig { a with flags := a.flags % 8 }] s) :=
  if_neg (by simp [outside_eq_false.mpr hmax, outside_eq_false.mpr hexit, outside_eq_false.mpr hwake, hlimit])

theorem liveHiveConfig_only (a : HiveConfigArgs) (s : State) : onlyChanges [.hive] s (liveHiveConfig a s) := (onHive_keeps _ s).parts

theorem livePowerConfig_only (a : PowerConfigArgs) (s : State) : onlyChanges [.power] s (livePowerConfig a s) := (onPower_keeps _ s).parts

/-- The flag for adaptive voltage is one of the three that are kept. -/
theorem bit_mod_flags (x : Nat) : bit (x % 8) 2 = bit x 2 := by
  have hmod := Nat.testBit_mod_two_pow x 3 2
  simpa [bit] using hmod

/-- The setting without adaptive voltage takes the setpoint back to 800 mV (18 R556). -/
theorem livePowerConfig_setpoint {a : PowerConfigArgs} (s : State) (h : bit a.flags 2 = false) :
    (livePowerConfig { a with flags := a.flags % 8 } s).power.setpoint = 800 :=
  if_neg (by rw [bit_mod_flags, h]; decide)

/-! ### hive.join and hive.switch (12 R358, R371, R374) -/

theorem hiveJoinAct_waits {h : Hdr} {s : State} (hmode : s.mode = .provision) (hidle : s.clk.started = false)
    (hxo : s.scout.dpllCfg.xoFreq ≠ 0) (hfree : s.hive.joining = none) (hnone : s.hive.joinMode = false) :
    hiveJoinAct h 1 s = .later (s.onHive fun v => { v with joining := some ⟨h, 11, 2, .join⟩ }) := by
  unfold hiveJoinAct
  rw [if_neg (by decide), if_neg (by decide), if_neg (by simp [hmode, hidle, hxo]), if_neg (by simp [hfree, hnone])]

theorem hiveSwitchAct_waits {h : Hdr} {s : State} (hfree : s.hive.switchPend = none) (htoken : s.hive.token = true) :
    hiveSwitchAct h 2 0 s = .later (s.onHive fun v => { v with switchPend := some (2, s.now + 8, some ⟨h, 11, 3, .hiveSwitch⟩) }) := by
  have hop : switchOp 2 s = some 2 := by simp [switchOp, htoken]
  unfold hiveSwitchAct
  simp only [Nat.zero_mod, switchBeat, if_pos, hop]
  rw [if_neg (by decide), if_neg (by simp [hfree])]

/-- An entry that leaves the queue unlogged leaves the ports. -/
theorem resolveEntry_unlogged_keeps (e : Nat) (s : State) : Keeps [.guard, .ev] s (resolveEntry e false s) := by
  by_cases h : (s.fqe e).valid = true
  · rw [resolveEntry_unlogged h]
    exact ((onGuard_keeps _ s).append (raise_keeps_guard (n := 213) (by decide) (by decide) _)).mono
  · rw [resolveEntry, if_neg h]
    exact .refl _ s

theorem resolveWhere_unlogged_keeps (f : FqEntry → Bool) (s : State) : Keeps [.guard, .ev] s (resolveWhere false f s) := by
  unfold resolveWhere
  exact .foldl (fun s e => .when (resolveEntry_unlogged_keeps e s)) _ s

/-- An entry is resolved, and the others stand. -/
theorem fqe_resolveEntry {e : Nat} {s : State} (h : (s.fqe e).valid = true) (x : Nat) :
    (resolveEntry e false s).fqe x = if x = e then {} else s.fqe x := by
  rw [resolveEntry_unlogged h, fqe_of_faults (guardFaults_raise 213 _)]
  exact tget_tput {} s.guard.fq e x {}

/-- No entry that the test picks out stays in the queue. -/
theorem resolveWhere_resolves (f : FqEntry → Bool) (s : State) {e : Nat} (he : e < 16)
    (hvalid : ((resolveWhere false f s).fqe e).valid = true) : f ((resolveWhere false f s).fqe e) = false := by
  suffices h : ∀ (l : List Nat) (t : State), (e ∈ l ∨ ((t.fqe e).valid = true → f (t.fqe e) = false)) →
      ∀ u, u = l.foldl (fun s e => if (s.fqe e).valid && f (s.fqe e) then resolveEntry e false s else s) t →
        (u.fqe e).valid = true → f (u.fqe e) = false from
    h (List.range 16) s (.inl (List.mem_range.mpr he)) _ rfl hvalid
  intro l
  induction l with
  | nil =>
    rintro t (hmem | hdone) u rfl
    · exact absurd hmem (List.not_mem_nil)
    · exact hdone
  | cons x l ih =>
    intro t ht u hu
    rw [List.foldl_cons] at hu
    refine ih _ ?_ u hu
    by_cases hpick : ((t.fqe x).valid && f (t.fqe x)) = true
    · obtain ⟨hxvalid, -⟩ := Bool.and_eq_true_iff.mp hpick
      rw [if_pos hpick, fqe_resolveEntry hxvalid]
      by_cases hex : e = x
      · right
        rw [if_pos hex]
        intro h
        exact absurd h (by decide)
      · rw [if_neg hex]
        exact ht.imp_left fun h => (List.mem_cons.mp h).resolve_left hex
    · rw [if_neg hpick]
      by_cases hex : e = x
      · right
        subst hex
        intro h
        simpa [h] using hpick
      · exact ht.imp_left fun h => (List.mem_cons.mp h).resolve_left hex

/-- The egress fault is cleared. -/
def Hive.egressClears (h : Hive) : Hive := { h with egressFault := false, egressOk := h.egressOk || h.egressFault }

/-- The entries that stand for it. -/
def egressPicks (x : FqEntry) : Bool := x.code == 0x15 && x.unit == 0 * 4096 + 0

theorem clearEgress_eq (s : State) : clearEgress s = resolveWhere false egressPicks (s.onHive Hive.egressClears) := rfl

theorem clearEgress_keeps (s : State) : Keeps [.hive, .guard, .ev] s (clearEgress s) := by
  rw [clearEgress_eq]
  exact (onHive_keeps _ s).append (resolveWhere_unlogged_keeps _ _)

theorem clearEgress_hive (s : State) : (clearEgress s).hive = s.hive.egressClears := by
  rw [clearEgress_eq, show _ = _ from (resolveWhere_unlogged_keeps egressPicks _).parts .hive (by decide)]
  rfl

theorem joinFields_clearEgress (s : State) : joinFields (clearEgress s) = joinFields s := by
  rw [joinFields, clearEgress_hive]
  rfl

theorem clearEgress_fqe {s : State} {e : Nat} (he : e < 16) (hvalid : ((clearEgress s).fqe e).valid = true)
    (hcode : ((clearEgress s).fqe e).code = 0x15) : ((clearEgress s).fqe e).unit ≠ 0 := by
  rw [clearEgress_eq] at hvalid hcode ⊢
  have hnone := resolveWhere_resolves egressPicks _ he hvalid
  simpa [egressPicks, hcode] using hnone

/-! ### power.table (18 R549) -/

theorem powerTableAct_stores {h : Hdr} {a : PowerTableArgs} {s : State} (hop : a.op = 1) (hslot : a.slot ≤ 15)
    (hbad : badPowerEntry a.entry = false) (hmoves : entryMoves a.entry (s.powerEntry a.slot) = false) :
    powerTableAct h a s = .ok (powerTableFields a.slot (s.onPower fun p =>
      { p with table := tput (factoryEntry a.slot) p.table a.slot a.entry })) (s.onPower fun p =>
        { p with table := tput (factoryEntry a.slot) p.table a.slot a.entry }) := by
  unfold powerTableAct
  rw [if_neg (by simp [hop, hslot, hbad])]
  simp only [hop]
  exact if_neg (by simp [hmoves])

theorem powerTableAct_saves {h : Hdr} {a : PowerTableArgs} {s : State} (hop : a.op = 2) (hslot : a.slot ≤ 15)
    (hbad : badPowerEntry a.entry = false) (hfree : s.sec.saving = []) : powerTableAct h a s =
      .later (s.onSec fun c => { c with saving := c.saving ++ [(3, stOk, ⟨h, 12, 2, .powerTable a.slot a.entry⟩)] }) := by
  unfold powerTableAct
  rw [if_neg (by simp [hop, hslot, hbad])]
  simp only [hop]
  exact if_neg (by simp [hfree])

theorem powerEntry_eq {s t : State} (h : t.power = s.power) (slot : Nat) : t.powerEntry slot = s.powerEntry slot := by
  simp [State.powerEntry, h]

theorem powerEntry_stored (s : State) (slot : Nat) (e : PowerEntry) :
    (s.onPower fun p => { p with table := tput (factoryEntry slot) p.table slot e }).powerEntry slot = e :=
  tget_tput_same (factoryEntry slot) s.power.table slot e

/-- Settles O16: the settings are class L writes that the mirror takes, and hive.join, hive.switch and a save wait for their ends. -/
theorem hiveAndPowerCommands : Obligations.HiveAndPowerCommands := by
  intro h s hs
  refine ⟨fun a hown hrole hwindow hlo hhi => ?hiveConfig, fun hown hmode hidle hxo hfree hnone => ?join, fun hown => ?egress,
    fun hown hfree htoken => ?switch, fun a hown hmaxlo hmaxhi hexitlo hexithi hwakelo hwakehi hlimit => ?powerConfig,
    fun a hown hop hslot hbad hmoves => ?table, fun a hown hop hslot hbad hfree => ?save⟩
  case hiveConfig =>
    obtain ⟨u, hu, hans, hparts, hkeep⟩ := exec_answers (i := .hiveConfig h a) (ps := [.hive] ++ [.hive]) hs rfl hown
      (fun hcap => nomatch hcap) (hiveConfigAct_sets hrole hwindow hlo hhi)
      (writeLive_only (ps := [.hive]) (liveHiveConfig_only _ s)) (by decide)
    obtain ⟨hcfg, htoken, hrole'⟩ := writeLive_settings [.hiveConfig { a with flags := a.flags % 4 }] s
    have hhive := hkeep .hive (by decide)
    refine ⟨u, hu, hans, onlyChanges_mono hparts (by decide), ?_, ?_, ?_⟩
    · rw [show u.hive = _ from hhive, hcfg]
      rfl
    · rw [show u.hive = _ from hhive, htoken]
      rfl
    · rw [show u.hive = _ from hhive, hrole']
      rfl
  case join =>
    obtain ⟨u, hu, hparts, hkeep⟩ := exec_waits (i := .hiveJoin h 1) hs rfl hown (fun hcap => nomatch hcap)
      (hiveJoinAct_waits hmode hidle hxo hfree hnone) (onHive_keeps _ s).parts
    exact ⟨u, hu, hparts, hkeep .hive (by decide)⟩
  case egress =>
    obtain ⟨u, hu, hans, -, hkeep⟩ := exec_answers (i := .hiveJoin h 2) (fs := joinFields (clearEgress s)) (t := clearEgress s) hs rfl hown
      (fun hcap => nomatch hcap) rfl (clearEgress_keeps s).parts (by decide)
    have hqueue : ∀ e, u.fqe e = (clearEgress s).fqe e := fun e => fqe_eq (congrArg Guard.fq (hkeep .guard (by decide))) e
    have hhive : u.hive = s.hive.egressClears := (hkeep .hive (by decide)).trans (clearEgress_hive s)
    refine ⟨u, hu, joinFields_clearEgress s ▸ hans, ?_, fun e he hvalid hcode => ?_⟩
    · rw [hhive]
      rfl
    · rw [hqueue] at hvalid hcode ⊢
      exact clearEgress_fqe he hvalid hcode
  case switch =>
    obtain ⟨u, hu, hparts, hkeep⟩ := exec_waits (i := .hiveSwitch h 2 0) hs rfl hown (fun hcap => nomatch hcap)
      (hiveSwitchAct_waits hfree htoken) (onHive_keeps _ s).parts
    exact ⟨u, hu, hparts, hkeep .hive (by decide)⟩
  case powerConfig =>
    obtain ⟨u, hu, hans, hparts, hkeep⟩ := exec_answers (i := .powerConfig h a) (ps := [.power] ++ [.hive]) hs rfl hown
      (fun hcap => nomatch hcap) (powerConfigAct_sets ⟨hmaxlo, hmaxhi⟩ ⟨hexitlo, hexithi⟩ ⟨hwakelo, hwakehi⟩ hlimit)
      (writeLive_only (ps := [.power]) (livePowerConfig_only _ s)) (by decide)
    have hpower : u.power = (livePowerConfig { a with flags := a.flags % 8 } s).power :=
      (hkeep .power (by decide)).trans (writeLive_applies [.powerConfig { a with flags := a.flags % 8 }] s .power (by decide))
    refine ⟨u, hu, hans, hparts, ?_⟩
    rw [hpower]
    exact ⟨rfl, livePowerConfig_setpoint s, rfl, rfl⟩
  case table =>
    obtain ⟨u, hu, hans, hparts, hkeep⟩ := exec_answers (i := .powerTable h a) (ps := [.power]) hs rfl (by simp [hown])
      (fun hcap => nomatch hcap) (powerTableAct_stores hop hslot hbad hmoves) (onPower_keeps _ s).parts (by decide)
    have hpower := hkeep .power (by decide)
    rw [powerTableFields, powerEntry_stored] at hans
    exact ⟨u, hu, hans, hparts, (powerEntry_eq hpower _).trans (powerEntry_stored s _ _), (congrArg Power.rails hpower :)⟩
  case save =>
    obtain ⟨u, hu, hparts, hkeep⟩ := exec_waits (i := .powerTable h a) hs rfl (by simp [hown]) (fun hcap => nomatch hcap)
      (powerTableAct_saves hop hslot hbad hfree) (onSec_keeps _ s).parts
    refine ⟨u, hu, hparts, (hkeep .sec (by decide)).trans ?_⟩
    show ({ s.sec with saving := s.sec.saving ++ _ } : Sec) = _
    rw [hfree]
    rfl

end Sys2Proof.Machine
end

section
/-!
PROOFS. The commands of the test and tally services (16 R491-R513). O17.
-/

namespace Sys2Proof.Machine

open Sys2Proof

/-! ### What an answered command shows -/

/-- A command's answer, by the state that its own rules gave. -/
structure Answers (h : Hdr) (svc cmd : Nat) (fs : Fields) (ps : List Part) (s t u : State) : Prop where
  answer : answered h svc cmd stOk fs s u
  parts : onlyChanges (ps ++ replyParts) s u
  keeps : onlyChanges replyParts t u
  shows : ∀ n, n < 243 ∨ 274 < n → t.shows n → u.shows n

theorem exec_answers_keeps {i : Instr} {h : Hdr} {svc cmd : Nat} {locked cap : Bool} {shape fs : Fields} {act : Act} {ps : List Part}
    {s t : State} (hs : heard h s) (he : exec i s = done s (serve h svc cmd locked cap shape act s)) (hl : locked = false)
    (hc : cap = true → mayCap s) (ha : act = .ok fs t) (hp : onlyChanges ps s t) (hports : .ports ∉ ps) :
    ∃ u, exec i s = .next u ∧ Answers h svc cmd fs ps s t u := by
  obtain ⟨u, hu, hans, hparts, hkeep⟩ := exec_answers hs he hl hc ha hp hports
  refine ⟨u, hu, hans, hparts, hkeep, fun n hn hshows => ?_⟩
  subst hl ha
  obtain rfl : counted s (serve h svc cmd false cap shape (.ok fs t) s) = u := Host.Outcome.next.inj (he.symm.trans hu)
  rw [serve_ok hs hc]
  have hlease : Keeps [.sems] t (renewLeases h.port t) := .of_only (renewLeases_only h.port t)
  exact (shows_counted n s _ hn).mpr ((publishRsp_keeps _ _ _ _).shows n (hlease.shows n hshows))

/-! ### The test service (16 R491-R513) -/

theorem badBist_eq_false {a : TestBistArgs} (hcycle : 1 ≤ a.cycleHours ∧ a.cycleHours ≤ 48)
    (hsram : 1 ≤ a.sramInterval ∧ a.sramInterval ≤ 8000) : badBist a = false := by
  simp [badBist, outside_eq_false.mpr hcycle, outside_eq_false.mpr hsram]

/-- The intervals of the schedule. -/
def Test.timed (a : TestBistArgs) (v : Test) : Test := { v with cycleHours := a.cycleHours, sramInterval := a.sramInterval }

theorem testBistAct_times {a : TestBistArgs} {s : State} (hop : a.op = 1) (hbad : badBist a = false) :
    testBistAct a s = .ok (bistFields s) (s.onTest (Test.timed a)) := by
  unfold testBistAct
  dsimp only
  rw [if_neg (by simp [hbad])]
  simp only [hop]
  rfl

theorem testBistAct_suspends {a : TestBistArgs} {s : State} (hop : a.op = 3 ∨ a.op = 4) (hbad : badBist a = false) :
    testBistAct a s = .ok (bistFields (suspendBist (a.op == 3) s)) (suspendBist (a.op == 3) s) := by
  unfold testBistAct
  dsimp only
  rw [if_neg (by simp [hbad])]
  rcases hop with hop | hop <;> simp only [hop] <;> rfl

theorem suspendBist_keeps (on : Bool) (s : State) : Keeps [.test, .ev] s (suspendBist on s) :=
  (onTest_keeps _ s).append (raiseIf_keeps_of _ (raise_keeps_ev (n := 296) (by decide) _))

theorem suspendBist_test (on : Bool) (s : State) : (suspendBist on s).test = { s.test with suspended := on } :=
  (raiseIf_keeps_of _ (raise_keeps_ev (n := 296) (by decide) _)).parts .test (by decide)

theorem bistFields_eq {s t : State} (h : t.test = s.test) : bistFields t = bistFields s := by simp [bistFields, bistState, h]

theorem stingFields_eq {s t : State} (h : t.test = s.test) : stingFields t = stingFields s := by simp [stingFields, h]

/-- The record with a sting for one occurrence. -/
def Test.stung (a : TestStingArgs) (v : Test) : Test :=
  { v with stings := (v.stings.filter fun x => !sameSting x.args a) ++ [{ args := a, left := 1, waits := false }] }

theorem testStingAct_stings {a : TestStingArgs} {s : State} (hpoint : a.point = 0x10) (hunit : a.unit < 64) (hsub : a.sub ≤ 1)
    (hmode : a.mode = 1) (hlife : s.sec.life ≠ 1) (hroom : s.test.stings.length < 64) :
    testStingAct a s = .ok (stingFields (applySting a s)) (applySting a s) := by
  have hfits : stingFits a = true := by simp [stingFits, hpoint, hunit, hsub]
  have hmode' : stingMode a = true := by simp [stingMode, hmode]
  have hallowed : stingAllowed a s = true := by simp [stingAllowed, hlife]
  unfold testStingAct
  dsimp only
  rw [if_neg (by simp [hfits, hmode']), if_neg (by simp [hallowed]), if_neg (by omega), if_neg (by simp; omega)]

/-- A point in memory forces nothing before its occurrence. -/
theorem applySting_memory {a : TestStingArgs} {s : State} (hpoint : a.point = 0x10) (hmode : a.mode = 1) :
    applySting a s = raise 298 (s.onTest (Test.stung a)) := by
  have hunit : stingUnit a = none := by simp [stingUnit, hpoint]
  have hbegins : ∀ t, stingBegins a t = t := fun t => by simp [stingBegins, hpoint]
  unfold applySting
  simp only [hunit, hmode, hbegins]
  rfl

theorem stung_any (a : TestStingArgs) (v : Test) : ((v.stung a).stings.any fun x => sameSting x.args a) = true := by
  simp [Test.stung, sameSting]

theorem onTally_keeps (f : Tally → Tally) (s : State) : Keeps [.tally] s (s.onTally f) :=
  .of_only fun p hp => by cases p <;> simp_all [Part.same]

theorem tallySnap_keeps (s : State) : Keeps [.tally, .ev] s (tallySnap s) :=
  (onTally_keeps _ s).append (raise_keeps_ev (n := 302) (by decide) _)

/-- Settles O17: each command answers with the record of the tests, or of the counters, that it leaves. -/
theorem testCommands : Obligations.TestCommands := by
  intro h s hs
  refine ⟨fun a hown hop hcyclelo hcyclehi hsramlo hsramhi => ?times, fun a hown hop hbad => ?suspends,
    fun a hown hpoint hunit hsub hmode hlife hroom => ?stings, fun k p hown hk hp => ?tracer, fun first count hown hlo hhi => ?tally⟩
  case times =>
    obtain ⟨u, hu, hans, hparts, hkeep, -⟩ := exec_answers_keeps (i := .testBist h a) hs rfl (by simp [hown]) (fun hcap => nomatch hcap)
      (testBistAct_times hop (badBist_eq_false ⟨hcyclelo, hcyclehi⟩ ⟨hsramlo, hsramhi⟩)) (onTest_keeps _ s).parts (by decide)
    exact ⟨u, hu, hans, hparts, hkeep .test (by decide)⟩
  case suspends =>
    obtain ⟨u, hu, hans, hparts, hkeep, hshows⟩ := exec_answers_keeps (i := .testBist h a) hs rfl
      (by rcases hop with hop | hop <;> simp [hop, hown]) (fun hcap => nomatch hcap) (testBistAct_suspends hop hbad)
      (suspendBist_keeps _ s).parts (by decide)
    have htest := hkeep .test (by decide)
    refine ⟨u, hu, ?_, onlyChanges_mono hparts (by decide), htest.trans (suspendBist_test _ s), fun hnew =>
      hshows 296 (by decide) (shows_raiseIf_true 296 _ (by simpa using hnew))⟩
    rwa [bistFields_eq htest]
  case stings =>
    have hraise := raise_keeps_ev (n := 298) (by decide) (s.onTest (Test.stung a))
    have hact := testStingAct_stings hpoint hunit hsub hmode hlife hroom
    rw [applySting_memory hpoint hmode] at hact
    obtain ⟨u, hu, hans, hparts, hkeep, -⟩ := exec_answers_keeps (i := .testSting h a) hs rfl hown (fun hcap => nomatch hcap) hact
      ((onTest_keeps _ s).append hraise).parts (by decide)
    have htest : u.test = s.test.stung a := (hkeep .test (by decide)).trans (hraise.parts .test (by decide))
    refine ⟨u, hu, ?_, onlyChanges_mono hparts (by decide), ?_⟩
    · rwa [stingFields_eq (hkeep .test (by decide))]
    · rw [htest]
      exact stung_any a s.test
  case tracer =>
    have hrange : ¬((decide (k ≠ 0) && outside 8 24 k) || decide (1 < p)) = true := by
      simp only [outside, Bool.or_eq_true, Bool.and_eq_true, decide_eq_true_eq, not_or, not_and]
      omega
    obtain ⟨u, hu, hans, hparts, hkeep, -⟩ := exec_answers_keeps (i := .testTracer h k p) hs rfl hown (fun hcap => nomatch hcap)
      (if_neg hrange) (onTest_keeps _ s).parts (by decide)
    exact ⟨u, hu, hans, hparts, hkeep .test (by decide)⟩
  case tally =>
    have hact : tallyReadAct first count 1 s = .ok (tallyFields first count true (tallySnap s)) (tallySnap s) := by
      unfold tallyReadAct
      rw [if_neg]
      · rfl
      · simp only [outside, Bool.or_eq_true, decide_eq_true_eq]
        omega
    obtain ⟨u, hu, hans, hparts, -, hshows⟩ := exec_answers_keeps (i := .tallyRead h first count 1) hs rfl (by simp [hown])
      (fun hcap => nomatch hcap) hact (tallySnap_keeps s).parts (by decide)
    exact ⟨u, hu, hans, onlyChanges_mono hparts (by decide), hshows 302 (by decide) (shows_raise 302 _)⟩

end Sys2Proof.Machine
end

section
/-!
PROOFS. Challenges and proofs (17 R522-R524). O18.
-/

namespace Sys2Proof.Machine

open Sys2Proof

/-! ### Commands that answer with another status than OK -/

/-- A command's answer with a status of its own, by the state that it leaves. -/
structure Responds (h : Hdr) (svc cmd st : Nat) (fs : Fields) (ps : List Part) (s t u : State) : Prop where
  answer : answered h svc cmd st fs s u
  parts : onlyChanges (ps ++ replyParts) s u
  keeps : onlyChanges replyParts t u

theorem exec_responds {i : Instr} {h : Hdr} {svc cmd st : Nat} {locked cap : Bool} {shape fs : Fields} {act : Act} {ps : List Part}
    {s t : State} (hs : heard h s) (he : exec i s = done s (serve h svc cmd locked cap shape act s))
    (heq : serve h svc cmd locked cap shape act s = respondRaw h svc cmd st fs t) (hp : onlyChanges ps s t) (hports : .ports ∉ ps) :
    ∃ u, exec i s = .next u ∧ Responds h svc cmd st fs ps s t u := by
  have hreply : onlyChanges replyParts t (counted s (respondRaw h svc cmd st fs t)) :=
    onlyChanges_mono (onlyChanges_append (respondRaw_only hs t) (counted_only s _)) (by decide)
  exact ⟨_, he.trans (congrArg (done s) heq), answered_of hs (hp .ports hports) (counted_ports s _), onlyChanges_append hp hreply, hreply⟩

/-- A refusal of a command that forms no ticket. -/
theorem serve_refuses {h : Hdr} {svc cmd st : Nat} {shape : Fields} {s : State} (hs : heard h s) :
    serve h svc cmd false false shape (.refuse st) s = respondRaw h svc cmd st shape s := by
  unfold serve
  rw [gate_none (cap := false) hs (fun hcap => nomatch hcap)]
  have hp := hs.2.1
  simp [hs.1, Nat.not_le.mpr hp, refuseCommand]

theorem serve_fails {h : Hdr} {svc cmd st : Nat} {shape : Fields} {s t : State} (hs : heard h s) :
    serve h svc cmd false false shape (.fails st t) s = respondRaw h svc cmd st shape t := by
  unfold serve
  rw [gate_none (cap := false) hs (fun hcap => nomatch hcap)]
  have hp := hs.2.1
  simp [hs.1, Nat.not_le.mpr hp]

theorem exec_refuses {i : Instr} {h : Hdr} {svc cmd st : Nat} {locked cap : Bool} {shape : Fields} {act : Act}
    {s : State} (hs : heard h s) (he : exec i s = done s (serve h svc cmd locked cap shape act s)) (hl : locked = false)
    (hc : cap = false) (ha : act = .refuse st) : ∃ u, exec i s = .next u ∧ Responds h svc cmd st shape [] s s u := by
  subst hl hc ha
  exact exec_responds hs he (serve_refuses hs) (onlyChanges_refl [] s) (by decide)

/-! ### Challenges and proofs (17 R522-R524) -/

theorem chal_eq {s t : State} (h : t.sec = s.sec) (p : Nat) : t.chal p = s.chal p := by simp [State.chal, h]

theorem chal_onChal_ne {p r : Nat} (s : State) (f : Chal → Chal) (h : r ≠ p) : (s.onChal p f).chal r = s.chal r :=
  tget_tput_ne ({} : Chal) s.sec.chals (f (s.chal p)) h

/-- The challenge with a nonce drawn. -/
def Chal.drawn (fresh : Nat) (c : Chal) : Chal := { c with nonce := some (Config.free 21 fresh % 2 ^ 384) }

theorem newNonce_eq (p : Nat) (s : State) : newNonce p s = (s.onChal p (Chal.drawn s.fresh)).draw := rfl

theorem newNonce_keeps (p : Nat) (s : State) : Keeps [.sec, .fresh] s (newNonce p s) := (onChal_keeps p _ s).append (draw_keeps _)

theorem newNonce_sec (p : Nat) (s : State) : (newNonce p s).sec = (s.onChal p (Chal.drawn s.fresh)).sec :=
  (draw_keeps _).parts .sec (by decide)

theorem newNonce_chal (p : Nat) (s : State) : (newNonce p s).chal p = (s.chal p).drawn s.fresh :=
  (chal_eq (newNonce_sec p s) p).trans (chal_onChal_same s p _)

theorem newNonce_chal_ne {p r : Nat} (s : State) (h : r ≠ p) : (newNonce p s).chal r = s.chal r :=
  (chal_eq (newNonce_sec p s) r).trans (chal_onChal_ne s _ h)

theorem secChallengeAct_draws {p : Nat} {s : State} (h : (s.chal p).locked = false) : secChallengeAct p s =
    .ok [(6, 0), (16, (Config.deviceId % 2 ^ 128 : Nat)), (48, (Config.free 21 s.fresh % 2 ^ 384 : Nat))] (newNonce p s) := by
  unfold secChallengeAct
  rw [if_neg (by simp [h])]
  simp only [newNonce_chal]
  rfl

theorem secProveAct_opens {p key sig : Nat} {s : State} (hkey : key ≤ 3) :
    secProveAct p 0 key sig s = okStatus (s.onChal p fun c => { c with isSealed := false }) := by
  unfold secProveAct
  rw [if_neg (by simp [hkey]), if_pos rfl]

section
variable {p key sig n : Nat} {s : State} (hkey : key ≤ 3) (hhost : key < hostKeys s) (hlocked : (s.chal p).locked = false)
    (hnonce : (s.chal p).nonce = some n)
include hkey hhost hlocked hnonce

theorem secProveAct_proves (hgood : proofGood p n key sig s = true) :
    secProveAct p 1 key sig s = okStatus (s.onChal p fun c => { c with nonce := none, fails := 0, isSealed := true }) := by
  unfold secProveAct
  rw [if_neg (by simp [hkey]), if_neg (by decide), if_neg (by omega), if_neg (by simp [hlocked])]
  simp only [hnonce]
  exact if_pos hgood

theorem secProveAct_fails (hbad : proofGood p n key sig s = false) : secProveAct p 1 key sig s = .fails stWorldDenied (failProof p s) := by
  unfold secProveAct
  rw [if_neg (by simp [hkey]), if_neg (by decide), if_neg (by omega), if_neg (by simp [hlocked])]
  simp only [hnonce]
  exact if_neg (by simp [hbad])

end

/-- What a failed proof leaves of a challenge. -/
theorem failProof_chal (p : Nat) (s : State) : (failProof p s).chal p =
    { s.chal p with nonce := none, fails := (s.chal p).fails + 1, locked := (s.chal p).locked || decide (8 ≤ (s.chal p).fails + 1) } :=
  chal_onChal_same s p _

theorem lockExpires_chal {p : Nat} {s : State} (hp : p < 2) (hlocked : (s.chal p).locked = true) :
    (lockExpires p s).chal p = { s.chal p with locked := false, fails := 0 } := by
  unfold lockExpires
  rw [if_pos hp, chal_onChal_same, if_pos hlocked]

theorem lockExpires_keeps (p : Nat) (s : State) : Keeps [.sec] s (lockExpires p s) := by
  unfold lockExpires
  exact .when (onChal_keeps p _ s)

/-- Settles O18: a challenge and a proof go by what they leave of the port's record. -/
theorem challengeAndProof : Obligations.ChallengeAndProof := by
  intro h s hs
  refine ⟨fun hfree => ?challenge, fun key sig hkey => ?opens, fun key sig n hkey hhost hfree hnonce => ?prove, fun hlocked => ?locked,
    fun hlocked => ⟨counted s (lockExpires h.port s), rfl, ?expiry⟩⟩
  case challenge =>
    obtain ⟨u, hu, hans, hparts, hkeep, -⟩ := exec_answers_keeps (i := .secChallenge h) hs rfl rfl (fun hcap => nomatch hcap)
      (secChallengeAct_draws hfree) (newNonce_keeps h.port s).parts (by decide)
    have hchal := chal_eq (hkeep .sec (by decide))
    exact ⟨u, _, hu, hans, hparts, (hchal h.port).trans (newNonce_chal h.port s), fun p hp => (hchal p).trans (newNonce_chal_ne s hp)⟩
  case opens =>
    obtain ⟨u, hu, hans, hparts, hkeep, -⟩ := exec_answers_keeps (i := .secProve h 0 key sig) hs rfl rfl (fun hcap => nomatch hcap)
      (secProveAct_opens hkey) (onChal_keeps h.port _ s).parts (by decide)
    exact ⟨u, hu, hans, hparts, (chal_eq (hkeep .sec (by decide)) h.port).trans (chal_onChal_same s h.port _)⟩
  case prove =>
    cases hproof : proofGood h.port n key sig s with
    | true =>
      obtain ⟨u, hu, hans, hparts, hkeep, -⟩ := exec_answers_keeps (i := .secProve h 1 key sig) hs rfl rfl (fun hcap => nomatch hcap)
        (secProveAct_proves hkey hhost hfree hnonce hproof) (onChal_keeps h.port _ s).parts (by decide)
      exact ⟨u, hu, hparts, fun _ => ⟨hans, (chal_eq (hkeep .sec (by decide)) h.port).trans (chal_onChal_same s h.port _)⟩,
        fun hbad => absurd hbad (by decide)⟩
    | false =>
      have hserve := congrArg (fun act => serve h 15 3 false false reserved6 act s) (secProveAct_fails hkey hhost hfree hnonce hproof)
      obtain ⟨u, hu, hans, hparts, hkeep⟩ := exec_responds (i := .secProve h 1 key sig) (ps := [.sec]) hs rfl
        (hserve.trans (serve_fails hs)) (onChal_keeps h.port _ s).parts (by decide)
      have hchal : u.chal h.port = _ := (chal_eq (hkeep .sec (by decide)) h.port).trans (failProof_chal h.port s)
      refine ⟨u, hu, hparts, fun hgood => absurd hgood (by decide), fun _ => ⟨hans, ?_⟩⟩
      rw [hchal]
      exact ⟨rfl, rfl, rfl, fun hfails => by simp only [hfree, Bool.false_or, decide_eq_true_eq]; omega⟩
  case locked =>
    obtain ⟨u, hu, hans, hparts, hkeep⟩ := exec_refuses (i := .secChallenge h) hs rfl rfl rfl (if_pos hlocked)
    exact ⟨u, hu, hans, hparts, chal_eq (hkeep .sec (by decide)) h.port⟩
  case expiry =>
    rw [chal_counted]
    exact ⟨counted_changes (lockExpires_keeps h.port s).parts, lockExpires_chal hs.2.1 hlocked⟩

end Sys2Proof.Machine
end

section
/-!
PROOFS. Worlds, the life cycle and updates (17 R517-R528, R536-R540). O19.
-/

namespace Sys2Proof.Machine

open Sys2Proof

/-! ### sec.world and sec.lifecycle (17 R517-R528) -/

/-- What a record of the security unit fixes of the answers that show it. -/
structure SameSecurity (s t : State) : Prop where
  sec : t.sec = s.sec
  keeper : t.keeper = s.keeper

theorem worldFields_eq {s t : State} (h : t.sec = s.sec) (a : SecWorldArgs) : worldFields t a = worldFields s a := by
  simp [worldFields, h]

theorem updateFields_eq {s t : State} (h : SameSecurity s t) : updateFields t = updateFields s := by
  simp [updateFields, h.sec, h.keeper]

theorem slotOf_eq {s t : State} (h : t.sec = s.sec) (k : Nat) : t.slotOf k = s.slotOf k := by simp [State.slotOf, h]

/-- The world of a block. -/
def Sec.withBlock (a : SecWorldArgs) (c : Sec) : Sec :=
  { c with blocks := if a.world = 1 then insertNat a.index c.blocks else c.blocks.filter (· != a.index) }

theorem withBlock_mem (a : SecWorldArgs) (c : Sec) : a.index ∈ (c.withBlock a).blocks ↔ a.world = 1 := by
  unfold Sec.withBlock
  split_ifs with h
  · exact iff_of_true (insertNat_mem _ _) h
  · exact iff_of_false (fun hmem => by simpa using (List.mem_filter.mp hmem).2) h

section
variable {h : Hdr} {a : SecWorldArgs} {s : State} (hop : a.op = 1) (hbad : badWorld a = false)
include hop hbad

theorem secWorldAct_block (hkind : a.kind = 0) (hbridge : opensBridge0 a = false) (hsealed : (s.chal h.port).isSealed = true)
    (hfree : s.sec.worldWait = none) :
    secWorldAct h a s = .ok (worldFields (s.onSec (Sec.withBlock a)) a) (s.onSec (Sec.withBlock a)) := by
  unfold secWorldAct
  rw [if_neg (by simp [hop, hbad]), if_neg (by omega), if_neg (by simp [sealedPort, hsealed]), if_neg (by simp [hbridge]),
    if_neg (by simp [hfree])]
  simp only [changeWorld, hkind]
  rfl

theorem secWorldAct_denied (hopen : (s.chal h.port).isSealed = false) : secWorldAct h a s = .refuse stWorldDenied := by
  unfold secWorldAct
  rw [if_neg (by simp [hop, hbad]), if_neg (by omega), if_pos (by simp [sealedPort, hopen])]

end

section
variable {h : Hdr} {k : Token} {s : State} (hsealed : (s.chal h.port).isSealed = true) (hpend : s.sec.lifePend = none)
    (hwait : s.sec.lifeWait = none) (hroom : s.sec.toggles < 16)
include hsealed hpend hwait hroom

theorem secLifecycleAct_takes : secLifecycleAct h 1 k s = if tokenGood k s then .later (programToken h k s) else .refuse stBadArg := by
  unfold secLifecycleAct
  rw [if_neg (by decide), if_neg (by decide), if_neg (by simp [sealedPort, hsealed]), if_neg (by simp [hpend, hwait]),
    if_neg (by simp; omega)]
  cases tokenGood k s <;> rfl

end

theorem programToken_sets (h : Hdr) (k : Token) (s : State) : (programToken h k s).sec.lifePend = some k.target ∧
    (programToken h k s).sec.life = s.sec.life ∧
    (programToken h k s).sec.toggles = if k.target = 2 then s.sec.toggles + 1 else s.sec.toggles := ⟨rfl, rfl, rfl⟩

/-! ### sec.update (17 R536-R540) -/

section
variable {h : Hdr} {off : Nat} {s : State} (hsealed : (s.chal h.port).isSealed = true) (hdata : s.sec.dataWait = none)
    (hact : s.sec.activating = none)
include hsealed hdata hact

theorem secUpdateAct_begins (hstate : s.sec.updState = 0) :
    secUpdateAct h 1 off s = .ok (updateFields (beginUpdate h.port s)) (beginUpdate h.port s) := by
  unfold secUpdateAct
  dsimp only
  rw [if_neg (by decide), if_neg (by decide), if_neg (by simp [sealedPort, hsealed]), if_neg (by simp [hdata, hact])]
  exact (if_neg (by simp [hstate])).trans (if_neg (by simp [hstate]))

theorem secUpdateAct_takes (hstate : s.sec.updState = 1 ∨ s.sec.updState = 2) (hplace : off % 65536 = 0) (hend : off < 48 * 2 ^ 20) :
    secUpdateAct h 2 off s = .later (s.onSec fun c => { c with dataWait := some ⟨h, 15, 6, .update⟩ }) := by
  unfold secUpdateAct
  dsimp only
  rw [if_neg (by decide), if_neg (by decide), if_neg (by simp [sealedPort, hsealed]), if_neg (by simp [hdata, hact])]
  exact if_neg (by simp [hplace]; omega)

theorem secUpdateAct_aborts (hstate : s.sec.updState = 1 ∨ s.sec.updState = 2) : secUpdateAct h 6 off s =
    .ok (updateFields (updStep (fun c => { c with updState := 0 }) s)) (updStep (fun c => { c with updState := 0 }) s) := by
  unfold secUpdateAct
  dsimp only
  rw [if_neg (by decide), if_neg (by decide), if_neg (by simp [sealedPort, hsealed]), if_neg (by simp [hdata, hact])]
  exact if_pos (by simpa using hstate)

theorem secUpdateAct_activates (hstate : s.sec.updState = 2) (hclean : s.sec.updDirty = false) (hmode : activateMode s = true)
    (htickets : s.clk.tickets ≠ []) :
    secUpdateAct h 4 off s = .later (s.onSec fun c => { c with activating := some ⟨h, 15, 6, .update⟩ }) := by
  have hheld : tryActivate (s.onSec fun c => { c with activating := some ⟨h, 15, 6, .update⟩ }) =
      s.onSec fun c => { c with activating := some ⟨h, 15, 6, .update⟩ } := if_neg (by simp [htickets])
  unfold secUpdateAct
  dsimp only
  rw [if_neg (by decide), if_neg (by decide), if_neg (by simp [sealedPort, hsealed]), if_neg (by simp [hdata, hact])]
  exact (if_neg (by simp [hstate, hclean])).trans ((if_neg (by simp [hmode])).trans (congrArg Act.later hheld))

end

theorem beginUpdate_keeps (p : Nat) (s : State) : Keeps [.sec] s (beginUpdate p s) := by
  have hslot := fun k x t => show Keeps [.sec] t (setSlot k x t) from onSec_keeps _ t
  have hstep := fun f t => show Keeps [.sec] t (updStep f t) from onSec_keeps _ t
  exact (hslot _ _ s).trans (hstep _ _)

theorem beginUpdate_sets (p : Nat) (s : State) : (beginUpdate p s).sec.updState = 1 ∧ (beginUpdate p s).sec.updPort = p ∧
    (beginUpdate p s).slotOf (1 - s.keeper.fwSlot) =
      { image := (s.slotOf (1 - s.keeper.fwSlot)).image.filter fun c => 4096 ≤ c.1 } :=
  ⟨rfl, rfl, tget_tput_same ({} : Slot) s.sec.slots (1 - s.keeper.fwSlot) _⟩

/-- Settles O19: each command goes by its own rules, and what it leaves is read off the security unit's record. A token that is not good
answers BAD_ARG (NOTES.md, log 86), and an abort leaves the slot as it is (log 87). -/
theorem securityCommands : Obligations.SecurityCommands := by
  refine ⟨fun h s hs => ⟨fun a hown hop hkind hbad hbridge hsealed hfree => ?block, fun a hown hop hbad hopen => ?denied,
    fun k hown hsealed hpend hwait hroom => ?lifecycle⟩, fun h s off hs hown hsealed hdata hact => ⟨fun hstate => ?begin,
    fun hstate hplace hend => ?data, fun hstate => ?abort, fun hstate hclean hmode htickets => ?activate⟩⟩
  case block =>
    obtain ⟨u, hu, hans, hparts, hkeep, -⟩ := exec_answers_keeps (i := .secWorld h a) hs rfl (by simp [hown]) (fun hcap => nomatch hcap)
      (secWorldAct_block hop hbad hkind hbridge hsealed hfree) (onSec_keeps _ s).parts (by decide)
    have hsec : u.sec = s.sec.withBlock a := hkeep .sec (by decide)
    refine ⟨u, hu, ?_, hparts, ?_⟩
    · rwa [worldFields_eq (hkeep .sec (by decide))]
    · rw [hsec]
      exact ⟨withBlock_mem a s.sec, rfl⟩
  case denied =>
    obtain ⟨u, hu, hans, hparts, -⟩ := exec_refuses (i := .secWorld h a) hs rfl (by simp [hown]) rfl (secWorldAct_denied hop hbad hopen)
    exact ⟨u, hu, hans, hparts⟩
  case lifecycle =>
    have htakes := secLifecycleAct_takes (k := k) hsealed hpend hwait hroom
    cases htoken : tokenGood k s with
    | true =>
      obtain ⟨u, hu, hparts, hkeep⟩ := exec_waits (i := .secLifecycle h 1 k) hs rfl (by simp [hown]) (fun hcap => nomatch hcap)
        (htakes.trans (if_pos htoken)) (onSec_keeps _ s).parts
      obtain ⟨hpend', hlife, htoggles⟩ := programToken_sets h k s
      refine ⟨u, hu, fun _ => ⟨hparts, ?_⟩, fun hbad => absurd hbad (by decide)⟩
      rw [show u.sec = _ from hkeep .sec (by decide)]
      exact ⟨hpend', hlife, htoggles⟩
    | false =>
      obtain ⟨u, hu, hans, hparts, -⟩ := exec_refuses (i := .secLifecycle h 1 k) hs rfl (by simp [hown]) rfl
        (htakes.trans (if_neg (by simp [htoken])))
      exact ⟨u, hu, fun hgood => absurd hgood (by decide), fun _ => ⟨hans, hparts⟩⟩
  case begin =>
    obtain ⟨u, hu, hans, hparts, hkeep, -⟩ := exec_answers_keeps (i := .secUpdate h 1 off) hs rfl (by simp [hown])
      (fun hcap => nomatch hcap) (secUpdateAct_begins hsealed hdata hact hstate) (beginUpdate_keeps h.port s).parts (by decide)
    have hsec := hkeep .sec (by decide)
    obtain ⟨hstate', hport, hslot⟩ := beginUpdate_sets h.port s
    refine ⟨u, hu, ?_, hparts, (congrArg Sec.updState hsec).trans hstate', (congrArg Sec.updPort hsec).trans hport,
      (slotOf_eq hsec _).trans hslot⟩
    rwa [updateFields_eq ⟨hsec, hkeep .keeper (by decide)⟩]
  case data =>
    obtain ⟨u, hu, hparts, hkeep⟩ := exec_waits (i := .secUpdate h 2 off) hs rfl (by simp [hown]) (fun hcap => nomatch hcap)
      (secUpdateAct_takes hsealed hdata hact hstate hplace hend) (onSec_keeps _ s).parts
    exact ⟨u, hu, hparts, hkeep .sec (by decide)⟩
  case abort =>
    obtain ⟨u, hu, hans, hparts, hkeep, -⟩ := exec_answers_keeps (i := .secUpdate h 6 off) hs rfl (by simp [hown])
      (fun hcap => nomatch hcap) (secUpdateAct_aborts hsealed hdata hact hstate) (onSec_keeps _ s).parts (by decide)
    refine ⟨u, hu, ?_, hparts, hkeep .sec (by decide)⟩
    rwa [updateFields_eq ⟨hkeep .sec (by decide), hkeep .keeper (by decide)⟩]
  case activate =>
    obtain ⟨u, hu, hparts, hkeep⟩ := exec_waits (i := .secUpdate h 4 off) hs rfl (by simp [hown]) (fun hcap => nomatch hcap)
      (secUpdateAct_activates hsealed hdata hact hstate hclean hmode htickets) (onSec_keeps _ s).parts
    exact ⟨u, hu, hparts, hkeep .sec (by decide)⟩

end Sys2Proof.Machine
end

section
/-!
PROOFS. Versions and sessions (13 R410, R411, R422). O20.
-/

namespace Sys2Proof.Machine

open Sys2Proof

/-! ### What an answer leaves of versions and sessions (13 R410, R422) -/

/-- The agreement and the session of a port stand. -/
structure WgPort.SameAgreement (w w' : WgPort) : Prop where
  version : w'.version = w.version
  session : w'.session = w.session

theorem WgPort.SameAgreement.of_eq {w w' : WgPort} (h : w' = w) : w.SameAgreement w' := ⟨congrArg _ h, congrArg _ h⟩

theorem publishRsp_agreement (p q : Nat) (m : List QWord) (s : State) (r : Nat) :
    (s.port r).SameAgreement ((publishRsp p q m s).port r) := by
  unfold publishRsp
  split_ifs
  · exact ⟨rfl, rfl⟩
  · have hports : (driveSrc (portSrc p q) true (s.onRspQ p q fun r => { r with words := r.words ++ m })).port r =
        (s.onRspQ p q fun r => { r with words := r.words ++ m }).port r := port_eq (by simp) r
    rw [hports, State.onRspQ]
    by_cases hr : r = p
    · subst hr
      rw [port_onPort_same]
      exact ⟨rfl, rfl⟩
    · rw [port_onPort_ne _ _ hr]
      exact ⟨rfl, rfl⟩

theorem publishRsp_reply {p q : Nat} (m : List QWord) (t : State) (hp : p < 2) (hq : q < 4) :
    onlyChanges [.ports, .ev] t (publishRsp p q m t) := by
  have hguard := publishRsp_guard_same p q m t hp hq
  have hhive := publishRsp_hive_same p q m t hp hq
  have hpower := publishRsp_power_same p q m t hp hq
  intro part hpart
  cases part <;> simp_all [Part.same]

/-- A response that is published, by the state that it is published in. -/
structure Told (h : Hdr) (svc cmd st : Nat) (fs : Fields) (s t u : State) : Prop where
  answer : answered h svc cmd st fs s u
  keeps : onlyChanges [.ports, .ev, .tally] t u
  agreement : ∀ r, (t.port r).SameAgreement (u.port r)
  shows : ∀ n, n < 243 ∨ 274 < n → t.shows n → u.shows n

theorem respondRaw_tells {h : Hdr} {s t : State} (svc cmd st : Nat) (fs : Fields) (hport : h.port < 2) (hqueue : h.queue < 4)
    (hflush : ((s.port h.port).rspOf h.queue).flush = false) (hrsp : (t.port h.port).rspOf h.queue = (s.port h.port).rspOf h.queue) :
    Told h svc cmd st fs s t (counted s (respondRaw h svc cmd st fs t)) := by
  refine ⟨?_, ?_, fun r => ?_, fun n hn hshows => (shows_counted n s _ hn).mpr ((publishRsp_keeps _ _ _ t).shows n hshows)⟩
  · rw [answered, rspWords, port_eq (counted_ports s _), respondRaw, publishRsp_words _ _ _ _ (by rw [hrsp]; exact hflush), hrsp]
  · exact onlyChanges_mono (onlyChanges_append (publishRsp_reply _ t hport hqueue) (counted_only s _)) (by decide)
  · rw [port_counted]
    exact publishRsp_agreement _ _ _ t r

theorem sem_eq {s t : State} (h : t.sems = s.sems) (n : Nat) : t.sem n = s.sem n := by simp [State.sem, h]

theorem owner_renewLeases (p n : Nat) (s : State) : ((renewLeases p s).sem n).owner = (s.sem n).owner := by
  rw [sem_renewLeases]
  split_ifs <;> rfl

/-! ### sys.hello and the commands without an agreed version (13 R422) -/

/-- A port that has agreed version 1.0. -/
def WgPort.agreed (w : WgPort) : WgPort := { w with version := some (1, 0) }

/-- The port has agreed version 1.0. -/
def agreed (p : Nat) (s : State) : State := s.onPort p WgPort.agreed

theorem agreed_port (p : Nat) (s : State) : (renewLeases p (agreed p s)).port p = (s.port p).agreed := by
  rw [port_eq (renewLeases_only p (agreed p s) .ports (by decide)), agreed, port_onPort_same]

theorem agreed_keeps (p : Nat) (s : State) : onlyChanges [.ports, .sems] s (renewLeases p (agreed p s)) :=
  onlyChanges_append (onPort_only s p _) (renewLeases_only p _)

section
variable {h : Hdr} {s : State} (hserving : s.keeper.serving = true) (hport : h.port < 2)
include hserving hport

theorem sysHello_agrees (minor : Nat) : sysHello h ⟨1, minor⟩ s = respondRaw h 1 1 stOk
    [(1, 1), (1, 0), (1, h.port), (3, 0), (4, (idFw s % 2 ^ 32 : Nat)), (4, 16384)] (renewLeases h.port (agreed h.port s)) := by
  unfold sysHello
  rw [if_neg (by simp [hserving]; omega), if_pos rfl]
  simp only [respond_ok, Nat.min_zero]
  rfl

theorem sysHello_refuses {a : HelloArgs} (hmajor : a.major ≠ 1) :
    sysHello h a s = respondRaw h 1 1 stVersion [(1, 1), (1, 0), (1, 0), (3, 0), (4, 0), (4, 0)] s := by
  unfold sysHello
  rw [if_neg (by simp [hserving]; omega), if_neg hmajor]

/-- What the refusal marks. -/
theorem serve_version {svc cmd : Nat} {locked cap : Bool} {shape : Fields} {act : Act} (hversion : (s.port h.port).version = none) :
    serve h svc cmd locked cap shape act s = refuseCommand h svc cmd (cap && svc != 1) stVersion shape s := by
  have hgate : gate h locked cap s = some stVersion := if_pos (by rw [hversion]; rfl)
  unfold serve
  rw [if_neg (by simp [hserving]; omega), hgate]

end

theorem failBatch_only (p status : Nat) (s : State) : onlyChanges [.clk] s (failBatch p status s) := by
  unfold failBatch
  split
  · split_ifs
    · exact setBatch_only s p _
    · exact onlyChanges_refl _ s
  · exact onlyChanges_refl _ s

/-- Every service command but sys.hello and sys.session is what `serve` makes of its rules. -/
theorem exec_serves {i : Instr} {svc cmd : Nat} {h : Hdr} {fs : Fields} (s : State) (hbody : bodyOf i = some (svc, cmd, h, fs))
    (hello : ¬(svc = 1 ∧ cmd = 1)) (hsession : ¬(svc = 1 ∧ cmd = 3)) :
    ∃ locked cap shape act, exec i s = done s (serve h svc cmd locked cap shape act s) := by
  cases i <;> cases hbody
  case sysHello => exact absurd ⟨rfl, rfl⟩ hello
  case sysSession => exact absurd ⟨rfl, rfl⟩ hsession
  all_goals exact ⟨_, _, _, _, rfl⟩

/-- sys.session without an agreed version: no lease is lost to another port. -/
theorem sysSession_version {h : Hdr} {a : SessionArgs} {s : State} (hversion : (s.port h.port).version = none) :
    sysSession h a s = serve h 1 3 false false (sessionFields h.port s) (sessionAct h.port a s) s := by
  unfold sysSession
  simp [hversion, tickIf, raiseIf]

theorem exec_session_serves {i : Instr} {h : Hdr} {fs : Fields} {s : State} (hbody : bodyOf i = some (1, 3, h, fs))
    (hversion : (s.port h.port).version = none) :
    ∃ locked cap shape act, exec i s = done s (serve h 1 3 locked cap shape act s) := by
  cases i <;> cases hbody
  exact ⟨_, _, _, _, congrArg (done s) (sysSession_version hversion)⟩

/-! ### sys.session (13 R410, R411) -/

theorem sysSession_ok {h : Hdr} {a : SessionArgs} {s t : State} {fs : Fields} (hs : heard h s) (ha : sessionAct h.port a s = .ok fs t) :
    sysSession h a s = respondRaw h 1 3 stOk fs (renewLeases h.port t) := by
  unfold sysSession
  simp only [ha, Bool.and_false, tickIf, raiseIf]
  exact serve_ok hs (fun hcap => nomatch hcap)

theorem sessionFields_eq {p : Nat} {s t : State} (howner : ∀ n, (t.sem n).owner = (s.sem n).owner)
    (hsession : (t.port p).session = (s.port p).session) (hclk : t.clk = s.clk) : sessionFields p t = sessionFields p s := by
  have hown : ∀ n q, (t.sem n).ownedBy q = (s.sem n).ownedBy q := fun n q => by rw [Sem.ownedBy, howner, Sem.ownedBy]
  have hdomains : ∀ q, domainsOf t q = domainsOf s q := fun q => by simp only [domainsOf, hown]
  rw [sessionFields, hdomains, hdomains, hsession, batchOf_eq hclk, sessionFields]

/-- A new session that holds one domain. -/
def sessionOpened (p k : Nat) (s : State) : State :=
  { (grantSem k p s).onPort p fun w => { w with session := s.nextSession } with nextSession := s.nextSession % (2 ^ 32 - 1) + 1 }

theorem domainList_single {k : Nat} (hlo : 1 ≤ k) (hhi : k < 16) : domainList (2 ^ k) = [k] := by
  interval_cases k <;> rfl

theorem openSession_one {p k : Nat} {s : State} (hnone : (s.port p).session = 0) :
    openSession p [k] s = raise (163 + p) (sessionOpened p k s) := by
  have hgranted : ((grantSem k p s).port p).session = 0 := hnone
  unfold openSession
  simp only [List.foldl_cons, List.foldl_nil, hgranted, show ([k] != []) = true from rfl, raiseIf, decide_true, Bool.and_self, if_true]
  rfl

theorem sessionAct_opens {p k : Nat} {s : State} (hlo : 1 ≤ k) (hhi : k < 16) (hfree : (s.sem k).owner = none)
    (hnone : (s.port p).session = 0) : sessionAct p ⟨1, 2 ^ k⟩ s =
      .ok (sessionFields p (raise (163 + p) (sessionOpened p k s))) (raise (163 + p) (sessionOpened p k s)) := by
  have hbit : bit (2 ^ k) 0 = false := by
    unfold bit
    rw [Nat.testBit_two_pow]
    simp
    omega
  unfold sessionAct
  simp only [domainList_single hlo hhi, hbit, openSession_one hnone]
  rw [if_neg (by simp), if_neg (by simp [hfree])]

theorem sessionOpened_only (p k : Nat) (s : State) : onlyChanges [.sems, .ports, .nextSession] s (sessionOpened p k s) := by
  intro part hpart
  cases part <;> simp_all [Part.same, sessionOpened, grantSem]

theorem sessionOpened_rsp (p k r q : Nat) (s : State) : ((sessionOpened p k s).port r).rspOf q = (s.port r).rspOf q := by
  have hport : (sessionOpened p k s).port r = ((grantSem k p s).onPort p fun w => { w with session := s.nextSession }).port r := rfl
  rw [hport]
  by_cases hr : r = p
  · subst hr
    rw [port_onPort_same]
    rfl
  · rw [port_onPort_ne _ _ hr]
    rfl

theorem sessionOpened_session (p k : Nat) (s : State) : ((sessionOpened p k s).port p).session = s.nextSession :=
  congrArg WgPort.session (port_onPort_same (grantSem k p s) p fun w => { w with session := s.nextSession })

theorem sessionOpened_sem (p k n : Nat) (s : State) :
    ((sessionOpened p k s).sem n).owner = if n = k then some (ownerOf p) else (s.sem n).owner := by
  have hsem : (sessionOpened p k s).sem n =
      tget {} (tput {} s.sems k { s.sem k with owner := some (ownerOf p), left := (s.port p).lease }) n := rfl
  rw [hsem, tget_tput]
  split_ifs <;> rfl

/-- What a sys.session that its rules answer leaves. -/
theorem session_tells {h : Hdr} {a : SessionArgs} {s t : State} {fs : Fields} (hs : heard h s) (ha : sessionAct h.port a s = .ok fs t)
    (hrsp : (t.port h.port).rspOf h.queue = (s.port h.port).rspOf h.queue) :
    Told h 1 3 stOk fs s (renewLeases h.port t) (counted s (sysSession h a s)) := by
  rw [sysSession_ok hs ha]
  obtain ⟨-, hport, hqueue, -, hflush⟩ := hs
  exact respondRaw_tells 1 3 stOk fs hport hqueue hflush hrsp

/-- Settles O20: what the port is told, by the state that the command leaves before its answer. -/
theorem helloAndSession : Obligations.HelloAndSession := by
  intro h s hserving hport hqueue hflush
  refine ⟨fun minor => ⟨counted s (sysHello h ⟨1, minor⟩ s), rfl, ?agrees⟩,
    fun a hmajor => ⟨counted s (sysHello h a s), rfl, ?refuses⟩,
    fun i svc cmd fs hbody hello hversion => ?version, fun hversion => ?session⟩
  case agrees =>
    have htold := respondRaw_tells 1 1 stOk [(1, 1), (1, 0), (1, h.port), (3, 0), (4, (idFw s % 2 ^ 32 : Nat)), (4, 16384)]
      (t := renewLeases h.port (agreed h.port s)) hport hqueue hflush
      (by rw [agreed_port]; rfl)
    rw [sysHello_agrees hserving hport minor]
    refine ⟨htold.answer, onlyChanges_mono (onlyChanges_append (agreed_keeps h.port s) htold.keeps) (by decide), ?_⟩
    rw [(htold.agreement h.port).version, agreed_port]
    rfl
  case refuses =>
    have htold := respondRaw_tells (t := s) 1 1 stVersion [(1, 1), (1, 0), (1, 0), (3, 0), (4, 0), (4, 0)] hport hqueue hflush rfl
    rw [sysHello_refuses hserving hport hmajor]
    exact ⟨htold.answer, onlyChanges_mono htold.keeps (by decide), (htold.agreement h.port).version⟩
  case version =>
    have hserves : ∃ locked cap shape act, exec i s = done s (serve h svc cmd locked cap shape act s) := by
      by_cases hsession : svc = 1 ∧ cmd = 3
      · obtain ⟨rfl, rfl⟩ := hsession
        exact exec_session_serves hbody hversion
      · exact exec_serves s hbody hello hsession
    obtain ⟨locked, cap, shape, act, hexec⟩ := hserves
    rw [serve_version hserving hport hversion] at hexec
    have hmark : onlyChanges [.clk] s (if (cap && svc != 1) = true then failBatch h.port stVersion s else s) := by
      split_ifs
      · exact failBatch_only h.port stVersion s
      · exact onlyChanges_refl _ s
    have htold := respondRaw_tells svc cmd stVersion shape hport hqueue hflush
      (congrArg (fun w : WgPort => w.rspOf h.queue) (port_eq (hmark .ports (by decide)) h.port))
    exact ⟨_, shape, hexec, htold.answer, onlyChanges_mono (onlyChanges_append hmark htold.keeps) (by decide)⟩
  case session =>
    have hs : heard h s := ⟨hserving, hport, hqueue, hversion, hflush⟩
    refine ⟨⟨counted s (sysSession h ⟨0, 0⟩ s), rfl, ?shows⟩,
      fun k hlo hhi hfree hnone hnext => ⟨counted s (sysSession h ⟨1, 2 ^ k⟩ s), rfl, ?opens⟩⟩
    case shows =>
      have htold := session_tells (a := ⟨0, 0⟩) (t := s) (fs := sessionFields h.port s) hs rfl rfl
      exact ⟨htold.answer, onlyChanges_mono (onlyChanges_append (renewLeases_only h.port s) htold.keeps) (by decide)⟩
    case opens =>
      have hraise := raise_keeps_ev (n := 163 + h.port) (by unfold noCopy; omega) (sessionOpened h.port k s)
      have hlease := renewLeases_only h.port (raise (163 + h.port) (sessionOpened h.port k s))
      have hrsp : ((raise (163 + h.port) (sessionOpened h.port k s)).port h.port).rspOf h.queue = (s.port h.port).rspOf h.queue := by
        rw [port_eq (hraise.parts .ports (by decide))]
        exact sessionOpened_rsp _ _ _ _ s
      have htold := session_tells hs (sessionAct_opens hlo hhi hfree hnone) hrsp
      have hsems : ∀ n, ((counted s (sysSession h ⟨1, 2 ^ k⟩ s)).sem n).owner =
          if n = k then some (ownerOf h.port) else (s.sem n).owner := fun n => by
        rw [sem_eq (htold.keeps .sems (by decide)), owner_renewLeases, sem_eq (hraise.parts .sems (by decide)), sessionOpened_sem]
      have hsession : ((counted s (sysSession h ⟨1, 2 ^ k⟩ s)).port h.port).session = s.nextSession := by
        rw [(htold.agreement h.port).session, port_eq (hlease .ports (by decide)), port_eq (hraise.parts .ports (by decide)),
          sessionOpened_session]
      have hfields : sessionFields h.port (counted s (sysSession h ⟨1, 2 ^ k⟩ s)) =
          sessionFields h.port (raise (163 + h.port) (sessionOpened h.port k s)) := by
        refine sessionFields_eq (fun n => ?_) ?_ ?_
        · rw [hsems, sem_eq (hraise.parts .sems (by decide)), sessionOpened_sem]
        · rw [hsession, port_eq (hraise.parts .ports (by decide)), sessionOpened_session]
        · exact (htold.keeps .clk (by decide)).trans (hlease .clk (by decide))
      rw [hfields]
      refine ⟨htold.answer, onlyChanges_mono (onlyChanges_append (sessionOpened_only h.port k s) (onlyChanges_append hraise.parts
        (onlyChanges_append hlease htold.keeps))) (by decide), by rw [hsems, if_pos rfl], hsession,
        htold.shows _ (by omega) ((Keeps.of_only hlease).shows _ (shows_raise _ _)), fun n hn => by rw [hsems, if_neg hn]⟩

end Sys2Proof.Machine
end

section
/-!
PROOFS. The moves of sys.mode (18 R541, R542). O21.
-/

namespace Sys2Proof.Machine

open Sys2Proof

/-! ### sys.mode (18 R541, R542) -/

theorem modeNum_le (m : Mode) : modeNum m ≤ 11 := by cases m <;> decide

theorem modeFields_eq {s t : State} (h : t.mode = s.mode) : modeFields t = modeFields s := by rw [modeFields, h, modeFields]

theorem modeFields_enterMode (m : Mode) (s : State) : modeFields (enterMode m s) = [(1, (modeNum m : Int)), (5, 0)] := by
  rw [modeFields, enterMode_mode]

section
variable {h : Hdr} {s : State}

theorem modeAct_same : modeAct h (modeNum s.mode) s = modeOk s := by
  unfold modeAct
  rw [if_neg (by have := modeNum_le s.mode; omega), if_pos rfl]

variable (hruns : modeRuns s = false)
include hruns

theorem modeAct_maintains (hmode : s.mode = .provision) (hstarted : s.clk.started = true) :
    modeAct h 9 s = modeOk (enterMode .maintenance s) := by
  unfold modeAct
  rw [if_neg (by decide), if_neg (by rw [hmode]; decide), if_neg (by simp [hruns])]
  simp only [hmode]
  exact if_pos hstarted

theorem modeAct_provisions (hmode : s.mode = .maintenance) : modeAct h 3 s = modeOk (enterMode .provision s) := by
  unfold modeAct
  rw [if_neg (by decide), if_neg (by rw [hmode]; decide), if_neg (by simp [hruns])]
  simp only [hmode]

theorem modeAct_carries (hmode : s.mode = .provision) (htoken : s.hive.token = true) (hstarted : s.clk.started = true)
    (hchan : (s.chan 0).state = 0) (hlife : s.sec.life ≠ 3) : modeAct h 4 s = modeOk (enterMode .carry s) := by
  have hany : ((List.range 4).any fun d => (s.chan d).state == 0) = true := List.any_eq_true.mpr ⟨0, by decide, by simp [hchan]⟩
  unfold modeAct
  rw [if_neg (by decide), if_neg (by rw [hmode]; decide), if_neg (by simp [hruns])]
  simp only [hmode]
  unfold carryAct
  dsimp only
  rw [if_neg (by simp [htoken]), if_neg (by simp [hstarted, hany, hlife]), if_pos htoken]
  rfl

end

/-- A mode that its command enters at once, as the host is told of it. -/
structure Entered (h : Hdr) (m : Mode) (s u : State) : Prop where
  answer : answered h 1 4 stOk [(1, (modeNum m : Int)), (5, 0)] s u
  mode : u.mode = m
  shows : u.shows 290

theorem sysMode_enters {h : Hdr} {k : Nat} {m : Mode} {s : State} (hs : heard h s) (hown : owns h 1 s)
    (ha : modeAct h k s = modeOk (enterMode m s)) (hne : s.mode ≠ m) : ∃ u, exec (.sysMode h k) s = .next u ∧ Entered h m s u := by
  obtain ⟨u, hu, hans, -, hkeep, hshows⟩ := exec_answers_keeps (i := .sysMode h k) hs rfl hown (fun hcap => nomatch hcap) ha
    (enterMode_keeps m s).parts (by decide)
  rw [modeFields_enterMode] at hans
  exact ⟨u, hu, hans, (hkeep .mode (by decide)).trans (enterMode_mode m s), hshows 290 (by decide) (enterMode_shows hne)⟩

/-- Settles O21: each move enters its mode, which the answer names. -/
theorem modeCommands : Obligations.ModeCommands := by
  intro h s hs hown hruns
  refine ⟨?same, fun hmode hstarted => ?maintenance, fun hmode => ?provision, fun hmode htoken hstarted hchan hlife => ?carry⟩
  case same =>
    obtain ⟨u, hu, hans, hparts, -⟩ := exec_answers_keeps (i := .sysMode h (modeNum s.mode)) (ps := []) hs rfl hown
      (fun hcap => nomatch hcap) modeAct_same (onlyChanges_refl [] s) (by decide)
    exact ⟨u, hu, hans, hparts⟩
  case maintenance =>
    obtain ⟨u, hu, hentered⟩ := sysMode_enters (m := .maintenance) hs hown (modeAct_maintains hruns hmode hstarted) (by rw [hmode]; decide)
    exact ⟨u, hu, hentered.answer, hentered.mode, hentered.shows⟩
  case provision =>
    obtain ⟨u, hu, hentered⟩ := sysMode_enters (m := .provision) hs hown (modeAct_provisions hruns hmode) (by rw [hmode]; decide)
    exact ⟨u, hu, hentered.answer, hentered.mode, hentered.shows⟩
  case carry =>
    obtain ⟨u, hu, hentered⟩ := sysMode_enters (m := .carry) hs hown (modeAct_carries hruns hmode htoken hstarted hchan hlife)
      (by rw [hmode]; decide)
    exact ⟨u, hu, hentered.answer, hentered.mode, hentered.shows⟩

end Sys2Proof.Machine
end

section
/-!
PROOFS. The two memories of a state, and what a command makes of them
-/

namespace Sys2Proof.Machine

open Sys2Proof

/-! ### The two memories of a state -/

/-- What the memory behind BAR2 and the keeper SRAM hold. -/
structure Memories where
  bar2 : List Host.Cell
  sram : List Host.Cell

def State.memory (s : State) : Memories := ⟨s.bus.bar2, s.bus.sram⟩

theorem memory_of_only {ps : List Part} {s t : State} (h : onlyChanges ps s t) (hbus : .bus ∉ ps := by decide) : t.memory = s.memory := by
  have hsame : t.bus = s.bus := h .bus hbus
  simp only [State.memory, hsame]

/-- An operation of the bus that writes neither memory. -/
@[simp] theorem memory_onBus (s : State) {f : Bus → Bus} (hbar2 : (f s.bus).bar2 = s.bus.bar2) (hsram : (f s.bus).sram = s.bus.sram) :
    (s.onBus f).memory = s.memory :=
  congrArg₂ Memories.mk hbar2 hsram

@[simp] theorem memory_withMode (s : State) (m : Mode) : ({ s with mode := m } : State).memory = s.memory := rfl
@[simp] theorem memory_withApFrom (s : State) (m : Mode) : ({ s with apFrom := m } : State).memory = s.memory := rfl
@[simp] theorem memory_withQuiesceFrom (s : State) (m : Mode) : ({ s with quiesceFrom := m } : State).memory = s.memory := rfl
@[simp] theorem memory_withPorts (s : State) (x : Tbl WgPort) : ({ s with ports := x } : State).memory = s.memory := rfl
@[simp] theorem memory_withProt (s : State) (x : Tbl ProtGroup) : ({ s with prot := x } : State).memory = s.memory := rfl
@[simp] theorem memory_withPaths (s : State) (x : Tbl SdhPath) : ({ s with paths := x } : State).memory = s.memory := rfl
@[simp] theorem memory_withAxcs (s : State) (x : Tbl Axc) : ({ s with axcs := x } : State).memory = s.memory := rfl
@[simp] theorem memory_withUserCal (s : State) (x : Tbl UserCal) : ({ s with userCal := x } : State).memory = s.memory := rfl
@[simp] theorem memory_withNextSession (s : State) (n : Nat) : ({ s with nextSession := n } : State).memory = s.memory := rfl

@[simp] theorem memory_ite {c : Prop} [Decidable c] (s t : State) : (if c then s else t).memory = if c then s.memory else t.memory :=
  apply_ite State.memory c s t

@[simp] theorem memory_foldl {α : Type} {f : State → α → State} (hf : ∀ s a, (f s a).memory = s.memory) (l : List α) (s : State) :
    (l.foldl f s).memory = s.memory :=
  List.foldlRecOn (motive := fun t => t.memory = s.memory) l f rfl fun t ht a _ => (hf t a).trans ht

/-! ### What a command makes of them -/

/-- The states that a command's own rules make have memories of this kind. -/
def Act.Ensures (P : Memories → Prop) : Act → Prop
  | .refuse _ | .refuseWith _ _ => True
  | .ok _ t | .cap _ _ t | .fails _ t | .later t => P t.memory

section
variable (P : Memories → Prop) (n : Nat) (fs : Fields) (cs : List Change) (kind : ReplyKind) (t : State)
  (c : Prop) [Decidable c] (a b : Act)

@[simp] theorem ensures_refuse : (Act.refuse n).Ensures P := trivial
@[simp] theorem ensures_refuseWith : (Act.refuseWith n fs).Ensures P := trivial
@[simp] theorem ensures_ok : (Act.ok fs t).Ensures P ↔ P t.memory := .rfl
@[simp] theorem ensures_cap : (Act.cap cs kind t).Ensures P ↔ P t.memory := .rfl
@[simp] theorem ensures_fails : (Act.fails n t).Ensures P ↔ P t.memory := .rfl
@[simp] theorem ensures_later : (Act.later t).Ensures P ↔ P t.memory := .rfl
@[simp] theorem ensures_ite : (if c then a else b).Ensures P ↔ if c then a.Ensures P else b.Ensures P := by
  split <;> rfl
end

/-- They leave the memories `m`. -/
abbrev Act.Leaves (m : Memories) (act : Act) : Prop := act.Ensures (· = m)

end Sys2Proof.Machine
end

section
/-!
PROOFS. What leaves the two memories alone: the shared operations, the lanes and the Comb
-/

namespace Sys2Proof.Machine

open Sys2Proof

/-! What leaves the memory behind BAR2 and the keeper SRAM as they are, in the order of the model's files: every operation but
the few that write one of them, or reach one that does. -/

/-! ### Machine/Ops.lean -/

@[simp] theorem memory_onClk (s : State) (f : Clock → Clock) : (s.onClk f).memory = s.memory := (rfl)
@[simp] theorem memory_onComb (s : State) (f : Comb → Comb) : (s.onComb f).memory = s.memory := (rfl)
@[simp] theorem memory_onNurse (s : State) (f : Nurse → Nurse) : (s.onNurse f).memory = s.memory := (rfl)
@[simp] theorem memory_onPool (s : State) (f : Pool → Pool) : (s.onPool f).memory = s.memory := (rfl)
@[simp] theorem memory_onPm (s : State) (f : Pm → Pm) : (s.onPm f).memory = s.memory := (rfl)
@[simp] theorem memory_onScout (s : State) (f : Scout → Scout) : (s.onScout f).memory = s.memory := (rfl)
@[simp] theorem memory_onHive (s : State) (f : Hive → Hive) : (s.onHive f).memory = s.memory := (rfl)
@[simp] theorem memory_onEv (s : State) (f : Events → Events) : (s.onEv f).memory = s.memory := (rfl)
@[simp] theorem memory_onGuard (s : State) (f : Guard → Guard) : (s.onGuard f).memory = s.memory := (rfl)
@[simp] theorem memory_onKeeper (s : State) (f : Keeper → Keeper) : (s.onKeeper f).memory = s.memory := (rfl)
@[simp] theorem memory_onTest (s : State) (f : Test → Test) : (s.onTest f).memory = s.memory := (rfl)
@[simp] theorem memory_onTally (s : State) (f : Tally → Tally) : (s.onTally f).memory = s.memory := (rfl)
@[simp] theorem memory_onSec (s : State) (f : Sec → Sec) : (s.onSec f).memory = s.memory := (rfl)
@[simp] theorem memory_onPower (s : State) (f : Power → Power) : (s.onPower f).memory = s.memory := (rfl)
@[simp] theorem memory_onLane (s : State) (n : Nat) (f : Lane → Lane) : (s.onLane n f).memory = s.memory := (rfl)
@[simp] theorem memory_onSdh (s : State) (n : Nat) (f : SdhPort → SdhPort) : (s.onSdh n f).memory = s.memory := (rfl)

@[simp] theorem memory_onPath (s : State) (n g : Nat) (f : SdhPath → SdhPath) : (s.onPath n g f).memory = s.memory := by
  simp [State.onPath]

@[simp] theorem memory_onCpri (s : State) (n : Nat) (f : CpriPort → CpriPort) : (s.onCpri n f).memory = s.memory := (rfl)

@[simp] theorem memory_onAxc (s : State) (n dir axc : Nat) (f : Axc → Axc) : (s.onAxc n dir axc f).memory = s.memory := by
  simp [State.onAxc]

@[simp] theorem memory_onPort (s : State) (p : Nat) (f : WgPort → WgPort) : (s.onPort p f).memory = s.memory := by simp [State.onPort]

@[simp] theorem memory_onCmdQ (s : State) (p q : Nat) (f : CmdQueue → CmdQueue) : (s.onCmdQ p q f).memory = s.memory := by
  simp [State.onCmdQ]

@[simp] theorem memory_onRspQ (s : State) (p q : Nat) (f : RspQueue → RspQueue) : (s.onRspQ p q f).memory = s.memory := by
  simp [State.onRspQ]

@[simp] theorem memory_onRing (s : State) (p n : Nat) (f : Ring → Ring) : (s.onRing p n f).memory = s.memory := by simp [State.onRing]
@[simp] theorem memory_onSem (s : State) (n : Nat) (f : Sem → Sem) : (s.onSem n f).memory = s.memory := (rfl)

@[simp] theorem memory_onCoal (s : State) (port g : Nat) (f : Coal → Coal) : (s.onCoal port g f).memory = s.memory := by
  simp [State.onCoal]

@[simp] theorem memory_onVc (s : State) (b g : Nat) (f : NurseVc → NurseVc) : (s.onVc b g f).memory = s.memory := by simp [State.onVc]

@[simp] theorem memory_onTu (s : State) (b g tu : Nat) (f : NurseTu → NurseTu) : (s.onTu b g tu f).memory = s.memory := by
  simp [State.onTu]

@[simp] theorem memory_onAxv (s : State) (b dir g0 : Nat) (f : Axv → Axv) : (s.onAxv b dir g0 f).memory = s.memory := by
  simp [State.onAxv]

@[simp] theorem memory_onAxvAxc (s : State) (b dir g0 i : Nat) (f : AxvAxc → AxvAxc) : (s.onAxvAxc b dir g0 i f).memory = s.memory := by
  simp [State.onAxvAxc]

@[simp] theorem memory_onEntry (s : State) (s0 : Nat) (f : PoolEntry → PoolEntry) : (s.onEntry s0 f).memory = s.memory := by
  simp [State.onEntry]

@[simp] theorem memory_onChan (s : State) (n : Nat) (f : Channel → Channel) : (s.onChan n f).memory = s.memory := by simp [State.onChan]

@[simp] theorem memory_onGroup (s : State) (n : Nat) (f : ProtGroup → ProtGroup) : (s.onGroup n f).memory = s.memory := by
  simp [State.onGroup]

@[simp] theorem memory_onMon (s : State) (e : Entity) (f : Mon → Mon) : (s.onMon e f).memory = s.memory := by simp [State.onMon]
@[simp] theorem memory_onInp (s : State) (n : Nat) (f : ScoutIn → ScoutIn) : (s.onInp n f).memory = s.memory := by simp [State.onInp]

@[simp] theorem memory_onRegion (s : State) (n : Nat) (f : Region → Region) : (s.onRegion n f).memory = s.memory := by
  simp [State.onRegion]

@[simp] theorem memory_onCounter (s : State) (n : Nat) (f : Counter → Counter) : (s.onCounter n f).memory = s.memory := by
  simp [State.onCounter]

@[simp] theorem memory_onChal (s : State) (p : Nat) (f : Chal → Chal) : (s.onChal p f).memory = s.memory := by simp [State.onChal]
@[simp] theorem memory_onRail (s : State) (n : Nat) (f : Rail → Rail) : (s.onRail n f).memory = s.memory := by simp [State.onRail]
@[simp] theorem memory_tick (code unit n : Nat) (s : State) : (tick code unit n s).memory = s.memory := by simp [tick]
@[simp] theorem memory_tickIf (b : Bool) (code unit : Nat) (s : State) : (tickIf b code unit s).memory = s.memory := by simp [tickIf]
@[simp] theorem memory_draw (s : State) : (s.draw).memory = s.memory := (rfl)
@[simp] theorem memory_releaseHeld (port g : Nat) (s : State) : (releaseHeld port g s).memory = s.memory := by simp [releaseHeld]
@[simp] theorem memory_setSrc (n : Nat) (x : Src) (s : State) : (setSrc n x s).memory = s.memory := by simp [setSrc]
@[simp] theorem memory_sticky (n : Nat) (s : State) : (sticky n s).memory = s.memory := by simp [sticky]
@[simp] theorem memory_driveSrc (n : Nat) (level : Bool) (s : State) : (driveSrc n level s).memory = s.memory := by simp [driveSrc]
@[simp] theorem memory_raise (n : Nat) (s : State) : (raise n s).memory = s.memory := by simp [raise]
@[simp] theorem memory_raiseIf (b : Bool) (n : Nat) (s : State) : (raiseIf b n s).memory = s.memory := by simp [raiseIf]

@[simp] theorem memory_setStack (s : State) (t : Nat) (l : List (Nat × Nat)) : (s.setStack t l).memory = s.memory := by
  simp [State.setStack]

@[simp] theorem memory_outOfService (n : Nat) (s : State) : (outOfService n s).memory = s.memory := by simp [outOfService]
@[simp] theorem memory_clearStack (t : Nat) (s : State) : (clearStack t s).memory = s.memory := by simp [clearStack]

@[simp] theorem memory_publishRsp (p q : Nat) (m : List QWord) (s : State) : (publishRsp p q m s).memory = s.memory := by
  simp [publishRsp]

@[simp] theorem memory_notify (svc cmd : Nat) (fs : Fields) (s : State) : (notify svc cmd fs s).memory = s.memory := by
  simp [notify, notifyPort]

@[simp] theorem memory_ringPut (p n : Nat) (rec : List Byte) (s : State) : (ringPut p n rec s).memory = s.memory := by simp [ringPut]
@[simp] theorem memory_mirrorSend (rec : MirrorRec) (s : State) : (mirrorSend rec s).memory = s.memory := by simp [mirrorSend]

@[simp] theorem memory_logFault (code cls flags entry unit repeats detail : Nat) (s : State) :
    (logFault code cls flags entry unit repeats detail s).memory = s.memory := by
  simp [logFault]

@[simp] theorem memory_faultWith (detail code kind index : Nat) (s : State) :
    (faultWith detail code kind index s).memory = s.memory := by
  simp only [faultWith]
  (repeat' split) <;> simp

@[simp] theorem memory_fault (code kind index : Nat) (s : State) : (fault code kind index s).memory = s.memory := by simp [fault]

@[simp] theorem memory_resolveEntry (e : Nat) (logged : Bool) (s : State) : (resolveEntry e logged s).memory = s.memory := by
  simp [resolveEntry]

@[simp] theorem memory_resolveWhere (logged : Bool) (f : FqEntry → Bool) (s : State) : (resolveWhere logged f s).memory = s.memory := by
  simp [resolveWhere]

@[simp] theorem memory_resolveCode (code kind index : Nat) (s : State) : (resolveCode code kind index s).memory = s.memory := by
  simp [resolveCode]

@[simp] theorem memory_setMode (m : Mode) (s : State) : (setMode m s).memory = s.memory := by
  simp [setMode]

/-! ### Machine/Tally.lean -/

@[simp] theorem memory_setOvf (l : List Nat) (s : State) : (setOvf l s).memory = s.memory := by simp [setOvf]
@[simp] theorem memory_addCount (n inc : Nat) (s : State) : (addCount n inc s).memory = s.memory := by simp [addCount]

@[simp] theorem memory_counted (s t : State) : (counted s t).memory = t.memory := by
  simp [counted]

@[simp] theorem memory_tallyOverflows (n : Nat) (s : State) : (tallyOverflows n s).memory = s.memory := by simp [tallyOverflows]
@[simp] theorem memory_tallyFreeze (on : Bool) (s : State) : (tallyFreeze on s).memory = s.memory := by simp [tallyFreeze]
@[simp] theorem memory_tallySnap (s : State) : (tallySnap s).memory = s.memory := by simp [tallySnap]
@[simp] theorem memory_tallyClear (mask : Nat) (s : State) : (tallyClear mask s).memory = s.memory := by simp [tallyClear]
@[simp] theorem memory_tallyPreset (mask : Nat) (s : State) : (tallyPreset mask s).memory = s.memory := by simp [tallyPreset]

/-! ### Machine/Detect.lean -/

@[simp] theorem memory_pmAdd (e : Entity) (f : Prim → Prim) (s : State) : (pmAdd e f s).memory = s.memory := by simp [pmAdd]

@[simp] theorem memory_stingsSpent (here : TestStingArgs → Bool) (s : State) : (stingsSpent here s).memory = s.memory := by
  simp [stingsSpent, stingSpent]

/-! ### Machine/Lane.lean -/

@[simp] theorem memory_detectChange (n : Nat) (f : Lane → Lane) (s : State) : (detectChange n f s).memory = s.memory := by
  simp [detectChange]

@[simp] theorem memory_losCleared (n : Nat) (s : State) : (losCleared n s).memory = s.memory := by simp [losCleared]
@[simp] theorem memory_lolCleared (n : Nat) (s : State) : (lolCleared n s).memory = s.memory := by simp [lolCleared]
@[simp] theorem memory_commaArrives (n pos : Nat) (s : State) : (commaArrives n pos s).memory = s.memory := by simp [commaArrives]

@[simp] theorem memory_prbsLocks (u : PrbsUnit) (rx : List Bool) (left : Nat) (s : State) :
    (prbsLocks u rx left s).memory = s.memory := by
  unfold prbsLocks
  split <;> simp

@[simp] theorem memory_prbsUnlocks (u : PrbsUnit) (bits errs : Nat) (s : State) : (prbsUnlocks u bits errs s).memory = s.memory := by
  unfold prbsUnlocks
  split <;> simp

@[simp] theorem memory_laneGroups (n : Nat) (bad : Bool) (codes : List Nat) (s : State) :
    (laneGroups n bad codes s).2.memory = s.memory :=
  rfl

@[simp] theorem memory_loopStores (n : Nat) (bits : List Byte) (s : State) : (loopStores n bits s).memory = s.memory := by
  simp [loopStores]

@[simp] theorem memory_loopSlips (n : Nat) (drop : Bool) (s : State) : (loopSlips n drop s).memory = s.memory := by simp [loopSlips]
@[simp] theorem memory_beatLanes (s : State) : (beatLanes s).memory = s.memory := (rfl)

/-! ### Machine/Cpri.lean -/

@[simp] theorem memory_withCpriEvents (n : Nat) {f : State → State} {s : State} (hf : (f s).memory = s.memory) :
    (withCpriEvents n f s).memory = s.memory := by
  simp [withCpriEvents, hf]

@[simp] theorem memory_cpriLost (n : Nat) (s : State) : (cpriLost n s).memory = s.memory := by simp [cpriLost]

@[simp] theorem memory_rxHyperframe (n : Nat) (codes : List Nat) (t : Int) (s : State) :
    (rxHyperframe n codes t s).memory = s.memory := by
  simp [rxHyperframe]

@[simp] theorem memory_lofChange (n : Nat) (s : State) : (lofChange n s).memory = s.memory := by simp [lofChange]

@[simp] theorem memory_rxOffset (n : Nat) (s : State) : (rxOffset n s).memory = s.memory := by
  simp only [rxOffset]
  (repeat' split) <;> simp

@[simp] theorem memory_frqCheck (n : Nat) (s : State) : (frqCheck n s).memory = s.memory := by
  simp only [frqCheck]
  (repeat' split) <;> simp

@[simp] theorem memory_beatPair (k : Nat) (s : State) : (beatPair k s).memory = s.memory := by
  simp only [beatPair]
  split
  · split
    · rfl
    · exact (memory_withProt _ _).trans ((memory_onCpri _ _ _).trans (memory_onCpri _ _ _))
  · rfl

@[simp] theorem memory_beatCpri (n : Nat) (s : State) : (beatCpri n s).memory = s.memory := by simp [beatCpri]
@[simp] theorem memory_resetEnds (n : Nat) (s : State) : (resetEnds n s).memory = s.memory := by simp [resetEnds]
@[simp] theorem memory_slipStore (n i : Nat) (s : State) : (slipStore n i s).memory = s.memory := by simp [slipStore]
@[simp] theorem memory_realignStore (n i : Nat) (s : State) : (realignStore n i s).memory = s.memory := by simp [realignStore]
@[simp] theorem memory_liveCpriFlags (n flags : Nat) (s : State) : (liveCpriFlags n flags s).memory = s.memory := by simp [liveCpriFlags]
@[simp] theorem memory_liveCpriCm (a : CpriCmArgs) (s : State) : (liveCpriCm a s).memory = s.memory := by simp [liveCpriCm]

@[simp] theorem memory_cmCapture (n group : Nat) (s : State) : (cmCapture n group s).memory = s.memory := by
  simp only [cmCapture]
  split
  · simp only [memory_ite, memory_onCpri, memory_ringPut, ite_self]
  · rfl

@[simp] theorem memory_cmInsert (n group : Nat) (s : State) : (cmInsert n group s).memory = s.memory := by
  simp only [cmInsert]
  (repeat' split) <;> simp

/-! ### Machine/Comb.lean -/

@[simp] theorem memory_applySuper (dst : Nat) (src : Option Nat) (s : State) : (applySuper dst src s).memory = s.memory := by
  simp [applySuper]

@[simp] theorem memory_rotationStep (r : Nat) (marchOk : Bool) (s : State) : (rotationStep r marchOk s).memory = s.memory := by
  simp [rotationStep]

@[simp] theorem memory_combEcc (r unit : Nat) (corrected : Bool) (s : State) : (combEcc r unit corrected s).memory = s.memory := by
  simp [combEcc]

@[simp] theorem memory_liveStream (a : CombTestArgs) (s : State) : (liveStream a s).memory = s.memory := by
  simp [liveStream, State.onStream]

/-! ### Machine/Egress.lean -/

@[simp] theorem memory_cpriEgress (n : Nat) (s : State) : (cpriEgress n s).memory = s.memory := by simp [cpriEgress]
@[simp] theorem memory_servoUpdate (n : Nat) (s : State) : (servoUpdate n s).memory = s.memory := by simp [servoUpdate]

end Sys2Proof.Machine
end

section
/-!
PROOFS. What leaves the two memories alone: the fabric and the protection
-/

namespace Sys2Proof.Machine

open Sys2Proof

/-! ### Machine/Sdh.lean -/

@[simp] theorem memory_withSdhEvents (n : Nat) {f : State → State} {s : State} (hf : (f s).memory = s.memory) :
    (withSdhEvents n f s).memory = s.memory := by
  simp [withSdhEvents, hf]

@[simp] theorem memory_applySdhPath (a : SdhPathArgs) (s : State) : (applySdhPath a s).memory = s.memory := by
  simp [applySdhPath, placePath, dropOverlaps]

@[simp] theorem memory_applySdhPort (a : SdhPortArgs) (s : State) : (applySdhPort a s).memory = s.memory := by
  simp [applySdhPort, defaultPaths]

@[simp] theorem memory_liveSdhOh (a : SdhOhArgs) (s : State) : (liveSdhOh a s).memory = s.memory := by simp [liveSdhOh]

@[simp] theorem memory_rxAu (n : Nat) (masked : Bool) (rows : List (List Byte)) (s : State) (g : Nat) :
    (rxAu n masked rows s g).memory = s.memory := by
  simp [rxAu, rxVc]

@[simp] theorem memory_maskPort (n : Nat) (s : State) : (maskPort n s).memory = s.memory := by simp [maskPort]
@[simp] theorem memory_signalLost (n : Nat) (s : State) : (signalLost n s).memory = s.memory := by simp [signalLost]

@[simp] theorem memory_rxSdhFrame (n : Nat) (bits : List Byte) (s : State) : (rxSdhFrame n bits s).memory = s.memory :=
  memory_of_only (rxSdhFrame_keeps n bits s).parts

@[simp] theorem memory_lofDeclared (n : Nat) (s : State) : (lofDeclared n s).memory = s.memory := by simp [lofDeclared]
@[simp] theorem memory_lofCleared (n : Nat) (s : State) : (lofCleared n s).memory = s.memory := by simp [lofCleared]

@[simp] theorem memory_internalJust (n g : Nat) (inc : Bool) (s : State) : (internalJust n g inc s).memory = s.memory := by
  simp [internalJust]

@[simp] theorem memory_txSdhFrame (n : Nat) (s : State) : (txSdhFrame n s).memory = s.memory := by
  simp only [txSdhFrame]
  split
  · rfl
  split
  · simp
  split
  · rfl
  · rw [memory_onSdh]
    exact List.foldlRecOn (motive := fun acc : List (TxAu × List Byte × Nat) × State => acc.2.memory = s.memory) _ _ rfl
      fun acc hacc g _ => hacc

@[simp] theorem memory_ohCapture (n ch : Nat) (s : State) : (ohCapture n ch s).memory = s.memory := by simp [ohCapture]

@[simp] theorem memory_ohInsert (n ch : Nat) (s : State) : (ohInsert n ch s).memory = s.memory := by
  simp only [ohInsert]
  (repeat' split) <;> simp

@[simp] theorem memory_beatSdh (n : Nat) (s : State) : (beatSdh n s).memory = s.memory := by simp [beatSdh]

/-! ### Machine/Nurse.lean -/

@[simp] theorem memory_withTuEvents (b g tu : Nat) {f : State → State} {s : State} (hf : (f s).memory = s.memory) :
    (withTuEvents b g tu f s).memory = s.memory := by
  simp [withTuEvents, hf]

@[simp] theorem memory_applyC2 (b g c2 : Nat) (s : State) : (applyC2 b g c2 s).memory = s.memory := by simp [applyC2]
@[simp] theorem memory_applyNurseTu (a : NurseTuArgs) (s : State) : (applyNurseTu a s).memory = s.memory := by simp [applyNurseTu]
@[simp] theorem memory_applyAxv (a : NurseAxvArgs) (s : State) : (applyAxv a s).memory = s.memory := by simp [applyAxv]

@[simp] theorem memory_applyBrood (dst : Nat) (src : Option Nat) (axcKind : Bool) (s : State) :
    (applyBrood dst src axcKind s).memory = s.memory := by
  unfold applyBrood
  split <;> simp

@[simp] theorem memory_rxLowVc (b g tu type : Nat) (masked : Bool) (s : State) (vc : List Byte) :
    (rxLowVc b g tu type masked s vc).memory = s.memory := by
  simp [rxLowVc]

@[simp] theorem memory_tuInterpret (b g tu : Nat) (s : State) : (tuInterpret b g tu s).memory = s.memory := by
  simp only [tuInterpret]
  split
  · rfl
  split
  · simp
  · refine memory_withTuEvents b g tu ?_
    simp only [memory_ite, memory_foldl, memory_rxLowVc, memory_onTu, memory_tickIf, implies_true, ite_self]

@[simp] theorem memory_tuBuild (b g tu : Nat) (s : State) : (tuBuild b g tu s).memory = s.memory := by
  simp only [tuBuild]
  (repeat' split) <;> simp

@[simp] theorem memory_degSecond (u : DetUnit) (s : State) : (degSecond u s).memory = s.memory := by
  unfold degSecond
  (repeat' split) <;> simp [sdhDegSecond, pathDegSecond, tuDegSecond]

@[simp] theorem memory_berSub (u : DetUnit) (isExc : Bool) (s : State) : (berSub u isExc s).memory = s.memory := by
  unfold berSub
  (repeat' split) <;> simp [sdhBerSub, pathBerSub, tuBerSub]

@[simp] theorem memory_mapRate (b g0 i : Nat) (s : State) : (mapRate b g0 i s).memory = s.memory := by
  simp only [mapRate]
  (repeat' split) <;> simp

@[simp] theorem memory_playSlip (b g0 i : Nat) (late : Bool) (s : State) : (playSlip b g0 i late s).memory = s.memory := by
  simp [playSlip]

@[simp] theorem memory_playDefect (b g0 i : Nat) (s : State) : (playDefect b g0 i s).memory = s.memory := by simp [playDefect]

/-! ### Machine/Pool.lean -/

@[simp] theorem memory_withEntryEvents (k : Nat) (f : PoolEntry → PoolEntry) (s : State) :
    (withEntryEvents k f s).memory = s.memory := by
  simp [withEntryEvents]

@[simp] theorem memory_applyPool (c : PoolCfg) (s : State) : (applyPool c s).memory = s.memory := by simp [applyPool]
@[simp] theorem memory_memberMfi (k i : Nat) (s : State) : (memberMfi k i s).memory = s.memory := by simp [memberMfi]
@[simp] theorem memory_loaChange (k : Nat) (s : State) : (loaChange k s).memory = s.memory := by simp [loaChange]
@[simp] theorem memory_realignEntry (k : Nat) (s : State) : (realignEntry k s).memory = s.memory := by simp [realignEntry]
@[simp] theorem memory_groupRealign (k : Nat) (s : State) : (groupRealign k s).memory = s.memory := by simp [groupRealign]
@[simp] theorem memory_lagAdjust (k : Nat) (s : State) : (lagAdjust k s).memory = s.memory := by simp [lagAdjust]

@[simp] theorem memory_twinSelect (k : Nat) (s : State) : (twinSelect k s).memory = s.memory := by
  simp only [twinSelect]
  (repeat' split) <;> simp

@[simp] theorem memory_bypassRevert (k : Nat) (s : State) : (bypassRevert k s).memory = s.memory := by
  simp only [bypassRevert]
  (repeat' split) <;> simp

@[simp] theorem memory_bypassReturn (k : Nat) (s : State) : (bypassReturn k s).memory = s.memory := by simp [bypassReturn]

@[simp] theorem memory_setChan (d st cause : Nat) (s : State) : (setChan d st cause s).memory = s.memory := by
  simp [setChan, keepCopies, losePmBins]

@[simp] theorem memory_dropChannel (d : Nat) (s : State) : (dropChannel d s).memory = s.memory := by simp [dropChannel]

@[simp] theorem memory_channelFail (d cause : Nat) (s : State) : (channelFail d cause s).memory = s.memory := by
  simp [channelFail, failChannel]

@[simp] theorem memory_uncError (d : Nat) (s : State) : (uncError d s).memory = s.memory := by simp [uncError]
@[simp] theorem memory_ddrTimeout (d : Nat) (s : State) : (ddrTimeout d s).memory = s.memory := by simp [ddrTimeout]

@[simp] theorem memory_channelTrained (d size ranks rate outcome : Nat) (s : State) :
    (channelTrained d size ranks rate outcome s).memory = s.memory := by
  simp [channelTrained]

@[simp] theorem memory_channelReturned (d : Nat) (s : State) : (channelReturned d s).memory = s.memory := by simp [channelReturned]

@[simp] theorem memory_refreshPlace (d rank : Nat) (inMargin retrain : Bool) (s : State) :
    (refreshPlace d rank inMargin retrain s).memory = s.memory := by
  simp [refreshPlace]

@[simp] theorem memory_poolEcc (slot : Nat) (s : State) : (poolEcc slot s).memory = s.memory := by
  unfold poolEcc
  split <;> simp

/-! ### Machine/Fabric.lean -/

@[simp] theorem memory_lateMigration (s : State) : (lateMigration s).memory = s.memory := by
  unfold lateMigration
  split <;> simp

@[simp] theorem memory_beatSuper (s : State) : (beatSuper s).memory = s.memory := by
  unfold beatSuper
  exact memory_foldl (by simp) _ s

@[simp] theorem memory_beatBip (before : Tbl Granule) (s : State) : (beatBip before s).memory = s.memory := by simp [beatBip]
@[simp] theorem memory_beatBrood (s : State) : (beatBrood s).memory = s.memory := by simp [beatBrood]
@[simp] theorem memory_beatVc (key : Nat) (s : State) : (beatVc key s).memory = s.memory := by simp [beatVc]

@[simp] theorem memory_beatFabric (s : State) : (beatFabric s).memory = s.memory := by
  simp only [beatFabric, memory_draw, memory_onComb, memory_beatBrood, memory_raiseIf]
  rw [memory_foldl (by simp), memory_withAxcs]
  simp

/-! ### Machine/Prot.lean -/

@[simp] theorem memory_pointSelector (c : ProtGroupArgs) (prot : Bool) (s : State) : (pointSelector c prot s).memory = s.memory := by
  unfold pointSelector
  split <;> simp

@[simp] theorem memory_moveSelector (n : Nat) (prot : Bool) (s : State) : (moveSelector n prot s).memory = s.memory := by
  simp [moveSelector]

@[simp] theorem memory_askMove (n : Nat) (prot : Bool) (s : State) : (askMove n prot s).memory = s.memory := by simp [askMove]
@[simp] theorem memory_mirrorGroup (n : Nat) (s : State) : (mirrorGroup n s).memory = s.memory := by simp [mirrorGroup]

@[simp] theorem memory_beatMoves (s : State) : (beatMoves s).memory = s.memory := by
  unfold beatMoves
  exact memory_foldl (fun t e => by split <;> simp) _ s

@[simp] theorem memory_protEvaluate (s : State) : (protEvaluate s).memory = s.memory := by simp [protEvaluate, evaluateGroup, mirrorIfDue]
@[simp] theorem memory_holdoffEnds (n : Nat) (prot : Bool) (s : State) : (holdoffEnds n prot s).memory = s.memory := by simp [holdoffEnds]
@[simp] theorem memory_wtrEnds (n : Nat) (s : State) : (wtrEnds n s).memory = s.memory := by simp [wtrEnds]
@[simp] theorem memory_fopCm (n : Nat) (s : State) : (fopCm n s).memory = s.memory := by simp [fopCm]
@[simp] theorem memory_hitlessSwitch (n : Nat) (s : State) : (hitlessSwitch n s).memory = s.memory := by simp [hitlessSwitch]
@[simp] theorem memory_applyProt (a : ProtGroupArgs) (s : State) : (applyProt a s).memory = s.memory := by simp [applyProt]

end Sys2Proof.Machine
end

section
/-!
PROOFS. What leaves the two memories alone: performance, Scout, events and hive
-/

namespace Sys2Proof.Machine

open Sys2Proof

/-! ### Machine/Pm.lean -/

@[simp] theorem memory_releaseSnapshot (b : Nat) (s : State) : (releaseSnapshot b s).memory = s.memory := by simp [releaseSnapshot]
@[simp] theorem memory_beatHandler (s : State) : (beatHandler s).memory = s.memory := by simp [beatHandler, consume]
@[simp] theorem memory_handlerOverrun (s : State) : (handlerOverrun s).memory = s.memory := by simp [handlerOverrun]
@[simp] theorem memory_secondOverrun (s : State) : (secondOverrun s).memory = s.memory := by simp [secondOverrun]

@[simp] theorem memory_classifyAll (sec : Nat) (suspect : Bool) (prim : Mon → Prim) (s : State) :
    (classifyAll sec suspect prim s).memory = s.memory := by
  simp [classifyAll, alerts]

@[simp] theorem memory_secondWork (s : State) : (secondWork s).memory = s.memory := by
  simp only [secondWork]
  (repeat' split) <;> simp [classifyDone]

@[simp] theorem memory_secondBins (s : State) : (secondBins s).memory = s.memory := by simp [secondBins]
@[simp] theorem memory_applyMonitor (a : PmMonitorArgs) (s : State) : (applyMonitor a s).memory = s.memory := by simp [applyMonitor]

@[simp] theorem memory_applyProfile (i : Nat) (thr : List Nat) (s : State) : (applyProfile i thr s).memory = s.memory := by
  simp [applyProfile]

@[simp] theorem memory_autoWrite (e : Entity) (day : Bool) (s : State) : (autoWrite e day s).memory = s.memory := by
  unfold autoWrite
  split <;> simp

@[simp] theorem memory_bulkWrite (a : PmBulkArgs) (s : State) : (bulkWrite a s).1.memory = s.memory := by
  unfold bulkWrite
  exact List.foldlRecOn (motive := fun acc : State × Nat × Nat => acc.1.memory = s.memory) _ _ rfl
    fun acc hacc r _ => by split <;> simpa using hacc

/-! ### Machine/Scout.lean -/

@[simp] theorem memory_scoutChange (source input old new : Nat) (s : State) :
    (scoutChange source input old new s).memory = s.memory := by
  simp [scoutChange]

@[simp] theorem memory_setInState (i : Nat) (st : InState) (s : State) : (setInState i st s).memory = s.memory := by simp [setInState]
@[simp] theorem memory_setDpll (st : Dpll) (s : State) : (setDpll st s).memory = s.memory := by simp [setDpll]
@[simp] theorem memory_setFreq (r : Option Nat) (s : State) : (setFreq r s).memory = s.memory := by simp [setFreq]
@[simp] theorem memory_setPhase (r : Option Nat) (s : State) : (setPhase r s).memory = s.memory := by simp [setPhase]
@[simp] theorem memory_setOnset (i onset : Nat) (s : State) : (setOnset i onset s).memory = s.memory := by simp [setOnset]
@[simp] theorem memory_refreshQl (s : State) : (refreshQl s).memory = s.memory := by simp [refreshQl]
@[simp] theorem memory_fixBase (s : State) : (fixBase s).memory = s.memory := by simp [fixBase]
@[simp] theorem memory_abandon (s : State) : (abandon s).memory = s.memory := by simp [abandon]

@[simp] theorem memory_phaseSelect (s : State) : (phaseSelect s).memory = s.memory := by
  simp only [phaseSelect]
  cases phaseTarget s with
  | none => (repeat' split) <;> simp
  | some i => (repeat' split) <;> simp

@[simp] theorem memory_watchQls (s : State) : (watchQls s).memory = s.memory := by simp [watchQls]

@[simp] theorem memory_selectRefs (s : State) : (selectRefs s).memory = s.memory := by
  simp only [selectRefs]
  (repeat' split) <;> simp [toNoTarget, toTarget, manualFails]

@[simp] theorem memory_measureDone (delta freqDiff : Int) (s : State) : (measureDone delta freqDiff s).memory = s.memory := by
  simp [measureDone]

@[simp] theorem memory_closeSwitch (s : State) : (closeSwitch s).memory = s.memory := by simp [closeSwitch]
@[simp] theorem memory_stepDpll (s : State) : (stepDpll s).memory = s.memory := by simp [stepDpll]
@[simp] theorem memory_loseLock (s : State) : (loseLock s).memory = s.memory := by simp [loseLock]

@[simp] theorem memory_applySteer (s : State) : (applySteer s).memory = s.memory := by
  simp only [applySteer]
  (repeat' split) <;> simp

@[simp] theorem memory_steerTimesOut (s : State) : (steerTimesOut s).memory = s.memory := by simp [steerTimesOut]
@[simp] theorem memory_inputFails (i cause : Nat) (s : State) : (inputFails i cause s).memory = s.memory := by simp [inputFails]
@[simp] theorem memory_inputFailClears (i : Nat) (s : State) : (inputFailClears i s).memory = s.memory := by simp [inputFailClears]
@[simp] theorem memory_inputQualifies (i : Nat) (s : State) : (inputQualifies i s).memory = s.memory := by simp [inputQualifies]
@[simp] theorem memory_inputWtrEnds (i : Nat) (s : State) : (inputWtrEnds i s).memory = s.memory := by simp [inputWtrEnds]
@[simp] theorem memory_inputOffset (i : Nat) (raw : Int) (s : State) : (inputOffset i raw s).memory = s.memory := by simp [inputOffset]
@[simp] theorem memory_suspectChanges (i : Nat) (s : State) : (suspectChanges i s).memory = s.memory := by simp [suspectChanges]
@[simp] theorem memory_driftUpdates (i : Nat) (s0 : State) : (driftUpdates i s0).memory = s0.memory := by simp [driftUpdates]
@[simp] theorem memory_ppsEdge (i : Nat) (edge : Int) (s : State) : (ppsEdge i edge s).memory = s.memory := by simp [ppsEdge]

@[simp] theorem memory_phaseCloses (s : State) : (phaseCloses s).memory = s.memory := by
  simp only [phaseCloses]
  (repeat' split) <;> simp

@[simp] theorem memory_oscillatorFails (s : State) : (oscillatorFails s).memory = s.memory := by simp [oscillatorFails]

@[simp] theorem memory_xotempRead (r : Option Int) (s : State) : (xotempRead r s).memory = s.memory := by
  unfold xotempRead
  split <;> simp

@[simp] theorem memory_mirrorBins (first n : Nat) (s : State) : (mirrorBins first n s).memory = s.memory := by simp [mirrorBins]
@[simp] theorem memory_modelUpdates (s : State) : (modelUpdates s).memory = s.memory := by simp [modelUpdates]
@[simp] theorem memory_agingUpdates (s : State) : (agingUpdates s).memory = s.memory := by simp [agingUpdates]
@[simp] theorem memory_boundUpdates (s : State) : (boundUpdates s).memory = s.memory := by simp [boundUpdates]
@[simp] theorem memory_modelSaves (s : State) : (modelSaves s).memory = s.memory := by simp [modelSaves]

@[simp] theorem memory_modelLoads (s : State) : (modelLoads s).memory = s.memory := by
  unfold modelLoads
  split <;> simp

@[simp] theorem memory_applyBfn (offset : Nat) (s : State) : (applyBfn offset s).memory = s.memory := by simp [applyBfn]

@[simp] theorem memory_todApplies (s : State) : (todApplies s).memory = s.memory := by
  unfold todApplies
  split <;> simp

@[simp] theorem memory_squelchChanges (o : Nat) (s : State) : (squelchChanges o s).memory = s.memory := by simp [squelchChanges]

@[simp] theorem memory_liveScoutInput (a : ScoutInputArgs) (s : State) : (liveScoutInput a s).memory = s.memory := by
  simp [liveScoutInput]

@[simp] theorem memory_liveScoutSelect (a : ScoutSelectArgs) (s : State) : (liveScoutSelect a s).memory = s.memory := by
  simp [liveScoutSelect]

@[simp] theorem memory_liveScoutDpll (a : ScoutDpllArgs) (s : State) : (liveScoutDpll a s).memory = s.memory := by simp [liveScoutDpll]

@[simp] theorem memory_liveScoutOutput (a : ScoutOutputArgs) (s : State) : (liveScoutOutput a s).memory = s.memory := by
  simp [liveScoutOutput]

@[simp] theorem memory_beatOutputs (s : State) : (beatOutputs s).memory = s.memory := by simp [beatOutputs]

@[simp] theorem memory_beatScout (s : State) : (beatScout s).memory = s.memory := by
  simp only [beatScout]
  split
  · rfl
  rw [memory_raiseIf, memory_onScout]
  split <;> simp

/-! ### Machine/Reply.lean -/

@[simp] theorem memory_respondRaw (h : Hdr) (svc cmd status : Nat) (fs : Fields) (s : State) :
    (respondRaw h svc cmd status fs s).memory = s.memory := by
  simp [respondRaw]

@[simp] theorem memory_respond (h : Hdr) (svc cmd status : Nat) (fs : Fields) (s : State) :
    (respond h svc cmd status fs s).memory = s.memory := by
  simp [respond]

@[simp] theorem memory_answer (w : Waiter) (status applied : Nat) (s : State) : (answer w status applied s).memory = s.memory := by
  unfold answer
  split <;> simp

@[simp] theorem memory_answerApplied (w : Waiter) (status applied : Nat) (s : State) :
    (answerApplied w status applied s).memory = s.memory := by
  unfold answerApplied
  split <;> simp

@[simp] theorem memory_answerAll (ws : List Waiter) (status applied : Nat) (s : State) :
    (answerAll ws status applied s).memory = s.memory := by
  simp [answerAll]

@[simp] theorem memory_answerOpt (w : Option Waiter) (status applied : Nat) (s : State) :
    (answerOpt w status applied s).memory = s.memory := by
  unfold answerOpt
  split <;> simp

/-! ### Machine/Events.lean -/

@[simp] theorem memory_claimFor (t : Nat) (s : State) : (claimFor t s).2.memory = s.memory := by
  unfold claimFor
  split <;> simp

@[simp] theorem memory_setEvErr (p b : Nat) (s : State) : (setEvErr p b s).memory = s.memory := by simp [setEvErr]

@[simp] theorem memory_completeFor (t n : Nat) (s : State) : (completeFor t n s).memory = s.memory := by
  unfold completeFor
  (repeat' split) <;> simp [completeFor.outOfOrder]

@[simp] theorem memory_evClaim (p : Nat) (half : Half) (s : State) : (evClaim p half s).memory = s.memory := by
  unfold evClaim
  (repeat' split) <;> simp

@[simp] theorem memory_evComplete (p n : Nat) (s : State) : (evComplete p n s).memory = s.memory := by simp [evComplete]
@[simp] theorem memory_evReset (p key : Nat) (s : State) : (evReset p key s).memory = s.memory := by simp [evReset]
@[simp] theorem memory_evSrcWrite (p n : Nat) (v : Nat) (s : State) : (evSrcWrite p n v s).memory = s.memory := by simp [evSrcWrite]
@[simp] theorem memory_evGrpWrite (p g : Nat) (v : Nat) (s : State) : (evGrpWrite p g v s).memory = s.memory := by simp [evGrpWrite]

@[simp] theorem memory_assertSource (n : Nat) (level : Bool) (s : State) : (assertSource n level s).memory = s.memory := by
  simp [assertSource]

@[simp] theorem memory_arbitrate (s : State) : (arbitrate s).memory = s.memory := by simp [arbitrate, arbitratePort, orderSeen]
@[simp] theorem memory_coalesceEnds (p g : Nat) (s : State) : (coalesceEnds p g s).memory = s.memory := by simp [coalesceEnds]
@[simp] theorem memory_redirectEnds (n : Nat) (s : State) : (redirectEnds n s).memory = s.memory := by simp [redirectEnds]

@[simp] theorem memory_portPower (p : Nat) (d3hot msix : Bool) (s : State) : (portPower p d3hot msix s).memory = s.memory := by
  simp [portPower]

/-! ### Machine/Hive.lean -/

@[simp] theorem memory_refreshHive (s : State) : (refreshHive s).memory = s.memory := by simp [refreshHive]
@[simp] theorem memory_enterMode (m : Mode) (s : State) : (enterMode m s).memory = s.memory := by simp [enterMode]

@[simp] theorem memory_enterUnder (m : Mode) (s : State) : (enterUnder m s).memory = s.memory := by
  unfold enterUnder
  split <;> simp

@[simp] theorem memory_releaseToken (cause : Nat) (guard : Bool) (s : State) : (releaseToken cause guard s).memory = s.memory := by
  simp [releaseToken]

@[simp] theorem memory_recordTakeover (cause : Nat) (old : Role) (s : State) : (recordTakeover cause old s).memory = s.memory := by
  simp [recordTakeover]

@[simp] theorem memory_claimToken (cause : Nat) (s : State) : (claimToken cause s).memory = s.memory := by
  simp only [claimToken, memory_recordTakeover, memory_refreshHive, memory_ite, memory_withApFrom]
  simp

@[simp] theorem memory_cancelSwitch (status applied : Nat) (s : State) : (cancelSwitch status applied s).memory = s.memory := by
  unfold cancelSwitch
  split <;> simp

@[simp] theorem memory_tokenClaims (s : State) : (tokenClaims s).memory = s.memory := by
  simp only [tokenClaims]
  (repeat' split) <;> simp [claimFree]

@[simp] theorem memory_tokenReclaims (s : State) : (tokenReclaims s).memory = s.memory := by simp [tokenReclaims]
@[simp] theorem memory_keeperLossRelease (s : State) : (keeperLossRelease s).memory = s.memory := by simp [keeperLossRelease]
@[simp] theorem memory_tokenReleases (cause : Nat) (s : State) : (tokenReleases cause s).memory = s.memory := by simp [tokenReleases]
@[simp] theorem memory_heldClaims (s : State) : (heldClaims s).memory = s.memory := by simp [heldClaims]
@[simp] theorem memory_mateOkChanges (level : Bool) (s : State) : (mateOkChanges level s).memory = s.memory := by simp [mateOkChanges]
@[simp] theorem memory_halfChanges (b up : Bool) (s : State) : (halfChanges b up s).memory = s.memory := by simp [halfChanges]
@[simp] theorem memory_heartbeatMisses (s : State) : (heartbeatMisses s).memory = s.memory := by simp [heartbeatMisses]

@[simp] theorem memory_passedOn (beat : Nat) (holds : Bool) (s : State) : (passedOn beat holds s).memory = s.memory := by
  unfold passedOn
  split <;> simp

@[simp] theorem memory_headerIn (hdr : HiveHeader) (s : State) : (headerIn hdr s).memory = s.memory := by
  unfold headerIn
  split <;> simp [serveGap, takeRequest, phaseSample]

@[simp] theorem memory_hiveFrame (i : Nat) (skew : Int) (codes : List Nat) (s : State) :
    (hiveFrame i skew codes s).memory = s.memory := by
  simp only [hiveFrame]
  (repeat' split) <;> simp

@[simp] theorem memory_switchExecutes (s : State) : (switchExecutes s).memory = s.memory := by
  unfold switchExecutes
  split <;> simp

@[simp] theorem memory_hvCtrl (half : Half) (v : Nat) (s : State) : (hvCtrl half v s).memory = s.memory := by
  unfold hvCtrl
  split <;> simp

@[simp] theorem memory_egressFaults (far : Bool) (s : State) : (egressFaults far s).memory = s.memory := by simp [egressFaults]
@[simp] theorem memory_bbCloses (s : State) : (bbCloses s).memory = s.memory := by simp [bbCloses]

@[simp] theorem memory_joinTimesOut (s : State) : (joinTimesOut s).memory = s.memory := by
  simp only [joinTimesOut]
  (repeat' split) <;> simp

/-! ### Machine/Loss.lean -/

@[simp] theorem memory_halfLost (n : Nat) (s : State) : (halfLost n s).memory = s.memory := by simp [halfLost]
@[simp] theorem memory_clockLost (n : Nat) (s : State) : (clockLost n s).memory = s.memory := by simp [clockLost]

@[simp] theorem memory_laneChanges (n enable loopback : Nat) (s : State) : (laneChanges n enable loopback s).memory = s.memory := by
  simp [laneChanges, applyLane]

@[simp] theorem memory_laneLost (n : Nat) (s : State) : (laneLost n s).memory = s.memory := by simp [laneLost]
@[simp] theorem memory_losDeclares (n : Nat) (s : State) : (losDeclares n s).memory = s.memory := by simp [losDeclares, losDeclared]
@[simp] theorem memory_lolDeclares (n : Nat) (s : State) : (lolDeclares n s).memory = s.memory := by simp [lolDeclares, lolDeclared]
@[simp] theorem memory_forceLane (n : Nat) (f : Lane → Lane) (s : State) : (forceLane n f s).memory = s.memory := by simp [forceLane]
@[simp] theorem memory_alignmentLost (n : Nat) (s : State) : (alignmentLost n s).memory = s.memory := by simp [alignmentLost, alignLost]

end Sys2Proof.Machine
end

section
/-!
PROOFS. What leaves the two memories alone: the Keeper, the bus, power, the boot and the beat
-/

namespace Sys2Proof.Machine

open Sys2Proof

/-! ### Machine/Guard.lean -/

@[simp] theorem memory_setCore (c : Nat) (st : Core) (s : State) : (setCore c st s).memory = s.memory := by simp [setCore]
@[simp] theorem memory_retarget (c d : Nat) (s : State) : (retarget c d s).memory = s.memory := by simp [retarget]
@[simp] theorem memory_handToRelief (c r : Nat) (s : State) : (handToRelief c r s).memory = s.memory := by simp [handToRelief]

@[simp] theorem memory_coreRetires (c : Nat) (s : State) : (coreRetires c s).memory = s.memory := by
  unfold coreRetires
  split <;> simp

@[simp] theorem memory_watchdogHalf (core : Option Nat) (s : State) : (watchdogHalf core s).memory = s.memory := by
  unfold watchdogHalf
  split <;> simp

@[simp] theorem memory_releaseKeeperSems (s : State) : (releaseKeeperSems s).memory = s.memory := (rfl)
@[simp] theorem memory_holdCores (s : State) : (holdCores s).memory = s.memory := by simp [holdCores, clearCoreStacks]
@[simp] theorem memory_keeperDown (cause : Nat) (s : State) : (keeperDown cause s).memory = s.memory := by simp [keeperDown, loseCommands]

@[simp] theorem memory_toAutopilot (cause : Nat) (s : State) : (toAutopilot cause s).memory = s.memory := by
  simp only [toAutopilot, memory_keeperLossRelease, memory_refreshHive, memory_onPower, memory_enterMode, memory_ite, memory_withApFrom]
  simp

@[simp] theorem memory_autopilotEnters (storm : Bool) (s : State) : (autopilotEnters storm s).memory = s.memory := by
  simp [autopilotEnters]

@[simp] theorem memory_lostInPlace (storm : Bool) (s : State) : (lostInPlace storm s).memory = s.memory := by simp [lostInPlace]
@[simp] theorem memory_keeperLoss (cause : Nat) (s : State) : (keeperLoss cause s).memory = s.memory := by simp [keeperLoss]
@[simp] theorem memory_coresShort (reliefGone : Bool) (s : State) : (coresShort reliefGone s).memory = s.memory := by simp [coresShort]

@[simp] theorem memory_coreExpires (c : Nat) (s : State) : (coreExpires c s).memory = s.memory := by
  unfold coreExpires
  (repeat' split) <;> simp

@[simp] theorem memory_clusterExpires (s : State) : (clusterExpires s).memory = s.memory := by simp [clusterExpires]
@[simp] theorem memory_handlerLost (s : State) : (handlerLost s).memory = s.memory := by simp [handlerLost]
@[simp] theorem memory_toHalt (cause : Nat) (s : State) : (toHalt cause s).memory = s.memory := by simp [toHalt]
@[simp] theorem memory_haltEnters (storm : Bool) (s : State) : (haltEnters storm s).memory = s.memory := by simp [haltEnters]
@[simp] theorem memory_guardStepExpires (s : State) : (guardStepExpires s).memory = s.memory := by simp [guardStepExpires]

@[simp] theorem memory_recordFault (code kind index detail : Nat) (s : State) :
    (recordFault code kind index detail s).memory = s.memory := by
  simp [recordFault, guardActs]

@[simp] theorem memory_clearStorm (key : Nat) (s : State) : (clearStorm key s).memory = s.memory := by simp [clearStorm]
@[simp] theorem memory_gdResolve (entry key : Nat) (s : State) : (gdResolve entry key s).memory = s.memory := by simp [gdResolve]
@[simp] theorem memory_quiesceExpires (s : State) : (quiesceExpires s).memory = s.memory := by simp [quiesceExpires]

/-! ### Machine/Port.lean -/

@[simp] theorem memory_freeSem (n : Nat) (s : State) : (freeSem n s).memory = s.memory := by simp [freeSem]
@[simp] theorem memory_grantSem (n p : Nat) (s : State) : (grantSem n p s).memory = s.memory := by simp [grantSem]
@[simp] theorem memory_renewLeases (p : Nat) (s : State) : (renewLeases p s).memory = s.memory := (rfl)
@[simp] theorem memory_setBatch (s : State) (p : Nat) (b : Option Batch) : (s.setBatch p b).memory = s.memory := by simp [State.setBatch]
@[simp] theorem memory_endSession (p : Nat) (s : State) : (endSession p s).memory = s.memory := by simp [endSession]
@[simp] theorem memory_loseSession (p : Nat) (s : State) : (loseSession p s).memory = s.memory := by simp [loseSession]
@[simp] theorem memory_leaseExpires (n : Nat) (s : State) : (leaseExpires n s).memory = s.memory := by simp [leaseExpires]
@[simp] theorem memory_portLost (p : Nat) (s : State) : (portLost p s).memory = s.memory := by simp [portLost, releasePort]
@[simp] theorem memory_linkDown (p : Nat) (s : State) : (linkDown p s).memory = s.memory := by simp [linkDown]
@[simp] theorem memory_pcieLinkDown (p : Nat) (s : State) : (pcieLinkDown p s).memory = s.memory := by simp [pcieLinkDown]
@[simp] theorem memory_perstAsserts (p : Nat) (s : State) : (perstAsserts p s).memory = s.memory := by simp [perstAsserts]
@[simp] theorem memory_pcieLinkUp (p : Nat) (s : State) : (pcieLinkUp p s).memory = s.memory := by simp [pcieLinkUp]
@[simp] theorem memory_pcieFlr (p : Nat) (s : State) : (pcieFlr p s).memory = s.memory := by simp [pcieFlr]
@[simp] theorem memory_setRead (p : Nat) (v : Word) (s : State) : (setRead p v s).memory = s.memory := by simp [setRead]

@[simp] theorem memory_semAcquire (p n : Nat) (half : Half) (tie : Bool) (s : State) :
    (semAcquire p n half tie s).memory = s.memory := by
  unfold semAcquire
  (repeat' split) <;> simp

@[simp] theorem memory_semRelease (p n : Nat) (s : State) : (semRelease p n s).memory = s.memory := by simp [semRelease]

@[simp] theorem memory_semRenew (p : Nat) (half : Half) (s : State) : (semRenew p half s).memory = s.memory := by
  unfold semRenew
  (repeat' split) <;> simp

/-! ### Machine/Bus.lean -/

@[simp] theorem memory_setIdErr (b : Nat) (s : State) : (setIdErr b s).memory = s.memory := by simp [setIdErr]
@[simp] theorem memory_openGap (s : State) : (openGap s).memory = s.memory := by simp [openGap]

@[simp] theorem memory_errorResponse (master kind addr : Nat) (sealedTarget : Bool) (s : State) :
    (errorResponse master kind addr sealedTarget s).memory = s.memory := by
  simp only [errorResponse]
  (repeat' split) <;> simp

@[simp] theorem memory_defaultTarget (master addr : Nat) (worldIndex : Option Nat) (s : State) :
    (defaultTarget master addr worldIndex s).memory = s.memory := by
  simp only [defaultTarget]
  (repeat' split) <;> simp

@[simp] theorem memory_busTimeout (master addr : Nat) (s : State) : (busTimeout master addr s).memory = s.memory := by
  simp only [busTimeout]
  (repeat' split) <;> simp

@[simp] theorem memory_remapApplies (v : Bool) (s : State) : (remapApplies v s).memory = s.memory := by
  simp only [remapApplies]
  (repeat' split) <;> simp

@[simp] theorem memory_requestDenied (master addr : Nat) (s : State) : (requestDenied master addr s).memory = s.memory := by
  unfold requestDenied
  (repeat' split) <;> simp

@[simp] theorem memory_requestExpires (master addr : Nat) (s : State) : (requestExpires master addr s).memory = s.memory := by
  simp [requestExpires]

@[simp] theorem memory_sramStep (corrected passed : Bool) (s : State) : (sramStep corrected passed s).memory = s.memory := by
  simp only [sramStep]
  (repeat' split) <;> simp

@[simp] theorem memory_scrubLine (d line outcome0 : Nat) (last : Bool) (s : State) :
    (scrubLine d line outcome0 last s).memory = s.memory := by
  simp [scrubLine]

@[simp] theorem memory_thermalRead (d : Nat) (temp : Int) (s : State) : (thermalRead d temp s).memory = s.memory := by simp [thermalRead]

@[simp] theorem memory_barAccess (p off : Nat) {f : State → State} {s : State} (hf : (f s).memory = s.memory) :
    (barAccess p off f s).memory = s.memory := by
  unfold barAccess
  split
  · simp
  · exact hf

@[simp] theorem memory_bar2Read (p off n : Nat) (uncorrectable : Bool) (s : State) :
    (bar2Read p off n uncorrectable s).memory = s.memory := by
  simp [bar2Read]

/-! ### Machine/Test.lean -/

@[simp] theorem memory_armMigration (kind index spare : Nat) (toSpare hold : Bool) (s : State) :
    (armMigration kind index spare toSpare hold s).memory = s.memory := by
  simp [armMigration]

@[simp] theorem memory_endSlice (s : State) : (endSlice s).memory = s.memory := by simp [endSlice]
@[simp] theorem memory_refreshSuspension (s : State) : (refreshSuspension s).memory = s.memory := by simp [refreshSuspension]

theorem memory_sliceGoes {s t u : State} (ht : t.memory = s.memory) (h : some (raise 291 (tick 164 noUnit 1 t)) = some u) :
    u.memory = s.memory := by
  cases h
  simpa using ht

/-- Whatever unit's slice starts, in place or with a migration. -/
theorem memory_startSlice {kind index : Nat} {s t : State} (h : startSlice kind index s = some t) : t.memory = s.memory := by
  have hplace (f : Test → Test) (h : some (raise 291 (tick 164 noUnit 1 (s.onTest f))) = some t) : t.memory = s.memory :=
    memory_sliceGoes (by simp) h
  simp only [startSlice] at h
  split at h
  · cases h
  split at h
  · cases h
  split at h
  · split at h
    · obtain ⟨u, hu, rfl⟩ := Option.map_eq_some_iff.mp h
      simpa using memory_sliceGoes (s := s) (by simp) hu
    · exact hplace _ h
    · cases h
  split at h
  · split at h
    · cases h
    · exact memory_sliceGoes (by simp) h
  split at h
  · split at h
    · cases h
    · cases h
      simp
  split at h
  · cases h
  split at h
  · obtain ⟨sp, -, hgo⟩ := Option.bind_eq_some_iff.mp h
    exact memory_sliceGoes (by simp) hgo
  obtain ⟨-, -, hgo⟩ : _ ∧ _ ∧ _ := by simpa only [Option.ite_none_left_eq_some] using h
  exact hplace _ hgo

@[simp] theorem memory_sliceSlot (s : State) : (sliceSlot s).memory = s.memory := by
  simp only [sliceSlot]
  split
  · rfl
  split
  next t h => simpa using memory_startSlice h
  · simp

@[simp] theorem memory_shadowStarts (s : State) : (shadowStarts s).memory = s.memory := by
  unfold shadowStarts
  split <;> simp

@[simp] theorem memory_handover (s : State) : (handover s).memory = s.memory := by
  unfold handover
  split <;> simp [assignSpare]

@[simp] theorem memory_migrationAborts (s : State) : (migrationAborts s).memory = s.memory := by
  unfold migrationAborts
  split <;> simp

@[simp] theorem memory_abortSlice (s : State) : (abortSlice s).memory = s.memory := by
  unfold abortSlice
  split <;> simp

@[simp] theorem memory_slicePassed (s : State) : (slicePassed s).memory = s.memory := by simp [slicePassed]
@[simp] theorem memory_sliceFailed (kind index : Nat) (s : State) : (sliceFailed kind index s).memory = s.memory := by simp [sliceFailed]

@[simp] theorem memory_testDone (one two : TestRun) (s : State) : (testDone one two s).memory = s.memory := by
  simp only [testDone]
  (repeat' split) <;> simp

@[simp] theorem memory_regionSlice (r : Nat) (marchOk : Bool) (s : State) : (regionSlice r marchOk s).memory = s.memory := by
  simp [regionSlice]

@[simp] theorem memory_tracerTags (n g : Nat) (s : State) : (tracerTags n g s).memory = s.memory := by simp [tracerTags]

@[simp] theorem memory_tracerWrites (id txLane mask flags : Nat) (dts : List Nat) (s : State) :
    (tracerWrites id txLane mask flags dts s).memory = s.memory := by
  unfold tracerWrites
  split <;> simp

@[simp] theorem memory_beatTracers (s : State) : (beatTracers s).memory = s.memory := by simp [beatTracers]

/-! ### Machine/Power.lean -/

@[simp] theorem memory_beginWake (s : State) : (beginWake s).memory = s.memory := by
  rw [beginWake, memory_raise, memory_withMode, memory_onSec]

@[simp] theorem memory_startUp (s : State) : (startUp s).memory = s.memory := by simp [startUp]
@[simp] theorem memory_startPowerDown (cause : Nat) (s : State) : (startPowerDown cause s).memory = s.memory := by simp [startPowerDown]
@[simp] theorem memory_seqSteps (s0 : State) : (seqSteps s0).memory = s0.memory := by simp [seqSteps]
@[simp] theorem memory_rampExpires (s : State) : (rampExpires s).memory = s.memory := by simp [rampExpires]
@[simp] theorem memory_wakeFalls (s : State) : (wakeFalls s).memory = s.memory := by simp [wakeFalls]

@[simp] theorem memory_resetReleases (side flashSlow testEn : Bool) (s : State) :
    (resetReleases side flashSlow testEn s).memory = s.memory := by
  simp [resetReleases]

@[simp] theorem memory_wakeCleared (s : State) : (wakeCleared s).memory = s.memory := by
  simp only [wakeCleared]
  (repeat' split) <;> simp

@[simp] theorem memory_autoWakes (s : State) : (autoWakes s).memory = s.memory := by simp [autoWakes]

@[simp] theorem memory_enterLean (s : State) : (enterLean s).memory = s.memory := by
  simp only [enterLean]
  (repeat' split) <;> simp

@[simp] theorem memory_pfwAsserts (s : State) : (pfwAsserts s).memory = s.memory := by simp [pfwAsserts]
@[simp] theorem memory_pfwReleases (s : State) : (pfwReleases s).memory = s.memory := by simp [pfwReleases]
@[simp] theorem memory_leanExits (s : State) : (leanExits s).memory = s.memory := by simp [leanExits, returnTwins]
@[simp] theorem memory_leanMaxExpires (s : State) : (leanMaxExpires s).memory = s.memory := by simp [leanMaxExpires]
@[simp] theorem memory_beatLean (s : State) : (beatLean s).memory = s.memory := by simp [beatLean]
@[simp] theorem memory_railClears (r : Nat) (s : State) : (railClears r s).memory = s.memory := by simp [railClears]
@[simp] theorem memory_beatRails (s : State) : (beatRails s).memory = s.memory := by simp [beatRails]
@[simp] theorem memory_pmbAlerts (status : List Nat) (s : State) : (pmbAlerts status s).memory = s.memory := by simp [pmbAlerts]
@[simp] theorem memory_pmbusFails (s : State) : (pmbusFails s).memory = s.memory := by simp [pmbusFails]
@[simp] theorem memory_avsSample (m : Int) (s : State) : (avsSample m s).memory = s.memory := by simp [avsSample]
@[simp] theorem memory_countReads (n : Nat) (tj : Int) (s : State) : (countReads n tj s).memory = s.memory := by simp [countReads]

@[simp] theorem memory_energyRead (readings : List (Nat × Nat × Nat)) (tj : Int) (s : State) :
    (energyRead readings tj s).memory = s.memory := by
  simp only [energyRead]
  split
  · rfl
  · rw [memory_raiseIf, memory_onPower, memory_foldl (fun t r => by split <;> simp), memory_countReads]

/-! ### Machine/Sting.lean -/

@[simp] theorem memory_stingEnds (a : TestStingArgs) (s : State) : (stingEnds a s).memory = s.memory := by
  unfold stingEnds
  split <;> simp

@[simp] theorem memory_endSting (a : TestStingArgs) (s : State) : (endSting a s).memory = s.memory := by simp [endSting]

/-! ### Machine/Apply.lean -/

@[simp] theorem memory_applyCal (n group : Nat) (c : UserCal) (s : State) : (applyCal n group c s).memory = s.memory := by
  simp [applyCal, State.setCal]

@[simp] theorem memory_applyDay (d : Nat) (s : State) : (applyDay d s).memory = s.memory := by simp [applyDay]

@[simp] theorem memory_applyChange (c : Change) (s : State) : (applyChange c s).memory = s.memory := by
  unfold applyChange
  split <;> simp [applyCpriPort, applyAxc, applyNurseVc]

@[simp] theorem memory_applyChanges (cs : List Change) (s : State) : (applyChanges cs s).memory = s.memory := by simp [applyChanges]

@[simp] theorem memory_livePowerConfig (a : PowerConfigArgs) (s : State) : (livePowerConfig a s).memory = s.memory := by
  simp [livePowerConfig]

@[simp] theorem memory_liveHiveConfig (a : HiveConfigArgs) (s : State) : (liveHiveConfig a s).memory = s.memory := by
  simp [liveHiveConfig]

@[simp] theorem memory_liveTrim (n : Nat) (t : Int) (s : State) : (liveTrim n t s).memory = s.memory := by simp [liveTrim]
@[simp] theorem memory_livePmPort (port auto : Nat) (s : State) : (livePmPort port auto s).memory = s.memory := by simp [livePmPort]

@[simp] theorem memory_applyLive (l : Live) (s : State) : (applyLive l s).memory = s.memory := by
  unfold applyLive
  split <;> simp [liveLane, liveLaneF, livePrbs]

@[simp] theorem memory_applyLives (ls : List Live) (s : State) : (applyLives ls s).memory = s.memory := by simp [applyLives]

@[simp] theorem memory_moveHandover (cs : List Change) (s0 : State) : (moveHandover cs s0).memory = s0.memory := by
  simp only [moveHandover]
  (repeat' split) <;> simp [moveRotation]

/-! ### Machine/Boot.lean -/

@[simp] theorem memory_writeBlock (preferred trial tries : Nat) (s : State) :
    (writeBlock preferred trial tries s).memory = s.memory := by
  simp [writeBlock]

@[simp] theorem memory_setSlot (k : Nat) (x : Slot) (s : State) : (setSlot k x s).memory = s.memory := by simp [setSlot]
@[simp] theorem memory_bootEvents (s : State) : (bootEvents s).memory = s.memory := by simp [bootEvents]
@[simp] theorem memory_applyWorldMap (x : Slot) (s : State) : (applyWorldMap x s).memory = s.memory := by simp [applyWorldMap]
@[simp] theorem memory_bootTests (s : State) : (bootTests s).memory = s.memory := by simp [bootTests]

@[simp] theorem memory_bootFlash (s : State) : (bootFlash s).memory = s.memory := by
  simp only [bootFlash]
  (repeat' split) <;> simp

@[simp] theorem memory_chooseSlot (s : State) : (chooseSlot s).2.memory = s.memory := by
  simp only [chooseSlot]
  (repeat' split) <;> simp

@[simp] theorem memory_provisionEnters (s : State) : (provisionEnters s).memory = s.memory := by simp [provisionEnters]
@[simp] theorem memory_beginAttempt (s : State) : (beginAttempt s).memory = s.memory := by simp [beginAttempt]
@[simp] theorem memory_restartAttempts (s : State) : (restartAttempts s).memory = s.memory := by simp [restartAttempts]
@[simp] theorem memory_gdRestarts (key : Nat) (s : State) : (gdRestarts key s).memory = s.memory := by simp [gdRestarts]
@[simp] theorem memory_restartExpires (s : State) : (restartExpires s).memory = s.memory := by simp [restartExpires]
@[simp] theorem memory_releaseMerged (s : State) : (releaseMerged s).memory = s.memory := by simp [releaseMerged]

@[simp] theorem memory_resumeMode (s : State) : (resumeMode s).memory = s.memory := by
  unfold resumeMode
  (repeat' split) <;> simp

@[simp] theorem memory_markLate (s : State) : (markLate s).memory = s.memory := by simp [markLate]

@[simp] theorem memory_keeperResumes (s : State) : (keeperResumes s).memory = s.memory := by
  simp only [keeperResumes]
  split
  · rw [memory_answerAll, memory_onClk, memory_notify, memory_raise, memory_markLate, memory_resumeMode, memory_resolveWhere,
      memory_releaseMerged, memory_onGuard, memory_onKeeper]
  · rfl

@[simp] theorem memory_bootTrained (d size ranks rate outcome : Nat) (s : State) :
    (bootTrained d size ranks rate outcome s).memory = s.memory := by
  simp [bootTrained]

@[simp] theorem memory_changeWorld (w : Waiter) (a : SecWorldArgs) (s : State) : (changeWorld w a s).2.memory = s.memory := by
  simp only [changeWorld]
  (repeat' split) <;> simp

@[simp] theorem memory_changesNext (l : List (Waiter × SecWorldArgs)) (s : State) : (changesNext l s).memory = s.memory := by
  unfold changesNext
  refine (memory_foldl (fun t x => ?_) l _).trans (by simp)
  have hnext := memory_changeWorld x.1 x.2 t
  split
  · simp
  split <;> simp_all

@[simp] theorem memory_otpDone (ok : Bool) (s : State) : (otpDone ok s).memory = s.memory := by
  unfold otpDone
  split <;> simp

@[simp] theorem memory_flashHolds (kind : Nat) (w : Waiter) (s : State) : (flashHolds kind w s).memory = s.memory := by
  unfold flashHolds
  split <;> simp

@[simp] theorem memory_flashDone (ok : Bool) (s : State) : (flashDone ok s).memory = s.memory := by
  unfold flashDone
  split <;> simp

@[simp] theorem memory_dataDone (p offset : Nat) (bytes : List Byte) (s : State) : (dataDone p offset bytes s).memory = s.memory := by
  unfold dataDone
  split <;> simp

@[simp] theorem memory_tryActivate (s : State) : (tryActivate s).memory = s.memory := by
  unfold tryActivate
  split <;> simp [enterQuiesce]

@[simp] theorem memory_activateExpires (s : State) : (activateExpires s).memory = s.memory := by
  unfold activateExpires
  split <;> simp

@[simp] theorem memory_nonceExpires (p : Nat) (s : State) : (nonceExpires p s).memory = s.memory := by simp [nonceExpires]
@[simp] theorem memory_lockExpires (p : Nat) (s : State) : (lockExpires p s).memory = s.memory := by simp [lockExpires]
@[simp] theorem memory_returnDone (d : Nat) (s : State) : (returnDone d s).memory = s.memory := by simp [returnDone]

/-! ### Machine/Mirror.lean -/

@[simp] theorem memory_mirrorBinsIn (first : Nat) (values : List (Int × Nat)) (s : State) :
    (mirrorBinsIn first values s).memory = s.memory := by
  simp [mirrorBinsIn]

@[simp] theorem memory_applyMirror (r : MirrorRec) (s : State) : (applyMirror r s).memory = s.memory := by
  unfold applyMirror
  split <;> simp [mirrorClose, mirrorProt, mirrorScout]

@[simp] theorem memory_takeRecord (r : MirrorRec) (s : State) : (takeRecord r s).memory = s.memory := by
  unfold takeRecord
  split <;> simp

@[simp] theorem memory_mirrorIn (seq : Nat) (crcOk : Bool) (r : MirrorRec) (s : State) : (mirrorIn seq crcOk r s).memory = s.memory := by
  simp [mirrorIn]

@[simp] theorem memory_loadChunk (r : MirrorRec) (s : State) : (loadChunk r s).memory = s.memory := by
  unfold loadChunk
  split <;> simp

@[simp] theorem memory_joinEnds (s : State) : (joinEnds s).memory = s.memory := by
  simp only [joinEnds]
  (repeat' split) <;> simp

@[simp] theorem memory_snapshotLoads (s : State) : (snapshotLoads s).memory = s.memory := by simp [snapshotLoads]

/-! ### Machine/Beat.lean -/

@[simp] theorem memory_applyTicket (k : Ticket) (s : State) : (applyTicket k s).memory = s.memory := by simp [applyTicket]

@[simp] theorem memory_ticketApplies (id : Nat) (s : State) : (ticketApplies id s).memory = s.memory := by
  unfold ticketApplies
  split <;> simp

@[simp] theorem memory_ticketArms (id : Nat) (s : State) : (ticketArms id s).memory = s.memory := by simp [ticketArms]

@[simp] theorem memory_startPhase (k : ReplyKind) (s : State) : (startPhase k s).memory = s.memory := by
  unfold startPhase
  split <;> simp

@[simp] theorem memory_beatStarts (s : State) : (beatStarts s).memory = s.memory := by
  unfold beatStarts
  (repeat' split) <;> simp

@[simp] theorem memory_pipelineOverruns (kind index : Nat) (s : State) : (pipelineOverruns kind index s).memory = s.memory := by
  unfold pipelineOverruns
  split <;> simp

@[simp] theorem memory_beatPipeline (s : State) : (beatPipeline s).memory = s.memory := by simp [beatPipeline]

@[simp] theorem memory_beatLeases (s : State) : (beatLeases s).memory = s.memory := by
  unfold beatLeases
  split <;> rfl

@[simp] theorem memory_beatMirror (s : State) : (beatMirror s).memory = s.memory := by simp [beatMirror]
@[simp] theorem memory_beatPending (s : State) : (beatPending s).memory = s.memory := by simp [beatPending]
@[simp] theorem memory_beatClears (s : State) : (beatClears s).memory = s.memory := (rfl)

@[simp] theorem memory_beatUnits (s : State) : (beatUnits s).memory = s.memory := by
  simp only [beatUnits]
  simp

@[simp] theorem memory_beatBulk (s : State) : (beatBulk s).memory = s.memory := by simp [beatBulk]

@[simp] theorem memory_beatKeeping (s : State) : (beatKeeping s).memory = s.memory := by
  simp [beatKeeping, beatHive, beatFarEnd, beatHeaders]

@[simp] theorem memory_beatNext (s : State) : (beatNext s).memory = s.memory := by simp [beatNext, writeSnapshot, leanTwins, applyDue]

/-! ### Machine/Capping.lean -/

@[simp] theorem memory_failBatch (p status : Nat) (s : State) : (failBatch p status s).memory = s.memory := by
  unfold failBatch
  split <;> simp

@[simp] theorem memory_refuseCommand (h : Hdr) (svc cmd : Nat) (cap : Bool) (status : Nat) (shape : Fields) (s : State) :
    (refuseCommand h svc cmd cap status shape s).memory = s.memory := by
  simp [refuseCommand]

@[simp] theorem memory_completeTicket (id : Nat) (cs : List Change) (target : Option Nat) (us : Nat) (w : Waiter) (s : State) :
    (completeTicket id cs target us w s).memory = s.memory := by
  simp [completeTicket]

@[simp] theorem memory_takeTicket (s : State) : (takeTicket s).2.memory = s.memory := rfl
@[simp] theorem memory_writeLive (ls : List Live) (s : State) : (writeLive ls s).memory = s.memory := by simp [writeLive]

/-- A captured change goes into a batch or a ticket, and leaves what the command and the block before it hold. -/
theorem capture_ensures {P : Memories → Prop} {t s : State} (ht : P t.memory) (hs : P s.memory) (h : Hdr) (svc cmd : Nat) (shape : Fields)
    (cs : List Change) (kind : ReplyKind) : P (capture h svc cmd shape cs kind t s).memory := by
  simp only [capture]
  (repeat' split) <;> simpa

/-- What holds of the memories before a command and of those that its own rules make holds after it. -/
theorem serve_ensures {P : Memories → Prop} {act : Act} {s : State} (hs : P s.memory) (hact : act.Ensures P) (h : Hdr) (svc cmd : Nat)
    (locked cap : Bool) (shape : Fields) : P (serve h svc cmd locked cap shape act s).memory := by
  unfold serve
  split
  · exact hs
  split
  · simpa using hs
  cases act with
  | cap cs kind t =>
    dsimp only
    split
    · simpa using hact
    · exact capture_ensures hact hs h svc cmd shape cs kind
  | ok | fails | later => simpa using hact
  | refuse | refuseWith => simpa using hs

@[simp] theorem memory_serve (h : Hdr) (svc cmd : Nat) (locked cap : Bool) (shape : Fields) {act : Act} {s : State}
    (hact : act.Leaves s.memory) : (serve h svc cmd locked cap shape act s).memory = s.memory :=
  serve_ensures (P := (· = s.memory)) rfl hact h svc cmd locked cap shape

@[simp] theorem leaves_setBlock (p : Nat) (on wants differs : Bool) (off c : Change) (live : List Live) (kind : ReplyKind) (s : State) :
    (setBlock p on wants differs off c live kind s).Leaves s.memory := by
  simp only [setBlock]
  (repeat' split) <;> simp

@[simp] theorem ensures_okStatus (P : Memories → Prop) (t : State) : (okStatus t).Ensures P ↔ P t.memory := .rfl

end Sys2Proof.Machine
end

section
/-!
PROOFS. What leaves the two memories alone: the services and the host ports
-/

namespace Sys2Proof.Machine

open Sys2Proof

/-! ### Machine/SvcLine.lean -/

@[simp] theorem memory_laneConfig (h : Hdr) (a : LaneArgs) (s : State) : (laneConfig h a s).memory = s.memory := by
  simp [laneConfig, laneConfigAct]

@[simp] theorem memory_laneStatus (h : Hdr) (n clear : Nat) (s : State) : (laneStatus h n clear s).memory = s.memory := by
  simp [laneStatus, clearLane]

@[simp] theorem memory_lanePrbs (h : Hdr) (a : LanePrbsArgs) (s : State) : (lanePrbs h a s).memory = s.memory := by simp [lanePrbs]
@[simp] theorem memory_laneSlip (h : Hdr) (n : Nat) (s : State) : (laneSlip h n s).memory = s.memory := by simp [laneSlip, slipLane]

@[simp] theorem memory_laneTrim (h : Hdr) (n : Nat) (trim : Int) (s : State) : (laneTrim h n trim s).memory = s.memory := by
  simp [laneTrim]

@[simp] theorem memory_laneCal (h : Hdr) (a : LaneCalArgs) (s : State) : (laneCal h a s).memory = s.memory := by
  simp [laneCal, laneCalAct]

@[simp] theorem memory_sdhPort (h : Hdr) (a0 : SdhPortArgs) (s : State) : (sdhPort h a0 s).memory = s.memory := by
  simp [sdhPort, sdhPortAct]

@[simp] theorem memory_sdhPath (h : Hdr) (a0 : SdhPathArgs) (s : State) : (sdhPath h a0 s).memory = s.memory := by
  simp [sdhPath, sdhPathAct]

@[simp] theorem memory_sdhOh (h : Hdr) (a0 : SdhOhArgs) (s : State) : (sdhOh h a0 s).memory = s.memory := by simp [sdhOh]

@[simp] theorem memory_sdhStatus (h : Hdr) (n g clear : Nat) (s : State) : (sdhStatus h n g clear s).memory = s.memory := by
  simp [sdhStatus, clearSdh]

@[simp] theorem memory_sdhTrace (h : Hdr) (n g : Nat) (s : State) : (sdhTrace h n g s).memory = s.memory := by simp [sdhTrace]

@[simp] theorem memory_cpriPort (h : Hdr) (a0 : CpriPortArgs) (s : State) : (cpriPort h a0 s).memory = s.memory := by
  simp [cpriPort, cpriPortAct]

@[simp] theorem memory_cpriAxc (h : Hdr) (a : CpriAxcArgs) (s : State) : (cpriAxc h a s).memory = s.memory := by
  simp [cpriAxc, cpriAxcAct]

@[simp] theorem memory_cpriCm (h : Hdr) (a0 : CpriCmArgs) (s : State) : (cpriCm h a0 s).memory = s.memory := by simp [cpriCm]
@[simp] theorem memory_cpriL1 (h : Hdr) (n action : Nat) (s : State) : (cpriL1 h n action s).memory = s.memory := by simp [cpriL1]

@[simp] theorem memory_cpriStatus (h : Hdr) (n clear : Nat) (s : State) : (cpriStatus h n clear s).memory = s.memory := by
  simp [cpriStatus, clearCpri]

/-! ### Machine/SvcComb.lean -/

@[simp] theorem memory_combConnect (h : Hdr) (op : Nat) (es : List ConnEntry) (s : State) :
    (combConnect h op es s).memory = s.memory := by
  simp [combConnect, combConnectAct]

@[simp] theorem memory_combBrood (h : Hdr) (op kind : Nat) (es : List BroodEntry) (s : State) :
    (combBrood h op kind es s).memory = s.memory := by
  simp [combBrood, combBroodAct]

@[simp] theorem memory_combTu (h : Hdr) (op : Nat) (es : List TuEntry) (s : State) : (combTu h op es s).memory = s.memory := by
  simp [combTu, combTuAct]

@[simp] theorem memory_combRead (h : Hdr) (a : CombReadArgs) (s : State) : (combRead h a s).memory = s.memory := by
  simp [combRead, combReadAct]

@[simp] theorem memory_combStatus (h : Hdr) (port clear : Nat) (s : State) : (combStatus h port clear s).memory = s.memory := by
  simp [combStatus, clearComb]

@[simp] theorem memory_combTest (h : Hdr) (a : CombTestArgs) (s : State) : (combTest h a s).memory = s.memory := by
  simp [combTest, combTestAct]

@[simp] theorem memory_combTap (h : Hdr) (a : CombTapArgs) (s : State) : (combTap h a s).memory = s.memory := by
  simp [combTap, combTapAct]

/-! ### Machine/SvcNurse.lean -/

@[simp] theorem memory_nurseVc (h : Hdr) (a : NurseVcArgs) (s : State) : (nurseVc h a s).memory = s.memory := by
  simp [nurseVc, nurseVcAct]

@[simp] theorem memory_nurseTu (h : Hdr) (a0 : NurseTuArgs) (s : State) : (nurseTu h a0 s).memory = s.memory := by
  simp [nurseTu, nurseTuAct]

@[simp] theorem memory_nurseAxcvcat (h : Hdr) (a0 : NurseAxvArgs) (s : State) : (nurseAxcvcat h a0 s).memory = s.memory := by
  simp [nurseAxcvcat, nurseAxvAct]

@[simp] theorem memory_clearNurse (a : NurseStatusArgs) (s : State) : (clearNurse a s).memory = s.memory := by
  unfold clearNurse
  (repeat' split) <;> simp

@[simp] theorem memory_nurseStatus (h : Hdr) (a : NurseStatusArgs) (s : State) : (nurseStatus h a s).memory = s.memory := by
  simp [nurseStatus]

/-! ### Machine/SvcPool.lean -/

@[simp] theorem leaves_poolSetAct (p : Nat) (c0 : PoolCfg) (s : State) : (poolSetAct p c0 s).Leaves s.memory := by
  unfold poolSetAct
  (repeat' split) <;> simp

@[simp] theorem memory_poolCommand (h : Hdr) (cmd : Nat) (c : PoolCfg) (s : State) : (poolCommand h cmd c s).memory = s.memory := by
  simp [poolCommand, poolAct, poolRealign]

@[simp] theorem memory_poolDelay (h : Hdr) (a : PoolDelayArgs) (s : State) : (poolDelay h a s).memory = s.memory := by simp [poolDelay]
@[simp] theorem memory_poolGroup (h : Hdr) (a : PoolGroupArgs) (s : State) : (poolGroup h a s).memory = s.memory := by simp [poolGroup]
@[simp] theorem memory_poolTwin (h : Hdr) (a : PoolTwinArgs) (s : State) : (poolTwin h a s).memory = s.memory := by simp [poolTwin]
@[simp] theorem memory_loadSwitch (d : Nat) (on : Bool) (s : State) : (loadSwitch d on s).memory = s.memory := by simp [loadSwitch]

theorem memory_channelOp {d op : Nat} {s t : State} (h : channelOp d op s = some t) : t.memory = s.memory := by
  simp only [channelOp] at h
  (repeat' split at h) <;> simp at h <;> simp [← h]

@[simp] theorem leaves_poolChannelAct (h : Hdr) (d op : Nat) (s : State) : (poolChannelAct h d op s).Leaves s.memory := by
  have hop := fun t => memory_channelOp (d := d) (op := op) (s := s) (t := t)
  unfold poolChannelAct
  (repeat' split) <;> simp <;> simpa using hop _ ‹_›

@[simp] theorem memory_poolChannelCmd (h : Hdr) (d op : Nat) (s : State) : (poolChannelCmd h d op s).memory = s.memory := by
  simp [poolChannelCmd]

@[simp] theorem memory_clearPool (slot : Nat) (s : State) : (clearPool slot s).memory = s.memory := by
  unfold clearPool
  split <;> simp

@[simp] theorem memory_poolStatus (h : Hdr) (slot member clear : Nat) (s : State) :
    (poolStatus h slot member clear s).memory = s.memory := by
  simp [poolStatus]

/-! ### Machine/SvcProt.lean -/

@[simp] theorem memory_protGroup (h : Hdr) (a0 : ProtGroupArgs) (s : State) : (protGroup h a0 s).memory = s.memory := by
  simp [protGroup, protGroupAct]

@[simp] theorem memory_protCommandCmd (h : Hdr) (n c : Nat) (s : State) : (protCommandCmd h n c s).memory = s.memory := by
  simp [protCommandCmd, protCommandAct]

@[simp] theorem memory_protStatus (h : Hdr) (n clear : Nat) (s : State) : (protStatus h n clear s).memory = s.memory := by
  simp [protStatus]

@[simp] theorem memory_pmConfig (h : Hdr) (a : PmConfigArgs) (s : State) : (pmConfig h a s).memory = s.memory := by
  simp [pmConfig, pmConfigAct]

@[simp] theorem memory_pmMonitor (h : Hdr) (a : PmMonitorArgs) (s : State) : (pmMonitor h a s).memory = s.memory := by
  simp [pmMonitor, pmMonitorAct]

@[simp] theorem memory_pmProfile (h : Hdr) (i : Nat) (thr : List Nat) (s : State) : (pmProfile h i thr s).memory = s.memory := by
  simp [pmProfile, pmProfileAct]

@[simp] theorem memory_pmRead (h : Hdr) (e : Entity) (n : Nat) (s : State) : (pmRead h e n s).memory = s.memory := by
  simp [pmRead, pmReadAct]

@[simp] theorem memory_pmBulk (h : Hdr) (a : PmBulkArgs) (s : State) : (pmBulk h a s).memory = s.memory := by simp [pmBulk, pmBulkAct]

/-! ### Machine/SvcScout.lean -/

@[simp] theorem leaves_settingScout {m : Memories} (s : State) {act : Act} (hact : act.Leaves m) : (settingScout s act).Leaves m := by
  simp [settingScout, hact]

@[simp] theorem memory_scoutInput (h : Hdr) (a : ScoutInputArgs) (s : State) : (scoutInput h a s).memory = s.memory := by
  simp [scoutInput, scoutInputAct]

@[simp] theorem memory_scoutSelect (h : Hdr) (a : ScoutSelectArgs) (s : State) : (scoutSelect h a s).memory = s.memory := by
  simp [scoutSelect, scoutSelectAct]

@[simp] theorem memory_scoutDpll (h : Hdr) (a : ScoutDpllArgs) (s : State) : (scoutDpll h a s).memory = s.memory := by
  simp [scoutDpll, scoutDpllAct]

@[simp] theorem memory_scoutOutput (h : Hdr) (a : ScoutOutputArgs) (s : State) : (scoutOutput h a s).memory = s.memory := by
  simp [scoutOutput, scoutOutputAct]

@[simp] theorem memory_scoutStart (h : Hdr) (s : State) : (scoutStart h s).memory = s.memory := by simp [scoutStart, scoutStartAct]

@[simp] theorem memory_scoutTod (h : Hdr) (a : ScoutTodArgs) (s : State) : (scoutTod h a s).memory = s.memory := by
  simp [scoutTod, scoutTodAct]

@[simp] theorem leaves_scoutSteerAct (a : ScoutSteerArgs) (s : State) : (scoutSteerAct a s).Leaves s.memory := by
  simp [scoutSteerAct, openLoop, writeSteer, closeLoop]

@[simp] theorem memory_scoutSteer (h : Hdr) (a : ScoutSteerArgs) (s : State) : (scoutSteer h a s).memory = s.memory := by
  simp [scoutSteer]

@[simp] theorem leaves_scoutModelAct (h : Hdr) (a : ScoutModelArgs) (s : State) : (scoutModelAct h a s).Leaves s.memory := by
  unfold scoutModelAct
  (repeat' split) <;> simp [clearModel]

@[simp] theorem memory_scoutModel (h : Hdr) (a : ScoutModelArgs) (s : State) : (scoutModel h a s).memory = s.memory := by
  simp [scoutModel]

@[simp] theorem memory_scoutStatus (h : Hdr) (s : State) : (scoutStatus h s).memory = s.memory := by simp [scoutStatus]

@[simp] theorem memory_scoutInputStatus (h : Hdr) (i clear : Nat) (s : State) : (scoutInputStatus h i clear s).memory = s.memory := by
  simp [scoutInputStatus]

/-! ### Machine/SvcHive.lean -/

@[simp] theorem memory_hiveConfig (h : Hdr) (a : HiveConfigArgs) (s : State) : (hiveConfig h a s).memory = s.memory := by
  simp [hiveConfig, hiveConfigAct]

@[simp] theorem memory_hiveJoin (h : Hdr) (op : Nat) (s : State) : (hiveJoin h op s).memory = s.memory := by
  simp [hiveJoin, hiveJoinAct, clearEgress]

@[simp] theorem leaves_hiveSwitchAct (h : Hdr) (op at_ : Nat) (s : State) : (hiveSwitchAct h op at_ s).Leaves s.memory := by
  unfold hiveSwitchAct
  (repeat' split) <;> simp

@[simp] theorem memory_hiveSwitch (h : Hdr) (op at_ : Nat) (s : State) : (hiveSwitch h op at_ s).memory = s.memory := by simp [hiveSwitch]
@[simp] theorem memory_hiveStatus (h : Hdr) (s : State) : (hiveStatus h s).memory = s.memory := by simp [hiveStatus]

@[simp] theorem memory_powerConfig (h : Hdr) (a : PowerConfigArgs) (s : State) : (powerConfig h a s).memory = s.memory := by
  simp [powerConfig, powerConfigAct]

@[simp] theorem leaves_powerTableAct (h : Hdr) (a : PowerTableArgs) (s : State) : (powerTableAct h a s).Leaves s.memory := by
  unfold powerTableAct
  (repeat' split) <;> simp

@[simp] theorem memory_powerTable (h : Hdr) (a : PowerTableArgs) (s : State) : (powerTable h a s).memory = s.memory := by
  simp [powerTable]

@[simp] theorem memory_powerStatus (h : Hdr) (r clear : Nat) (s : State) : (powerStatus h r clear s).memory = s.memory := by
  simp [powerStatus]

/-! ### Machine/SvcTest.lean -/

@[simp] theorem ensures_bistOk (P : Memories → Prop) (t : State) : (bistOk t).Ensures P ↔ P t.memory := .rfl
@[simp] theorem memory_retest (kind index : Nat) (s : State) : (retest kind index s).memory = s.memory := by simp [retest]

theorem memory_runSlice {kind index : Nat} {s t : State} (h : runSlice kind index s = some t) : t.memory = s.memory := by
  unfold runSlice at h
  split at h
  · split at h
    · obtain ⟨sp, -, rfl⟩ := Option.map_eq_some_iff.mp h
      simp
    · split at h <;> cases h
      simp
  · obtain ⟨u, hu, rfl⟩ := Option.map_eq_some_iff.mp h
    simpa using memory_startSlice hu

theorem memory_holdOnSpare {kind index : Nat} {s t : State} (h : holdOnSpare kind index s = some t) : t.memory = s.memory := by
  unfold holdOnSpare at h
  split at h
  · cases h
    simp
  · obtain ⟨sp, -, rfl⟩ := Option.map_eq_some_iff.mp h
    simp

@[simp] theorem memory_suspendBist (on : Bool) (s : State) : (suspendBist on s).memory = s.memory := by simp [suspendBist]

@[simp] theorem leaves_testBistAct (a : TestBistArgs) (s : State) : (testBistAct a s).Leaves s.memory := by
  have hrun := fun t => memory_runSlice (kind := a.kind) (index := a.index) (s := s) (t := t)
  have hhold := fun t => memory_holdOnSpare (kind := a.kind) (index := a.index) (s := s) (t := t)
  simp only [testBistAct]
  (repeat' split) <;> simp_all

@[simp] theorem memory_testBist (h : Hdr) (a : TestBistArgs) (s : State) : (testBist h a s).memory = s.memory := by simp [testBist]
@[simp] theorem memory_testTracer (h : Hdr) (k p : Nat) (s : State) : (testTracer h k p s).memory = s.memory := by simp [testTracer]

@[simp] theorem memory_tallyRead (h : Hdr) (first count snap : Nat) (s : State) :
    (tallyRead h first count snap s).memory = s.memory := by
  simp [tallyRead, tallyReadAct]

/-! ### Machine/SvcSec.lean -/

@[simp] theorem memory_secStatus (h : Hdr) (s : State) : (secStatus h s).memory = s.memory := by simp [secStatus]

@[simp] theorem memory_newNonce (p : Nat) (s : State) : (newNonce p s).memory = s.memory := by
  rw [newNonce, memory_draw, memory_onChal]

@[simp] theorem memory_secChallenge (h : Hdr) (s : State) : (secChallenge h s).memory = s.memory := by
  simp [secChallenge, secChallengeAct]

@[simp] theorem memory_failProof (p : Nat) (s : State) : (failProof p s).memory = s.memory := by simp [failProof]

@[simp] theorem leaves_secProveAct (p op key signature : Nat) (s : State) : (secProveAct p op key signature s).Leaves s.memory := by
  unfold secProveAct
  cases (s.chal p).nonce with
  | none => simp
  | some n => simp only [failProof, ensures_ite, ensures_refuse, ensures_okStatus, ensures_fails, memory_onChal, ite_self]

@[simp] theorem memory_secProve (h : Hdr) (op key signature : Nat) (s : State) : (secProve h op key signature s).memory = s.memory := by
  simp [secProve]

@[simp] theorem leaves_secWorldAct (h : Hdr) (a : SecWorldArgs) (s : State) : (secWorldAct h a s).Leaves s.memory := by
  have hworld := memory_changeWorld ⟨h, 15, 4, .world a⟩ a s
  simp only [secWorldAct]
  (repeat' split) <;> simp_all

@[simp] theorem memory_secWorld (h : Hdr) (a : SecWorldArgs) (s : State) : (secWorld h a s).memory = s.memory := by simp [secWorld]

@[simp] theorem memory_secLifecycle (h : Hdr) (op : Nat) (k : Token) (s : State) : (secLifecycle h op k s).memory = s.memory := by
  simp [secLifecycle, secLifecycleAct, programToken]

@[simp] theorem memory_updStep (f : Sec → Sec) (s : State) : (updStep f s).memory = s.memory := by simp [updStep]

@[simp] theorem leaves_secUpdateAct (h : Hdr) (op offset : Nat) (s : State) : (secUpdateAct h op offset s).Leaves s.memory := by
  unfold secUpdateAct
  (repeat' split) <;> simp [beginUpdate, commitUpdate]

@[simp] theorem memory_secUpdate (h : Hdr) (op offset : Nat) (s : State) : (secUpdate h op offset s).memory = s.memory := by
  simp [secUpdate]

/-! ### Machine/SvcSys.lean -/

@[simp] theorem memory_sysHello (h : Hdr) (a : HelloArgs) (s : State) : (sysHello h a s).memory = s.memory := by simp [sysHello]

@[simp] theorem memory_openSession (p : Nat) (ks : List Nat) (s : State) : (openSession p ks s).memory = s.memory := by
  simp only [openSession, memory_raiseIf, memory_ite, memory_withNextSession]
  simp

@[simp] theorem memory_closeSession (p : Nat) (s : State) : (closeSession p s).memory = s.memory := by simp [closeSession]

@[simp] theorem leaves_sessionAct (p : Nat) (a : SessionArgs) (s : State) : (sessionAct p a s).Leaves s.memory := by
  unfold sessionAct
  (repeat' split) <;> simp [releaseDomains]

@[simp] theorem memory_sysSession (h : Hdr) (a : SessionArgs) (s : State) : (sysSession h a s).memory = s.memory := by simp [sysSession]
@[simp] theorem ensures_modeOk (P : Memories → Prop) (t : State) : (modeOk t).Ensures P ↔ P t.memory := .rfl

@[simp] theorem leaves_modeAct (h : Hdr) (m : Nat) (s : State) : (modeAct h m s).Leaves s.memory := by
  unfold modeAct
  (repeat' split) <;> simp [toIsolate, carryAct]

@[simp] theorem memory_sysMode (h : Hdr) (m : Nat) (s : State) : (sysMode h m s).memory = s.memory := by simp [sysMode]
@[simp] theorem memory_sysBatchOpen (h : Hdr) (s : State) : (sysBatchOpen h s).memory = s.memory := by simp [sysBatchOpen, batchOpenAct]

@[simp] theorem leaves_batchCloseAct (h : Hdr) (a : BatchCloseArgs) (s : State) : (batchCloseAct h a s).Leaves s.memory := by
  unfold batchCloseAct
  (repeat' split) <;> simp

@[simp] theorem memory_sysBatchClose (h : Hdr) (a : BatchCloseArgs) (s : State) : (sysBatchClose h a s).memory = s.memory := by
  simp [sysBatchClose]

@[simp] theorem memory_sysBeatStatus (h : Hdr) (s : State) : (sysBeatStatus h s).memory = s.memory := by simp [sysBeatStatus]

@[simp] theorem memory_sysBusStatus (h : Hdr) (clear : Nat) (s : State) : (sysBusStatus h clear s).memory = s.memory := by
  simp [sysBusStatus, busStatusAct, clearBus]

/-! ### Machine/Operands.lean -/

@[simp] theorem memory_refuseMessage (h : Hdr) (svc cmd status size : Nat) (s : State) :
    (refuseMessage h svc cmd status size s).memory = s.memory := by
  simp [refuseMessage]

/-! ### Machine/Waggle.lean -/

@[simp] theorem memory_dropPush (p q : Nat) (f : CmdQueue → CmdQueue) (s : State) : (dropPush p q f s).memory = s.memory := by
  simp [dropPush]

@[simp] theorem memory_wgStart (p q : Nat) (half : Half) (d : Word) (s : State) : (wgStart p q half d s).memory = s.memory := by
  unfold wgStart
  (repeat' split) <;> simp [startWord]

@[simp] theorem memory_wgPush (p q : Nat) (half : Half) (d : Word) (s : State) : (wgPush p q half d s).memory = s.memory := by
  unfold wgPush
  (repeat' split) <;> simp [pushWord]

@[simp] theorem memory_onHostQueue (p r : Nat) (f : RspQueue → RspQueue) (s : State) : (onHostQueue p r f s).memory = s.memory := by
  simp [onHostQueue]

@[simp] theorem memory_popWord (p r : Nat) (s : State) : (popWord p r s).2.memory = s.memory := by
  simp only [popWord]
  (repeat' split) <;> simp

@[simp] theorem memory_popHost (p r : Nat) (half : Half) (s : State) : (popHost p r half s).memory = s.memory := by
  unfold popHost
  (repeat' split) <;> simp

@[simp] theorem memory_dropHead (p q : Nat) (s : State) : (dropHead p q s).memory = s.memory := by simp [dropHead]

@[simp] theorem memory_discardBroken (h : Hdr) (m : List QWord) (s : State) : (discardBroken h m s).memory = s.memory := by
  simp [discardBroken]

@[simp] theorem memory_stallEnds (p q : Nat) (s : State) : (stallEnds p q s).memory = s.memory := by simp [stallEnds]
@[simp] theorem memory_requestFlush (p k : Nat) (s : State) : (requestFlush p k s).memory = s.memory := by simp [requestFlush]
@[simp] theorem memory_hostFlush (p k lo n : Nat) (s : State) : (hostFlush p k lo n s).memory = s.memory := by simp [hostFlush]
@[simp] theorem memory_flushEnds (p k : Nat) (s : State) : (flushEnds p k s).memory = s.memory := by simp [flushEnds]

/-! ### Machine/Host.lean -/

@[simp] theorem memory_returns (p : Nat) (v : Nat) (s : State) : (returns p v s).memory = s.memory := by simp [returns]

@[simp] theorem memory_latchRead (p : Nat) (half : Half) (v latched : Nat) {latch : Nat → State → State} {s : State}
    (hf : ∀ n, (latch n s).memory = s.memory) : (latchRead p half v latched latch s).memory = s.memory := by
  cases half <;> simp [latchRead, hf]

@[simp] theorem memory_regRead (p : Nat) (r : Reg) (half : Half) (s : State) : (regRead p r half s).memory = s.memory := by
  unfold regRead
  split <;> simp

@[simp] theorem memory_setRingEnable (p n : Nat) (on : Bool) (s : State) : (setRingEnable p n on s).memory = s.memory := by
  simp [setRingEnable]

@[simp] theorem memory_setRingTail (p n v : Nat) (s : State) : (setRingTail p n v s).memory = s.memory := by simp [setRingTail]
@[simp] theorem memory_setCmdCtrl (p q v : Nat) (s : State) : (setCmdCtrl p q v s).memory = s.memory := by simp [setCmdCtrl]
@[simp] theorem memory_clearCmdErr (p q m : Nat) (s : State) : (clearCmdErr p q m s).memory = s.memory := by simp [clearCmdErr]
@[simp] theorem memory_clearEvErr (p m : Nat) (s : State) : (clearEvErr p m s).memory = s.memory := by simp [clearEvErr]

@[simp] theorem memory_regWrite (p : Nat) (r : Reg) (half : Half) (d : Nat) (s : State) : (regWrite p r half d s).memory = s.memory := by
  unfold regWrite
  split <;> simp [setRingBase, setRingLog2, setTlCfg]

@[simp] theorem memory_hostWrite (p off : Nat) (half : Half) (d : Nat) (s : State) : (hostWrite p off half d s).memory = s.memory := by
  unfold hostWrite
  (repeat' split) <;> simp

@[simp] theorem memory_bar0Access (p off size : Nat) (write : Bool) (s : State) : (bar0Access p off size write s).memory = s.memory := by
  unfold bar0Access
  (repeat' split) <;> simp

@[simp] theorem memory_queueRec (n : Nat) (x : List Byte) (s : State) : (queueRec n x s).memory = s.memory := by simp [queueRec]

@[simp] theorem memory_takeRecs (p n : Nat) (l : List (List Byte)) (s : State) : (takeRecs p n l s).2.memory = s.memory := by
  induction l generalizing s with
  | nil => rfl
  | cons x l ih =>
    simp only [takeRecs]
    (repeat' split) <;> simp [ih]

@[simp] theorem memory_descriptorCloses (p n : Nat) (d : DescView) (s : State) : (descriptorCloses p n d s).memory = s.memory := by
  simp [descriptorCloses, haltRing, closeCapture, closeInsert]

end Sys2Proof.Machine
end

section
/-!
PROOFS. Every step keeps the canonical form of the two memories. O60.
-/

namespace Sys2Proof.Machine

open Sys2Proof

/-- From memories `m` on, whichever of the two was in canonical form still is. -/
structure KeepsForm (m n : Memories) : Prop where
  bar2 : Memory.wf m.bar2 = true → Memory.wf n.bar2 = true
  sram : Memory.wf m.sram = true → Memory.wf n.sram = true

@[simp] theorem keepsForm_refl (m : Memories) : KeepsForm m m := ⟨id, id⟩

/-- Empty memories are in canonical form. -/
@[simp] theorem keepsForm_empty (m : Memories) : KeepsForm m ⟨[], []⟩ := ⟨fun _ => rfl, fun _ => rfl⟩

@[simp] theorem keepsForm_ite {m a b : Memories} {c : Prop} [Decidable c] (ha : KeepsForm m a) (hb : KeepsForm m b) :
    KeepsForm m (if c then a else b) := by
  split
  · exact ha
  · exact hb

section
variable {m : Memories} {s : State} (hs : KeepsForm m s.memory)
include hs

/-! ### The operations that write them -/

@[simp] theorem keepsForm_writeBar2 (off : Nat) (l : List Byte) : KeepsForm m (s.writeBar2 off l).memory :=
  ⟨fun h => writeBar2_wf s off l (hs.bar2 h), hs.sram⟩

@[simp] theorem keepsForm_sramStore (off : Nat) (l : List Byte) : KeepsForm m (s.sramStore off l).memory :=
  ⟨hs.bar2, fun h => sramStore_wf s off l (hs.sram h)⟩

@[simp] theorem keepsForm_zeroRegion (r : Nat) : KeepsForm m (zeroRegion r s).memory :=
  ⟨fun h => zeroRegion_wf r s (hs.bar2 h), hs.sram⟩

@[simp] theorem keepsForm_zeroSram (r : Nat) : KeepsForm m (zeroSram r s).memory :=
  ⟨hs.bar2, fun h => zeroSram_wf r s (hs.sram h)⟩

@[simp] theorem keepsForm_loadBody (x : Slot) : KeepsForm m (loadBody x s).memory :=
  ⟨hs.bar2, fun h => loadBody_wf x s (hs.sram h)⟩

/-- A device reset empties the SRAM and keeps what stands behind BAR2 (18 R542). -/
@[simp] theorem keepsForm_deviceReset : KeepsForm m (deviceReset s).memory := by
  rw [deviceReset, memory_beginWake]
  generalize resolveWhere false (fun x => x.cls == 5) s = t
  exact ⟨hs.bar2, fun _ => rfl⟩

/-! ### The operations that reach one of those -/

@[simp] theorem keepsForm_tapRecord : KeepsForm m (tapRecord s).memory := by
  simp only [tapRecord]
  split
  · exact hs
  rw [memory_raiseIf, memory_onComb]
  exact List.foldlRecOn (motive := fun acc : State × Nat => KeepsForm m acc.1.memory) _ _ hs
    fun acc hacc g _ => keepsForm_writeBar2 hacc _ _

@[simp] theorem keepsForm_bar2Access (p off : Nat) (write : Option (List Byte)) (len : Nat) (uncorrectable : Bool) :
    KeepsForm m (bar2Access p off write len uncorrectable s).memory := by
  simp only [bar2Access, bar2Write]
  (repeat' split) <;> simp [hs]

@[simp] theorem keepsForm_sramAccess (master off : Nat) (write : List Byte) : KeepsForm m (sramAccess master off write s).memory := by
  simp only [sramAccess]
  (repeat' split) <;> simp [hs]

@[simp] theorem keepsForm_sramEcc (master addr : Nat) (double : Bool) (write : List Byte) :
    KeepsForm m (sramEcc master addr double write s).memory := by
  simp only [sramEcc]
  (repeat' split) <;> simp [hs]

@[simp] theorem keepsForm_resetAsserts : KeepsForm m (resetAsserts s).memory := by
  simp only [resetAsserts]
  split <;> simp [hs]

omit hs in
@[simp] theorem memory_vddaoOff (s : State) : (vddaoOff s).memory = ⟨[], []⟩ := rfl

omit hs in
@[simp] theorem memory_wiped (s : State) : (wiped s).memory = ⟨[], []⟩ := rfl

@[simp] theorem keepsForm_powerDowns (cause : Nat) : KeepsForm m (powerDowns cause s).memory := by
  simp only [powerDowns]
  (repeat' split) <;> simp [hs]

@[simp] theorem keepsForm_vddaoOn (pfwHigh : Bool) : KeepsForm m (vddaoOn pfwHigh s).memory := by
  simp only [vddaoOn]
  split
  · exact hs
  · split
    · rw [memory_startUp]
      exact keepsForm_empty m
    · exact keepsForm_empty m

@[simp] theorem keepsForm_railExcursion (r : Nat) (isOv long held : Bool) : KeepsForm m (railExcursion r isOv long held s).memory := by
  simp only [railExcursion, railActs]
  (repeat' split) <;> simp [hs]

@[simp] theorem keepsForm_stingBegins (a : TestStingArgs) : KeepsForm m (stingBegins a s).memory := by
  simp only [stingBegins]
  split <;> simp [hs]

@[simp] theorem keepsForm_stingActs (a : TestStingArgs) : KeepsForm m (stingActs a s).memory := by
  simp only [stingActs]
  (repeat' split) <;> simp [hs]

@[simp] theorem keepsForm_stingOccurs (index : Nat) : KeepsForm m (stingOccurs index s).memory := by
  simp only [stingOccurs]
  (repeat' split) <;> simp [hs]

@[simp] theorem keepsForm_applySting (a : TestStingArgs) : KeepsForm m (applySting a s).memory := by
  simp only [applySting]
  split <;> simp [hs]

@[simp] theorem keepsForm_startSlot (k : Nat) : KeepsForm m (startSlot k s).memory := by
  simp only [startSlot]
  (repeat' split) <;> simp [hs]

@[simp] theorem keepsForm_romStarts (guardOk : Bool) : KeepsForm m (romStarts guardOk s).memory := by
  simp only [romStarts]
  (repeat' split) <;> simp [hs]

@[simp] theorem keepsForm_regionCleared (r : Nat) : KeepsForm m (regionCleared r s).memory := by
  simp only [regionCleared]
  split <;> simp [hs]

@[simp] theorem keepsForm_worldCleared : KeepsForm m (worldCleared s).memory := by
  simp only [worldCleared]
  (repeat' split) <;> simp [hs]

/-! ### The commands that reach them -/

@[simp] theorem keepsForm_testSting (h : Hdr) (a : TestStingArgs) : KeepsForm m (testSting h a s).memory := by
  refine serve_ensures hs ?_ ..
  simp only [testStingAct]
  (repeat' split) <;> simp [hs]

@[simp] theorem keepsForm_runCommand (i : Instr) : KeepsForm m (runCommand i s).memory := by
  cases i <;> dsimp only [runCommand] <;> simp [hs]

@[simp] theorem keepsForm_runMessage (h : Hdr) (svc cmd b bytes : Nat) : KeepsForm m (runMessage h svc cmd b bytes s).memory := by
  unfold runMessage
  (repeat' split) <;> simp [hs]

@[simp] theorem keepsForm_commandServes (us : Nat) : KeepsForm m (commandServes us s).memory := by
  simp only [commandServes, takeMessage]
  (repeat' split) <;> simp [hs]
end

/-! ### The step -/

theorem keepsForm_of_done {s t u : State} (ht : KeepsForm s.memory t.memory) (h : done s t = .next u) : KeepsForm s.memory u.memory := by
  cases h
  simpa using ht

/-- Two commands may be refused, and a counter's overflow counts nothing further; all others end in `done`. -/
theorem keepsForm_exec {i : Instr} {s t : State} (h : exec i s = .next t) : KeepsForm s.memory t.memory := by
  cases i
  case registerWrite p off half v =>
    replace h : execRegisterWrite p off half v s = .next t := h
    unfold execRegisterWrite at h
    split at h
    · cases h
    · exact keepsForm_of_done (by simp) h
  case bar0BadAccess p off size write =>
    replace h : execBar0BadAccess p off size write s = .next t := h
    unfold execBar0BadAccess at h
    split at h
    · cases h
    · exact keepsForm_of_done (by simp) h
  case tallyOverflow n =>
    cases h
    simp
  all_goals exact keepsForm_of_done (by simp) h

theorem keepsForm_step {s t : State} (h : step s = .next t) : KeepsForm s.memory t.memory := by
  unfold step at h
  split at h
  · cases h
    exact keepsForm_refl _
  next i rest _ => exact keepsForm_exec (s := { s with pending := rest }) h

/-- Settles O60: by cases of the command, each of whose operations leaves the two memories or writes them in canonical form. -/
theorem bufferMemoryStaysCanonical : Obligations.BufferMemoryStaysCanonical :=
  ⟨fun _ _ hs h => (keepsForm_step h).bar2 hs, fun _ _ hs h => (keepsForm_step h).sram hs⟩

end Sys2Proof.Machine
end
